-- ==== Sys2Proof/Word.lean ====
section
/-! DEFINITION. The word types of the WN-IAT-100 model and the sparse maps that hold its state.
R8: bit 0 is the least significant bit of any field. -/
namespace Sys2Proof

/-- One byte. -/
abbrev Byte := BitVec 8
/-- A 64-bit register, instruction word or G register. -/
abbrev W64 := BitVec 64
/-- One FP32 lane (R108). -/
abbrev W32 := BitVec 32
/-- A 16-bit field. -/
abbrev W16 := BitVec 16
/-- One flit payload, 32 B (R171). -/
abbrev Payload := BitVec 256

/-- A sparse map: (key, value) pairs, keys strictly rising, no value equal to the map's default.
An unlisted key holds the default, which each use names. -/
abbrev SMap (α : Type) := List (Nat × α)

/-- A logical tile T(x, y), index y·640 + x (R6). -/
abbrev TileIx := Fin 230400
/-- A cluster K(kx, ky), index ky·80 + kx (R6). -/
abbrev ClusterIx := Fin 4800
/-- A canton C(cx, cy), index cy·10 + cx (R6). -/
abbrev CantonIx := Fin 100
/-- A bay (R17). -/
abbrev BayIx := Fin 40
/-- A port (R17). -/
abbrev PortIx := Fin 20
/-- A slice (R227). -/
abbrev SliceIx := Fin 16
/-- A host ring (R351). -/
abbrev RingIx := Fin 4096

end Sys2Proof
end

