-- ==== Sys2Proof/Syntax.lean ====
section
/-! DEFINITION. The commands of the block: one constructor for each row of spec/opcode_table.json, with the
row's operands. An operand is what the command's sender or the event's cause supplies: the unit concerned, the
values written, and what a sensor, a checker or an outside party showed. -/
namespace Sys2Proof

/-! ### Tile instructions (R124 to R169): the fields of one 64-bit instruction word -/

/-- The fields that every instruction word but VOID carries (R124, R125). -/
structure Head where
  qmask : BitVec 5
  omask : BitVec 4
  psel : BitVec 3
  ps : BitVec 3
  pc : BitVec 3
  deriving DecidableEq, Repr

/-- GMAC (R138). -/
structure GmacF where
  afmt : BitVec 5
  bfmt : BitVec 5
  slot : BitVec 3
  lmask : BitVec 4
  act : BitVec 2
  asrc : BitVec 3
  abc : Bool
  apair : Bool
  bsrc : Bool
  ainc : Bool
  binc : Bool
  areg : BitVec 4
  breg : BitVec 4
  rep : BitVec 3
  deriving DecidableEq, Repr

/-- CLOSE (R144). -/
structure CloseF where
  slot : BitVec 3
  lmask : BitVec 4
  dfmt : BitVec 5
  rnd : BitVec 2
  ovf : BitVec 2
  all : Bool
  dt : Bool
  vd : BitVec 3
  out : BitVec 2
  eot : Bool
  tag : BitVec 3
  deriving DecidableEq, Repr

/-- TREE (R147). -/
structure TreeF where
  dst : BitVec 3
  sa : BitVec 3
  sb : BitVec 3
  form : Bool
  ord : Bool
  lmask : BitVec 4
  deriving DecidableEq, Repr

/-- VOP (R149). -/
structure VopF where
  op : BitVec 5
  vd : BitVec 3
  va : BitVec 3
  vb : BitVec 3
  vc : BitVec 3
  bb : Bool
  bc : Bool
  blb : BitVec 5
  blc : BitVec 5
  vn : BitVec 3
  deriving DecidableEq, Repr

/-- VSFN (R151). -/
structure VsfnF where
  fn : BitVec 3
  vd : BitVec 3
  va : BitVec 3
  vn : BitVec 3
  deriving DecidableEq, Repr

/-- VRED (R152). -/
structure VredF where
  rop : BitVec 2
  vd : BitVec 3
  va : BitVec 3
  vn : BitVec 3
  deriving DecidableEq, Repr

/-- VCVT FROM (R153). -/
structure VcvtFromF where
  fmt : BitVec 5
  vd : BitVec 3
  va : BitVec 3
  deriving DecidableEq, Repr

/-- VCVT TO (R153). -/
structure VcvtToF where
  fmt : BitVec 5
  rnd : BitVec 2
  ovf : BitVec 2
  vd : BitVec 3
  va : BitVec 3
  deriving DecidableEq, Repr

/-- LD (R156). -/
structure LdF where
  dt : BitVec 3
  ga : BitVec 6
  dd : BitVec 6
  inc : Bool
  off : BitVec 14
  deriving DecidableEq, Repr

/-- ST (R157). -/
structure StF where
  ss : BitVec 3
  ga : BitVec 6
  sr : BitVec 6
  inc : Bool
  off : BitVec 14
  deriving DecidableEq, Repr

/-- LDX (R158). -/
structure LdxF where
  q : BitVec 3
  db : Bool
  gb : BitVec 6
  inc : Bool
  deriving DecidableEq, Repr

/-- SEND (R159). -/
structure SendF where
  out : BitVec 2
  kind : BitVec 2
  eot : Bool
  tag : BitVec 3
  ssrc : BitVec 3
  srcreg : BitVec 6
  qs : BitVec 5
  nf : BitVec 5
  inc : Bool
  deriving DecidableEq, Repr

/-- SYNC ARRIVE (R161). -/
structure ArriveF where
  flag : BitVec 6
  hop : BitVec 3
  immv : Bool
  g : BitVec 6
  imm : BitVec 16
  deriving DecidableEq, Repr

/-- BULK READ and BULK WRITE (R162). -/
structure BulkF where
  btag : BitVec 2
  gl : BitVec 6
  gr : BitVec 6
  len : BitVec 6
  inc : Bool
  deriving DecidableEq, Repr

/-- CTL.P (R165). -/
structure CtlPF where
  pop : BitVec 3
  cc : BitVec 3
  pd : BitVec 3
  pe : BitVec 3
  a : BitVec 6
  b : BitVec 6
  imm : BitVec 16
  deriving DecidableEq, Repr

/-- One tile instruction without its head, one constructor per form of R126 that the operation table lists. -/
inductive TOp
  | gmac (f : GmacF)
  | close (f : CloseF)
  | tree (f : TreeF)
  | vop (f : VopF)
  | vsfn (f : VsfnF)
  | vred (f : VredF)
  | vcvtFrom (f : VcvtFromF)
  | vcvtTo (f : VcvtToF)
  | movGG (gd gs : BitVec 6)
  | movVV (vd vs : BitVec 3)
  | movVIq (q : BitVec 3) (qn nf : BitVec 5)
  | movGIq (gd : BitVec 6) (q : BitVec 3)
  | movLaneG (dst : BitVec 6) (gs : BitVec 6) (lane : BitVec 5) (bcast : Bool)
  | movGLane (gd src : BitVec 6) (lane : BitVec 5)
  | movTableG (gs : BitVec 6) (entry : BitVec 7)
  | movGTable (gd : BitVec 6) (entry : BitVec 7)
  | movi (gd : BitVec 6) (high : Bool) (imm : BitVec 32)
  | ld (f : LdF)
  | ldx (f : LdxF)
  | st (f : StF)
  | send (f : SendF)
  | syncArrive (f : ArriveF)
  | syncWait (flag g : BitVec 6)
  | bulkRead (f : BulkF)
  | bulkWrite (f : BulkF)
  | bulkWait (btag : BitVec 2) (gr : BitVec 6) (inc : Bool)
  | lcSetI (lcn : BitVec 2) (wz : Bool) (pd pe : BitVec 3) (imm : BitVec 16)
  | lcSetG (lcn : BitVec 2) (wz : Bool) (pd pe : BitVec 3) (gs : BitVec 6)
  | lcDec (lcn : BitVec 2) (wz : Bool) (pd pe : BitVec 3)
  | ctlP (f : CtlPF)
  | alu (aop : BitVec 4) (gd ga gb : BitVec 6)
  | alui (aop : BitVec 4) (gd ga : BitVec 6) (imm : BitVec 24)
  | nop (drop : BitVec 5)
  deriving DecidableEq, Repr

/-- One instruction: its head and its operation. -/
structure TInstr where
  hd : Head
  op : TOp
  deriving DecidableEq, Repr

/-- Where an instruction stands: its tile, its instruction-store index and its common fields. -/
structure At where
  tile : TileIx
  n : BitVec 9
  hd : Head
  deriving DecidableEq, Repr

/-- Which checker of R421 disagreed. -/
inductive CheckKind
  | decode     -- the decode copies (R61)
  | residue    -- the residue check or the exponent copies (R71)
  | slot       -- the slot-lane update (R79)
  | convert    -- the TREE or CLOSE converters
  deriving DecidableEq, Repr

/-- What a checker saw while an instruction ran: the hardware fault is an input of the model.
again = false: the retry passed; true: it failed too. -/
structure CheckEv where
  iter : Nat
  unit : Fin 4
  kind : CheckKind
  again : Bool
  resExp : BitVec 8
  resAct : BitVec 8
  deriving DecidableEq, Repr

/-! ### Stream links (R171, R174) -/

/-- What disturbs one half of a flit on its way over a link: the bits of its data, sideband and CRC byte that flip. -/
structure HalfNoise where
  data : BitVec 128 := 0
  side : BitVec 6 := 0
  crc : BitVec 8 := 0
  deriving DecidableEq, Repr

/-- What disturbs the flit on link input d of tile t in one cycle. -/
structure LinkNoise where
  t : TileIx
  d : Fin 4
  lo : HalfNoise
  hi : HalfNoise
  deriving DecidableEq, Repr

/-! ### Sources of records (R431) -/

/-- A source whose records wait for the ensign complex to fetch them (R431, R434). -/
inductive RecFrom
  | canton (c : CantonIx)
  | port (p : PortIx)
  deriving DecidableEq, Repr

/-! ### Stores (R260 to R291) -/

/-- A store that a scrub or a re-encoding works on: a cluster, or one region of a bay. -/
inductive StoreRef
  | cluster (k : ClusterIx)
  | region (b : BayIx) (n : Fin 128)
  deriving DecidableEq, Repr

/-! ### Ports (R317 to R342) -/

/-- How a received frame came (R317): the RS codewords corrected and uncorrectable while it came, whether its FCS is right,
and whether it carries an 802.1Q tag. -/
structure RxLine where
  corr : W16 := 0
  uncorr : W16 := 0
  fcs : Bool := true
  tagged : Bool := false
  deriving DecidableEq, Repr

/-- One WXT message as a port receives it (R325): the sender's address, what its header says, and the bytes after
the common header. framed: MAGIC is right and LEN matches the datagram. Then its datagram (R324): the address and the UDP
port that it is sent to, whether its checksum is right, whether the checksum is zero; and its frame. -/
structure WxtMsg where
  peer : BitVec 128
  framed : Bool
  ver : Byte
  typ : Byte
  rel : Bool
  syn : Bool
  fin : Bool
  replica : BitVec 12
  shard : W16
  flow : W32
  seq : W32
  step : BitVec 48
  body : List Byte
  dst : BitVec 128 := 0
  udp : W16 := 0x44F2
  sumOk : Bool := true
  sumZero : Bool := false
  line : RxLine := {}
  deriving DecidableEq, Repr


/-! ### The host interface (R343) -/

/-- What a read of the host reaches (R344): configuration space, the registers, the doorbell pages, the readback window. -/
inductive HostSpace
  | config
  | bar0
  | bar2
  | bar4
  deriving DecidableEq, Repr

/-- Advanced Error Reporting with ECRC (R343), as PCI Express codes it: the enables of ECRC generation and checking, and the
uncorrectable and the correctable error status. -/
structure Aer where
  gen : Bool := false
  chk : Bool := false
  uncorr : BitVec 32 := 0
  corr : BitVec 32 := 0
  deriving DecidableEq, Repr

/-- The PCI Express function's configuration space and link: D3hot, Memory Space Enable, Bus Master Enable, MSI-X Enable
and Function Mask, AER; the link's SPEED, WIDTH and FLIT as HIF_STAT codes them. -/
structure PcieState where
  d3 : Bool
  mse : Bool
  bme : Bool
  msixEn : Bool
  msixMask : Bool
  speed : BitVec 4
  width : BitVec 5
  flit : Bool
  aer : Aer := {}
  deriving DecidableEq, Repr



/-! ### Clocks and bring-up (R371 to R420) -/

/-- How a native switch goes (R381): both sources run on, the target fails, or the active source fails. -/
inductive SwitchEnd
  | done
  | targetFailed
  | activeFailed
  deriving DecidableEq, Repr

/-- What the hardware of a canton shows while it is brought up (R404, R408, R409). -/
structure WaveIn where
  /-- The step of R404, 1 to 8, that fails for a reason that no other field gives; 0 = none. -/
  fail : BitVec 4
  /-- The directions towards which an attempt to lock succeeds within its 300 µs. -/
  lock : BitVec 4
  /-- Rows and sites that the self-test finds failed, as entry words of R405. -/
  bist : List (BitVec 32)
  /-- Sites (local cluster, physical site) that fail the known-answer test twice. -/
  kat : List (Fin 48 × Fin 50)
  /-- Bad lanes that step e and the lane tests of the join find: the receiving canton and the entry word of R405. -/
  lanes : List (CantonIx × BitVec 32)
  deriving DecidableEq, Repr

/-- What the engine-wide check finds (R414): the bulk-mesh links that its sweep finds failing, as a cluster and a direction;
and a node at which the round on the engine-wide flag ends in an overrun, or with true in an operation mismatch. -/
structure CheckIn where
  sweep : List (ClusterIx × Fin 4)
  fault : Option (CantonIx × Bool)
  deriving DecidableEq, Repr

/-- What the hoist island finds as it leaves its power-on reset (R397, R415, R458). -/
structure PowerOn where
  /-- The straps ADDR_SEL. -/
  addrSel : BitVec 6
  /-- Which firmware copies in flash are valid: hoist A and B, ensign A and B. -/
  hoistA : Bool
  hoistB : Bool
  ensignA : Bool
  ensignB : Bool
  /-- The loaded hoist firmware's version. -/
  fwVer : W16
  deriving DecidableEq, Repr

/-! ### The management plane (R455 to R473) -/

/-- The paths by which requests of R460 and R464 reach the hoist island: the SMBus mailbox with its TAG, the UART, the
test access port. -/
inductive Via
  | smbus (tag : Byte)
  | uart
  | tap
  deriving DecidableEq, Repr

/-- Who writes PWR_CAP (R470, R472). -/
inductive CapWriter
  | host
  | bmc
  | uart
  deriving DecidableEq, Repr

/-- One sample of the sensor hub (R468): a canton's, or the module's. -/
inductive SensorIn
  | canton (c : CantonIx) (temp bayTemp vcore icore : W16)
  | module_ (vin iin inlet outlet : W16)
  deriving DecidableEq, Repr

/-- The commands (spec/opcode_table.json, in its order). -/
inductive Instr
  /-- TILE_ISSUE_CYCLE (R128): In each cycle with RUN = 1 and STOPPED = 0, the scheduler issues the lowest-numbered ready instruction, or nothing when none is ready. -/
  | tileIssueCycle (t : TileIx) (dup : Bool) (par : List (Fin 5 × Fin 16)) (chk : List CheckEv)
  /-- TILE_STEP (R128): A write of TILE_CTRL.STEP with RUN = 0 and STOPPED = 0 performs one issue attempt, after which the bit clears. -/
  | tileStep (t : TileIx) (dup : Bool) (par : List (Fin 5 × Fin 16)) (chk : List CheckEv)
  /-- GMAC (R139): A group multiply-accumulate runs REP + 1 iterations of one group per selected unit, applying OPEN, ACCUMULATE or OVERWRITE to the named slot lanes. -/
  | gmac (p : At) (f : GmacF) (chk : List CheckEv)
  /-- CLOSE (R82): CLOSE converts the value of each selected lane into the destination format with one rounding, writes it to a V register or an output, and closes the lane. -/
  | close (p : At) (f : CloseF) (chk : List CheckEv)
  /-- TREE (R89): TREE combines two slot lanes, or a lane and a popped partial, into the destination lanes with one exact sum and a split rounding. -/
  | tree (p : At) (f : TreeF) (chk : List CheckEv)
  /-- VOP (R149): VOP applies the selected vector arithmetic or bitwise operation lane by lane over VN + 1 registers. -/
  | vop (p : At) (f : VopF)
  /-- VSFN (R151): VSFN applies a special function to every lane of VN + 1 registers by the fixed algorithms of R105. -/
  | vsfn (p : At) (f : VsfnF)
  /-- VRED (R152): VRED reduces the lanes of VN + 1 registers in canonical order to one value written to every lane of VD. -/
  | vred (p : At) (f : VredF)
  /-- VCVT_FROM (R153): VCVT FROM decodes a block record at byte 0 of VA into 32 FP32 lanes of VD. -/
  | vcvtFrom (p : At) (f : VcvtFromF)
  /-- VCVT_TO (R153): VCVT TO converts 32 FP32 lanes of VA into a record of format FMT in VD, following the CLOSE conversion rules. -/
  | vcvtTo (p : At) (f : VcvtToF)
  /-- MOV_G_G (R154): MOV form 0x0 copies one G register to another. -/
  | movGG (p : At) (gd gs : BitVec 6)
  /-- MOV_V_V (R154): MOV form 0x1 copies one V register to another. -/
  | movVV (p : At) (vd vs : BitVec 3)
  /-- MOV_V_IQ (R154): MOV form 0x2 pops NF flits from a queue into consecutive V quarters. -/
  | movVIq (p : At) (q : BitVec 3) (qn nf : BitVec 5)
  /-- MOV_G_IQ (R154): MOV form 0x3 pops one flit and writes its first 8 bytes to a G register. -/
  | movGIq (p : At) (gd : BitVec 6) (q : BitVec 3)
  /-- MOV_LANE_G (R154): MOV form 0x4 writes G bits [31:0] to one lane, or to every lane, of a V register. -/
  | movLaneG (p : At) (dst : BitVec 6) (gs : BitVec 6) (lane : BitVec 5) (bcast : Bool)
  /-- MOV_G_LANE (R154): MOV form 0x5 writes one V lane, zero-extended, to a G register. -/
  | movGLane (p : At) (gd src : BitVec 6) (lane : BitVec 5)
  /-- MOV_TABLE_G (R154): MOV form 0x6 writes a decode-table entry from G with computed parity, effective for GMACs issued after it. -/
  | movTableG (p : At) (gs : BitVec 6) (entry : BitVec 7)
  /-- MOV_G_TABLE (R154): MOV form 0x7 reads a decode-table entry into a G register. -/
  | movGTable (p : At) (gd : BitVec 6) (entry : BitVec 7)
  /-- MOVI (R155): MOVI writes a 32-bit immediate, sign-extended or into the high half, to a G register. -/
  | movi (p : At) (gd : BitVec 6) (high : Bool) (imm : BitVec 32)
  /-- LD (R156): LD reads one tile-memory row or word into V quarters, an operand-buffer row or a G register. -/
  | ld (p : At) (f : LdF)
  /-- LDX (R158): LDX pops an index flit and gathers the named tile-memory rows into consecutive operand-buffer rows. -/
  | ldx (p : At) (f : LdxF)
  /-- ST (R157): ST writes V quarters, a buffer row, a G register or two popped flits to tile memory. -/
  | st (p : At) (f : StF)
  /-- SEND (R160): SEND emits flits from V quarters, a G register, a slot partial, tile memory or a forwarded queue onto an output. -/
  | send (p : At) (f : SendF)
  /-- SYNC_ARRIVE (R161): SYNC ARRIVE contributes a value under an operation to a halyard flag and sets the flag ARRIVED. -/
  | syncArrive (p : At) (f : ArriveF)
  /-- SYNC_WAIT (R161): SYNC WAIT writes a DONE flag's result to a G register and returns the flag to IDLE. -/
  | syncWait (p : At) (flag g : BitVec 6)
  /-- BULK_READ (R163): BULK READ hands a transfer of remote rows into tile memory to the cluster sequencer under a tag. -/
  | bulkRead (p : At) (f : BulkF)
  /-- BULK_WRITE (R163): BULK WRITE hands a transfer of tile-memory rows to a remote address to the cluster sequencer under a tag. -/
  | bulkWrite (p : At) (f : BulkF)
  /-- BULK_WAIT (R163): BULK WAIT, ready when its tag has nothing outstanding, writes and clears the tag's status. -/
  | bulkWait (p : At) (btag : BitVec 2) (gr : BitVec 6) (inc : Bool)
  /-- LC_SETI (R164): CTL.LC SETI writes an immediate to a loop counter and sets predicates from it. -/
  | lcSeti (p : At) (lcn : BitVec 2) (wz : Bool) (pd pe : BitVec 3) (imm : BitVec 16)
  /-- LC_SETG (R164): CTL.LC SETG writes G bits [15:0] to a loop counter and sets predicates from it. -/
  | lcSetg (p : At) (lcn : BitVec 2) (wz : Bool) (pd pe : BitVec 3) (gs : BitVec 6)
  /-- LC_DEC (R164): CTL.LC DEC decrements a non-zero loop counter and sets predicates from it. -/
  | lcDec (p : At) (lcn : BitVec 2) (wz : Bool) (pd pe : BitVec 3)
  /-- CTL_P (R165): CTL.P computes a compare, predicate logic, queue-head test or constant into predicates. -/
  | ctlP (p : At) (f : CtlPF)
  /-- CTL_ALU (R166): CTL.ALU performs a scalar operation on two G registers. -/
  | ctlAlu (p : At) (aop : BitVec 4) (gd ga gb : BitVec 6)
  /-- CTL_ALUI (R166): CTL.ALUI performs a scalar operation on a G register and a sign-extended immediate. -/
  | ctlAlui (p : At) (aop : BitVec 4) (gd ga : BitVec 6) (imm : BitVec 24)
  /-- NOP (R167): NOP applies its rider and discards one flit from each queue that DROP names. -/
  | nop (p : At) (drop : BitVec 5)
  /-- EPOCH_DISCARD (R115): A head flit of a foreign epoch that is not the announced next epoch is discarded in the next cycle with its credit returned. -/
  | epochDiscard (t : TileIx) (q : Fin 5)
  /-- DEADLOCK_PROBE (R116): After 4,096 consecutive blocked cycles the tile raises its deadlock probe and sets TILE_STATUS.PROBE. -/
  | deadlockProbe (t : TileIx)
  /-- TILE_MEM_SPLIT_WRITE (R110): A write to TILE_MEM_SPLIT while RUN = 0 re-encodes every row whose class changes. -/
  | tileMemSplitWrite (t : TileIx) (v : W64)
  /-- ROUTER_SLOT_CYCLE (R176): In each cycle each router output takes a flit from the source its schedule-table entry names for the current slot and drives it on. -/
  | routerSlotCycle (c : CantonIx) (noise : List LinkNoise) (rev : List (TileIx × Fin 4))
  /-- SEAM_FLIT_ARRIVE (R189): Two received halves are assembled, synchronised and placed in the share of their tag in the seam queue. -/
  | seamFlitArrive (t : TileIx) (d : Fin 4) (lo hi : HalfNoise)
  /-- SEAM_CREDIT_MESSAGE (R191): A credit message crossing the seam raises the pending count of its tag at the upstream router. -/
  | seamCreditMessage (t : TileIx) (d : Fin 4)
  /-- SEAM_NEIGHBOUR_LOST (R195): A neighbour across a seam powers off or is not joined; its side drives not-valid and LINK_FAIL is set in both routers. -/
  | seamNeighbourLost (c : CantonIx) (d : Fin 4)
  /-- ROUTER_TABLE_WRITE (R180): A write to space 0x09 updates router registers and rechecks the table and shares, setting TBL_ERR and TBL_CAUSE. -/
  | routerTableWrite (t : TileIx) (off : BitVec 6) (v : W64)
  /-- TABLE_SWITCH (R199): At the first slot 0 after release, each router takes its staged table, reloads SEG_CRED, clears counts and takes the new epoch. -/
  | tableSwitch (c : CantonIx)
  /-- MESH_FLIT_RECEIVE (R205): A mesh flit is checked by CRC-16; a failure discards it and later ones and requests replay. -/
  | meshFlitReceive (k : ClusterIx) (d : Fin 4) (ok : Bool)
  /-- MESH_LINK_FAIL (R210): A mesh link is failed after 8 replays of one flit or when its neighbour is lost, and packets on it end with status 4. -/
  | meshLinkFail (k : ClusterIx) (d : Fin 4)
  /-- MESH_OUTPUT_ARBITRATE (R213): Each mesh router output sends one flit per cycle: a capped pennant first, then the packet in progress, then a new packet in round-robin. -/
  | meshOutputArbitrate (k : ClusterIx) (o : Fin 6)
  /-- READ_REQ (R206): A READ_REQ packet at its destination is served and answered with a READ_RSP. -/
  | readReq (k : ClusterIx) (port : Fin 2)
  /-- WRITE_REQ (R206): A WRITE_REQ packet at its destination writes its rows and is answered with a WRITE_ACK. -/
  | writeReq (k : ClusterIx) (port : Fin 2)
  /-- READ_RSP (R207): A READ_RSP at the requester writes its rows, or not for failing statuses, and counts toward its transfer's completion. -/
  | readRsp (k : ClusterIx)
  /-- WRITE_ACK (R207): A WRITE_ACK at the requester counts toward its transfer's completion with its status. -/
  | writeAck (k : ClusterIx) (port : Fin 2)
  /-- MESH_REQUEST_TIMEOUT (R211): An outstanding request with no response after TMO_US completes with status 3 and a mesh-timeout record. -/
  | meshRequestTimeout (k : ClusterIx) (tid : W16)
  /-- WAYPOINT_TABLE_UPDATE (R209): The ensign complex recomputes every canton's waypoint table after a change in failed links, routers or powered cantons. -/
  | waypointTableUpdate
  /-- QUIESCE_STOP (R255): A QUIESCE pennant with OP STOP makes the canton clear RUN, finish issued work and outstanding BULK, and reply. -/
  | quiesceStop (c : CantonIx)
  /-- QUIESCE_DRAIN (R253): A QUIESCE pennant with OP DRAIN makes the canton watch for a drained condition while its tiles keep running. -/
  | quiesceDrain (c : CantonIx)
  /-- CANTON_DRAINED (R253): After 4,096 idle cycles with every buffer empty, a draining canton clears RUN and replies STATE 0. -/
  | cantonDrained (c : CantonIx)
  /-- DRAIN_ARRIVAL (R253): A flit arriving at a canton that has reported drained sets RUN again and replies STATE 1. -/
  | drainArrival (c : CantonIx)
  /-- QUIESCE_CONFIRM (R253): A QUIESCE CONFIRM makes each canton reply STATE 0 only when no flit has arrived since its last STATE 0. -/
  | quiesceConfirm (c : CantonIx)
  /-- QUIESCE_SWITCH (R253): A QUIESCE SWITCH makes routers and tiles take the new epoch, credits and cleared slot, predicate and loop state. -/
  | quiesceSwitch (c : CantonIx)
  /-- QUIESCE_SWITCH_PURGE (R255): A QUIESCE SWITCH_PURGE switches with PURGE = 1, discards old-epoch flits and pool entries, and replies with the discard count. -/
  | quiesceSwitchPurge (c : CantonIx)
  /-- QUIESCE_ACK (R243): A QUIESCE_ACK pennant reports a canton's state to the ensign complex, which advances the handshake. -/
  | quiesceAck (c : CantonIx)
  /-- RESUME (R240): A RESUME pennant makes the canton controller set TILE_CTRL.RUN in its tiles of the slice. -/
  | resume (c : CantonIx)
  /-- TXN_STAGE (R368): A TXN_STAGE pennant makes a canton controller read its entries, hold them in shadows, check them and vote. -/
  | txnStage (c : CantonIx)
  /-- TXN_VOTE (R369): A TXN_VOTE pennant delivers a canton's ability to apply to the ensign complex. -/
  | txnVote (c : CantonIx)
  /-- PROBE (R244): A PROBE pennant reports a raised or cleared deadlock probe to the ensign complex's wait graph. -/
  | probe (t : TileIx)
  /-- ERR_NOTE (R434): An ERR_NOTE pennant tells the ensign complex that records wait at a source, and it fetches them by bulk reads. -/
  | errNote (f : RecFrom)
  /-- HALYARD_ROUND_DONE (R222): The root's result returns down the tree and every participant's flag becomes DONE with it. -/
  | halyardRoundDone (n : SliceIx) (flag : BitVec 6)
  /-- HALYARD_LINK_RETRY (R219): A halyard link CRC failure is retried once; a second consecutive failure fails the link and stops slices using it. -/
  | halyardLinkRetry (c : CantonIx) (d : Fin 4) (flag : BitVec 6) (ok : Bool)
  /-- LOAD_IMAGE (R239): LOAD_IMAGE checks, places, writes and configures configuration 0 of a slice set as one slice. -/
  | loadImage (r : RingIx) (ok late : Bool)
  /-- RUN (R240): RUN sends RESUME to every canton of a loaded slice so that its tiles start. -/
  | run (r : RingIx)
  /-- END_FLAG_DONE (R241): When END_FLAG's round completes, the ensign complex clears RUN in every tile and posts the RUN completion with the result. -/
  | endFlagDone (n : SliceIx)
  /-- RUN_TIMEOUT (R363): A RUN's TIMEOUT_MS expiring stops the slice's tiles and completes the RUN with TIMEOUT. -/
  | runTimeout (n : SliceIx)
  /-- RECONFIGURE_DRAIN (R253): RECONFIGURE in DRAIN mode stages configuration c, drains the slice, switches to the new epoch and resumes. -/
  | reconfigureDrain (r : RingIx)
  /-- RECONFIGURE_PURGE (R255): RECONFIGURE in PURGE mode stages configuration c, stops the slice, switches with purge of old flits and resumes. -/
  | reconfigurePurge (r : RingIx)
  /-- DRAIN_TIMEOUT (R254): A DRAIN RECONFIGURE whose timeout expires before the switch is abandoned and the slice resumes in its old epoch. -/
  | drainTimeout (n : SliceIx)
  /-- UNLOAD (R356): UNLOAD stops a slice as QUIESCE STOP does, ends its ownership and leaves DIRTY. -/
  | unload (r : RingIx)
  /-- DEADLOCK_CONFIRM (R245): 4,096 cycles after the last probe of a wait-graph cycle, the ensign complex rereads its tiles and confirms the deadlock. -/
  | deadlockConfirm (n : SliceIx)
  /-- SPILL_TO_POOL (R247): A flit delivered into a spilling queue is moved to a free pool entry, returning its hop credit. -/
  | spillToPool (t : TileIx) (q : Fin 5)
  /-- SPILL_REINJECT (R247): A pop from a spilling queue moves the oldest pool flit back into the queue, checking its entry identity. -/
  | spillReinject (t : TileIx) (q : Fin 5)
  /-- SPILL_EXHAUSTED (R249): No pool entry freed for 65,536 cycles stops the slice with SPILL_EXHAUSTED and a diagnostic record. -/
  | spillExhausted (k : ClusterIx)
  /-- CHANNEL_RETRAIN (R273): A bay channel retrains in self-refresh, steers new bad lanes, and fails when left with more than 8. -/
  | channelRetrain (b : BayIx) (lanes : BitVec 264) (late : Bool)
  /-- BAY_RETRAIN (R291): A write of BAY_RETRAIN bits requests retraining of channels one at a time in ascending order. -/
  | bayRetrain (b : BayIx) (v : W32)
  /-- AUTO_RETRAIN_THRESHOLD (R273): Corrections on one channel exceeding AUTO_THRESH in one second start an automatic retraining. -/
  | autoRetrainThreshold (b : BayIx)
  /-- BAY_REGION_CLASS_WRITE (R267): A write changing BAY_REGION.CLASS_W of an unowned region re-encodes its rows in place. -/
  | bayRegionClassWrite (b : BayIx) (n : Fin 128) (w : Bool)
  /-- REENCODE_COMPLETE (R267): A class re-encoding of a bank or region ends and REENCODING clears. -/
  | reencodeComplete (st : StoreRef)
  /-- PREFETCH_ISSUE (R280): A prefetcher with fewer than DEPTH outstanding rows issues its next row of the stream. -/
  | prefetchIssue (k : ClusterIx) (pf : Fin 16)
  /-- DMA_ENTRY_COMPLETE (R283): A DMA queue entry completes in order once all its rows are handled, writing its completion row if named. -/
  | dmaEntryComplete (k : ClusterIx) (q : Fin 32)
  /-- SCRUB_COMPLETE (R287): A scrub target finishes writing zero rows, DIRTY clears and LAST_JOB becomes 0xFFFF. -/
  | scrubComplete (st : StoreRef)
  /-- WXT_GRAD (R335): A received GRAD frame at the head of its flow is applied, acknowledged and discarded, held, or refused by state and step. -/
  | wxtGrad (p : PortIx) (m : WxtMsg)
  /-- UE_GROUP_APPLY (R304): The update engine reads a stripe group, checks it, computes new slots and writes slot rows then header rows. -/
  | ueGroupApply (p : PortIx)
  /-- UE_APPLIED (R298): Once the last group's header rows are granted the engine enters APPLIED and the port sends DIGEST and BAR. -/
  | ueApplied (p : PortIx)
  /-- WXT_COMMIT (R307): A COMMIT frame in APPLIED advances CSTEP, invalidates the slice's caches, advances digests and starts the refresh. -/
  | wxtCommit (p : PortIx) (m : WxtMsg)
  /-- REFRESH_END (R312): The refresh of resident weights ends, the engine returns to READY and its agent arrives on REFRESH_FLAG. -/
  | refreshEnd (p : PortIx)
  /-- UE_SCAN (R314): SCAN reads every stripe header and records the lowest step, the spread and invalid stripes. -/
  | ueScan (p : PortIx)
  /-- UE_ROLLBACK (R314): ROLLBACK checks every stripe and rewrites headers to commit TARGET, then enters READY. -/
  | ueRollback (p : PortIx)
  /-- UE_ROLLFWD (R314): ROLLFWD checks every stripe at TARGET and continues the commit from its cache invalidation. -/
  | ueRollfwd (p : PortIx)
  /-- UE_EXPEL_CLR (R314): EXPEL_CLR moves the engine from EXPELLED to READY at CSTEP. -/
  | ueExpelClr (p : PortIx)
  /-- UE_INIT (R314): INIT builds blocks, check words and COMMIT words for every stripe at TARGET and enters READY. -/
  | ueInit (p : PortIx)
  /-- UE_COMMAND_END (R314): A recovery command running in BUSY ends and sets CMD_RESULT. -/
  | ueCommandEnd (p : PortIx)
  /-- UE_ENABLE (R449): EN going from 0 to 1 runs SCAN and enters READY or FAULT. -/
  | ueEnable (p : PortIx)
  /-- WXT_EXPEL (R338): An EXPEL frame for the engine's replica stops every update engine in EXPELLED at its next group boundary. -/
  | wxtExpel (p : PortIx) (m : WxtMsg)
  /-- WXT_HELLO (R333): A server HELLO registers or withdraws the port. -/
  | wxtHello (p : PortIx) (m : WxtMsg)
  /-- WXT_WPULL (R339): A WPULL frame is answered with WPUSH frames of the requested shard range, or refused. -/
  | wxtWpull (p : PortIx) (m : WxtMsg)
  /-- WXT_WPUSH (R339): A WPUSH frame writes shard rows when permitted, or is refused. -/
  | wxtWpush (p : PortIx) (m : WxtMsg)
  /-- WXT_ACK (R330): A received ACK releases covered frames from the retransmission buffer. -/
  | wxtAck (p : PortIx) (m : WxtMsg)
  /-- WXT_NACK (R332): A received NACK GAP makes the port retransmit the named frame once. -/
  | wxtNack (p : PortIx) (m : WxtMsg)
  /-- ACK_TIMER (R330): 2 µs after the first unacknowledged frame, or after ACK_EVERY frames, the port sends an ACK. -/
  | ackTimer (p : PortIx) (peer : BitVec 128) (flow : W32)
  /-- RTO_EXPIRY (R332): An unacknowledged frame one RTO after its last send is retransmitted, and after RETRY_MAX timeouts the flow fails. -/
  | rtoExpiry (p : PortIx) (express : Bool) (seq : W32)
  /-- FLOW_IDLE_CLOSE (R328): An inbound flow with no frame for 1 s is closed. -/
  | flowIdleClose (p : PortIx) (peer : BitVec 128) (flow : W32)
  /-- HELLO_TIMER (R333): The port sends HELLO every 250 ms until registered and every 10 s afterwards. -/
  | helloTimer (p : PortIx)
  /-- REG_LATE (R333): 2 s after the first HELLO without registration the port sets REG_LATE and raises a port-link record. -/
  | regLate (p : PortIx)
  /-- PFC_FRAME (R322): A received PFC frame pauses the start of frames of the named priority for its time. -/
  | pfcFrame (p : PortIx) (line : RxLine) (enable : Byte) (quanta : BitVec 128)
  /-- PFC_REFRESH (R322): While the bulk buffer is at or above XOFF, the port resends PFC pause every 300 ns. -/
  | pfcRefresh (p : PortIx)
  /-- ESMC_PDU (R341): A received ESMC PDU records the SSM codes and sets change and event flags. -/
  | esmcPdu (p : PortIx) (line : RxLine) (ssm : BitVec 4) (essm : Option Byte) (event : Bool)
  /-- QL_TIMEOUT (R341): 5 s without an ESMC PDU sets QL_FAILED. -/
  | qlTimeout (p : PortIx)
  /-- NEIGHBOUR_REQUEST (R321): An ARP request or IPv6 neighbour solicitation for the port's address is answered; other non-WXT frames are dropped. -/
  | neighbourRequest (p : PortIx) (line : RxLine) (size : W16) (half own : Bool)
  /-- GX_ROUND_DONE (R336): When the GX_FLAG round completes, the exporter sends the local gradient as GRAD frames with DIR = 1. -/
  | gxRoundDone (p : PortIx)
  /-- LINK_UP (R318): A port link finishes training, comes up and runs 802.3br verification. -/
  | linkUp (p : PortIx) (preempt half1 : Bool)
  /-- LINK_LOSS (R318): A loss of port link raises a port-link record, counts DOWN_COUNT and retrains when AUTO_RETRAIN is set. -/
  | linkLoss (p : PortIx)
  /-- LINK_RETRAIN (R318): A write of PRT_LINK_CTRL.RETRAIN retrains the port link. -/
  | linkRetrain (p : PortIx)
  /-- LINK_TRAIN_TIMEOUT (R318): A link not up within the mode's maximum enters STATE 4 with a record, and retries when AUTO_RETRAIN is set. -/
  | linkTrainTimeout (p : PortIx)
  /-- SQ_TAIL_DOORBELL (R352): A doorbell write sets SQ_TAIL, or is dropped or puts the ring in ERROR. -/
  | sqTailDoorbell (r : RingIx) (v : W32)
  /-- CQ_HEAD_DOORBELL (R352): A doorbell write sets CQ_HEAD, consuming completions, or is dropped or puts the ring in ERROR. -/
  | cqHeadDoorbell (r : RingIx) (v : W32)
  /-- DESCRIPTOR_FETCH (R353): The engine fetches the next descriptor of a ring by weighted round-robin when the counters allow. -/
  | descriptorFetch (ok : Bool)
  /-- IRQ_TIME_EXPIRY (R365): IRQ_TIME_US after the first unsignalled completion, the ring signals its vector. -/
  | irqTimeExpiry (r : RingIx)
  /-- DESC_NOP (R356): A NOP descriptor completes. -/
  | descNop (r : RingIx)
  /-- DMA (R358): A DMA descriptor moves rows between host and engine or within the engine through DMA queues and completes with its outcome. -/
  | dma (r : RingIx) (bad : Option Nat)
  /-- SCRUB (R287): A SCRUB descriptor zeroes unowned clusters or bay regions and resets their tiles. -/
  | scrub (r : RingIx)
  /-- FENCE (R356): A FENCE completes after every earlier descriptor of its scope. -/
  | fence (r : RingIx)
  /-- CHECKPOINT_SAVE (R359): CHECKPOINT SAVE writes a loaded, idle slice's tile and cluster state as a sealed stream. -/
  | checkpointSave (r : RingIx) (late : Bool)
  /-- CHECKPOINT_RESTORE (R359): CHECKPOINT RESTORE checks a stream against the loaded slice and writes its records back. -/
  | checkpointRestore (r : RingIx) (ok late : Bool)
  /-- COUNTER_SWEEP (R467): COUNTER_SWEEP copies the counters of its scope into host memory at one snapshot. -/
  | counterSweep (r : RingIx)
  /-- QUERY (R357): QUERY copies TILE_PRESENT, the slice table or the identity table to host memory. -/
  | query (r : RingIx)
  /-- TXN_BEGIN (R366): BEGIN, by TXN_CTRL or descriptor, opens the one configuration transaction for its path. -/
  | txnBegin (r : Option RingIx)
  /-- TXN_WRITE (R357): A TXN_WRITE descriptor stages up to three register writes in the open transaction. -/
  | txnWrite (r : RingIx)
  /-- STAGED_REG_WRITE (R367): A BAR0 write to TX fields stages them in the open transaction, or is dropped with UNSTAGED_SEEN. -/
  | stagedRegWrite (off : BitVec 24) (n : Byte) (v : W64)
  /-- TXN_COMMIT (R368): COMMIT distributes entries to cantons, collects votes and broadcasts commit or abort on the transaction flag. -/
  | txnCommit (r : Option RingIx)
  /-- TXN_ABORT (R366): ABORT discards the staged writes of the open transaction. -/
  | txnAbort (r : Option RingIx)
  /-- TXN_VOTE_TIMEOUT (R368): A canton that has not voted within 1 ms makes the commit roll back with cause 3. -/
  | txnVoteTimeout
  /-- TXN_APPLY (R368): After the commit broadcast, each canton applies its entries at its next slot-frame boundary. -/
  | txnApply (c : CantonIx)
  /-- RING_ENABLE (R351): Setting HIF_RING_CFG.ENABLE zeroes the ring counters and activates the ring, or puts it in ERROR for bad LOG2_ENTRIES. -/
  | ringEnable (v : W64)
  /-- RING_DISABLE (R351): Writing ENABLE = 0 stops fetching and drains started descriptors, aborting an owned open transaction. -/
  | ringDisable
  /-- RING_RESET (R351): HIF_RING_CFG.RESET completes fetched, unstarted descriptors with ABORTED and disables the ring. -/
  | ringReset
  /-- BAR4_READ (R350): A BAR4 read returns engine memory at WIN_BASE plus the offset, rows taken whole. -/
  | bar4Read (sp : HostSpace) (o : BitVec 38) (n : BitVec 13) (late : Bool)
  /-- BAR4_WRITE (R350): A BAR4 write is discarded and sets BAR4_WR_SEEN. -/
  | bar4Write
  /-- TILE_ACC_READ (R122): A read of TILE_ACC_DATA performs an ordered 8 B indirect read of tile state and returns it or an error. -/
  | tileAccRead (late : Bool)
  /-- TILE_ACC_WRITE (R122): A write of TILE_ACC_DATA posts an 8 B indirect write of tile state, or is refused. -/
  | tileAccWrite (v : W64)
  /-- TILE_ACC_WRITE_DONE (R122): A posted indirect write completes at the tile or is abandoned after 10 µs with ERR = 6. -/
  | tileAccWriteDone (ok : Bool)
  /-- WARM_RESET (R347): PERST_N with main power on, hot reset or FLR disables rings, aborts transactions, unloads slices and resets host-side registers. -/
  | warmReset (perst : Bool)
  /-- PCIE_POWER_STATE (R343): Entering D3hot stops BAR decoding and makes every ring behave as disabled. -/
  | pciePowerState (q : PcieState)
  /-- REGISTER_WRITE (R10): A write to a register field without behaviour of its own takes effect by its access code, or is dropped by size and gating rules. -/
  | registerWrite (off : BitVec 24) (n : Byte) (v : W64)
  /-- NATIVE_SWITCH (R381): CKM_REF_SEL GO with LEGACY = 0 changes the reference hitlessly at a target edge, or is refused. -/
  | nativeSwitch (target : BitVec 2) (e : SwitchEnd)
  /-- LEGACY_SWITCH (R382): CKM_REF_SEL GO with LEGACY = 1 stops the reference domain for 64 target cycles and restarts on the target. -/
  | legacySwitch (target : BitVec 2) (edges : Bool)
  /-- LEGACY_NO_CLOCK (R383): No target edge within 1 µs of a legacy changeover fails the reference domain with RESULT 0x06. -/
  | legacyNoClock
  /-- STEER_LOCK (R374): The steering loop's average error stays below 1 ppm over 16 ms and LOCKED is set. -/
  | steerLock (trim : W16) (err : W16)
  /-- CANDIDATE_WINDOW (R377): At the end of each 1 ms window each reference candidate is judged and its readiness updated. -/
  | candidateWindow (xtal : W32) (tp : W32) (locked : Bool)
  /-- MGT_XTAL_FAIL (R385): The management crystal fails and the domain changes over to the RC oscillator. -/
  | mgtXtalFail
  /-- REF_FAIL (R385): The active reference fails and the engine enters holdover with ACTIVE = 2. -/
  | refFail
  /-- PORT_TX_CLOCK_FAIL (R385): A port transmit synthesiser loses lock and its lanes go to electrical idle. -/
  | portTxClockFail (p : PortIx)
  /-- BAY_CLOCK_FAIL (R385): A bay interface synthesiser loses lock; the stack enters self-refresh and the engine is DEGRADED. -/
  | bayClockFail (b : BayIx)
  /-- PCIE_REFCLK_LOSS (R385): REFCLK absent for 200 ns idles the lanes and the engine enters HALTED. -/
  | pcieRefclkLoss
  /-- MESH_CLOCK_FAIL (R385): A canton's mesh loses lock; it is isolated, its slice stops and the engine is DEGRADED. -/
  | meshClockFail (c : CantonIx) (window : Bool)
  /-- PTX_RESTART (R395): A CKM_RESTART.PTX bit restarts a port transmit synthesiser, after which the link retrains. -/
  | ptxRestart (p : PortIx) (ok : Bool)
  /-- BAY_CLOCK_RESTART (R386): A CKM_RESTART.BAY bit re-locks a bay synthesiser and retrains its channels. -/
  | bayClockRestart (b : BayIx) (ok : Bool)
  /-- CLOCK_RATIO_CHANGE (R389): A canton's new core ratio takes effect at the next slot 15 to slot 0 boundary. -/
  | clockRatioChange (c : CantonIx)
  /-- COUPLING_LOST (R392): A coupling switch sees no transition for 16 mesh cycles and the live side opens its switches and fails links. -/
  | couplingLost (c : CantonIx) (d : Fin 4)
  /-- PLANNED_POWER_OFF (R393): A canton drains, opens its coupling switches and has its supply switched off. -/
  | plannedPowerOff (c : CantonIx) (thermal : Bool)
  /-- REJOIN (R396): A write of CAN_CLK_CTRL.REJOIN brings a failed or powered-off canton back, or sets REJOIN_FAIL. -/
  | rejoin (c : CantonIx) (w : WaveIn)
  /-- HOIST_POWER_ON (R397): The auxiliary supply becomes good, the hoist island leaves reset, loads firmware and writes a BOOT ledger entry. -/
  | hoistPowerOn (p : PowerOn)
  /-- PWR_EN_SAMPLE (R399): Each 1 ms sample of PWR_EN and the input closes the main switch after 10 highs or ramps down after 3 lows. -/
  | pwrEnSample (high inputOk rail osc : Bool)
  /-- UNDERVOLTAGE (R399): The 54 V input below 46 V for 1 ms ramps the rails down and opens the main switch. -/
  | undervoltage
  /-- AUX_FAIL (R399): Loss of the 12 V auxiliary supply opens the main switch uncontrolled and the engine is OFF. -/
  | auxFail
  /-- WAVE_SLOT_START (R402): At its start slot a canton runs soft-start, fuses, ledger, lock, repair, self-test, known-answer test and join. -/
  | waveSlotStart (c : CantonIx) (w : WaveIn)
  /-- BAY_TRAIN (R411): Firmware calibrates and trains a joined bay's channels and starts its scrub. -/
  | bayTrain (b : BayIx) (lanes : List (Fin 32 × BitVec 264))
  /-- BAY_READY (R411): A bay's bring-up scrub ends and BAY_STAT.STATE becomes 2. -/
  | bayReady (b : BayIx)
  /-- PORT_INIT (R412): Firmware calibrates a joined port's SerDes, writes its boot values and sets its PRT_CLK_EN bit. -/
  | portInit (p : PortIx) (ok : Bool)
  /-- ENGINE_CHECK (R414): The engine-wide check completes TILE_PRESENT, routes, sweeps and a transaction-flag round, then decides READY or DEGRADED. -/
  | engineCheck (k : CheckIn)
  /-- ERR_RING_WRITE (R435): A record is written to the error ring, SEQ_PH last, when the ring has room, and signalled when due. -/
  | errRingWrite
  /-- ERR_RING_HEAD (R435): A write of ERR_RING_PTR.HEAD consumes records or disables the ring with RING_ERR. -/
  | errRingHead (v : W32)
  /-- ERR_RING_ENABLE (R454): Setting ERR_RING_CFG.ENABLE zeroes PROD and HEAD and starts writing records, or sets RING_ERR. -/
  | errRingEnable (v : W64)
  /-- ERR_IRQ_TIMER (R435): 1 ms after the first unsignalled DISP 0 record, the error ring signals its vector. -/
  | errIrqTimer
  /-- REPLAY (R440): In the tile's next idle window the captured group is replayed 16 times and on the other units to decide reproduction. -/
  | replay (t : TileIx) (reproduced : Bool)
  /-- REPLAY_NOT_POSSIBLE (R440): No idle window within 24 h gives the replay outcome not possible. -/
  | replayNotPossible (t : TileIx)
  /-- RETIRE (R441): At its slice's next stop a permanent unit is retired by spare, hole and shift, or left for host placement. -/
  | retire (ls : List (CantonIx × W32))
  /-- SLICE_RECOVERY (R443): A slice stopped for a fault is replayed, classified, retired, reloaded and its update engines restored to PHASE 1. -/
  | sliceRecovery (n : SliceIx) (reproduced : Bool) (ls : List (CantonIx × W32)) (ms : W32)
  /-- CANTON_SUPPLY_LOSS (R447): A canton's rail leaves regulation or overcurrents; it is disconnected, isolated and its slices stopped. -/
  | cantonSupplyLoss (c : CantonIx) (lost : Bool)
  /-- ENSIGN_WATCHDOG (R450): The ensign watchdog expiring makes the hoist island restart the ensign complex in HALTED, or FAULT on a second restart within an hour. -/
  | ensignWatchdog
  /-- LEDGER_POWERED (R437): Every 3,600 s of powered time the hoist island writes a POWERED ledger entry. -/
  | ledgerPowered
  /-- LEDGER_ROTATE (R438): When the ledger half in use is 90% full, the other half is erased, filled and sealed with the next generation. -/
  | ledgerRotate
  /-- SMB_REQ (R459): A Block Write of command 0x10 with valid PEC delivers a mailbox request, or is discarded. -/
  | smbReq (bs : List Byte) (pec : Bool) (nonce : W64)
  /-- SMB_RSP (R459): A Block Read of command 0x11 returns the current mailbox response. -/
  | smbRsp
  /-- SMB_MSTAT (R459): A Read Byte of command 0x12 returns the mailbox status bits. -/
  | smbMstat
  /-- ALERT_RESPONSE (R461): A read of the Alert Response Address returning the module's address releases ALERT_N. -/
  | alertResponse
  /-- IDENT (R460): Mailbox IDENT returns GLB_ID, GLB_SERIAL and GLB_ENGINE_STATE. -/
  | ident (via : Via)
  /-- SENSOR (R460): Mailbox SENSOR returns a canton's or the module's newest sample. -/
  | sensor (via : Via) (unit : Byte)
  /-- REC_INFO (R460): Mailbox REC_INFO returns the BMC queue count and the oldest record's ID and length. -/
  | recInfo (via : Via)
  /-- REC_READ (R460): Mailbox REC_READ returns up to 240 B of the oldest queued record. -/
  | recRead (via : Via) (off : W16)
  /-- REC_NEXT (R460): Mailbox REC_NEXT advances the BMC's read pointer past the oldest record. -/
  | recNext (via : Via)
  /-- REG_READ (R460): Mailbox REG_READ returns an allowed BAR0 register. -/
  | regRead (via : Via) (off : W32)
  /-- REG_WRITE (R460): Mailbox REG_WRITE writes PWR_CAP or MGT_CLK_EN. -/
  | regWrite (via : Via) (off : W32) (v : W64)
  /-- FLASH_PROG (R460): Mailbox FLASH_PROG programs up to 240 B within one flash page. -/
  | flashProg (via : Via) (a : W32) (data : List Byte)
  /-- FLASH_ERASE (R460): Mailbox FLASH_ERASE erases one 64 KiB sector. -/
  | flashErase (via : Via) (a : W32)
  /-- FLASH_READ (R460): Mailbox FLASH_READ returns up to 240 B of flash. -/
  | flashRead (via : Via) (a : W32) (n : Byte)
  /-- DBG_CHALLENGE (R464): DBG_CHALLENGE or DBGCHAL returns a fresh random NONCE. -/
  | dbgChallenge (via : Via) (nonce : W64)
  /-- DBG_UNLOCK (R464): DBG_UNLOCK or DBGUNLOCK unlocks debug on a correct HMAC response, or counts a failure toward LOCKOUT. -/
  | dbgUnlock (via : Via) (resp : W64)
  /-- DBG_LOCK (R464): DBG_LOCK ends debug unlock. -/
  | dbgLock (via : Via)
  /-- UART_LINE (R462): A text line on the UART carries a mailbox operation and is answered by one line. -/
  | uartLine (line : List Byte) (nonce : W64)
  /-- EXTEST (R463): The EXTEST instruction drives boundary scan when allowed, otherwise BYPASS takes its place. -/
  | extest
  /-- DBGACC (R463): The DBGACC instruction reaches the debug access port while debug is unlocked and clocked. -/
  | dbgacc
  /-- FLASH_CMD_PROGRAM (R457): MGT_FLASH_CMD OP 1 programs the BAR0 page buffer into the page at MGT_FLASH_ADDR. -/
  | flashCmdProgram
  /-- FLASH_CMD_ERASE (R457): MGT_FLASH_CMD OP 2 erases the sector at MGT_FLASH_ADDR. -/
  | flashCmdErase
  /-- FLASH_CMD_READ (R457): MGT_FLASH_CMD OP 3 reads the page into the BAR0 page buffer. -/
  | flashCmdRead
  /-- FLASH_COMMAND_END (R457): A queued flash command ends, with read-back verification for programs, and sets its status. -/
  | flashCommandEnd (fails : List Byte)
  /-- FLASH_DATA_ACCESS (R471): An access to MGT_FLASH_DATA reaches page-buffer word BUF_IDX and advances BUF_IDX. -/
  | flashDataAccess (v : Option W64)
  /-- SENSOR_SAMPLE (R468): Every 250 µs the sensor hub samples each canton, and every 1 ms the module input and coolant. -/
  | sensorSample (x : SensorIn)
  /-- THERMAL_STEP_UP (R469): While T ≥ 85 °C or the bay ≥ 95 °C, a canton's thermal request rises one code, at once then every 10 ms. -/
  | thermalStepUp (c : CantonIx)
  /-- THERMAL_STEP_DOWN (R469): After 100 ms below 80 °C and 90 °C, a canton's thermal request falls one code. -/
  | thermalStepDown (c : CantonIx)
  /-- THERMTRIP (R469): At 105 °C the comparator asserts THERMTRIP_N and the hoist island opens the main switch. -/
  | thermtrip (c : CantonIx)
  /-- POWER_CAP_TICK (R470): At the end of each millisecond the hoist island raises or lowers canton cap requests against the cap in effect. -/
  | powerCapTick (watts : W16) (drew : List W32)
  /-- PWR_CAP_WRITE (R470): A write of PWR_CAP from host or BMC sets the cap in effect and records its writer. -/
  | pwrCapWrite (src : CapWriter) (v : W64)
  /-- CNT_CLEAR (R473): CNT_CTRL.CLEAR zeroes every cluster, canton and port counter and its WRAPPED bit within 20 µs. -/
  | cntClear
  /-- CLUSTER_CLASS_WRITE (R267): A write of CAN_CLU_CFG.CLASS_W to a cluster that no loaded slice owns re-encodes the banks whose class changes, with REENCODING set meanwhile. -/
  | clusterClassWrite (k : ClusterIx) (classW : BitVec 24)
  /-- PFC_PAUSE_EXPIRY (R322): The pause time given by a received PFC frame runs out and the port may again start frames of that priority. -/
  | pfcPauseExpiry (p : PortIx) (prio : BitVec 3)
  /-- MGT_CRYSTAL_RETURN (R385): The management domain changes back from the RC oscillator to its crystal when firmware asks and the crystal has been judged good again. -/
  | mgtCrystalReturn
  /-- CRYSTAL_JUDGE_WINDOW (R378): At the end of each window of 25,000 RC-oscillator cycles the management crystal's count is judged, and after 16 passing windows JUDGE becomes 1. -/
  | crystalJudgeWindow (count : W32)
  /-- CANDIDATE_NO_EDGE (R377): A reference candidate that is not the active source shows no edge for 100 ns and loses its readiness at once. -/
  | candidateNoEdge (tp : Bool)
  /-- ENSIGN_RESTART_DONE (R450): The restart of the ensign complex ends, and ENGINE_STATE returns from HALTED to its state before HALTED. -/
  | ensignRestartDone
  deriving DecidableEq, Repr

end Sys2Proof
end

