-- ==== Sys2Proof/WellFormed.lean ====
section
/-! DEFINITION. Which commands are well formed: operands that a sender or a cause can supply. Most operands are bounded by
their types; what is left are lengths, counts and the kinds of entry words. -/
namespace Sys2Proof

/-- An entry word of R405 for a lane: the kind in its top four bits is 4 (SEAM_LANE) or 5 (TSV_LANE). -/
def laneWord (w : BitVec 32) : Bool := w.toNat / 2 ^ 28 = 4 || w.toNat / 2 ^ 28 = 5

/-- What a canton shows in its wave slot (R404): the failing step is one of 8, the failed rows are entry words of rows
(kinds 2 and 3) or of sites (kind 1), the bad lanes entry words of lanes. -/
def WaveIn.ok (w : WaveIn) : Bool :=
  w.fail ≤ 8 && w.bist.all (fun x => 1 ≤ x.toNat / 2 ^ 28 && x.toNat / 2 ^ 28 ≤ 3) && w.lanes.all fun p => laneWord p.2

/-- A line of the UART (R462) holds no line feed. -/
def lineOk (bs : List Byte) : Bool := bs.all fun b => b ≠ 0x0A

/-- Bytes of what a read of the host reaches (R344): 4 KiB of configuration space, the three BARs. -/
def HostSpace.size : HostSpace → Nat
  | .config => 2 ^ 12
  | .bar0 => 2 ^ 24
  | .bar2 => 2 ^ 18
  | .bar4 => 2 ^ 38

/-- Each channel of a bay is listed at most once (R411). -/
def lanesOk : List (Fin 32 × BitVec 264) → Bool
  | [] => true
  | (c, _) :: ls => !(ls.any fun p => p.1 = c) && lanesOk ls

/-- Whether a command is well formed. -/
def Instr.wf : Instr → Bool
  | .tileIssueCycle _ _ _ chk => chk.all fun e => e.iter < 8
  | .tileStep _ _ _ chk => chk.all fun e => e.iter < 8
  | .gmac _ _ chk => chk.all fun e => e.iter < 8
  | .close _ _ chk => chk.all fun e => e.iter < 8
  | .tree _ _ chk => chk.all fun e => e.iter < 8
  | .vop _ _ => true
  | .vsfn _ _ => true
  | .vred _ _ => true
  | .vcvtFrom _ _ => true
  | .vcvtTo _ _ => true
  | .movGG _ _ _ => true
  | .movVV _ _ _ => true
  | .movVIq _ _ _ _ => true
  | .movGIq _ _ _ => true
  | .movLaneG _ _ _ _ _ => true
  | .movGLane _ _ _ _ => true
  | .movTableG _ _ _ => true
  | .movGTable _ _ _ => true
  | .movi _ _ _ _ => true
  | .ld _ _ => true
  | .ldx _ _ => true
  | .st _ _ => true
  | .send _ _ => true
  | .syncArrive _ _ => true
  | .syncWait _ _ _ => true
  | .bulkRead _ _ => true
  | .bulkWrite _ _ => true
  | .bulkWait _ _ _ _ => true
  | .lcSeti _ _ _ _ _ _ => true
  | .lcSetg _ _ _ _ _ _ => true
  | .lcDec _ _ _ _ _ => true
  | .ctlP _ _ => true
  | .ctlAlu _ _ _ _ _ => true
  | .ctlAlui _ _ _ _ _ => true
  | .nop _ _ => true
  | .epochDiscard _ _ => true
  | .deadlockProbe _ => true
  | .tileMemSplitWrite _ _ => true
  | .routerSlotCycle _ _ _ => true
  | .seamFlitArrive _ _ _ _ => true
  | .seamCreditMessage _ _ => true
  | .seamNeighbourLost _ _ => true
  | .routerTableWrite _ _ _ => true
  | .tableSwitch _ => true
  | .meshFlitReceive _ _ _ => true
  | .meshLinkFail _ _ => true
  | .meshOutputArbitrate _ _ => true
  | .readReq _ _ => true
  | .writeReq _ _ => true
  | .readRsp _ => true
  | .writeAck _ _ => true
  | .meshRequestTimeout _ _ => true
  | .waypointTableUpdate => true
  | .quiesceStop _ => true
  | .quiesceDrain _ => true
  | .cantonDrained _ => true
  | .drainArrival _ => true
  | .quiesceConfirm _ => true
  | .quiesceSwitch _ => true
  | .quiesceSwitchPurge _ => true
  | .quiesceAck _ => true
  | .resume _ => true
  | .txnStage _ => true
  | .txnVote _ => true
  | .probe _ => true
  | .errNote _ => true
  | .halyardRoundDone _ _ => true
  | .halyardLinkRetry _ _ _ _ => true
  | .loadImage _ _ _ => true
  | .run _ => true
  | .endFlagDone _ => true
  | .runTimeout _ => true
  | .reconfigureDrain _ => true
  | .reconfigurePurge _ => true
  | .drainTimeout _ => true
  | .unload _ => true
  | .deadlockConfirm _ => true
  | .spillToPool _ _ => true
  | .spillReinject _ _ => true
  | .spillExhausted _ => true
  | .channelRetrain _ _ _ => true
  | .bayRetrain _ _ => true
  | .autoRetrainThreshold _ => true
  | .bayRegionClassWrite _ _ _ => true
  | .reencodeComplete _ => true
  | .prefetchIssue _ _ => true
  | .dmaEntryComplete _ _ => true
  | .scrubComplete _ => true
  | .wxtGrad _ m => m.body.length < 65536
  | .ueGroupApply _ => true
  | .ueApplied _ => true
  | .wxtCommit _ m => m.body.length < 65536
  | .refreshEnd _ => true
  | .ueScan _ => true
  | .ueRollback _ => true
  | .ueRollfwd _ => true
  | .ueExpelClr _ => true
  | .ueInit _ => true
  | .ueCommandEnd _ => true
  | .ueEnable _ => true
  | .wxtExpel _ m => m.body.length < 65536
  | .wxtHello _ m => m.body.length < 65536
  | .wxtWpull _ m => m.body.length < 65536
  | .wxtWpush _ m => m.body.length < 65536
  | .wxtAck _ m => m.body.length < 65536
  | .wxtNack _ m => m.body.length < 65536
  | .ackTimer _ _ _ => true
  | .rtoExpiry _ _ _ => true
  | .flowIdleClose _ _ _ => true
  | .helloTimer _ => true
  | .regLate _ => true
  | .pfcFrame _ _ _ _ => true
  | .pfcRefresh _ => true
  | .esmcPdu _ _ _ _ _ => true
  | .qlTimeout _ => true
  | .neighbourRequest _ _ _ _ _ => true
  | .gxRoundDone _ => true
  | .linkUp _ _ _ => true
  | .linkLoss _ => true
  | .linkRetrain _ => true
  | .linkTrainTimeout _ => true
  | .sqTailDoorbell _ _ => true
  | .cqHeadDoorbell _ _ => true
  | .descriptorFetch _ => true
  | .irqTimeExpiry _ => true
  | .descNop _ => true
  | .dma _ _ => true
  | .scrub _ => true
  | .fence _ => true
  | .checkpointSave _ _ => true
  | .checkpointRestore _ _ _ => true
  | .counterSweep _ => true
  | .query _ => true
  | .txnBegin _ => true
  | .txnWrite _ => true
  | .stagedRegWrite _ n _ => 0 < n.toNat
  | .txnCommit _ => true
  | .txnAbort _ => true
  | .txnVoteTimeout => true
  | .txnApply _ => true
  | .ringEnable _ => true
  | .ringDisable => true
  | .ringReset => true
  | .bar4Read sp o n _ => 0 < n.toNat && o.toNat + n.toNat ≤ sp.size
  | .bar4Write => true
  | .tileAccRead _ => true
  | .tileAccWrite _ => true
  | .tileAccWriteDone _ => true
  | .warmReset _ => true
  | .pciePowerState _ => true
  | .registerWrite _ n _ => 0 < n.toNat
  | .nativeSwitch _ _ => true
  | .legacySwitch _ _ => true
  | .legacyNoClock => true
  | .steerLock _ _ => true
  | .candidateWindow _ _ _ => true
  | .mgtXtalFail => true
  | .refFail => true
  | .portTxClockFail _ => true
  | .bayClockFail _ => true
  | .pcieRefclkLoss => true
  | .meshClockFail _ _ => true
  | .ptxRestart _ _ => true
  | .bayClockRestart _ _ => true
  | .clockRatioChange _ => true
  | .couplingLost _ _ => true
  | .plannedPowerOff _ _ => true
  | .rejoin _ w => w.ok
  | .hoistPowerOn _ => true
  | .pwrEnSample _ _ _ _ => true
  | .undervoltage => true
  | .auxFail => true
  | .waveSlotStart _ w => w.ok
  | .bayTrain _ lanes => lanesOk lanes
  | .bayReady _ => true
  | .portInit _ _ => true
  | .engineCheck _ => true
  | .errRingWrite => true
  | .errRingHead _ => true
  | .errRingEnable _ => true
  | .errIrqTimer => true
  | .replay _ _ => true
  | .replayNotPossible _ => true
  | .retire ls => ls.all fun p => laneWord p.2
  | .sliceRecovery _ _ ls _ => ls.all fun p => laneWord p.2
  | .cantonSupplyLoss _ _ => true
  | .ensignWatchdog => true
  | .ledgerPowered => true
  | .ledgerRotate => true
  | .smbReq bs _ _ => bs.length ≤ 255
  | .smbRsp => true
  | .smbMstat => true
  | .alertResponse => true
  | .ident _ => true
  | .sensor _ _ => true
  | .recInfo _ => true
  | .recRead _ _ => true
  | .recNext _ => true
  | .regRead _ _ => true
  | .regWrite _ _ _ => true
  | .flashProg _ _ data => data.length ≤ 240
  | .flashErase _ _ => true
  | .flashRead _ _ n => n.toNat ≤ 240
  | .dbgChallenge _ _ => true
  | .dbgUnlock _ _ => true
  | .dbgLock _ => true
  | .uartLine line _ => lineOk line
  | .extest => true
  | .dbgacc => true
  | .flashCmdProgram => true
  | .flashCmdErase => true
  | .flashCmdRead => true
  | .flashCommandEnd _ => true
  | .flashDataAccess _ => true
  | .sensorSample _ => true
  | .thermalStepUp _ => true
  | .thermalStepDown _ => true
  | .thermtrip _ => true
  | .powerCapTick _ drew => drew.length = 100
  | .pwrCapWrite _ _ => true
  | .cntClear => true
  | .clusterClassWrite _ _ => true
  | .pfcPauseExpiry _ _ => true
  | .mgtCrystalReturn => true
  | .crystalJudgeWindow _ => true
  | .candidateNoEdge _ => true
  | .ensignRestartDone => true

end Sys2Proof
end

