-- ==== Sys2Proof/Decode.lean ====
section
/-! DEFINITION. The decoder of command words. No row of spec/opcode_table.json gives a command any bits (a command is a
register access, a frame, a pennant or an event, not a word), so no word spells a command. The words of tile
instructions (R124 to R126), which are data of the tiles' instruction stores, are decoded in Machine/Decode.lean. -/
namespace Sys2Proof

/-- The command that a word of nbits bits spells by the table's bits: none, since the table gives no row any bits. -/
def decodeTableWord (_nbits _w : Nat) : Option Instr := none

end Sys2Proof
end

