-- ==== Sys2Proof/Machine/Bits.lean ====
section
/-! DEFINITION. Bit fields, byte strings (R8) and the operations on sparse maps. -/
namespace Sys2Proof.Machine

/-! ### Sparse maps -/

/-- The value at key k: the default d where nothing is listed. -/
def SMap.get {α : Type} (d : α) : SMap α → Nat → α
  | [], _ => d
  | (k', v) :: m, k => if k' = k then v else SMap.get d m k

/-- Insert or replace the value at k, keeping the keys rising. -/
def SMap.ins {α : Type} (k : Nat) (v : α) : SMap α → SMap α
  | [] => [(k, v)]
  | (k', v') :: m =>
    if k < k' then (k, v) :: (k', v') :: m
    else if k = k' then (k, v) :: m
    else (k', v') :: SMap.ins k v m

/-- Remove the entry at k. -/
def SMap.del {α : Type} (k : Nat) (m : SMap α) : SMap α :=
  m.filter fun p => p.1 ≠ k

/-- Write v at k in canonical form: writing the default removes the entry. -/
def SMap.put {α : Type} [DecidableEq α] (d : α) (m : SMap α) (k : Nat) (v : α) : SMap α :=
  if v = d then SMap.del k m else SMap.ins k v m

/-- Forget every entry with lo ≤ key < hi: those keys then hold the default. -/
def SMap.clear {α : Type} (m : SMap α) (lo hi : Nat) : SMap α :=
  m.filter fun p => p.1 < lo || hi ≤ p.1

/-- The canonical form: keys strictly rising, no value equal to the default. -/
def SMap.wf {α : Type} [DecidableEq α] (d : α) : SMap α → Bool
  | [] => true
  | [(_, v)] => v ≠ d
  | (k, v) :: (k', v') :: m => v ≠ d && k < k' && SMap.wf d ((k', v') :: m)

/-! ### Fields of words -/

/-- Bits [lo + n - 1 : lo] of w as a number. -/
def fld (w lo n : Nat) : Nat := (w >>> lo) % 2 ^ n

/-- Bit i of w. -/
def bitOf (w i : Nat) : Bool := w.testBit i

/-- 1 for true, 0 for false. -/
def b2n (b : Bool) : Nat := if b then 1 else 0

/-- A one-bit vector of a flag. -/
def b1 (b : Bool) : BitVec 1 := BitVec.ofBool b

/-- Sign-extend the n-bit number x to an integer. -/
def sext (x n : Nat) : Int :=
  let y := x % 2 ^ n
  if y < 2 ^ (n - 1) then (y : Int) else (y : Int) - 2 ^ n

/-- The bit length L of x: 2^(L-1) ≤ x < 2^L, and 0 for 0 (R45). -/
def bitLen (x : Nat) : Nat := if x = 0 then 0 else x.log2 + 1

/-- The number of 1 bits among the low n bits of x. -/
def popcount : Nat → Nat → Nat
  | 0, _ => 0
  | n + 1, x => x % 2 + popcount n (x / 2)

/-! ### Byte strings, little-endian (R8) -/

/-- The number that a little-endian byte string holds. -/
def leNat : List Byte → Nat
  | [] => 0
  | b :: bs => b.toNat + 256 * leNat bs

/-- The n low bytes of x, least significant first. -/
def leBytes : Nat → Nat → List Byte
  | 0, _ => []
  | n + 1, x => BitVec.ofNat 8 x :: leBytes n (x / 256)

/-- The n low bytes of x, most significant first (R8: frames of the exchange transport). -/
def beBytes (n x : Nat) : List Byte := (leBytes n x).reverse

/-- n bytes of the value b. -/
def fillBytes (n : Nat) (b : Byte) : List Byte := List.replicate n b

/-- The bytes of xs, padded with zeros or cut to length n. -/
def padTo (n : Nat) (xs : List Byte) : List Byte :=
  (xs ++ List.replicate (n - xs.length) 0).take n

/-- xs with the bytes from offset o replaced by ys. -/
def spliceAt (o : Nat) (ys xs : List Byte) : List Byte :=
  xs.take o ++ ys ++ xs.drop (o + ys.length)

/-- The bytes [o, o + n) of xs, zero past its end. -/
def sliceOf (o n : Nat) (xs : List Byte) : List Byte := padTo n (xs.drop o)

/-- The little-endian field of n bytes at offset o. -/
def leAt (o n : Nat) (xs : List Byte) : Nat := leNat (sliceOf o n xs)

/-- Saturating addition below 2^n. -/
def satAdd (n a b : Nat) : Nat := min (a + b) (2 ^ n - 1)

/-- A saturating increment of an n-bit counter (R202 and others). -/
def satInc {n : Nat} (x : BitVec n) (k : Nat := 1) : BitVec n :=
  BitVec.ofNat n (satAdd n x.toNat k)

/-- Subtract modulo 2^n. -/
def modSub (n a b : Nat) : Nat := (a + 2 ^ n - b % 2 ^ n) % 2 ^ n

/-- Update the element at index i of a list. -/
def updAt {α : Type} (i : Nat) (f : α → α) : List α → List α
  | [] => []
  | x :: xs => match i with
    | 0 => f x :: xs
    | j + 1 => x :: updAt j f xs

end Sys2Proof.Machine
end

