-- ==== Sys2Proof/Machine/MemState.lean ====
section
/-! DEFINITION. Engine memory, cluster sequencers, stream caches, bays and their registers (R260 to R291). -/
namespace Sys2Proof.Machine

/-- A byte memory with its check state: cells lists (address, byte), an unlisted address reading 0; marks lists
(address div 8, mark), the way a word's stored check bits differ from those of its data, an unlisted word having 0.
Class W of tile and cluster memory, and class A of a bay: the syndrome of R491. Class A of tile and cluster memory:
the failed byte-parity bits of R111. Class W of a bay: the bytes of the row's four syndromes (R264), syndrome i at words 2i
and 2i + 1, the low byte first. -/
structure Memory where
  cells : List Host.Cell := []
  marks : List Host.Cell := []
  deriving DecidableEq, Repr

/-- One line of a stream cache (R275): the bay row it holds, its 64 B as a number, and the prefetcher whose
outstanding row it is (R280). -/
structure CacheLine where
  row : Nat
  data : BitVec 512
  pf : Option (Fin 16) := none
  /-- 1 = a correctable error stands in the line, any other non-zero value an uncorrectable one (R265). -/
  mark : Byte := 0
  deriving DecidableEq, Repr

/-- One stream prefetcher (R279, R290). -/
structure Prefetcher where
  base : BitVec 42 := 0
  outerM1 : W16 := 0
  innerM1 : W16 := 0
  rowsM1 : BitVec 6 := 0
  outerStride : W32 := 0
  innerStride : W32 := 0
  depth : BitVec 11 := 0
  wrap : Bool := false
  trigger : Bool := false
  enable : Bool := false
  out : Nat := 0
  done : Bool := false
  err : Bool := false
  evict : W16 := 0
  ocur : W16 := 0
  icur : W16 := 0
  rcur : BitVec 6 := 0
  started : Bool := false
  deriving DecidableEq, Repr

/-- What feeds an entry of a DMA queue (R282): a host descriptor by its ring and number, a scrub or re-encoding of a store,
or an entry of the refresh table of a port. -/
inductive Feeder
  | host (ring : RingIx) (num : W32)
  | store (t : StoreRef)
  | port (p : PortIx) (entry : Nat)
  deriving DecidableEq, Repr

/-- One entry of a DMA queue (R282, R283): a piece of its feeder's transfer, the number of its rows that are not yet
handled, and the piece's status (R206). -/
structure DmaEntry where
  feeder : Feeder
  left : Nat := 0
  status : Byte := 0
  deriving DecidableEq, Repr

/-- One cluster DMA queue (R282, R290). -/
structure DmaQueue where
  entries : List DmaEntry := []
  doneCount : W32 := 0
  lastErr : Byte := 0
  deriving DecidableEq, Repr

/-- A queue in spill (R247): sequence numbers of the flit to go in next and to come out next, and the pool entries
that hold its flits, oldest first. The entries' contents stand in cluster memory (R248). -/
structure SpillQ where
  tile : TileIx
  queue : Fin 5
  seqIn : W32 := 0
  seqOut : W32 := 0
  slots : List Nat := []
  /-- Pops that wait for a flit of the pool, and flits in the queue that were there before or came from the pool. -/
  owed : Nat := 0
  kept : Nat := 0
  deriving DecidableEq, Repr

/-- One cluster: its sequencer, cache, queues, spill pool and CAN_CLU registers (R260 to R290, R247, R259). -/
structure Cluster where
  classW : BitVec 24 := 0
  cacheBanks : BitVec 5 := 0
  lastJob : W16 := 0xFFFF
  owner : BitVec 4 := 0
  owned : Bool := false
  dirty : Bool := false
  scrubbing : Bool := false
  reencoding : Bool := false
  spareMax : BitVec 5 := 0
  bankFail : BitVec 24 := 0
  hits : W32 := 0
  misses : W32 := 0
  corr : W16 := 0
  parity : W16 := 0
  uncorr : W16 := 0
  isolation : W16 := 0
  /-- Cache lines by set·8 + way, and the pseudo-LRU bits of each set. -/
  cache : SMap (Option CacheLine) := []
  plru : SMap (BitVec 7) := []
  pf : SMap Prefetcher := []
  dmaq : SMap DmaQueue := []
  /-- Spill pool (R247 to R249, CAN_SPILL_STAT). -/
  spillQs : List SpillQ := []
  spillKib : BitVec 16 := 0
  spillPeak : BitVec 14 := 0
  spillInteg : Bool := false
  spillExh : Bool := false
  spillOn : Bool := false
  /-- Remote requests of the cluster's tiles, by transaction tag (R207), and the next tag. -/
  nextTid : W16 := 0
  /-- Physical spares: the local tile number that SP0 and SP1 serve, 0xFF = free, 0xFE = failed (R23 to R26). -/
  sp0 : Byte := 0xFF
  sp1 : Byte := 0xFF
  deriving DecidableEq, Repr

/-- One 1 GiB bay region (R284, R285, R291). -/
structure Region where
  classW : Bool := false
  cache : Bool := false
  lastJob : W16 := 0xFFFF
  owner : BitVec 4 := 0
  owned : Bool := false
  dirty : Bool := false
  scrubbing : Bool := false
  reencoding : Bool := false
  deriving DecidableEq, Repr

/-- One bay (R270 to R274, R291). -/
structure Bay where
  regions : SMap Region := []
  /-- Corrections of each channel in the current second, and the bits of its bad lanes (R273). -/
  chanCorr : SMap Nat := []
  badLanes : SMap Nat := []
  deriving DecidableEq, Repr

/-- The outcome of one row of a transfer: its status code of R206, whether it was written as read, and its flags. -/
structure RowEnd where
  status : Nat := 0
  written : Bool := true
  poison : Bool := false
  corrected : Bool := false
  isolation : Bool := false
  host : Bool := false
  deriving DecidableEq, Repr

/-- What a request serves (R204, R207): a BULK of a tile under a tag; a prefetcher; rows of a host DMA from one row on,
with what the read of each gave, or the read itself where the list is empty; a host DMA's completion row; a refresh
entry of a port. -/
inductive ReqFor
  | bulk (tile : TileIx) (tag : BitVec 2)
  | prefetch (pf : Fin 16)
  | dma (ring : RingIx) (num : W32) (row : Nat) (ends : List RowEnd)
  | dmaEnd (ring : RingIx) (num : W32)
  | refresh (p : PortIx) (entry : Nat) (dst : ClusterIx)
  deriving DecidableEq, Repr

/-- One outstanding request (R207, R211). -/
structure Request where
  cluster : ClusterIx
  tid : W16
  write : Bool
  addr : Nat
  rows : Nat
  /-- Sent by the attachment of its cluster's router, not by the sequencer. -/
  port : Bool := false
  /-- A request that no packet carries: its store is on a nearer path and lets it wait (R204, R268, R386); the rows that it
  writes, each with its poison. -/
  near : Bool := false
  body : List (BitVec 512 × Bool) := []
  /-- The tile-memory offset of its first row. -/
  local_ : Nat
  for_ : ReqFor
  /-- The operation it belongs to. -/
  op : Nat
  slice : BitVec 4
  deriving DecidableEq, Repr

/-- One BULK operation outstanding (R163): its tile and tag and the requests not yet answered. -/
structure BulkOp where
  id : Nat
  tile : TileIx
  tag : BitVec 2
  left : Nat
  deriving DecidableEq, Repr

end Sys2Proof.Machine
end

