-- ==== Sys2Proof/Machine/MeshState.lean ====
section
/-! DEFINITION. The bulk mesh and the halyard network (R203 to R226). -/
namespace Sys2Proof.Machine

/-- One mesh flit with its sideband (R205). -/
structure MFlit where
  vc : BitVec 2
  lane : Bool
  head : Bool
  tail : Bool
  poison : Bool := false
  data : BitVec 512
  /-- The flit closes a packet whose rest was lost on a failed link: no end takes the packet (R210). -/
  cut : Bool := false
  deriving DecidableEq, Repr

/-- One mesh router (R203, R205, R212, R213). Inputs and outputs 0 to 3 are the links N, E, S, W, 4 the cluster
sequencer and 5 the attachment. -/
structure MeshRouter where
  /-- Buffered flits of input i, VC v, lane l at 6i + 2v + l. -/
  q : SMap (List MFlit) := []
  /-- Packets of the sequencer (4) and the attachment (5), and pennants of the same (6, 7), that wait for room in the
  router's buffers. -/
  inject : SMap (List (List MFlit)) := []
  /-- The bulk queue whose packet an output is sending, plus 1; 0 = none. -/
  prog : SMap Nat := []
  /-- Queues whose next flits, up to a tail, belong to a packet that was ended (R210). -/
  skip : List Nat := []
  /-- The bulk queue and the VC2 queue that an output served last. -/
  rr : SMap Nat := []
  rrP : SMap Nat := []
  /-- VC2 use of the last 16 cycles of each output, newest in bit 0 (R213). -/
  hist : SMap W16 := []
  /-- Flits sent on a link and not yet received, with their sequence numbers (R205). -/
  wire : SMap (List (BitVec 6 × MFlit)) := []
  /-- The last 32 flits of each link direction (R205). -/
  replay : SMap (List (BitVec 6 × MFlit)) := []
  seq : SMap (BitVec 6) := []
  /-- The sequence number that an input expects next, and replays in a row of that flit. -/
  expect : SMap (BitVec 6) := []
  fails : SMap Nat := []
  /-- Failed links, and whether the router itself is failed (R210). -/
  linkFail : BitVec 4 := 0
  dead : Bool := false
  /-- Flits of a packet arriving at the sequencer (output 4) or the attachment (5), by 6·output + 2·VC + lane, and the
  packets arrived whole, by output. -/
  asm : SMap (List MFlit) := []
  arrived : SMap (List (List MFlit)) := []
  deriving DecidableEq, Repr

/-- One round of a halyard flag (R222): its operation, arrivals by cluster, agents arrived, and the combined
value. -/
structure Round where
  op : Option (BitVec 3) := none
  arrivals : SMap Nat := []
  agents : List Nat := []
  acc : W16 := 0
  /-- An error ended the round without a result (R223). -/
  void : Bool := false
  /-- The last round's result, and the cantons whose agents have not taken it yet. -/
  result : W16 := 0
  toTake : List Nat := []
  deriving DecidableEq, Repr

end Sys2Proof.Machine
end

