-- ==== Sys2Proof/Machine/CantonState.lean ====
section
/-! DEFINITION. The state of one canton: its controller and its registers outside the tiles. -/
namespace Sys2Proof.Machine

/-- What a canton controller is doing in a handshake (R253, R255): nothing; letting issued instructions and BULK operations
complete after STOP; at rest, with STATE 0 reported; watching for a drained condition with its tiles running; drained, with
STATE 0 reported; waiting for its routers to switch; discarding flits of the old epoch after a PURGE switch. -/
inductive Watch
  | none
  | stopping
  | stopped
  | draining
  | drained
  | switching
  | purging
  deriving DecidableEq, Repr

/-- What a QUIESCE or RESUME pennant tells a canton controller (R243): OP of QUIESCE, or 0 for RESUME. -/
structure QMsg where
  slice : Nat
  op : Nat
  epoch : BitVec 4 := 0
  deriving DecidableEq, Repr

/-- What a QUIESCE_ACK pennant tells the ensign complex (R243). -/
structure QAck where
  slice : Nat
  op : Nat
  state : Nat
  discards : Nat := 0
  deriving DecidableEq, Repr

/-- One canton. -/
structure Canton where
  /-- The slot counter (R175). -/
  slot : BitVec 4 := 0
  /-- Whether the canton is powered, has joined the networks, and is retired for good (R393, R410). -/
  powered : Bool := false
  joined : Bool := false
  retired : Bool := false
  isolated : Bool := false
  /-- Defects of R405 in force, as entry words: fused, ledgered, and found by test; NO_PORT and NO_BAY. -/
  defects : List W32 := []
  noPort : Bool := false
  noBay : Bool := false
  /-- Engine time since which the core clock has stood below ratio 0 (CAN_CLK_STAT.DOWN_US). -/
  downSince : Option Nat := none
  /-- Powered off in service by the thermal policy or by plan (R396). -/
  offByPlan : Bool := false
  /-- The thermal policy powered it off (R469). -/
  offHot : Bool := false
  /-- Engine time at which the thermal policy asked for a planned power-off that is not complete yet (R469). -/
  planNs : Option Nat := none
  /-- Waypoint table: entries with WPV in bit 15, UNREACH in bit 14 and WPT in [12:0] (R209). -/
  wpt : SMap W16 := []
  wptGen : W32 := 0
  /-- Failed halyard links by direction (R223). -/
  halFail : BitVec 4 := 0
  /-- Drain watch (R253). -/
  watch : Watch := .none
  watchSlice : BitVec 4 := 0
  /-- Flits discarded since a PURGE switch (R255). -/
  purged : Nat := 0
  /-- Ratio requests of the thermal and power-cap controls (R389). -/
  thermReq : BitVec 2 := 0
  capReq : BitVec 2 := 0
  /-- Sensor samples (R468): 1/16 °C, 1/16 °C, mV, 0.1 A. -/
  temp : W16 := 0
  bayTemp : W16 := 0x8000
  vcore : W16 := 0
  icore : W16 := 0
  /-- Staged transaction entries held in shadows: (offset, mask, value) (R368). -/
  shadow : List (Nat × Nat × Nat) := []
  deriving DecidableEq, Repr

end Sys2Proof.Machine
end

