-- ==== Sys2Proof/Machine/SliceState.lean ====
section
/-! DEFINITION. Slices, their runs and reconfigurations (R227 to R259). -/
namespace Sys2Proof.Machine

/-- A fetched descriptor (R353 to R355): its ring, its number and its 64 bytes. -/
structure Desc where
  ring : RingIx
  num : W32
  bytes : List Byte
  started : Bool := false
  deriving DecidableEq, Repr

/-- A RUN in progress (R240, R241): the descriptor that its completion answers, and the cantons that have started. -/
structure RunSt where
  desc : Desc
  resumed : List Nat := []
  deriving DecidableEq, Repr

/-- What a handshake with a slice's cantons is for: a RECONFIGURE's switch, the planned power-off of a canton and whether the
thermal policy asks for it (R393), a LOAD_IMAGE over the slice with the image's bytes and whether errors in them were
corrected (R242, R360), or its UNLOAD (R356). -/
inductive Goal
  | switch
  | off (c : Nat) (thermal : Bool)
  | load (image : List Byte) (fixed : Bool)
  | unload
  deriving DecidableEq, Repr

/-- A RECONFIGURE in progress, or another handshake in the same steps (R252 to R255). purge: the mode; a stop begins as a PURGE
does. step: the step of R253 or R255 it stands in.
replies: for each canton that has answered, its last STATE plus 1. -/
structure ReconfSt where
  desc : Option Desc
  purge : Bool
  config : Nat
  epoch : BitVec 4
  step : Nat
  /-- PHASE when it was accepted: a slice that was only loaded stays so. -/
  was : BitVec 4
  replies : SMap Nat := []
  discards : Nat := 0
  goal : Goal := .switch
  deriving DecidableEq, Repr

/-- One slice. -/
structure Slice where
  loaded : Bool := false
  cx0 : BitVec 4 := 0
  cy0 : BitVec 4 := 0
  cw : BitVec 4 := 0
  ch : BitVec 4 := 0
  job : W16 := 0xFFFF
  endFlag : Byte := 0xFF
  endOp : Byte := 0
  spillKib : W16 := 0
  flags : W16 := 0
  /-- The bytes of the loaded image, its slice set, and where it came from (R443 step 5). -/
  image : List Byte := []
  set : Nat := 0
  srcKind : Byte := 0
  srcSlot : Byte := 0
  srcAddr : Nat := 0
  /-- Cantons of the rectangle that have rejoined since the load, which the slice no longer owns (R396). -/
  left : List Nat := []
  /-- The alternative applied to each stage, 0 = none (R237). -/
  shifts : SMap Nat := []
  clean : W16 := 0
  spills : W16 := 0
  next : BitVec 4 := 0
  cur : BitVec 4 := 0
  phase : BitVec 4 := 0
  mode : BitVec 2 := 0
  spillExh : Bool := false
  deadlockSeen : Bool := false
  epochErr : Bool := false
  run : Option RunSt := none
  reconf : Option ReconfSt := none
  /-- Epochs of abandoned RECONFIGUREs, each with the cantons that have not replied yet (R254). -/
  gone : List (BitVec 4 × List Nat) := []
  /-- The first tile that stopped for a fault of its own, or 0x3_FFFF, and its cause (R361, R492). -/
  faultTile : BitVec 18 := 0
  faultCause : Byte := 0
  /-- The status a RUN completion carries for the stop in force: 0x07, 0x08 or 0x09 (R246, R249, R362). -/
  stopStatus : Byte := 0
  /-- Tiles whose raised probe the ensign complex has been told of (R244), and the tiles of the last confirmed cycle in
  cycle order (R249). -/
  probes : List Nat := []
  cycle : List Nat := []
  deriving DecidableEq, Repr

end Sys2Proof.Machine
end

