-- ==== Sys2Proof/Machine/HostState.lean ====
section
/-! DEFINITION. The host interface: rings, configuration transactions, MSI-X, indirect access (R122, R343 to R370). -/
namespace Sys2Proof.Machine

/-- One ring context (R351, R352). -/
structure Ring where
  sqb : BitVec 58 := 0
  cqb : BitVec 58 := 0
  irqTime : W16 := 0
  irqCount : Byte := 0
  vector : BitVec 11 := 0
  weight : BitVec 4 := 1
  log2 : BitVec 5 := 4
  enable : Bool := false
  /-- RESET: set until the ring has drained. -/
  reset : Bool := false
  cause : Byte := 0
  /-- 0 = DISABLED, 1 = ACTIVE, 2 = DRAINING, 3 = ERROR. -/
  state : BitVec 2 := 0
  sqTail : W32 := 0
  sqFetch : W32 := 0
  cqProd : W32 := 0
  cqHead : W32 := 0
  /-- Completions written since the ring last signalled (R365). -/
  unsignalled : Nat := 0
  deriving DecidableEq, Repr

/-- One staged entry of a transaction (R367): the register's offset, the bits written, their value. -/
structure TxnEntry where
  off : Nat
  mask : W64
  val : W64
  deriving DecidableEq, Repr

/-- The configuration transaction (R366 to R370) beside TXN_STAT. -/
structure Txn where
  stage : List TxnEntry := []
  failCanton : Byte := 0xFF
  failOff : BitVec 24 := 0
  /-- The commit's descriptor, where a ring owns it. -/
  desc : Option Desc := none
  /-- Cantons asked, votes received: canton to (vote, cause, entry); cantons that still have to apply, and those of them
  that the broadcast no longer reaches (R225). -/
  asked : List Nat := []
  votes : SMap (Option (Bool × Byte × W16)) := []
  apply : List Nat := []
  lost : List Nat := []
  deriving DecidableEq, Repr

/-- A posted indirect write in progress (R122). -/
structure AccWrite where
  space : BitVec 5
  phys : Bool
  tile : BitVec 19
  offset : BitVec 13
  data : W64
  deriving DecidableEq, Repr

/-- A posted request of the engine to the host (R346): a write, or an MSI-X message. -/
inductive HostReq
  | write (addr : Nat) (bs : List Byte)
  | msg (addr : W64) (data : W32)
  deriving DecidableEq, Repr

/-- A host DMA whose entries wait for their completion (R283, R358): its ring and number, what its completion will carry, and
its completion row. -/
structure DmaJob where
  ring : RingIx
  num : W32
  status : Byte := 0
  poison : Bool := false
  corrected : Bool := false
  isolation : Bool := false
  bytes : Nat := 0
  poisoned : Nat := 0
  lowest : Option Nat := none
  /-- The lowest row that failed, whose status the completion carries. -/
  failed : Option Nat := none
  compAddr : Nat := 0
  compValue : W64 := 0
  deriving DecidableEq, Repr

/-- The host interface. -/
structure HostIf where
  rings : SMap Ring := []
  /-- Descriptors fetched and not completed, in the order of their fetch. -/
  descs : List Desc := []
  dma : List DmaJob := []
  /-- The ring served last, and descriptors served in its turn (R353). -/
  served : BitVec 12 := 0xFFF
  turn : Nat := 0
  /-- MSI-X table by 4 B words (entry 4v + word), pending bits, messages sent: (address, data). -/
  msix : SMap W32 := []
  pba : SMap Bool := []
  msgs : List (W64 × W32) := []
  /-- Host memory as the engine's requests see it; an unlisted byte reads 0. -/
  mem : List Host.Cell := []
  /-- Posted requests that wait for Bus Master Enable (R346). -/
  held : List HostReq := []
  /-- Configuration space: Memory Space Enable, Bus Master Enable, MSI-X Enable and Function Mask; D3hot (R343). -/
  mse : Bool := false
  bme : Bool := false
  msixEn : Bool := false
  msixMask : Bool := false
  d3 : Bool := false
  aer : Aer := {}
  linkUp : Bool := false
  /-- The PCI Express domain is failed (R385); ENGINE_STATE before HALTED (R386, R450). -/
  pcieLost : Bool := false
  beforeHalt : BitVec 4 := 0
  txn : Txn := {}
  /-- Posted indirect writes in progress, oldest first (R122). -/
  accWrites : List AccWrite := []
  /-- What the host's last read of the function returned. -/
  readBack : List Byte := []
  deriving DecidableEq, Repr

end Sys2Proof.Machine
end

