-- ==== Sys2Proof/Machine/MgmtState.lean ====
section
/-! DEFINITION. The hoist island and the module (R397 to R420, R455 to R490). -/
namespace Sys2Proof.Machine

/-- The module's conditions with a module in the slot (R474). -/
inductive Condition
  | unpowered
  | reset
  | operating
  deriving DecidableEq, Repr

/-- A command of the flash engine (R457): program bytes from an address, erase a sector, read bytes. -/
inductive FlashOp
  | program (addr : Nat) (bs : List Byte)
  | erase (addr : Nat)
  | read (addr n : Nat)
  deriving DecidableEq, Repr

/-- A queued flash command: its path, none for the BAR0 registers, and for a request of R460 its OP. -/
structure FlashCmd where
  path : Option Via
  op : FlashOp
  code : Byte := 0
  deriving DecidableEq, Repr

/-- The instruction that the test access port holds (R463). -/
inductive TapInstr
  | bypass
  | idcode
  | sample
  | extest
  | dbgchal
  | dbgunlock
  | dbgacc
  deriving DecidableEq, Repr

/-- One counter of R465. -/
structure Counter where
  source : Byte := 0
  count : BitVec 48 := 0
  wrapped : Bool := false
  deriving DecidableEq, Repr

/-- The module's newest sample (MGT_MOD_SENS, R468). -/
structure ModSens where
  vin : W16 := 0
  iin : W16 := 0
  inlet : W16 := 0
  outlet : W16 := 0
  deriving DecidableEq, Repr

/-- A valid boot configuration as the hoist island read it in step 1 of R397 (R413): REF_TP, TPORT, and its entries as
(OFFSET, VALUE). -/
structure BootCfg where
  refTp : Bool
  tport : Nat
  entries : List (Nat × W64)
  deriving DecidableEq, Repr

/-- The hoist island, its flash, and the module's pins. -/
structure Mgmt where
  /-- Module flash outside the ledger and the fuse copies: an unlisted byte reads 0xFF (R456). -/
  flash : List Host.Cell := []
  /-- Fused values: the serial number (GLB_SERIAL), the stepping (GLB_ID), each port's MAC address (PRT_MAC), the
  manufacturer code of IDCODE and the debug key K (R463, R464). -/
  serial : W64 := 0
  stepping : Byte := 0
  macs : SMap (BitVec 48) := []
  maker : BitVec 11 := 0
  key : BitVec 256 := 0
  /-- Fuse blocks that are not those of a canton without defects, by canton; the ledger's copies; the blocks as the
  canton controllers loaded them (R405, R406, R419). -/
  fuses : SMap (List W32) := []
  fuseCopy : SMap (List W32) := []
  fuseLoaded : SMap (List W32) := []
  cond : Condition := .reset
  /-- The main input switch is closed; PGOOD; THERMTRIP_N is asserted (R399, R469, R481). -/
  mainOn : Bool := false
  pgood : Bool := false
  thermtrip : Bool := false
  /-- PWR_EN samples in a row that read high, and low (R399). -/
  enHigh : Nat := 0
  enLow : Nat := 0
  /-- The last sample read high with the 54 V input in range (R397: time 0); PWR_EN has read low since main power was last
  lost with PWR_EN high (R399: a rising PWR_EN starts the sequence again). -/
  enReady : Bool := false
  enArmed : Bool := true
  /-- Whether flash holds a valid copy of the hoist and of the ensign firmware (R415). -/
  hoistOk : Bool := false
  ensignOk : Bool := false
  bcfg : Option BootCfg := none
  /-- Ports whose boot entries have applied (R413). -/
  bootPorts : BitVec 20 := 0
  /-- The wave: the next start slot, retries made, the canton last retried (R402, R403). -/
  waveSlot : Nat := 0
  retries : Nat := 0
  lastRetry : Option Nat := none
  /-- Cantons in the order in which they joined (R411, R412); ports that firmware has taken, and those it initialised, one
  bit each (R412); whether the last bring-up ended in READY (R415). -/
  joinOrder : List Nat := []
  portTried : BitVec 20 := 0
  portInit : BitVec 20 := 0
  cameReady : Bool := false
  /-- Engine times of time 0 of R397 and of the start of step 5. -/
  startNs : Nat := 0
  waveNs : Nat := 0
  /-- The firmware has still to select the first reference, and the timing port (R401). -/
  firstWanted : Bool := false
  tpWanted : Bool := false
  /-- Passing windows in a row of the management crystal, and whether it has failed since it was last in use (R378,
  R385). -/
  xtalPass : Nat := 0
  fellBack : Bool := false
  /-- The SMBus mailbox (R459): its request in progress, its response; what the last SMBus read returned. -/
  busy : Bool := false
  rspReady : Bool := false
  overrun : Bool := false
  rsp : List Byte := []
  smbOut : List Byte := []
  /-- ALERT_N is released since a read of the Alert Response Address (R461). -/
  alertOff : Bool := false
  /-- Lines that the UART has sent (R462). -/
  uartOut : List (List Byte) := []
  tap : TapInstr := .idcode
  /-- What the last DBGCHAL or DBGUNLOCK shifts out (R463). -/
  tapOut : List Byte := []
  /-- The NONCE issued last and not yet used, and the engine time of its issue (R464). -/
  nonce : Option (W64 × Nat) := none
  /-- The BAR0 path's page buffer by word, and the flash engine's commands, oldest first (R457, R471). -/
  page : SMap W64 := []
  flashQ : List FlashCmd := []
  sens : ModSens := {}
  /-- A coolant inlet above 30 °C has been reported and has not read 28 °C or below since (R468). -/
  inletHot : Bool := false
  /-- Milliseconds in a row below 0.97 of the cap, and milliseconds to wait before the next lowering (R470). -/
  lowMs : Nat := 0
  capWait : Nat := 0
  /-- The counters of R465 by 8·cluster + i, 40,000 + 8·canton + i, 50,000 + 16·port + i; CNT_CTRL.FREEZE. -/
  counters : SMap Counter := []
  freeze : Bool := false
  /-- The ensign complex is being restarted (R450). -/
  restarting : Bool := false
  /-- Engine time of the ensign complex's last restart (R450). -/
  restartNs : Option Nat := none
  deriving DecidableEq, Repr

/-- n bytes of flash from an address. -/
def Mgmt.bytes (m : Mgmt) (a n : Nat) : List Byte := (List.range n).map fun i => SMap.get 0xFF m.flash (a + i)

end Sys2Proof.Machine
end

