-- ==== Sys2Proof/Machine/PortState.lean ====
section
/-! DEFINITION. Ports and update engines beside their registers (R292 to R342). -/
namespace Sys2Proof.Machine

/-- One inbound flow (R328 to R330). -/
structure FlowIn where
  peer : BitVec 128
  flow : W32
  express : Bool
  /-- The next SEQ expected: every lower one has been received. -/
  cum : W32
  /-- Frames above a gap, each with whether it was refused on arrival, in no order. -/
  held : List (Bool × WxtMsg) := []
  /-- Frames received in order that wait for their consumer, oldest first. -/
  queue : List WxtMsg := []
  /-- Frames received in order and not yet acknowledged, and whether any frame received is not. -/
  unacked : Nat := 0
  owed : Bool := false
  /-- The gap last named in a NACK GAP, and the engine time of that NACK. -/
  gap : Option (W32 × Nat) := none
  deriving DecidableEq, Repr

/-- One frame in a retransmission buffer (R332): its message with FLAGS, the timeouts it has had, and whether a NACK GAP
has named it. -/
structure TxFrame where
  seq : W32
  bytes : List Byte
  timeouts : Nat := 0
  gapSent : Bool := false
  deriving DecidableEq, Repr

/-- One outbound flow (R328, R332). -/
structure FlowOut where
  next : W32 := 0
  /-- Whether no frame has been sent since the flow started. -/
  fresh : Bool := true
  buf : List TxFrame := []
  /-- Messages that wait for room, for the link or for the end of a pause: TYPE, STEP and body. -/
  wait : List (Byte × BitVec 48 × List Byte) := []
  deriving DecidableEq, Repr

/-- A WXT frame that is to start: its class, its flow, the address it goes to, its message. -/
structure TxPend where
  express : Bool
  flow : Nat
  dst : BitVec 128
  msg : List Byte
  deriving DecidableEq, Repr

/-- A WXT frame as a port sends it (R317, R319, R321 to R324): the half of a breakout link; whether it goes through the express
MAC; its MAC addresses; the TCI of its 802.1Q tag; its DSCP; its IP version and addresses; its UDP ports and checksum; its
message. -/
structure SentFrame where
  half : Bool
  expressMac : Bool
  src : BitVec 48
  dst : BitVec 48
  tag : Option W16
  dscp : BitVec 6
  ipv6 : Bool
  srcIp : BitVec 128
  dstIp : BitVec 128
  srcPort : W16
  dstPort : W16
  sum : W16
  msg : List Byte
  deriving DecidableEq, Repr

/-- What a port puts on its link: a WXT frame; a PFC frame with its priority and quanta; an answer to an ARP request or a
neighbour solicitation, with the half that it goes out on. -/
inductive Sent
  | wxt (f : SentFrame)
  | pfc (prio : BitVec 3) (quanta : W16)
  | neighbour (half : Bool) (ip : BitVec 128) (mac : BitVec 48)
  deriving DecidableEq, Repr

/-- An export in progress (R336): its step, the format, the next element and how many are left. -/
structure GxRun where
  step : Nat
  fmt : Nat
  off : Nat
  left : Nat
  deriving DecidableEq, Repr

/-- What a recovery command of an update engine will end with: CMD_RESULT, the state entered, and whether a commit goes on
from step 2 of R307 (R314). -/
structure UeEnd where
  result : Nat
  state : Nat
  commit : Bool := false
  deriving DecidableEq, Repr

/-- One port with its update engine. -/
structure Port where
  /-- Pending hyperparameter bank: HP0 to HP6 and ACT_STEP (R299). -/
  hpPend : Option (List W32 × Nat) := none
  /-- The element at which the next chunk of the step must start (R298). -/
  expect : Nat := 0
  /-- Gradient elements accepted and not yet applied: raw FP32 values. -/
  grad : List W32 := []
  /-- The next group to apply. -/
  group : Nat := 0
  /-- Counts of R301 for the step. -/
  stepNf : Nat := 0
  stepOv : Nat := 0
  /-- The flows that steps are bound to: step, peer and FLOW (R335). -/
  bound : List (Nat × BitVec 128 × W32) := []
  /-- Entries of the refresh table that the refresh in progress has handled (R311). -/
  refreshAt : Option Nat := none
  /-- The state before BUSY, what the command in BUSY ends with once it has run, and whether BUSY follows EN = 1
  (R314, R449). -/
  was : Nat := 0
  cmdEnd : Option UeEnd := none
  enabling : Bool := false
  /-- The reason of the last EXPEL (R338). -/
  expelReason : W16 := 0
  flowsIn : List FlowIn := []
  /-- Flows that have closed with an ACK still due (R328, R330). -/
  closed : List FlowIn := []
  express : FlowOut := {}
  bulk : FlowOut := {}
  /-- Frames formed that wait for the link or the end of a pause, oldest first (R322). -/
  ctl : List TxPend := []
  /-- The export in progress (R336). -/
  gx : Option GxRun := none
  /-- Whether a HELLO has been sent since the port was last without registration, and whether REG_LATE has been noted
  since (R333). -/
  helloSent : Bool := false
  late : Bool := false
  /-- Priorities that received PFC frames pause, and whether the port holds its peer's bulk priority paused (R322). -/
  paused : Byte := 0
  pauseSent : Bool := false
  /-- What the port has put on its link, oldest first. -/
  sent : List Sent := []
  deriving DecidableEq, Repr

end Sys2Proof.Machine
end

