-- ==== Sys2Proof/Machine/RecState.lean ====
section
/-! DEFINITION. Error records, their sources and the NV ledger (R423 to R450). -/
namespace Sys2Proof.Machine

/-- One error record: the fields of the burgee section (R426) and the record number that its RecordID carries. -/
structure Rec where
  cls : W16
  disp : BitVec 2 := 1
  isolation : Bool := false
  phys : Bool := false
  block : Byte := 0
  source : W16 := 0
  seq : W32 := 0
  time : W64 := 0
  canton : Byte := 0xFF
  cluster : Byte := 0xFF
  tile : Byte := 0xFF
  site : Byte := 0xFF
  index : Byte := 0xFF
  slice : Byte := 0xFF
  job : W16 := 0xFFFF
  temp : W16 := 0
  vcore : W16 := 0
  instr : W16 := 0xFFFF
  stopCause : Byte := 0
  unit : Byte := 0
  opcode : Byte := 0xFF
  afmt : Byte := 0xFF
  bfmt : Byte := 0xFF
  resExp : Byte := 0xFF
  resAct : Byte := 0xFF
  replay : Byte := 0
  classify : Byte := 0
  action : Byte := 0
  step : W64 := 0
  detail0 : W64 := 0
  detail1 : W64 := 0
  occur : W32 := 0
  coalesced : W32 := 0
  dropped : W32 := 0
  related : W64 := 0
  /-- CAPTURE (R429): 256 B where present. -/
  capture : Option (List Byte) := none
  /-- The record's number in this boot, and the boot count (R424); given when the record is framed. -/
  number : BitVec 40 := 0
  boot : BitVec 24 := 0
  deriving DecidableEq, Repr

/-- The unit of a detection (R433): CANTON, CLUSTER, TILE, SITE, BLOCK and INDEX, with DETAIL0 for the memory
class. -/
structure RecUnit where
  cls : W16
  canton : Byte
  cluster : Byte
  tile : Byte
  site : Byte
  block : Byte
  index : Byte
  row : W64
  deriving DecidableEq, Repr

/-- A coalescing run (R433): its class and unit, and the engine time of its first detection. -/
structure RecRun where
  unit : RecUnit
  first : Nat
  deriving DecidableEq, Repr

/-- One record source (R431, R433). -/
structure RecSource where
  seq : W32 := 0
  held : List Rec := []
  dropped : W32 := 0
  coalesced : W32 := 0
  runs : List RecRun := []
  deriving DecidableEq, Repr

/-- One detection that R439 counts: its unit, its powered second and its weight (2 where uncorrected). -/
structure Detection where
  unit : RecUnit
  at_ : Nat
  weight : Nat
  deriving DecidableEq, Repr

/-- One NV-ledger entry that counts (R437). -/
structure LedgerEntry where
  kind : Byte
  src : Byte := 0
  canton : Byte := 0
  sub : Byte := 0xFF
  word : W32 := 0
  poweredS : W32 := 0
  cls : W16 := 0
  outcome : Byte := 0
  aux : W64 := 0
  deriving DecidableEq, Repr

/-- The NV ledger (R437, R438): the entries of the half in use and of the other half, oldest first, and whether the
second half of the flash area is the one in use. -/
structure Ledger where
  a : List LedgerEntry := [{ kind := 8, aux := 1 }]
  b : List LedgerEntry := []
  second : Bool := false
  deriving DecidableEq, Repr

/-- A unit waiting for retirement, or a replay waiting for an idle window (R440, R441). -/
structure PendingUnit where
  unit : RecUnit
  record : Rec
  since : Nat := 0
  deriving DecidableEq, Repr

/-- The error-record path (R431 to R450); its registers stand with the others. -/
structure ErrState where
  /-- Canton controllers and port blocks, by SOURCE code. -/
  sources : SMap RecSource := []
  /-- Records in the ensign complex that wait for the ring, oldest first. -/
  ensign : List Rec := []
  /-- The hoist island's queue for the BMC (R436): the last 256 records, and how many the BMC has read past. -/
  bmc : List Rec := []
  nextNumber : Nat := 0
  detections : List Detection := []
  replays : List PendingUnit := []
  retire : List PendingUnit := []
  ledger : Ledger := {}
  /-- DISP 0 records written and not yet signalled (R435). -/
  unsignalled : Nat := 0
  /-- ERR_POWERED: powered time in seconds (R437). -/
  powered : W64 := 0
  /-- Powered seconds of the last POWERED entry. -/
  poweredAt : W64 := 0
  /-- For each slice, the class and unit of its last fault stop since a RUN that completed with SUCCESS (R444). -/
  lastStop : SMap (Option RecUnit) := []
  /-- For each slice, the record of its last fault stop that the ensign complex has (R443). -/
  stopRec : SMap (Option Rec) := []
  deriving DecidableEq, Repr

end Sys2Proof.Machine
end

