-- ==== Sys2Proof/Machine/Float.lean ====
section
/-! DEFINITION. Exact values, the number formats of R36 to R41 and the one rounding of R78 and R83. -/
namespace Sys2Proof.Machine

/-- An exact value: NaN, an infinity, a signed zero, or m · 2^e with m ≠ 0. -/
inductive XVal
  | nan
  | inf (neg : Bool)
  | zero (neg : Bool)
  | fin (m : Int) (e : Int)
  deriving DecidableEq, Repr

/-- The exact value m · 2^e, and +0 where m is 0. -/
def XVal.ofInt (m e : Int) : XVal := if m = 0 then .zero false else .fin m e

/-- The value (−1)^neg · mag · 2^e, a zero keeping its sign. -/
def XVal.ofMag (neg : Bool) (mag : Nat) (e : Int) : XVal :=
  if mag = 0 then .zero neg else .fin (if neg then -(mag : Int) else (mag : Int)) e

/-- The sign bit of a value; a NaN has none. -/
def XVal.neg : XVal → Bool
  | .nan => false
  | .inf n => n
  | .zero n => n
  | .fin m _ => m < 0

/-- m · 2^d for d ≥ 0. -/
def shlInt (m : Int) (d : Int) : Int := m * 2 ^ d.toNat

/-- The exact sum of m1 · 2^e1 and m2 · 2^e2, as (m, e). -/
def addDy (m1 e1 m2 e2 : Int) : Int × Int :=
  let e := min e1 e2
  (shlInt m1 (e1 - e) + shlInt m2 (e2 - e), e)

/-- m1 · 2^e1 compared with m2 · 2^e2: less than. -/
def ltDy (m1 e1 m2 e2 : Int) : Bool :=
  let e := min e1 e2
  shlInt m1 (e1 - e) < shlInt m2 (e2 - e)

/-- floor(m · 2^e) as an integer. -/
def floorDy (m e : Int) : Int :=
  if 0 ≤ e then shlInt m e else m.fdiv (2 ^ (-e).toNat)

/-! ### Floating-point formats (R39) -/

/-- The layout of one floating-point format: exponent and mantissa bits, bias, the encoding of the largest
finite magnitude, whether it has infinities, and its canonical NaN where it has one. -/
structure FloatFmt where
  expBits : Nat
  manBits : Nat
  bias : Nat
  maxFin : Nat
  hasInf : Bool
  nan : Option Nat
  deriving DecidableEq, Repr

/-- R39, row 0x00. -/
def fmtFP32 : FloatFmt := ⟨8, 23, 127, 0x7F7FFFFF, true, some 0x7FC00000⟩
/-- R39, row 0x01. -/
def fmtBF16 : FloatFmt := ⟨8, 7, 127, 0x7F7F, true, some 0x7FC0⟩
/-- R39, row 0x02. -/
def fmtFP16 : FloatFmt := ⟨5, 10, 15, 0x7BFF, true, some 0x7E00⟩
/-- R39, row 0x03. -/
def fmtE4M3 : FloatFmt := ⟨4, 3, 7, 0x7E, false, some 0x7F⟩
/-- R39, row 0x04. -/
def fmtE5M2 : FloatFmt := ⟨5, 2, 15, 0x7B, true, some 0x7E⟩
/-- R39, row 0x05. -/
def fmtE3M2 : FloatFmt := ⟨3, 2, 3, 0x1F, false, none⟩
/-- R39, row 0x06. -/
def fmtE2M3 : FloatFmt := ⟨2, 3, 1, 0x1F, false, none⟩
/-- R39, row 0x07. -/
def fmtE2M1 : FloatFmt := ⟨2, 1, 1, 0x7, false, none⟩

/-- The sign bit's position: the element width less one. -/
def FloatFmt.signBit (f : FloatFmt) : Nat := f.expBits + f.manBits

/-- The element width in bits. -/
def FloatFmt.width (f : FloatFmt) : Nat := f.expBits + f.manBits + 1

/-- (S, mag, e0) of a finite encoding (R46): normal, subnormal or zero. -/
def FloatFmt.parts (f : FloatFmt) (w : Nat) : Bool × Nat × Int :=
  let s := bitOf w f.signBit
  let ex := fld w f.manBits f.expBits
  let man := fld w 0 f.manBits
  if ex = 0 then (s, man, 1 - (f.bias : Int) - f.manBits)
  else (s, 2 ^ f.manBits + man, (ex : Int) - f.bias - f.manBits)

/-- Whether an encoding is an infinity (R39). -/
def FloatFmt.isInf (f : FloatFmt) (w : Nat) : Bool :=
  f.hasInf && w % 2 ^ f.signBit = (2 ^ f.expBits - 1) * 2 ^ f.manBits

/-- Whether an encoding is a NaN (R39): above the infinity, or above the largest finite value where there is no
infinity but a NaN. -/
def FloatFmt.isNan (f : FloatFmt) (w : Nat) : Bool :=
  match f.nan with
  | none => false
  | some _ =>
    if f.hasInf then (2 ^ f.expBits - 1) * 2 ^ f.manBits < w % 2 ^ f.signBit
    else f.maxFin < w % 2 ^ f.signBit

/-- The value of an encoding (R39, R47). -/
def FloatFmt.val (f : FloatFmt) (w : Nat) : XVal :=
  if f.isNan w then .nan
  else if f.isInf w then .inf (bitOf w f.signBit)
  else let (s, mag, e) := f.parts w
    XVal.ofMag s mag e

/-! ### Rounding (R78, R83) -/

/-- num / 2^sh rounded to an integer: to nearest, ties to even, or toward zero where rz. -/
def roundShift (rz : Bool) (num sh : Nat) : Nat :=
  let q := num / 2 ^ sh
  if rz || sh = 0 then q
  else
    let r := num % 2 ^ sh
    let half := 2 ^ (sh - 1)
    if r < half then q
    else if r = half then q + q % 2
    else q + 1

/-- The magnitude encoding of mag · 2^e in format f with the exponent unbounded above (R83): subnormals are
delivered, and an encoding above maxFin is an overflow. -/
def FloatFmt.roundMag (f : FloatFmt) (rz : Bool) (mag : Nat) (e : Int) : Nat :=
  if mag = 0 then 0
  else
    let qmin : Int := 1 - (f.bias : Int) - f.manBits
    let q : Int := max (e + (mag.log2 : Int) - f.manBits) qmin
    let k := if q ≤ e then mag * 2 ^ (e - q).toNat else roundShift rz mag (q - e).toNat
    k + (q - qmin).toNat * 2 ^ f.manBits

/-- Round m · 2^e to the nearest integer, ties to even, or toward zero where rz (R85). -/
def roundToInt (rz : Bool) (m e : Int) : Int :=
  let k : Nat := if 0 ≤ e then m.natAbs * 2 ^ e.toNat else roundShift rz m.natAbs (-e).toNat
  if m < 0 then -(k : Int) else (k : Int)

/-! ### FP32 arithmetic (R78, R101) -/

/-- The canonical NaN of FP32. -/
def nan32 : W32 := 0x7FC00000#32
/-- An FP32 infinity. -/
def inf32 (neg : Bool) : W32 := if neg then 0xFF800000#32 else 0x7F800000#32
/-- An FP32 zero. -/
def zero32 (neg : Bool) : W32 := if neg then 0x80000000#32 else 0#32

/-- RN32 of a value: round to nearest even, subnormals included, overflow to infinity (R78). -/
def rn32 : XVal → W32
  | .nan => nan32
  | .inf n => inf32 n
  | .zero n => zero32 n
  | .fin m e =>
    let k := fmtFP32.roundMag false m.natAbs e
    let k := if fmtFP32.maxFin < k then 0x7F800000 else k
    BitVec.ofNat 32 (k + (if m < 0 then 2 ^ 31 else 0))

/-- The value of an FP32 encoding. -/
def val32 (w : W32) : XVal := fmtFP32.val w.toNat

/-- Exact sum of two values, with the zero signs of IEEE 754 under round-to-nearest (R78). -/
def XVal.add : XVal → XVal → XVal
  | .nan, _ => .nan
  | _, .nan => .nan
  | .inf a, .inf b => if a = b then .inf a else .nan
  | .inf a, _ => .inf a
  | _, .inf b => .inf b
  | .zero a, .zero b => .zero (a && b)
  | .zero _, y => y
  | x, .zero _ => x
  | .fin m1 e1, .fin m2 e2 => let r := addDy m1 e1 m2 e2; XVal.ofInt r.1 r.2

/-- Exact product of two values. -/
def XVal.mul : XVal → XVal → XVal
  | .nan, _ => .nan
  | _, .nan => .nan
  | .inf _, .zero _ => .nan
  | .zero _, .inf _ => .nan
  | .inf a, y => .inf (a != y.neg)
  | x, .inf b => .inf (x.neg != b)
  | .zero a, y => .zero (a != y.neg)
  | x, .zero b => .zero (x.neg != b)
  | .fin m1 e1, .fin m2 e2 => .fin (m1 * m2) (e1 + e2)

/-- The value with its sign inverted. -/
def XVal.flip : XVal → XVal
  | .nan => .nan
  | .inf a => .inf (!a)
  | .zero a => .zero (!a)
  | .fin m e => .fin (-m) e

/-- RN32(a + b). -/
def add32 (a b : W32) : W32 := rn32 ((val32 a).add (val32 b))
/-- RN32(a − b). -/
def sub32 (a b : W32) : W32 := rn32 ((val32 a).add (val32 b).flip)
/-- RN32(a × b). -/
def mul32 (a b : W32) : W32 := rn32 ((val32 a).mul (val32 b))
/-- FMA32(a, b, c) = RN32(a × b + c), rounded once (R101). -/
def fma32 (a b c : W32) : W32 := rn32 (((val32 a).mul (val32 b)).add (val32 c))

/-- Whether an FP32 encoding is a NaN. -/
def isNan32 (a : W32) : Bool := fmtFP32.isNan a.toNat
/-- Whether an FP32 encoding is an infinity. -/
def isInf32 (a : W32) : Bool := fmtFP32.isInf a.toNat
/-- Whether an FP32 encoding is finite. -/
def isFin32 (a : W32) : Bool := !(isNan32 a) && !(isInf32 a)

/-- a with its sign bit inverted; the canonical NaN for a NaN (VOP NEG, R149). -/
def neg32 (a : W32) : W32 := if isNan32 a then nan32 else a ^^^ 0x80000000#32
/-- a with sign bit 0; the canonical NaN for a NaN (VOP ABS, R149). -/
def abs32 (a : W32) : W32 := if isNan32 a then nan32 else a &&& 0x7FFFFFFF#32

/-- The order key of a number that is not a NaN: −0 lies below +0 (R101). -/
def ordKey32 (a : W32) : Int :=
  let mag : Int := (a.toNat % 2 ^ 31 : Nat)
  if a.msb then -mag - 1 else mag

/-- Minimum under R101. -/
def min32 (a b : W32) : W32 :=
  if isNan32 a || isNan32 b then nan32 else if ordKey32 b < ordKey32 a then b else a
/-- Maximum under R101. -/
def max32 (a b : W32) : W32 :=
  if isNan32 a || isNan32 b then nan32 else if ordKey32 a < ordKey32 b then b else a

/-! ### Format codes (R36, R41) -/

/-- The element width of a format code, 0 where the code is reserved (R36). -/
def elemWidth (fmt : Nat) : Nat :=
  match fmt with
  | 0x00 => 32
  | 0x01 | 0x02 | 0x08 => 16
  | 0x03 | 0x04 | 0x09 | 0x0B | 0x0F | 0x10 | 0x11 | 0x15 => 8
  | 0x05 | 0x06 | 0x12 | 0x13 => 6
  | 0x07 | 0x0A | 0x0C | 0x0D | 0x0E | 0x14 => 4
  | _ => 0

/-- Whether a code's records carry a metadata word (R36, R42). -/
def hasMeta (fmt : Nat) : Bool := 0x0D ≤ fmt && fmt ≤ 0x15

/-- A format code that R36 defines: 0x00 to 0x15. -/
def fmtDefined (fmt : Nat) : Bool := fmt ≤ 0x15

/-- An integer format, 0x08 to 0x0C (R75). -/
def fmtIsInt (fmt : Nat) : Bool := 0x08 ≤ fmt && fmt ≤ 0x0C

/-- A microscaling format, 0x10 to 0x15. -/
def fmtIsMx (fmt : Nat) : Bool := 0x10 ≤ fmt && fmt ≤ 0x15

/-- The record size in bytes (R41): 32 elements and the metadata word. -/
def recordBytes (fmt : Nat) : Nat := 4 * elemWidth fmt + (if hasMeta fmt then 4 else 0)

/-- The float layout of a float code, or of an MX code's elements (R36, R39). -/
def floatFmtOf (fmt : Nat) : Option FloatFmt :=
  match fmt with
  | 0x00 => some fmtFP32
  | 0x01 => some fmtBF16
  | 0x02 => some fmtFP16
  | 0x03 | 0x10 => some fmtE4M3
  | 0x04 | 0x11 => some fmtE5M2
  | 0x05 | 0x12 => some fmtE3M2
  | 0x06 | 0x13 => some fmtE2M3
  | 0x07 | 0x14 => some fmtE2M1
  | _ => none

/-- The range of an integer format (R40), low and high. -/
def intRange (fmt : Nat) : Int × Int :=
  match fmt with
  | 0x08 => (-32768, 32767)
  | 0x09 | 0x15 => (-128, 127)
  | 0x0A => (-8, 7)
  | 0x0B => (0, 255)
  | 0x0C => (0, 15)
  | _ => (0, 0)

/-- A destination format of CLOSE and VCVT TO (R86): not T4, ZP4, ZP8 or a reserved code. -/
def fmtIsDest (fmt : Nat) : Bool := fmt ≤ 0x0C || fmtIsMx fmt

end Sys2Proof.Machine
end

