-- ==== Sys2Proof/Machine/Decode.lean ====
section
/-! DEFINITION. Operand decode (R42 to R57): block records into decoded operands. -/
namespace Sys2Proof.Machine

/-- A decoded operand (R43). cls: 0 = zero, 1 = finite non-zero, 2 = infinity, 3 = NaN. -/
structure Operand where
  cls : Nat
  s : Bool
  m : Nat
  e : Int
  deriving DecidableEq, Repr

/-- RES of a decoded operand: M mod 31 (R43). -/
def Operand.res (o : Operand) : Nat := o.m % 31

/-- A zero of sign s. -/
def Operand.zero (s : Bool) : Operand := ⟨0, s, 0, 0⟩
/-- An infinity of sign s. -/
def Operand.inf (s : Bool) : Operand := ⟨2, s, 0, 0⟩
/-- The decoded NaN. -/
def Operand.nan : Operand := ⟨3, false, 0, 0⟩

/-- The normalisation of R45. -/
def normalize (s : Bool) (mag : Nat) (e0 : Int) : Operand :=
  if mag = 0 then Operand.zero s
  else
    let l := bitLen mag
    ⟨1, s, mag * 2 ^ (16 - l), e0 + l - 1⟩

/-- The value of a decoded operand (R43). -/
def Operand.val (o : Operand) : XVal :=
  match o.cls with
  | 0 => .zero o.s
  | 1 => XVal.ofMag o.s o.m (o.e - 15)
  | 2 => .inf o.s
  | _ => .nan

/-- A decoded element: its high piece, and its low piece, which is +0 for every format but FP32 (R48). -/
structure Elem where
  hi : Operand
  lo : Operand
  deriving DecidableEq, Repr

/-- An element of one decoded operand. -/
def Elem.one (o : Operand) : Elem := ⟨o, Operand.zero false⟩

/-- The exact value of a decoded element: the sum of its pieces (R48). -/
def Elem.val (x : Elem) : XVal := if x.hi.cls = 1 then x.hi.val.add x.lo.val else x.hi.val

/-- The pieces of an FP32 element (R48). -/
def decodeFP32 (w : Nat) : Elem :=
  let s := bitOf w 31
  let ex := fld w 23 8
  let man := fld w 0 23
  if ex = 255 then
    if man = 0 then ⟨Operand.inf s, Operand.zero false⟩ else ⟨Operand.nan, Operand.zero false⟩
  else if ex = 0 && man = 0 then ⟨Operand.zero s, Operand.zero s⟩
  else
    let l := bitLen man
    let sig := if ex = 0 then man * 2 ^ (24 - l) else 2 ^ 23 + man
    let e : Int := if ex = 0 then (l : Int) - 150 else (ex : Int) - 127
    ⟨normalize s (sig / 2 ^ 12) (e - 11), normalize s (sig % 2 ^ 12) (e - 23)⟩

/-- A float element scaled by 2^k (R46, R47). -/
def decodeFloat (f : FloatFmt) (w : Nat) (k : Int) : Operand :=
  if f.isNan w then Operand.nan
  else if f.isInf w then Operand.inf (bitOf w f.signBit)
  else let (s, mag, e0) := f.parts w
    normalize s mag (e0 + k)

/-- An integer q scaled by 2^k (R46). -/
def decodeInt (q : Int) (k : Int) : Operand := normalize (q < 0) q.natAbs k

/-- A ZP element: the scale's value times d = q − ZP (R56, R57). -/
def decodeZp (f : FloatFmt) (scale : Nat) (d : Int) : Operand :=
  let sgn := bitOf scale f.signBit != decide (d < 0)
  if f.isNan scale then Operand.nan
  else if f.isInf scale then (if d = 0 then Operand.nan else Operand.inf sgn)
  else if d = 0 then Operand.zero false
  else
    let (_, mag, e0) := f.parts scale
    normalize sgn (mag * d.natAbs) e0

/-- The decode tables as the tile holds them: entry number 16·table + index to its 16 bits and whether its stored
parity is wrong (R52). -/
abbrev DecodeTables := SMap (W16 × Bool)

/-- One decode-table entry: its bits and whether its parity is wrong. -/
def tableEntry (t : DecodeTables) (n : Nat) : W16 × Bool := SMap.get (0, false) t n

/-- The metadata word of a record (R41, R42). -/
def metaWord (fmt rec : Nat) : Nat := fld rec (32 * elemWidth fmt) 32

/-- Element i of a record, read in its width (R41). -/
def elemBits (fmt rec i : Nat) : Nat := fld rec (elemWidth fmt * i) (elemWidth fmt)

/-- The T4 table entry number of element i of a record (R52). -/
def t4Entry (rec i : Nat) : Nat := 16 * fld (metaWord 0x0D rec) 0 3 + elemBits 0x0D rec i

/-- The E8M0 scale of an MX or T4 record (R42). -/
def recScale (fmt rec : Nat) : Nat :=
  if fmt = 0x0D then fld (metaWord fmt rec) 8 8 else fld (metaWord fmt rec) 0 8

/-- Decode element i of a record (R43 to R57). -/
def decodeElem (tab : DecodeTables) (fmt rec i : Nat) : Elem :=
  let w := elemBits fmt rec i
  let sc := recScale fmt rec
  match fmt with
  | 0x00 => decodeFP32 w
  | 0x08 | 0x09 | 0x0A => Elem.one (decodeInt (sext w (elemWidth fmt)) 0)
  | 0x0B | 0x0C => Elem.one (decodeInt w 0)
  | 0x0D =>
    if sc = 0xFF then Elem.one Operand.nan
    else Elem.one (decodeFloat fmtFP16 (tableEntry tab (t4Entry rec i)).1.toNat ((sc : Int) - 127))
  | 0x0E =>
    let md := metaWord fmt rec
    Elem.one (decodeZp fmtFP16 (fld md 0 16) (sext w 4 - sext (fld md 16 4) 4))
  | 0x0F =>
    let md := metaWord fmt rec
    Elem.one (decodeZp fmtBF16 (fld md 0 16) (sext w 8 - sext (fld md 16 8) 8))
  | 0x15 =>
    if sc = 0xFF then Elem.one Operand.nan
    else Elem.one (decodeInt (sext w 8) ((sc : Int) - 133))
  | _ =>
    match floatFmtOf fmt with
    | none => Elem.one (Operand.zero false)
    | some f =>
      if fmtIsMx fmt then
        if sc = 0xFF then Elem.one Operand.nan
        else Elem.one (decodeFloat f w ((sc : Int) - 127))
      else Elem.one (decodeFloat f w 0)

/-- The 32 decoded elements of a record. -/
def decodeRecord (tab : DecodeTables) (fmt rec : Nat) : List Elem :=
  (List.range 32).map (decodeElem tab fmt rec)

/-- The first decode-table entry with wrong parity that a record reads, in element order (R55). A T4 record with
SCALE 0xFF reads none (R52). -/
def badTableEntry (tab : DecodeTables) (fmt rec : Nat) : Option Nat :=
  if fmt = 0x0D && recScale fmt rec ≠ 0xFF then
    ((List.range 32).map (t4Entry rec)).find? fun n => (tableEntry tab n).2
  else none

/-- A side is all-zero when each decoded operand has CLS 0 (R58). -/
def allZero (xs : List Elem) : Bool := xs.all fun x => x.hi.cls = 0 && x.lo.cls = 0

/-- A side that holds an infinity or a NaN (R59). -/
def hasSpecial (xs : List Elem) : Bool := xs.any fun x => 2 ≤ x.hi.cls

/-! ### Masked flits (R137) -/

/-- Formats a masked flit may carry (R137). -/
def maskedFmt (fmt : Nat) : Bool :=
  fmt = 0x01 || fmt = 0x02 || fmt = 0x03 || fmt = 0x04 || fmt = 0x08 || fmt = 0x09 || fmt = 0x0B

/-- A masked flit is well-formed for a format (R137). -/
def maskedOk (fmt payload : Nat) : Bool :=
  maskedFmt fmt && popcount 32 (fld payload 0 32) ≤ (if elemWidth fmt = 8 then 28 else 14)

/-- The elements of a masked flit from element i, the next value at index j: carried values in ascending order,
the zero encoding elsewhere. -/
def maskedFrom (w payload : Nat) : Nat → Nat → Nat → Nat
  | 0, _, _ => 0
  | n + 1, i, j =>
    if bitOf payload i then
      fld payload (32 + w * j) w * 2 ^ (w * i) + maskedFrom w payload n (i + 1) (j + 1)
    else maskedFrom w payload n (i + 1) j

/-- The record that a masked flit supplies (R137). -/
def maskedRecord (fmt payload : Nat) : Nat := maskedFrom (elemWidth fmt) payload 32 0 0

end Sys2Proof.Machine
end

