-- ==== Sys2Proof/Machine/Group.lean ====
section
/-! DEFINITION. Exact groups, residues and slot lanes (R62 to R90). -/
namespace Sys2Proof.Machine

/-- A finite non-zero product (R62): sign, 32-bit magnitude P and exponent k; value ±P · 2^(k − 30), with the
residues of its two operands. -/
structure Prod where
  s : Bool
  p : Nat
  k : Int
  r : Nat
  deriving DecidableEq, Repr

/-- The product of two operands of CLS 1 (R62). -/
def prodOf (a b : Operand) : Prod := ⟨a.s != b.s, a.m * b.m, a.e + b.e, a.res * b.res % 31⟩

/-- What one element pair contributes (R49, R63): its class with its sign, and its finite products. -/
inductive PairClass
  | nan
  | inf (s : Bool)
  | zero (s : Bool)
  | fin (ps : List Prod)
  deriving DecidableEq, Repr

/-- The partial products of two finite non-zero elements (R49): a zero low piece gives none. -/
def partials (a b : Elem) : List Prod :=
  let as := [a.hi, a.lo].filter fun o => o.cls = 1
  let bs := [b.hi, b.lo].filter fun o => o.cls = 1
  as.flatMap fun x => bs.map fun y => prodOf x y

/-- The class of one product (R63), decided from the classes of elements, not of pieces. -/
def pairClass (a b : Elem) : PairClass :=
  let sg := a.hi.s != b.hi.s
  if a.hi.cls = 3 || b.hi.cls = 3 then .nan
  else if (a.hi.cls = 2 && b.hi.cls = 0) || (a.hi.cls = 0 && b.hi.cls = 2) then .nan
  else if a.hi.cls = 2 || b.hi.cls = 2 then .inf sg
  else if a.hi.cls = 0 || b.hi.cls = 0 then .zero sg
  else .fin (partials a b)

/-- The result of a group: its exact value, its shed count, and the two residue sums of R69 (0 where the residues
are not checked). -/
structure GroupResult where
  val : XVal
  shed : Nat
  resExp : Nat
  resAct : Nat
  deriving DecidableEq, Repr

/-- The largest product exponent of a non-empty list (R64). -/
def emaxOf : List Prod → Int
  | [] => 0
  | [p] => p.k
  | p :: q :: ps => max p.k (emaxOf (q :: ps))

/-- A product is kept when k ≥ Emax − 40 (R64). -/
def isKept (emax : Int) (p : Prod) : Bool := emax - 40 ≤ p.k

/-- The shift s = k − Emax + 40 of a kept product (R66). -/
def shiftOf (emax : Int) (p : Prod) : Nat := (p.k - emax + 40).toNat

/-- The aligned term ±(P × 2^s) (R66). -/
def alignedTerm (emax : Int) (p : Prod) : Int :=
  let t : Int := (p.p * 2 ^ shiftOf emax p : Nat)
  if p.s then -t else t

/-- The residue ρ of a kept product (R68). -/
def residueOf (emax : Int) (p : Prod) : Nat :=
  let r := p.r * 2 ^ (shiftOf emax p % 5) % 31
  if p.s then (31 - r) % 31 else r

/-- The accumulator: the exact sum of the aligned terms (R66). -/
def accOf (emax : Int) (ps : List Prod) : Int := (ps.map (alignedTerm emax)).sum

/-- The sum of the residues of the kept products mod 31 (R69). -/
def resSum (emax : Int) (ps : List Prod) : Nat := (ps.map (residueOf emax)).sum % 31

/-- The finite group result X = ACC × 2^(Emax − 70), and +0 where kept terms cancel (R66, R67). -/
def finiteGroup (ps : List Prod) : GroupResult :=
  let emax := emaxOf ps
  let kept := ps.filter (isKept emax)
  let acc := accOf emax kept
  { val := XVal.ofInt acc (emax - 70)
    shed := ps.length - kept.length
    resExp := resSum emax kept
    resAct := (acc % 31).toNat }

/-- The finite products of a group. -/
def finProds (cs : List PairClass) : List Prod :=
  cs.flatMap fun c => match c with
    | .fin ps => ps
    | _ => []

/-- The group result from the classes of its products (R63). -/
def groupOf (cs : List PairClass) : GroupResult :=
  let plain (v : XVal) : GroupResult := ⟨v, 0, 0, 0⟩
  if cs.any (· == .nan) then plain .nan
  else if cs.any (· == .inf false) then
    if cs.any (· == .inf true) then plain .nan else plain (.inf false)
  else if cs.any (· == .inf true) then plain (.inf true)
  else
    let ps := finProds cs
    if ps.isEmpty then plain (.zero (cs.all (· == .zero true)))
    else finiteGroup ps

/-- One group: 32 A elements with 32 B elements (R62 to R67). -/
def group (as bs : List Elem) : GroupResult := groupOf (List.zipWith pairClass as bs)

/-- x_hi and x_lo of a group result, and whether a finite result overflowed (R77). -/
def splitPair (x : XVal) : W32 × W32 × Bool :=
  let hi := rn32 x
  match x with
  | .fin m e =>
    if isInf32 hi then (hi, 0, true)
    else (hi, rn32 ((XVal.fin m e).add (val32 hi).flip), false)
  | _ => (hi, 0, false)

/-! ### Slot lanes (R73) -/

/-- The state of one slot lane (R73) with its poison tag (R117). -/
structure Lane where
  isOpen : Bool := false
  intMode : Bool := false
  hi : W32 := 0
  lo : W32 := 0
  shd : Bool := false
  shed : W16 := 0
  ovf : Bool := false
  ovfDir : Bool := false
  nan : Bool := false
  poison : Bool := false
  deriving DecidableEq, Repr

/-- The 64-bit integer of an INT-mode lane (R80). -/
def Lane.int (l : Lane) : Int := (l.hi ++ l.lo).toInt

/-- Write a 64-bit integer into {HI, LO}. -/
def Lane.setInt (l : Lane) (x : BitVec 64) : Lane :=
  { l with hi := x.extractLsb' 32 32, lo := x.extractLsb' 0 32 }

/-- The integer value of a group of integer formats (R80): its value is an integer. -/
def XVal.toInt : XVal → Int
  | .fin m e => if 0 ≤ e then shlInt m e else m / 2 ^ (-e).toNat
  | _ => 0

/-- Saturating sum of shed counts (R73). -/
def shedAdd (a : W16) (n : Nat) : W16 := BitVec.ofNat 16 (satAdd 16 a.toNat n)

/-- OPEN of a lane (R74, R75): MODE from the formats, flags from this group only. -/
def Lane.openWith (intg : Bool) (g : GroupResult) (psn : Bool) : Lane :=
  if intg then
    { ({} : Lane).setInt (BitVec.ofInt 64 g.val.toInt) with
      isOpen := true, intMode := true, shd := false, shed := 0, poison := psn }
  else
    let p := splitPair g.val
    { isOpen := true, intMode := false, hi := p.1, lo := p.2.1, shd := 0 < g.shed, shed := shedAdd 0 g.shed,
      ovf := p.2.2, ovfDir := false, nan := isNan32 p.1, poison := psn }

/-- The Neumaier update of R78: t, and c added into lo; a non-finite t leaves lo = +0. -/
def neumaier (hi lo xhi xlo : W32) : W32 × W32 :=
  let t := add32 hi xhi
  if !(isFin32 t) then (t, 0)
  else
    let e := if (abs32 xhi).toNat ≤ (abs32 hi).toNat then add32 (sub32 hi t) xhi else add32 (sub32 xhi t) hi
    let c := add32 e xlo
    (t, add32 lo c)

/-- Add the integer x to an INT-mode lane modulo 2^64, recording the first wrap's direction (R80). -/
def Lane.addInt (l : Lane) (x : Int) : Lane :=
  let sum := l.int + x
  let r := BitVec.ofInt 64 sum
  let wraps : Bool := r.toInt ≠ sum
  { l.setInt r with
    ovf := l.ovf || wraps
    ovfDir := if wraps && !l.ovf then decide (sum < 0) else l.ovfDir }

/-- ACCUMULATE into an open lane (R74, R78, R80). -/
def Lane.accumulate (l : Lane) (g : GroupResult) (psn : Bool) : Lane :=
  if l.intMode then
    { l.addInt g.val.toInt with poison := l.poison || psn }
  else
    let p := splitPair g.val
    let r := neumaier l.hi l.lo p.1 p.2.1
    { l with
      hi := r.1, lo := r.2
      shd := l.shd || decide (0 < g.shed), shed := shedAdd l.shed g.shed
      ovf := l.ovf || p.2.2 || (isFin32 l.hi && isFin32 p.1 && isInf32 r.1)
      nan := l.nan || isNan32 r.1
      poison := l.poison || psn }

/-- OVERWRITE of an open lane (R74): the value becomes the group result alone, the flags are ORed. -/
def Lane.overwrite (l : Lane) (g : GroupResult) (psn : Bool) : Lane :=
  if l.intMode then
    { l.setInt (BitVec.ofInt 64 g.val.toInt) with poison := l.poison || psn }
  else
    let p := splitPair g.val
    { l with
      hi := p.1, lo := p.2.1
      shd := l.shd || decide (0 < g.shed), shed := shedAdd l.shed g.shed
      ovf := l.ovf || p.2.2, nan := l.nan || isNan32 p.1
      poison := l.poison || psn }

/-- A slot-state fault of a group entering a lane (R76). act: 0 = OPEN, 1 = ACCUMULATE, 2 = OVERWRITE. -/
def laneFault (act : Nat) (intg : Bool) (l : Lane) : Bool :=
  act ≠ 0 && (!l.isOpen || (l.intMode && !intg))

/-- The slot action of a GMAC on a lane (R74). -/
def Lane.act (act : Nat) (intg : Bool) (l : Lane) (g : GroupResult) (psn : Bool) : Lane :=
  match act with
  | 0 => Lane.openWith intg g psn
  | 1 => l.accumulate g psn
  | _ => l.overwrite g psn

/-! ### The value of a lane and CLOSE conversions (R82 to R88) -/

/-- The value of an open lane (R82). The spec gives no value where hi is finite and lo is an infinity or a NaN, which only a
host write or a received partial can make: the model then takes hi alone (DESIGN CHOICE, log entry 86). -/
def Lane.val (l : Lane) : XVal :=
  if l.intMode then XVal.ofInt l.int 0
  else
    let h := val32 l.hi
    match h with
    | .nan => .nan
    | .inf n => .inf n
    | .zero n => match val32 l.lo with
      | .fin m e => .fin m e
      | _ => .zero n
    | .fin m e => match val32 l.lo with
      | .fin m2 e2 => let r := addDy m e m2 e2; XVal.ofInt r.1 r.2
      | _ => .fin m e

/-- The source of a conversion: a value, and for an INT-mode lane whether it has wrapped and which way (R85). -/
structure ConvSrc where
  val : XVal
  intLane : Bool := false
  wrapped : Bool := false
  below : Bool := false
  deriving DecidableEq, Repr

/-- The conversion source that a lane is. -/
def Lane.src (l : Lane) : ConvSrc := ⟨l.val, l.intMode, l.intMode && l.ovf, l.ovfDir⟩

/-- A conversion's element bits and what it reports (R87). -/
structure Conv where
  bits : Nat
  ovf : Bool := false
  nan : Bool := false
  nanZero : Bool := false
  deriving DecidableEq, Repr

/-- Put a sign on a magnitude encoding. -/
def FloatFmt.signed (f : FloatFmt) (neg : Bool) (mag : Nat) : Nat := mag + (if neg then 2 ^ f.signBit else 0)

/-- What a float destination writes for a NaN (R84): +0 for FP6 and FP4. -/
def FloatFmt.nanConv (f : FloatFmt) : Conv :=
  match f.nan with
  | some n => { bits := n, nan := true }
  | none => { bits := 0, nan := true, nanZero := true }

/-- What a float destination writes for an overflow or an infinity of a sign (R84). -/
def FloatFmt.overBits (f : FloatFmt) (infnan neg : Bool) : Nat :=
  if !infnan then f.signed neg f.maxFin
  else if f.hasInf then f.signed neg ((2 ^ f.expBits - 1) * 2 ^ f.manBits)
  else match f.nan with
    | some n => n
    | none => f.signed neg f.maxFin

/-- Convert a value into a float format (R83, R84). -/
def convFloat (f : FloatFmt) (rz infnan : Bool) (v : XVal) : Conv :=
  match v with
  | .nan => f.nanConv
  | .inf n => { bits := f.overBits infnan n, ovf := !(infnan && f.hasInf) }
  | .zero n => { bits := f.signed n 0 }
  | .fin m e =>
    let neg := decide (m < 0)
    let k := f.roundMag rz m.natAbs e
    if f.maxFin < k then
      { bits := if rz then f.signed neg f.maxFin else f.overBits infnan neg, ovf := true }
    else { bits := f.signed neg k }

/-- An integer in w bits, two's complement. -/
def intBits (w : Nat) (x : Int) : Nat := (x % 2 ^ w).toNat

/-- Convert a source into an integer format (R85); wrap is the overflow field's value 1. -/
def convInt (fmt : Nat) (rz wrap : Bool) (c : ConvSrc) : Conv :=
  let w := elemWidth fmt
  let (lo, hi) := intRange fmt
  match c.val with
  | .nan => { bits := 0, nan := true }
  | .inf n => { bits := if wrap then 0 else intBits w (if n then lo else hi), ovf := true }
  | v =>
    let x : Int := match v with
      | .fin m e => roundToInt rz m e
      | _ => 0
    let out := decide (x < lo) || decide (hi < x)
    if wrap then { bits := intBits w x, ovf := out || c.wrapped }
    else if c.wrapped then { bits := intBits w (if c.below then lo else hi), ovf := true }
    else { bits := intBits w (if x < lo then lo else if hi < x then hi else x), ovf := out }

/-- Convert a source into a non-MX destination format (R83 to R86). rnd: 1 = toward zero; ovf: 1 = INFNAN or WRAP. -/
def convElem (fmt rnd ovf : Nat) (c : ConvSrc) : Conv :=
  if fmtIsInt fmt then convInt fmt (rnd = 1) (ovf = 1) c
  else match floatFmtOf fmt with
    | some f => convFloat f (rnd = 1) (ovf = 1) c.val
    | none => { bits := 0 }

/-- emax of an MX element format (R88 step 3). -/
def mxEmax (fmt : Nat) : Int :=
  match fmt with
  | 0x10 => 8
  | 0x11 => 15
  | 0x12 => 4
  | 0x13 => 2
  | 0x14 => 2
  | _ => 0

/-- floor(log2 |m · 2^e|) of a finite value. -/
def floorLog2 (m : Int) (e : Int) : Int := (m.natAbs.log2 : Int) + e

/-- The largest floor(log2) among the finite non-zero values; none when there is none (R88 step 3). -/
def mxTop : List XVal → Option Int
  | [] => none
  | .fin m e :: vs => match mxTop vs with
    | none => some (floorLog2 m e)
    | some k => some (max (floorLog2 m e) k)
  | _ :: vs => mxTop vs

/-- The shared scale of R88 step 3: 0x7F where no value is finite and non-zero, so also where every lane is an infinity,
which step 3 does not speak of (DESIGN CHOICE, log entry 86). -/
def mxScale (fmt : Nat) (vs : List XVal) : Nat :=
  match mxTop vs with
  | none => 0x7F
  | some k => (max 0 (min (k - mxEmax fmt + 127) 0xFE)).toNat

/-- One MX element (R88 steps 4 and 5). -/
def mxElem (fmt rnd ovf scale : Nat) (v : XVal) : Conv :=
  match floatFmtOf fmt with
  | some f =>
    let v' := match v with
      | .fin m e => XVal.fin m (e + 127 - scale)
      | x => x
    convFloat f (rnd = 1) (ovf = 1) v'
  | none =>
    match v with
    | .nan => { bits := 0, nan := true }
    | .inf n => { bits := if n then 0x80 else 0x7F, ovf := true }
    | .zero _ => { bits := 0 }
    | .fin m e =>
      let x := roundToInt (rnd = 1) m (e + 133 - scale)
      { bits := intBits 8 (max (-128) (min x 127)), ovf := decide (x < -128) || decide (127 < x) }

/-- Whether R88 steps 1 and 2 make the whole block NaN. -/
def mxAllNan (fmt ovf : Nat) (vs : List XVal) : Bool :=
  vs.any (· == .nan) ||
  (ovf = 1 && fmt ≠ 0x11 && vs.any fun v => v == .inf false || v == .inf true)

/-- The scale and the 32 elements of an MX record (R88). -/
def mxBlock (fmt rnd ovf : Nat) (vs : List XVal) : Nat × List Conv :=
  if mxAllNan fmt ovf vs then
    (0xFF, vs.map fun v => match v with
      | .nan => { bits := 0, nan := true }
      | .inf _ => { bits := 0, ovf := true }
      | _ => { bits := 0 })
  else
    let sc := mxScale fmt vs
    (sc, vs.map (mxElem fmt rnd ovf sc))

/-- Pack element bits at their places (R41): element i of width w at bit w·i. -/
def packElems (w : Nat) : List Nat → Nat
  | [] => 0
  | x :: xs => x % 2 ^ w + 2 ^ w * packElems w xs

/-- The record of a list of 32 sources in a destination format (R41, R88, R102), and the conversions. -/
def convRecord (fmt rnd ovf : Nat) (cs : List ConvSrc) : Nat × List Conv :=
  if fmtIsMx fmt then
    let b := mxBlock fmt rnd ovf (cs.map (·.val))
    (packElems (elemWidth fmt) (b.2.map (·.bits)) + b.1 * 2 ^ (32 * elemWidth fmt), b.2)
  else
    let ks := cs.map (convElem fmt rnd ovf)
    (packElems (elemWidth fmt) (ks.map (·.bits)), ks)

/-! ### TREE (R89) -/

/-- The four values of an operand pair: an INT operand is first split exactly (R89). -/
def Lane.pairVals (l : Lane) : W32 × W32 :=
  if l.intMode then
    let p := splitPair (XVal.ofInt l.int 0)
    (p.1, p.2.1)
  else (l.hi, l.lo)

/-- Whether a value is an infinity or a NaN. -/
def XVal.special : XVal → Bool
  | .nan => true
  | .inf _ => true
  | _ => false

/-- TREE of two lanes into a destination lane (R89): first operand a, second b. Infinities and NaNs follow R78 with the
four values of the two pairs. -/
def treeLane (a b : Lane) : Lane :=
  let shd := a.shd || b.shd
  let shed := shedAdd a.shed b.shed.toNat
  if a.intMode && b.intMode then
    let start : Lane := { a with ovf := a.ovf || b.ovf, ovfDir := if a.ovf then a.ovfDir else b.ovfDir }
    { start.addInt b.int with
      isOpen := true, intMode := true, shd := shd, shed := shed
      nan := a.nan || b.nan, poison := a.poison || b.poison }
  else
    let pa := a.pairVals
    let pb := b.pairVals
    let va : Lane := { isOpen := true, hi := pa.1, lo := pa.2 }
    let vb : Lane := { isOpen := true, hi := pb.1, lo := pb.2 }
    let four := [pa.1, pa.2, pb.1, pb.2].map val32
    let y := if four.any XVal.special then four.foldl XVal.add (.zero true) else va.val.add vb.val
    let p := splitPair y
    { isOpen := true, intMode := false, hi := p.1, lo := p.2.1, shd := shd, shed := shed
      ovf := a.ovf || b.ovf || p.2.2, ovfDir := false
      nan := a.nan || b.nan || isNan32 p.1, poison := a.poison || b.poison }

/-- The STATE entry of R90. -/
def Lane.stateBits (l : Lane) : Nat :=
  b2n l.isOpen + 2 * b2n l.intMode + 4 * b2n l.shd + 8 * b2n l.ovf + 16 * b2n l.ovfDir + 32 * b2n l.nan

/-- The LANE entry of R90: FP mode hi at offset 0 and lo at offset 4; INT mode the 64-bit value. -/
def Lane.laneBits (l : Lane) : Nat :=
  if l.intMode then l.lo.toNat + 2 ^ 32 * l.hi.toNat else l.hi.toNat + 2 ^ 32 * l.lo.toNat

/-- A lane from its LANE entry, STATE entry and SHED_COUNT (R90). -/
def Lane.ofBits (lane st shed : Nat) (psn : Bool) : Lane :=
  let im := bitOf st 1
  let a := BitVec.ofNat 32 (fld lane 0 32)
  let b := BitVec.ofNat 32 (fld lane 32 32)
  { isOpen := bitOf st 0, intMode := im, hi := if im then b else a, lo := if im then a else b
    shd := bitOf st 2, ovf := bitOf st 3, ovfDir := bitOf st 4, nan := bitOf st 5
    shed := BitVec.ofNat 16 shed, poison := psn }

/-- The two payloads of a partial: four LANE entries, then four STATE and SHED entries (R90). -/
def partialPayloads (ls : List Lane) : Payload × Payload :=
  let f (g : Lane → Nat) (w : Nat) : Nat := (ls.map g).foldr (fun x acc => x + 2 ^ w * acc) 0
  (BitVec.ofNat 256 (f Lane.laneBits 64),
   BitVec.ofNat 256 (f (fun l => l.stateBits + 2 ^ 16 * l.shed.toNat) 32))

/-- Lane l of a partial (R90). -/
def partialLane (p1 p2 : Payload) (l : Nat) : Lane :=
  Lane.ofBits (fld p1.toNat (64 * l) 64) (fld p2.toNat (32 * l) 16) (fld p2.toNat (32 * l + 16) 16) false

end Sys2Proof.Machine
end

