-- ==== Sys2Proof/Machine/TileState.lean ====
section
/-! DEFINITION. The state of one tile and of its router (R95, R96, R170 to R202). -/
namespace Sys2Proof.Machine

/-- One flit with its sideband (R173); VALID is the presence of the value. -/
structure Flit where
  payload : Payload
  kind : BitVec 2 := 0
  eot : Bool := false
  epoch : BitVec 4 := 0
  poison : Bool := false
  tag : BitVec 3 := 0
  deriving DecidableEq, Repr

/-- One half of a flit on a stream link (R171): 16 B of payload, 6 sideband bits and the CRC-8 byte. -/
structure Half where
  data : BitVec 128
  side : BitVec 6
  crc : Byte
  deriving DecidableEq, Repr

/-- Both halves of a flit on a stream link. -/
structure Wire where
  lo : Half
  hi : Half
  deriving DecidableEq, Repr

/-- The state of one halyard flag in a tile (R161). -/
inductive FlagSt
  | idle
  | arrived
  | done (v : W16)
  deriving DecidableEq, Repr

/-- One BULK tag of a tile: operations outstanding and the status bits (R163). -/
structure BulkTag where
  out : Nat := 0
  status : BitVec 3 := 0
  deriving DecidableEq, Repr

/-- What a GMAC holds from its issue: the address of each side, none where its register is poisoned (R140, R117), and the
decode tables as they stood (R54). -/
structure GmacBase where
  a : Option Nat := none
  b : Option Nat := none
  tables : SMap (W16 × Bool) := []
  deriving DecidableEq, Repr

/-- An issued instruction that still has flits to pop or to send (R130, R135). -/
structure InFlight where
  n : BitVec 9
  hd : Head
  op : TOp
  /-- Flits popped and not yet used. -/
  got : List Flit := []
  /-- Flits popped in all: the position in a GMAC's A stream (R141), or the quarters written. -/
  popped : Nat := 0
  /-- Flits still to be sent. -/
  out : List Flit := []
  /-- The GMAC iteration to start next. -/
  iter : Nat := 0
  /-- The first cycle in which it may act again. -/
  from_ : Nat := 0
  /-- The tile-memory address of an ST that takes its data from a queue (R157). -/
  addr : Nat := 0
  /-- Tile-memory rows read for the next iteration of a GMAC (R133, R142). -/
  rows : Nat := 0
  /-- What a GMAC holds from its issue. -/
  base : GmacBase := {}
  /-- Resources it still reads (WAR) and still writes (R132). -/
  rres : List Nat := []
  wres : List Nat := []
  deriving DecidableEq, Repr

/-- The interlocks and units of a tile (R132 to R134): for each resource the first cycle in which a dependent may
issue. wr: written results; gm: slot lanes written by a GMAC; rd: registers still read; unit: busy units. -/
structure Board where
  wr : SMap Nat := []
  gm : SMap Nat := []
  rd : SMap Nat := []
  unit : SMap Nat := []
  deriving DecidableEq, Repr

/-- TILE_CTRL (R123). STEP waits for the tile's next cycle, which makes the attempt and clears it. -/
structure TileCtrl where
  run : Bool := false
  step : Bool := false
  zskip : Bool := false
  probeEn : Bool := true
  evtFreeze : Bool := false
  deriving DecidableEq, Repr

/-- TILE_STATUS (R123). RUNNING is derived. -/
structure TileStatus where
  stopped : Bool := false
  vInvalid : Bool := false
  fOvf : Bool := false
  fNan : Bool := false
  fNanZero : Bool := false
  fShd : Bool := false
  poison : Bool := false
  epochDrop : Bool := false
  corrected : Bool := false
  probe : Bool := false
  stopIndex : BitVec 9 := 0
  stopCause : Byte := 0
  deriving DecidableEq, Repr

/-- TILE_EPOCH (R115). -/
structure TileEpoch where
  cur : BitVec 4 := 0
  next : BitVec 4 := 0
  nextValid : Bool := false
  deriving DecidableEq, Repr

/-- One tile (R95, R96). Every field's default is its value after bring-up. Tile memory lies in the engine memory. -/
structure Tile where
  /-- Instruction store: index to word (R124). -/
  istore : SMap W64 := []
  /-- G0 to G63 (R108). -/
  g : SMap W64 := []
  /-- The V file, 1 KiB: Vn at byte 128n (R108). -/
  v : List Host.Cell := []
  /-- Operand buffers A and B, 2 KiB each. -/
  bufA : List Host.Cell := []
  bufB : List Host.Cell := []
  /-- P0 to P7; P0 reads 1 whatever bit 0 holds (R95). -/
  pred : BitVec 8 := 0
  /-- LC0 to LC3. -/
  lc : SMap W16 := []
  /-- Slot lanes: lane l of slot j at 4j + l (R73). -/
  lanes : SMap Lane := []
  /-- Decode tables (R52). -/
  tables : DecodeTables := []
  /-- Syndromes of SEC-DED words that do not match their data (R491): key 8192·space + word offset. -/
  syn : SMap Byte := []
  /-- Poison tags of G, V and the operand-buffer rows (R117). -/
  gTag : W64 := 0
  vTag : Byte := 0
  aTag : W32 := 0
  bTag : W32 := 0
  /-- IQ0 to IQ4, oldest first (R113). -/
  iq : SMap (List Flit) := []
  /-- Output credit counters (R114). -/
  cred : SMap (BitVec 6) := []
  /-- Flits that left the tile in this cycle, by output: they enter the output queues at its end (R172). -/
  outbox : SMap (List Flit) := []
  /-- Pops of this cycle, by queue: they raise the pending counts at its end (R113, R184). -/
  pops : SMap Nat := []
  ctrl : TileCtrl := {}
  status : TileStatus := {}
  epoch : TileEpoch := {}
  /-- TILE_MEM_SPLIT.SPLIT as written (R109). -/
  split : BitVec 11 := 0x400
  /-- TILE_EVT_SEL: SEL0 to SEL3 (R121). -/
  evtSel : SMap Byte := []
  /-- TILE_EVT_CNT0 to 3: COUNT with WRAPPED in bit 32. -/
  evtCnt : SMap (BitVec 33) := []
  /-- Stall counters: IQ0 to IQ4 at 0 to 4, O0 to O3 at 5 to 8 (R120). -/
  stall : SMap W16 := []
  /-- Consecutive blocked cycles (R116). -/
  blocked : Nat := 0
  /-- Halyard flags (R161). -/
  flags : SMap FlagSt := []
  /-- BULK tags (R163). -/
  bulk : SMap BulkTag := []
  inflight : List InFlight := []
  board : Board := {}
  /-- Core cycles of this tile that the model has stepped: the reference of the interlocks. -/
  cyc : Nat := 0
  deriving DecidableEq, Repr

/-- A staged router configuration (R199). -/
structure RouterStage where
  slots : SMap Byte := []
  oqInit : W64 := 0
  share : SMap W64 := []
  shareInit : SMap W64 := []
  epoch : BitVec 4 := 0
  purge : Bool := false
  released : Bool := false
  deriving DecidableEq, Repr

/-- One tile's router (R170 to R202). Ports: link outputs N, E, S, W are 0 to 3, IQ0 to IQ4 are 4 to 8. -/
structure Router where
  /-- RT_SLOT entries: row s, output o at 9s + o (R202). -/
  slots : SMap Byte := []
  /-- RT_OQ_INIT as written. -/
  oqInit : W64 := 0
  /-- RT_SEAMQ_SHAREd and RT_SEAMQ_INITd as written. -/
  share : SMap W64 := []
  shareInit : SMap W64 := []
  /-- Output queues O0 to O3 (R172). -/
  oq : SMap (List Flit) := []
  /-- SEG_CRED: output queue n at n; seam share (d, t) at 4 + 8d + t (R183). -/
  segCred : SMap Nat := []
  /-- Join counts: row s, output o at 9s + o (R186). -/
  join : SMap Nat := []
  /-- Pending-credit counts: IQn at n; seam output d, tag t at 5 + 8d + t (R184, R191). -/
  pend : SMap Nat := []
  /-- Flits driven onto the links: link output d at d, the second stage of a shim link at 4 + d (R176). -/
  link : SMap Wire := []
  /-- Credits driven on the reverse wires of link inputs: d, and 4 + d for the second stage of a shim link (R185). -/
  rev : SMap Bool := []
  /-- Seam queues: share (d, t) at 8d + t, oldest first (R189). -/
  seamQ : SMap (List Flit) := []
  /-- Seam transmitters by direction (R188), and the first half of the head where it has left. -/
  tx : SMap (List Flit) := []
  half : SMap Half := []
  /-- Flits whose two halves have crossed seam output d and are not yet assembled (R189). -/
  wire : SMap (List Wire) := []
  /-- Credits waiting for a credit message: (d, t) at 8d + t; the tag served last; messages in flight (R191). -/
  credWait : SMap Nat := []
  credLast : SMap Nat := []
  credMsg : SMap (List Nat) := []
  /-- RT_SEAM_STATd: RX_FULL and TX_EMPTY (R194). -/
  rxFull : SMap W32 := []
  txEmpty : SMap W32 := []
  linkFail : BitVec 4 := 0
  shim : Bool := false
  ovfSeen : Bool := false
  misrouteSeen : Bool := false
  crcSeen : Bool := false
  tagSeen : Bool := false
  purge : Bool := false
  purgeCnt : W32 := 0
  epoch : BitVec 4 := 0
  errCrc : W16 := 0
  errTag : W16 := 0
  errMis : W16 := 0
  errOvf : W16 := 0
  stage : Option RouterStage := none
  deriving DecidableEq, Repr

end Sys2Proof.Machine
end

