-- ==== Sys2Proof/Machine/State.lean ====
section
/-! DEFINITION. The state of the block, its stops, and the state after reset. -/
namespace Sys2Proof.Machine

/-- Why the machine stops with a fault. No command of the spec stops the block, so there is none. -/
inductive Fault
  /-- Raised by nobody. -/
  | none
  deriving DecidableEq, Repr

/-- Why a command is refused. -/
inductive Refusal
  /-- Raised by exec for a command that has no meaning yet; safe. -/
  | notModelled (mnemonic : String)
  deriving DecidableEq, Repr

/-- The block. -/
structure State where
  /-- Commands that wait, first in, first out. -/
  pending : List Instr := []
  tiles : SMap Tile := []
  routers : SMap Router := []
  cantons : SMap Canton := []
  clusters : SMap Cluster := []
  bays : SMap Bay := []
  mesh : SMap MeshRouter := []
  /-- Engine memory, by engine address (R29). -/
  mem : Memory := {}
  /-- TILE_PRESENT, 64 tiles a word (R27). -/
  present : SMap W64 := []
  requests : List Request := []
  bulkOps : List BulkOp := []
  nextOp : Nat := 0
  /-- Halyard participation (R236): tiles of a cluster for a flag at 64·cluster + flag; agents by canton and flag. -/
  halPart : SMap Nat := []
  halAgents : SMap Bool := []
  /-- Halyard rounds by 64·slice + flag. -/
  rounds : SMap Round := []
  /-- The engine-wide transaction flag's last round (R225). -/
  eround : Round := {}
  slices : SMap Slice := []
  /-- The SEQ that a sender of pennants gives next and the SEQ that their receiver expects next, by 65536·source +
  destination (R216). -/
  pennOut : SMap Nat := []
  pennIn : SMap Nat := []
  host : HostIf := {}
  ports : SMap Port := []
  err : ErrState := {}
  mgmt : Mgmt := {}
  /-- Registers that software reads or writes as words, by BAR0 offset; an unlisted one holds its reset value. -/
  regs : SMap W64 := []
  /-- CKM_REFCYC: cycles of the 156.25 MHz reference (R384). -/
  refcyc : W64 := 0
  deriving DecidableEq, Repr

/-- The state right after reset. -/
def State.reset : State := {}

end Sys2Proof.Machine
end

