-- ==== Sys2Proof/Machine/Ops.lean ====
section
/-! DEFINITION. The named operations over memory and state: cells, codes, the address map, the units of the state.
The block takes no exception (it has no program counter), so no exception entry stands here. -/
namespace Sys2Proof.Machine

/-! ### Bytes and words of a memory -/

/-- One byte. -/
def Memory.byte (m : Memory) (a : Nat) : Byte := SMap.get 0 m.cells a

/-- n bytes from address a. -/
def readCells (cs : List Host.Cell) (a : Nat) : Nat → List Byte
  | 0 => []
  | n + 1 => SMap.get 0 cs a :: readCells cs (a + 1) n

/-- Write bytes from address a, in canonical form. -/
def writeCells (cs : List Host.Cell) (a : Nat) : List Byte → List Host.Cell
  | [] => cs
  | b :: bs => writeCells (SMap.put 0 cs a b) (a + 1) bs

/-- n bytes from address a. -/
def Memory.bytes (m : Memory) (a n : Nat) : List Byte := readCells m.cells a n

/-- The 64-bit word at the 8 B address a (R8). -/
def Memory.word (m : Memory) (a : Nat) : W64 := BitVec.ofNat 64 (leNat (m.bytes a 8))

/-- The mark of the word at a. -/
def Memory.mark (m : Memory) (a : Nat) : Byte := SMap.get 0 m.marks (a / 8)

/-- Write the bytes from a, and leave every mark. -/
def Memory.setBytes (m : Memory) (a : Nat) (bs : List Byte) : Memory :=
  { m with cells := writeCells m.cells a bs }

/-- Set the mark of the word at a. -/
def Memory.setMark (m : Memory) (a : Nat) (k : Byte) : Memory :=
  { m with marks := SMap.put 0 m.marks (a / 8) k }

/-- Write one word with its mark. -/
def Memory.putWord (m : Memory) (a : Nat) (w : W64) (k : Byte) : Memory :=
  (m.setBytes a (leBytes 8 w.toNat)).setMark a k

/-- Set the marks of n words from the one at a. -/
def Memory.setMarks (m : Memory) (a : Nat) (k : Byte) : Nat → Memory
  | 0 => m
  | n + 1 => (m.setMark a k).setMarks (a + 8) k n

/-- Write one 64 B row at the row address a, every word with the mark k. -/
def Memory.putRow (m : Memory) (a : Nat) (bs : List Byte) (k : Byte) : Memory :=
  (m.setBytes a (padTo 64 bs)).setMarks a k 8

/-- Zero the bytes [lo, hi) with valid check bits. -/
def Memory.zero (m : Memory) (lo hi : Nat) : Memory :=
  { cells := SMap.clear m.cells lo hi, marks := SMap.clear m.marks (lo / 8) ((hi + 7) / 8) }

/-- The canonical form of both lists. -/
def Memory.wf (m : Memory) : Bool := SMap.wf 0 m.cells && SMap.wf 0 m.marks

/-! ### SEC-DED (72,64) (R491) -/

/-- The 64 columns h_i of the check matrix: the byte values of weight 3, then the first eight of weight 5. -/
def eccCols : List Nat :=
  ((List.range 256).filter fun x => popcount 8 x = 3) ++
  (((List.range 256).filter fun x => popcount 8 x = 5).take 8)

/-- The check byte of a word: the XOR of h_i over its 1 bits (R491). -/
def eccCheck (w : W64) : Nat :=
  ((List.range 64).zip eccCols).foldl (fun acc p => if w.getLsbD p.1 then acc ^^^ p.2 else acc) 0

/-- What a syndrome says of a word: none = uncorrectable; otherwise the corrected word (R491). -/
def eccFix (syn : Byte) (w : W64) : Option W64 :=
  if syn = 0 then some w
  else if popcount 8 syn.toNat = 1 then some w
  else match eccCols.findIdx? (fun c => decide (c = syn.toNat)) with
    | some i => some (w ^^^ BitVec.ofNat 64 (2 ^ i))
    | none => none

/-! ### The bay symbol code (R264) -/

/-- α·v in GF(2^16) with the field polynomial x^16 + x^12 + x^3 + x + 1, α being the class of x. -/
def gfDouble (v : W16) : W16 := (v <<< 1) ^^^ (if v.msb then 0x100B else 0)

/-- α^n·v. -/
def gfShift (v : W16) : Nat → W16
  | 0 => v
  | n + 1 => gfShift (gfDouble v) n

/-- Syndrome i of a row's 36 symbols: their polynomial at the root α^i of the generator, for i = 0 to 3. Its coefficients of
x^0 to x^3 are the check symbols and that of x^(4 + j) is data symbol j (DESIGN CHOICE of the order, log entry 97). -/
def rsSyndrome (i : Nat) : List W16 → W16
  | [] => 0
  | v :: vs => v ^^^ gfShift (rsSyndrome i vs) i

/-- What the four syndromes say: none = two or three symbols are wrong; otherwise the place of the one symbol in error, and
the error (R264). -/
def rsFind (s0 s1 s2 s3 : W16) : Option (Nat × W16) :=
  if s0 = 0 then none
  else ((List.range 36).find? fun p => gfShift s0 p = s1 && gfShift s1 p = s2 && gfShift s2 p = s3).map fun p => (p, s0)

/-- The syndromes of the class W bay row at a, as they stand in the marks of its words: syndrome i in those of words 2i and
2i + 1. -/
def Memory.rowSyn (m : Memory) (a : Nat) : List W16 :=
  (List.range 4).map fun i => (m.mark (a + 16 * i + 8)) ++ (m.mark (a + 16 * i))

/-- Correct the class W bay row at a where one symbol of it is wrong. -/
def Memory.rowFix (m : Memory) (a : Nat) : Option Memory :=
  match m.rowSyn a with
  | [s0, s1, s2, s3] => (rsFind s0 s1 s2 s3).map fun q =>
      let b := a + 2 * (q.1 - 4)
      let old := BitVec.ofNat 16 (leNat (m.bytes b 2))
      (if q.1 < 4 then m else m.setBytes b (leBytes 2 (old ^^^ q.2).toNat)).setMarks a 0 8
  | _ => none

/-! ### The engine address space (R29 to R31) -/

/-- Where an engine address lies. -/
inductive Place
  | bay (b off : Nat)
  | cluster (k off : Nat)
  | tile (t off : Nat)
  | none
  deriving DecidableEq, Repr

/-- The first address of bay b. -/
def bayBase (b : Nat) : Nat := b * 2 ^ 37
/-- The first address of cluster k's window. -/
def clusterBase (k : Nat) : Nat := 0x800000000000 + k * 0x200000
/-- The first address of tile t's window. -/
def tileBase (t : Nat) : Nat := 0xC00000000000 + t * 0x10000

/-- The bay address that an aperture address reaches (R30); any other address is itself. -/
def deAperture (a : Nat) : Nat :=
  if 0x400000000000 ≤ a && a < 0x450000000000 then
    let o := a - 0x400000000000
    let stripe := o / 4096
    (stripe % 40) * 2 ^ 37 + (stripe / 40) * 4096 + o % 4096
  else a

/-- Decode an engine address (R29). -/
def placeOf (a0 : Nat) : Place :=
  let a := deAperture a0
  if a < 0x050000000000 then .bay (a / 2 ^ 37) (a % 2 ^ 37)
  else if 0x800000000000 ≤ a && a < 0x800258000000 then
    .cluster ((a - 0x800000000000) / 0x200000) ((a - 0x800000000000) % 0x200000)
  else if 0xC00000000000 ≤ a && a < 0xC00384000000 then
    .tile ((a - 0xC00000000000) / 0x10000) ((a - 0xC00000000000) % 0x10000)
  else .none

/-! ### Coordinates (R6, R22) -/

/-- The cluster of a tile (R22). -/
def clusterOf (t : Nat) : Nat := (t / 640 / 6) * 80 + (t % 640) / 8
/-- The canton of a cluster (R22). -/
def cantonOfCluster (k : Nat) : Nat := (k / 80 / 6) * 10 + (k % 80) / 8
/-- The canton of a tile (R22). -/
def cantonOf (t : Nat) : Nat := (t / 640 / 36) * 10 + (t % 640) / 64
/-- Local cluster number in its canton (R22). -/
def localCluster (k : Nat) : Nat := (k / 80 % 6) * 8 + k % 80 % 8
/-- Local tile number in its cluster (R22). -/
def localTile (t : Nat) : Nat := (t / 640 % 6) * 8 + t % 640 % 8
/-- The cluster with a local number in a canton. -/
def clusterAt (c l : Nat) : Nat := ((c / 10) * 6 + l / 8) * 80 + (c % 10) * 8 + l % 8
/-- The tile with a local number in a cluster. -/
def tileAt (k l : Nat) : Nat := ((k / 80) * 6 + l / 8) * 640 + (k % 80) * 8 + l % 8
/-- The clusters of a canton. -/
def clustersOf (c : Nat) : List Nat := (List.range 48).map (clusterAt c)
/-- The tiles of a cluster. -/
def tilesOfCluster (k : Nat) : List Nat := (List.range 48).map (tileAt k)
/-- The tiles of a canton. -/
def tilesOf (c : Nat) : List Nat := (clustersOf c).flatMap tilesOfCluster

/-- Whether a canton has a bay (R16). -/
def hasBay (c : Nat) : Bool := (c % 10 + c / 10) % 5 = 0 || (c % 10 + c / 10) % 5 = 2
/-- Whether a canton has a port (R16). -/
def hasPort (c : Nat) : Bool := (c % 10 + c / 10) % 5 = 0
/-- The bay cantons in ascending order (R17). -/
def bayCantons : List Nat := (List.range 100).filter hasBay
/-- The port cantons in ascending order (R17). -/
def portCantons : List Nat := (List.range 100).filter hasPort
/-- The canton of bay b. -/
def bayCanton (b : Nat) : Nat := bayCantons.getD b 0
/-- The canton of port p. -/
def portCanton (p : Nat) : Nat := portCantons.getD p 0
/-- The bay of a canton, 40 where it has none. -/
def bayOfCanton (c : Nat) : Nat := if hasBay c then bayCantons.idxOf c else 40
/-- The home bay of a port (R19). -/
def homeBay (p : Nat) : Nat := bayOfCanton (portCanton p)

/-- The neighbour canton in direction d (0 = N, 1 = E, 2 = S, 3 = W); none at the wafer's edge (R170). -/
def cantonNeighbour (c d : Nat) : Option Nat :=
  match d with
  | 0 => if c / 10 = 0 then none else some (c - 10)
  | 1 => if c % 10 = 9 then none else some (c + 1)
  | 2 => if c / 10 = 9 then none else some (c + 10)
  | _ => if c % 10 = 0 then none else some (c - 1)

/-- The neighbour tile in direction d (R170). -/
def tileNeighbour (t d : Nat) : Option Nat :=
  match d with
  | 0 => if t / 640 = 0 then none else some (t - 640)
  | 1 => if t % 640 = 639 then none else some (t + 1)
  | 2 => if t / 640 = 359 then none else some (t + 640)
  | _ => if t % 640 = 0 then none else some (t - 1)

/-- The neighbour cluster in direction d (R203). -/
def clusterNeighbour (k d : Nat) : Option Nat :=
  match d with
  | 0 => if k / 80 = 0 then none else some (k - 80)
  | 1 => if k % 80 = 79 then none else some (k + 1)
  | 2 => if k / 80 = 59 then none else some (k + 80)
  | _ => if k % 80 = 0 then none else some (k - 1)

/-- The opposite direction. -/
def opp (d : Nat) : Nat := (d + 2) % 4

/-! ### The units of the state -/

/-- Tile t. -/
def State.tile (s : State) (t : Nat) : Tile := SMap.get {} s.tiles t
/-- Replace tile t. -/
def State.setTile (s : State) (t : Nat) (x : Tile) : State := { s with tiles := SMap.put {} s.tiles t x }
/-- Router of tile t. -/
def State.router (s : State) (t : Nat) : Router := SMap.get {} s.routers t
/-- Replace the router of tile t. -/
def State.setRouter (s : State) (t : Nat) (x : Router) : State := { s with routers := SMap.put {} s.routers t x }
/-- Canton c. -/
def State.canton (s : State) (c : Nat) : Canton := SMap.get {} s.cantons c
/-- Replace canton c. -/
def State.setCanton (s : State) (c : Nat) (x : Canton) : State := { s with cantons := SMap.put {} s.cantons c x }
/-- Cluster k. -/
def State.cluster (s : State) (k : Nat) : Cluster := SMap.get {} s.clusters k
/-- Replace cluster k. -/
def State.setCluster (s : State) (k : Nat) (x : Cluster) : State := { s with clusters := SMap.put {} s.clusters k x }
/-- Bay b. -/
def State.bay (s : State) (b : Nat) : Bay := SMap.get {} s.bays b
/-- Replace bay b. -/
def State.setBay (s : State) (b : Nat) (x : Bay) : State := { s with bays := SMap.put {} s.bays b x }
/-- Mesh router of cluster k. -/
def State.mrouter (s : State) (k : Nat) : MeshRouter := SMap.get {} s.mesh k
/-- Replace the mesh router of cluster k. -/
def State.setMrouter (s : State) (k : Nat) (x : MeshRouter) : State := { s with mesh := SMap.put {} s.mesh k x }

/-- Apply f to every tile that a list names. -/
def State.mapTiles (s : State) (ts : List Nat) (f : Tile → Tile) : State :=
  { s with tiles := ts.foldl (fun m t => SMap.put {} m t (f (SMap.get {} m t))) s.tiles }

/-- Apply f to every router that a list names. -/
def State.mapRouters (s : State) (ts : List Nat) (f : Nat → Router → Router) : State :=
  { s with routers := ts.foldl (fun m t => SMap.put {} m t (f t (SMap.get {} m t))) s.routers }

/-- TILE_PRESENT of a tile (R27). -/
def State.isPresent (s : State) (t : Nat) : Bool := (SMap.get 0 s.present (t / 64)).getLsbD (t % 64)

/-- Set TILE_PRESENT of a tile. -/
def State.setPresent (s : State) (t : Nat) (b : Bool) : State :=
  let w := SMap.get 0 s.present (t / 64)
  let m := BitVec.ofNat 64 (2 ^ (t % 64))
  { s with present := SMap.put 0 s.present (t / 64) (if b then w ||| m else w &&& ~~~m) }

end Sys2Proof.Machine
end

