-- ==== Sys2Proof/Machine/RegSpec.lean ====
section
/-! DEFINITION. The registers that hold their fields as a word: reset values, access masks and fields, from the register
tables of the spec (R8, R10). Registers whose fields other state holds are read and written in Registers.lean. -/
namespace Sys2Proof.Machine

/-- A register that is held as a word: its reset value and the bits of each kind of access (R10). -/
structure RegSpec where
  reset : Nat
  rw : Nat := 0
  tx : Nat := 0
  w1c : Nat := 0
  ws : Nat := 0
  deriving DecidableEq, Repr

/-- Registers outside the port and canton windows, by BAR0 offset. -/
def glbSpecs : List (Nat × RegSpec) :=
  [(0x0, ⟨0x102000001021E57, 0x0, 0x0, 0x0, 0x0⟩) /- GLB_ID -/,
   (0x10, ⟨0x1, 0x0, 0x0, 0x100, 0x0⟩) /- GLB_ENGINE_STATE -/,
   (0x200, ⟨0x0, 0xFFF, 0x0, 0x0, 0x0⟩) /- GLB_TP_SEL -/,
   (0x210, ⟨0x0, 0x0, 0x0, 0x0, 0x0⟩) /- GLB_TP_GEN -/,
   (0x300, ⟨0x0, 0x7FFFFFC00000FFF8, 0x0, 0x0, 0x0⟩) /- TILE_ACC_ADDR -/,
   (0x310, ⟨0x0, 0x1, 0x0, 0x0, 0x0⟩) /- TILE_ACC_CTRL -/,
   (0x318, ⟨0x0, 0x0, 0x0, 0x2, 0x0⟩) /- TILE_ACC_STAT -/,
   (0x10000, ⟨0x0, 0xFFF07FF8000, 0x0, 0x0, 0x0⟩) /- HIF_CTRL -/,
   (0x10008, ⟨0x0, 0xFFC000000000, 0x0, 0x0, 0x0⟩) /- HIF_WIN_BASE -/,
   (0x10010, ⟨0x0, 0x0, 0x0, 0x3E, 0x0⟩) /- HIF_STAT -/,
   (0x10020, ⟨0x0, 0xFFF, 0x0, 0x0, 0x0⟩) /- HIF_RING_SEL -/,
   (0x20000, ⟨0x2, 0x830, 0x0, 0x0, 0x100⟩) /- CKM_REF_SEL -/,
   (0x20008, ⟨0x0, 0x0, 0x0, 0xF0, 0x0⟩) /- CKM_REF_STAT -/,
   (0x20010, ⟨0x0, 0x1F, 0x0, 0x0, 0x0⟩) /- CKM_TPORT -/,
   (0x20018, ⟨0x10000, 0x0, 0x0, 0x0, 0x0⟩) /- CKM_STEER -/,
   (0x20030, ⟨0x4000000000000000, 0x0, 0x0, 0x8000000000000000, 0x0⟩) /- CKM_DOM -/,
   (0x20038, ⟨0x0, 0x0, 0x0, 0x0, 0xFFFFFFFFFFFFFFF⟩) /- CKM_RESTART -/,
   (0x20040, ⟨0x0, 0xFFFFFFFFFFFFFFFF, 0x0, 0x0, 0x0⟩) /- CKM_FAILCNT -/,
   (0x30000, ⟨0x0, 0x0, 0x0, 0x30000000, 0x0⟩) /- PWR_BOOT_STAT -/,
   (0x30008, ⟨0x0, 0x0, 0x0, 0x0, 0x0⟩) /- PWR_BOOT_TIME -/,
   (0x30010, ⟨0x0, 0xFFFF, 0x0, 0x0, 0x0⟩) /- PWR_CAP -/,
   (0x30018, ⟨0x0, 0xFFFF00000000, 0x0, 0x8, 0x0⟩) /- PWR_STAT -/,
   (0x40000, ⟨0x0, 0xFFFF, 0x0, 0x0, 0x0⟩) /- FUS_SEL -/,
   (0x50000, ⟨0x0, 0xFFFFFFFFFFFFFFC0, 0x0, 0x0, 0x0⟩) /- ERR_RING_BASE -/,
   (0x50008, ⟨0x600, 0x7FF010F01, 0x0, 0x0, 0x0⟩) /- ERR_RING_CFG -/,
   (0x50010, ⟨0x0, 0xFFFFFFFF00000000, 0x0, 0x0, 0x0⟩) /- ERR_RING_PTR -/,
   (0x50018, ⟨0x0, 0xFFFF000000000000, 0x0, 0x3E, 0x0⟩) /- ERR_STAT -/,
   (0x50020, ⟨0x10000, 0x10000, 0xFFFF, 0x0, 0x0⟩) /- ERR_RECOV_CTRL -/,
   (0x50028, ⟨0x0, 0xFF, 0x0, 0x0, 0x0⟩) /- ERR_RECOV_STAT -/,
   (0x60008, ⟨0x0, 0x0, 0x0, 0xC0, 0x0⟩) /- TXN_STAT -/,
   (0x70000, ⟨0x0, 0x0, 0x0, 0xF800000000, 0x0⟩) /- MGT_STAT -/,
   (0x70010, ⟨0xF, 0xF, 0x0, 0x0, 0x0⟩) /- MGT_CLK_EN -/,
   (0x70018, ⟨0x0, 0x7F, 0x0, 0x0, 0x0⟩) /- MGT_SENS_SEL -/,
   (0x70038, ⟨0x0, 0x7FFFFFFFF, 0x0, 0x0, 0x0⟩) /- MGT_FLASH_ADDR -/,
   (0x70048, ⟨0x0, 0x1F00000000, 0x0, 0x0, 0x3⟩) /- MGT_FLASH_CMD -/,
   (0x80000, ⟨0x0, 0x7FFFF, 0x0, 0x0, 0x0⟩) /- CNT_SEL -/,
   (0x3F0000, ⟨0x0, 0xFFFFF, 0x0, 0x0, 0x0⟩) /- PRT_CLK_EN -/]

/-- Registers of a port window, by the offset of port 0. -/
def prtSpecs : List (Nat × RegSpec) :=
  [(0x100000, ⟨0xC4, 0x4, 0x3C1, 0x0, 0x2⟩) /- PRT_LINK_CTRL -/,
   (0x100008, ⟨0x0, 0xFFFFFFFF00000000, 0x0, 0x1, 0x0⟩) /- PRT_LINK_STAT -/,
   (0x100010, ⟨0x0, 0xFFFFFFFFFFFFFFFF, 0x0, 0x0, 0x0⟩) /- PRT_FEC_CNT -/,
   (0x100018, ⟨0x0, 0x0, 0x0, 0x0, 0x0⟩) /- PRT_MAC -/,
   (0x100020, ⟨0x3798C0000, 0x0, 0x3FFFFEFFF, 0x0, 0x0⟩) /- PRT_NET_CFG -/,
   (0x100028, ⟨0x0, 0x0, 0xFFFFFFFFFFFFFFFF, 0x0, 0x0⟩) /- PRT_IP0 -/,
   (0x100030, ⟨0x0, 0x0, 0xFFFFFFFFFFFFFFFF, 0x0, 0x0⟩) /- PRT_IP1 -/,
   (0x100038, ⟨0x0, 0x0, 0xFFFFFFFFFFFFFFFF, 0x0, 0x0⟩) /- PRT_PEER_IP0 -/,
   (0x100040, ⟨0x0, 0x0, 0xFFFFFFFFFFFFFFFF, 0x0, 0x0⟩) /- PRT_PEER_IP1 -/,
   (0x100048, ⟨0x0, 0x0, 0xFFFFFFFFFFFF, 0x0, 0x0⟩) /- PRT_PEER_MAC -/,
   (0x100050, ⟨0x60004000000, 0x0, 0xFFFFFFFF0000, 0x0, 0x0⟩) /- PRT_PFC -/,
   (0x100058, ⟨0x44F20000000F3280, 0x0, 0xFFFFFFFFFFFFFFF5, 0x0, 0x0⟩) /- PRT_WXT_CTRL -/,
   (0x100060, ⟨0x0, 0x0, 0x0, 0x78, 0x0⟩) /- PRT_WXT_STAT -/,
   (0x100068, ⟨0x0, 0xFFFFFFFFFFFFFFFF, 0x0, 0x0, 0x0⟩) /- PRT_WXT_CNT -/,
   (0x100070, ⟨0x0, 0x0, 0xFFFFFFFFFFC0, 0x0, 0x0⟩) /- PRT_GX_BASE -/,
   (0x100078, ⟨0x8000000, 0x0, 0xFFFFFFFFFFFE0000, 0x0, 0x0⟩) /- PRT_GX_CTRL -/,
   (0x100080, ⟨0xFF0F00000004, 0xFFFF000000000000, 0x0, 0x3, 0x0⟩) /- PRT_ESMC -/,
   (0x100088, ⟨0x0, 0xFFFFFFFFFFFF0000, 0x0, 0x0, 0x0⟩) /- PRT_PORT_ERR -/,
   (0x108000, ⟨0x0, 0x0, 0xFFFF01, 0x0, 0x0⟩) /- PRT_UE_CTRL -/,
   (0x108008, ⟨0x100001201, 0x0, 0xFF000113E3, 0x0, 0x0⟩) /- PRT_UE_CFG -/,
   (0x108010, ⟨0x0, 0x0, 0x7FFFFFFFFFFFFFF, 0x0, 0x0⟩) /- PRT_UE_SHARD -/,
   (0x108018, ⟨0x0, 0x0, 0xFFFFFFFFFFFF, 0x0, 0x0⟩) /- PRT_UE_HP_STEP -/,
   (0x108020, ⟨0x0, 0x0, 0xFFFFFFFF, 0x0, 0x0⟩) /- PRT_UE_HP0 -/,
   (0x108028, ⟨0x0, 0x0, 0xFFFFFFFF, 0x0, 0x0⟩) /- PRT_UE_HP1 -/,
   (0x108030, ⟨0x0, 0x0, 0xFFFFFFFF, 0x0, 0x0⟩) /- PRT_UE_HP2 -/,
   (0x108038, ⟨0x0, 0x0, 0xFFFFFFFF, 0x0, 0x0⟩) /- PRT_UE_HP3 -/,
   (0x108040, ⟨0x0, 0x0, 0xFFFFFFFF, 0x0, 0x0⟩) /- PRT_UE_HP4 -/,
   (0x108048, ⟨0x0, 0x0, 0xFFFFFFFF, 0x0, 0x0⟩) /- PRT_UE_HP5 -/,
   (0x108050, ⟨0x3F800000, 0x0, 0xFFFFFFFF, 0x0, 0x0⟩) /- PRT_UE_HP6 -/,
   (0x108058, ⟨0x0, 0x0, 0xF00FFFFFFFFFFFF, 0x0, 0x0⟩) /- PRT_UE_CMD -/,
   (0x108060, ⟨0x0, 0x0, 0x0, 0x78, 0x0⟩) /- PRT_UE_STAT -/,
   (0x108068, ⟨0x0, 0x0, 0x0, 0x0, 0x0⟩) /- PRT_UE_STEP -/,
   (0x108070, ⟨0x0, 0x0, 0x0, 0x0, 0x0⟩) /- PRT_UE_SCAN -/,
   (0x108078, ⟨0x0, 0x0, 0x0, 0x0, 0x0⟩) /- PRT_UE_DIG0 -/,
   (0x108080, ⟨0x0, 0x0, 0x0, 0x0, 0x0⟩) /- PRT_UE_DIG1 -/,
   (0x108088, ⟨0x0, 0x0, 0x0, 0x0, 0x0⟩) /- PRT_UE_DIG2 -/,
   (0x108090, ⟨0x0, 0xFFFFFFFFFFFFFFFF, 0x0, 0x0, 0x0⟩) /- PRT_UE_CNT -/,
   (0x108098, ⟨0x0, 0x0, 0xFFFFFFFFFFFFFFF0, 0x0, 0x0⟩) /- PRT_UE_REFRESH -/]

/-- Registers of a canton window, by the offset of canton 0. -/
def canSpecs : List (Nat × RegSpec) :=
  [(0x408000, ⟨0x0, 0x0, 0x0, 0x0, 0x0⟩) /- CAN_MESH_LINK -/,
   (0x408008, ⟨0x0, 0x0, 0x0, 0x0, 0x0⟩) /- CAN_MESH_RTR -/,
   (0x408010, ⟨0x0, 0x1FFF, 0x0, 0x0, 0x0⟩) /- CAN_MESH_WPT_ADDR -/,
   (0x408020, ⟨0x64, 0x0, 0xFFFF, 0x0, 0x0⟩) /- CAN_MESH_TMO -/,
   (0x408028, ⟨0x0, 0xFFFFFFFFFFFF0000, 0x0, 0x1F, 0x0⟩) /- CAN_MESH_ERR -/,
   (0x408100, ⟨0x2000, 0x0, 0x0, 0x0, 0x0⟩) /- CAN_HAL_TREE -/,
   (0x408108, ⟨0x0, 0xFFFF000000000000, 0x0, 0xE, 0x0⟩) /- CAN_HAL_STAT -/,
   (0x408110, ⟨0x2000, 0x0, 0x0, 0x0, 0x0⟩) /- CAN_HAL_ETREE -/,
   (0x408200, ⟨0x0, 0x3F, 0x0, 0x0, 0x0⟩) /- CAN_SPILL_SEL -/,
   (0x408210, ⟨0x0, 0xFFFFFFFFFFFFFFFF, 0x0, 0x0, 0x0⟩) /- CAN_DL_CNT -/,
   (0x408300, ⟨0x0, 0xFFBF, 0x0, 0x0, 0x0⟩) /- CAN_CLU_SEL -/,
   (0x408400, ⟨0x10000000001, 0xFFFF00000001, 0x0, 0x0, 0x0⟩) /- BAY_CFG -/,
   (0x408408, ⟨0x0, 0x0, 0x0, 0x0, 0x0⟩) /- BAY_STAT -/,
   (0x408410, ⟨0x0, 0x0, 0x0, 0x0, 0xFFFFFFFF⟩) /- BAY_RETRAIN -/,
   (0x408418, ⟨0x0, 0xFFFFFFFFFFFFFFFF, 0x0, 0x0, 0x0⟩) /- BAY_ERRCNT -/,
   (0x408420, ⟨0x0, 0x7F, 0x0, 0x0, 0x0⟩) /- BAY_REGION_SEL -/,
   (0x408500, ⟨0x0, 0x3, 0x0, 0x0, 0x100⟩) /- CAN_CLK_CTRL -/,
   (0x408508, ⟨0xF00000, 0xFFFFFFFF00000000, 0x0, 0x40000, 0x0⟩) /- CAN_CLK_STAT -/,
   (0x408600, ⟨0x8000000000, 0x0, 0x0, 0x0, 0x0⟩) /- CAN_BRU_STAT -/]

/-- The register of window 0 that a BAR0 offset falls on. -/
def baseOff (off : Nat) : Nat :=
  if 0x100000 ≤ off && off < 0x240000 then 0x100000 + off % 0x10000
  else if 0x400000 ≤ off && off < 0xA40000 then 0x400000 + off % 0x10000
  else off

/-- The description of the register at a BAR0 offset. -/
def regSpec (off : Nat) : RegSpec :=
  let b := baseOff off
  let l := if 0x400000 ≤ b then canSpecs else if b = 0x3F0000 || b < 0x100000 then glbSpecs else prtSpecs
  SMap.get ⟨0, 0, 0, 0, 0⟩ l b

/-- The reset value of the register at a BAR0 offset. -/
def regReset (off : Nat) : W64 := BitVec.ofNat 64 (regSpec off).reset

/-- A register as it stands. -/
def State.reg (s : State) (off : Nat) : W64 := SMap.get (regReset off) s.regs off

/-- Set a register. -/
def State.setReg (s : State) (off : Nat) (v : W64) : State := { s with regs := SMap.put (regReset off) s.regs off v }

/-- A field of a register: the register's offset in window 0, its lowest bit and its width. -/
structure Fld where
  off : Nat
  lo : Nat
  n : Nat
  deriving DecidableEq, Repr

/-- Field f of window i. -/
def State.fget (s : State) (f : Fld) (i : Nat := 0) : Nat := fld (s.reg (f.off + i * 0x10000)).toNat f.lo f.n

/-- Set field f of window i. -/
def State.fset (s : State) (f : Fld) (v : Nat) (i : Nat := 0) : State :=
  let o := f.off + i * 0x10000
  let w := (s.reg o).toNat
  s.setReg o (BitVec.ofNat 64 (w - fld w f.lo f.n * 2 ^ f.lo + v % 2 ^ f.n * 2 ^ f.lo))

/-- Set bit k of field f of window i. -/
def State.putBit (s : State) (f : Fld) (k : Nat) (v : Bool) (i : Nat := 0) : State :=
  let w := s.fget f i
  s.fset f ((if w.testBit k then w - 2 ^ k else w) + b2n v * 2 ^ k) i

/-- Add to field f of window i, saturating. -/
def State.finc (s : State) (f : Fld) (i : Nat := 0) (k : Nat := 1) : State := s.fset f (satAdd f.n (s.fget f i) k) i

/-- Whether a one-bit field is set. -/
def State.fbit (s : State) (f : Fld) (i : Nat := 0) : Bool := s.fget f i ≠ 0

/-! ### Fields -/

/-- GLB_TP_SEL.WORD. -/
abbrev fGlbTpSelWord : Fld := ⟨0x200, 0, 12⟩
/-- GLB_TP_GEN.ABSENT_COUNT. -/
abbrev fGlbTpGenAbsentCount : Fld := ⟨0x210, 32, 32⟩
/-- GLB_TP_GEN.GEN. -/
abbrev fGlbTpGenGen : Fld := ⟨0x210, 0, 32⟩
/-- TILE_ACC_ADDR.SPACE. -/
abbrev fTileAccAddrSpace : Fld := ⟨0x300, 58, 5⟩
/-- TILE_ACC_ADDR.PHYS. -/
abbrev fTileAccAddrPhys : Fld := ⟨0x300, 57, 1⟩
/-- TILE_ACC_ADDR.TILE. -/
abbrev fTileAccAddrTile : Fld := ⟨0x300, 38, 19⟩
/-- TILE_ACC_ADDR.OFFSET. -/
abbrev fTileAccAddrOffset : Fld := ⟨0x300, 3, 13⟩
/-- TILE_ACC_CTRL.AUTOINC. -/
abbrev fTileAccCtrlAutoinc : Fld := ⟨0x310, 0, 1⟩
/-- TILE_ACC_STAT.FAIL_OFFSET. -/
abbrev fTileAccStatFailOffset : Fld := ⟨0x318, 16, 13⟩
/-- TILE_ACC_STAT.ERR. -/
abbrev fTileAccStatErr : Fld := ⟨0x318, 8, 8⟩
/-- TILE_ACC_STAT.ERR_SEEN. -/
abbrev fTileAccStatErrSeen : Fld := ⟨0x318, 1, 1⟩
/-- TILE_ACC_STAT.BUSY. -/
abbrev fTileAccStatBusy : Fld := ⟨0x318, 0, 1⟩
/-- CAN_MESH_LINK.FAIL_W. -/
abbrev fCanMeshLinkFailW : Fld := ⟨0x408000, 22, 6⟩
/-- CAN_MESH_LINK.FAIL_E. -/
abbrev fCanMeshLinkFailE : Fld := ⟨0x408000, 16, 6⟩
/-- CAN_MESH_LINK.FAIL_S. -/
abbrev fCanMeshLinkFailS : Fld := ⟨0x408000, 8, 8⟩
/-- CAN_MESH_LINK.FAIL_N. -/
abbrev fCanMeshLinkFailN : Fld := ⟨0x408000, 0, 8⟩
/-- CAN_MESH_RTR.INNER_FAIL. -/
abbrev fCanMeshRtrInnerFail : Fld := ⟨0x408008, 56, 8⟩
/-- CAN_MESH_RTR.RTR_FAIL. -/
abbrev fCanMeshRtrRtrFail : Fld := ⟨0x408008, 0, 48⟩
/-- CAN_MESH_WPT_ADDR.DST. -/
abbrev fCanMeshWptAddrDst : Fld := ⟨0x408010, 0, 13⟩
/-- CAN_MESH_TMO.TMO_US. -/
abbrev fCanMeshTmoTmoUs : Fld := ⟨0x408020, 0, 16⟩
/-- CAN_MESH_ERR.REPLAY. -/
abbrev fCanMeshErrReplay : Fld := ⟨0x408028, 48, 16⟩
/-- CAN_MESH_ERR.PATH_FAIL. -/
abbrev fCanMeshErrPathFail : Fld := ⟨0x408028, 40, 8⟩
/-- CAN_MESH_ERR.TIMEOUT. -/
abbrev fCanMeshErrTimeout : Fld := ⟨0x408028, 32, 8⟩
/-- CAN_MESH_ERR.LATE. -/
abbrev fCanMeshErrLate : Fld := ⟨0x408028, 24, 8⟩
/-- CAN_MESH_ERR.REFUSED. -/
abbrev fCanMeshErrRefused : Fld := ⟨0x408028, 16, 8⟩
/-- CAN_MESH_ERR.PROTO_SEEN. -/
abbrev fCanMeshErrProtoSeen : Fld := ⟨0x408028, 4, 1⟩
/-- CAN_MESH_ERR.REFUSED_SEEN. -/
abbrev fCanMeshErrRefusedSeen : Fld := ⟨0x408028, 3, 1⟩
/-- CAN_MESH_ERR.TIMEOUT_SEEN. -/
abbrev fCanMeshErrTimeoutSeen : Fld := ⟨0x408028, 2, 1⟩
/-- CAN_MESH_ERR.PATH_SEEN. -/
abbrev fCanMeshErrPathSeen : Fld := ⟨0x408028, 1, 1⟩
/-- CAN_MESH_ERR.LINK_FAILED. -/
abbrev fCanMeshErrLinkFailed : Fld := ⟨0x408028, 0, 1⟩
/-- CAN_HAL_TREE.SLICE. -/
abbrev fCanHalTreeSlice : Fld := ⟨0x408100, 16, 4⟩
/-- CAN_HAL_TREE.VALID. -/
abbrev fCanHalTreeValid : Fld := ⟨0x408100, 15, 1⟩
/-- CAN_HAL_TREE.ROOT. -/
abbrev fCanHalTreeRoot : Fld := ⟨0x408100, 14, 1⟩
/-- CAN_HAL_TREE.PARENT. -/
abbrev fCanHalTreeParent : Fld := ⟨0x408100, 11, 3⟩
/-- CAN_HAL_TREE.CHILD. -/
abbrev fCanHalTreeChild : Fld := ⟨0x408100, 7, 4⟩
/-- CAN_HAL_TREE.DEPTH. -/
abbrev fCanHalTreeDepth : Fld := ⟨0x408100, 2, 5⟩
/-- CAN_HAL_TREE.AGENT. -/
abbrev fCanHalTreeAgent : Fld := ⟨0x408100, 1, 1⟩
/-- CAN_HAL_STAT.RETRY. -/
abbrev fCanHalStatRetry : Fld := ⟨0x408108, 48, 16⟩
/-- CAN_HAL_STAT.EFLAG. -/
abbrev fCanHalStatEflag : Fld := ⟨0x408108, 10, 1⟩
/-- CAN_HAL_STAT.LAST_FLAG. -/
abbrev fCanHalStatLastFlag : Fld := ⟨0x408108, 4, 6⟩
/-- CAN_HAL_STAT.LINK_FAILED. -/
abbrev fCanHalStatLinkFailed : Fld := ⟨0x408108, 3, 1⟩
/-- CAN_HAL_STAT.MISMATCH. -/
abbrev fCanHalStatMismatch : Fld := ⟨0x408108, 2, 1⟩
/-- CAN_HAL_STAT.OVERRUN. -/
abbrev fCanHalStatOverrun : Fld := ⟨0x408108, 1, 1⟩
/-- CAN_HAL_ETREE.VALID. -/
abbrev fCanHalEtreeValid : Fld := ⟨0x408110, 15, 1⟩
/-- CAN_HAL_ETREE.ROOT. -/
abbrev fCanHalEtreeRoot : Fld := ⟨0x408110, 14, 1⟩
/-- CAN_HAL_ETREE.PARENT. -/
abbrev fCanHalEtreeParent : Fld := ⟨0x408110, 11, 3⟩
/-- CAN_HAL_ETREE.CHILD. -/
abbrev fCanHalEtreeChild : Fld := ⟨0x408110, 7, 4⟩
/-- CAN_HAL_ETREE.DEPTH. -/
abbrev fCanHalEtreeDepth : Fld := ⟨0x408110, 2, 5⟩
/-- CAN_SPILL_SEL.CLUSTER. -/
abbrev fCanSpillSelCluster : Fld := ⟨0x408200, 0, 6⟩
/-- CAN_DL_CNT.PROBES. -/
abbrev fCanDlCntProbes : Fld := ⟨0x408210, 48, 16⟩
/-- CAN_DL_CNT.SPILL_ACT. -/
abbrev fCanDlCntSpillAct : Fld := ⟨0x408210, 40, 8⟩
/-- CAN_DL_CNT.EPOCH_ERR. -/
abbrev fCanDlCntEpochErr : Fld := ⟨0x408210, 32, 8⟩
/-- CAN_DL_CNT.SPILLED. -/
abbrev fCanDlCntSpilled : Fld := ⟨0x408210, 0, 32⟩
/-- CAN_CLU_SEL.DMAQ. -/
abbrev fCanCluSelDmaq : Fld := ⟨0x408300, 11, 5⟩
/-- CAN_CLU_SEL.PF. -/
abbrev fCanCluSelPf : Fld := ⟨0x408300, 7, 4⟩
/-- CAN_CLU_SEL.CLUSTER. -/
abbrev fCanCluSelCluster : Fld := ⟨0x408300, 0, 6⟩
/-- BAY_CFG.AUTO_THRESH. -/
abbrev fBayCfgAutoThresh : Fld := ⟨0x408400, 32, 16⟩
/-- BAY_CFG.AUTO. -/
abbrev fBayCfgAuto : Fld := ⟨0x408400, 0, 1⟩
/-- BAY_STAT.RETRAIN_ACT. -/
abbrev fBayStatRetrainAct : Fld := ⟨0x408408, 32, 32⟩
/-- BAY_STAT.SPARE_USED. -/
abbrev fBayStatSpareUsed : Fld := ⟨0x408408, 16, 16⟩
/-- BAY_STAT.FAILED_CH. -/
abbrev fBayStatFailedCh : Fld := ⟨0x408408, 8, 8⟩
/-- BAY_STAT.STATE. -/
abbrev fBayStatState : Fld := ⟨0x408408, 4, 4⟩
/-- BAY_RETRAIN.CH. -/
abbrev fBayRetrainCh : Fld := ⟨0x408410, 0, 32⟩
/-- BAY_ERRCNT.SYM_CORR. -/
abbrev fBayErrcntSymCorr : Fld := ⟨0x408418, 48, 16⟩
/-- BAY_ERRCNT.WORD_CORR. -/
abbrev fBayErrcntWordCorr : Fld := ⟨0x408418, 32, 16⟩
/-- BAY_ERRCNT.UNCORR. -/
abbrev fBayErrcntUncorr : Fld := ⟨0x408418, 16, 16⟩
/-- BAY_ERRCNT.RETRAINS. -/
abbrev fBayErrcntRetrains : Fld := ⟨0x408418, 0, 16⟩
/-- BAY_REGION_SEL.REGION. -/
abbrev fBayRegionSelRegion : Fld := ⟨0x408420, 0, 7⟩
/-- PRT_UE_CTRL.REFRESH_MODE. -/
abbrev fPrtUeCtrlRefreshMode : Fld := ⟨0x108000, 22, 2⟩
/-- PRT_UE_CTRL.REFRESH_FLAG. -/
abbrev fPrtUeCtrlRefreshFlag : Fld := ⟨0x108000, 16, 6⟩
/-- PRT_UE_CTRL.FLAG_EN. -/
abbrev fPrtUeCtrlFlagEn : Fld := ⟨0x108000, 15, 1⟩
/-- PRT_UE_CTRL.FLAG_OP. -/
abbrev fPrtUeCtrlFlagOp : Fld := ⟨0x108000, 12, 3⟩
/-- PRT_UE_CTRL.SLICE. -/
abbrev fPrtUeCtrlSlice : Fld := ⟨0x108000, 8, 4⟩
/-- PRT_UE_CTRL.EN. -/
abbrev fPrtUeCtrlEn : Fld := ⟨0x108000, 0, 1⟩
/-- PRT_UE_CFG.DIGEST_N. -/
abbrev fPrtUeCfgDigestN : Fld := ⟨0x108008, 32, 8⟩
/-- PRT_UE_CFG.NF. -/
abbrev fPrtUeCfgNf : Fld := ⟨0x108008, 16, 1⟩
/-- PRT_UE_CFG.EC. -/
abbrev fPrtUeCfgEc : Fld := ⟨0x108008, 12, 1⟩
/-- PRT_UE_CFG.DFMT. -/
abbrev fPrtUeCfgDfmt : Fld := ⟨0x108008, 5, 5⟩
/-- PRT_UE_CFG.RULE. -/
abbrev fPrtUeCfgRule : Fld := ⟨0x108008, 0, 2⟩
/-- PRT_UE_SHARD.STRIPES. -/
abbrev fPrtUeShardStripes : Fld := ⟨0x108010, 31, 28⟩
/-- PRT_UE_SHARD.BASE_ROW. -/
abbrev fPrtUeShardBaseRow : Fld := ⟨0x108010, 0, 31⟩
/-- PRT_UE_HP_STEP.ACT_STEP. -/
abbrev fPrtUeHpStepActStep : Fld := ⟨0x108018, 0, 48⟩
/-- PRT_UE_HP0. -/
abbrev fPrtUeHp0 : Fld := ⟨0x108020, 0, 32⟩
/-- PRT_UE_HP1. -/
abbrev fPrtUeHp1 : Fld := ⟨0x108028, 0, 32⟩
/-- PRT_UE_HP2. -/
abbrev fPrtUeHp2 : Fld := ⟨0x108030, 0, 32⟩
/-- PRT_UE_HP3. -/
abbrev fPrtUeHp3 : Fld := ⟨0x108038, 0, 32⟩
/-- PRT_UE_HP4. -/
abbrev fPrtUeHp4 : Fld := ⟨0x108040, 0, 32⟩
/-- PRT_UE_HP5. -/
abbrev fPrtUeHp5 : Fld := ⟨0x108048, 0, 32⟩
/-- PRT_UE_HP6. -/
abbrev fPrtUeHp6 : Fld := ⟨0x108050, 0, 32⟩
/-- PRT_UE_CMD.OP. -/
abbrev fPrtUeCmdOp : Fld := ⟨0x108058, 56, 4⟩
/-- PRT_UE_CMD.TARGET. -/
abbrev fPrtUeCmdTarget : Fld := ⟨0x108058, 0, 48⟩
/-- PRT_UE_STAT.STATE. -/
abbrev fPrtUeStatState : Fld := ⟨0x108060, 52, 4⟩
/-- PRT_UE_STAT.CMD_RESULT. -/
abbrev fPrtUeStatCmdResult : Fld := ⟨0x108060, 48, 4⟩
/-- PRT_UE_STAT.DONE. -/
abbrev fPrtUeStatDone : Fld := ⟨0x108060, 20, 28⟩
/-- PRT_UE_STAT.HP_PENDING. -/
abbrev fPrtUeStatHpPending : Fld := ⟨0x108060, 7, 1⟩
/-- PRT_UE_STAT.NONFINITE_SEEN. -/
abbrev fPrtUeStatNonfiniteSeen : Fld := ⟨0x108060, 6, 1⟩
/-- PRT_UE_STAT.FAULT_SEEN. -/
abbrev fPrtUeStatFaultSeen : Fld := ⟨0x108060, 5, 1⟩
/-- PRT_UE_STAT.EXPEL_SEEN. -/
abbrev fPrtUeStatExpelSeen : Fld := ⟨0x108060, 4, 1⟩
/-- PRT_UE_STAT.REFRESH_ERR. -/
abbrev fPrtUeStatRefreshErr : Fld := ⟨0x108060, 3, 1⟩
/-- PRT_UE_STEP.DIG_STEP. -/
abbrev fPrtUeStepDigStep : Fld := ⟨0x108068, 48, 16⟩
/-- PRT_UE_STEP.CSTEP. -/
abbrev fPrtUeStepCstep : Fld := ⟨0x108068, 0, 48⟩
/-- PRT_UE_SCAN.VALID. -/
abbrev fPrtUeScanValid : Fld := ⟨0x108070, 63, 1⟩
/-- PRT_UE_SCAN.INVALID. -/
abbrev fPrtUeScanInvalid : Fld := ⟨0x108070, 62, 1⟩
/-- PRT_UE_SCAN.SPREAD. -/
abbrev fPrtUeScanSpread : Fld := ⟨0x108070, 48, 8⟩
/-- PRT_UE_SCAN.MIN. -/
abbrev fPrtUeScanMin : Fld := ⟨0x108070, 0, 48⟩
/-- PRT_UE_DIG0. -/
abbrev fPrtUeDig0 : Fld := ⟨0x108078, 0, 64⟩
/-- PRT_UE_DIG1. -/
abbrev fPrtUeDig1 : Fld := ⟨0x108080, 0, 64⟩
/-- PRT_UE_DIG2. -/
abbrev fPrtUeDig2 : Fld := ⟨0x108088, 0, 64⟩
/-- PRT_UE_CNT.NONFINITE. -/
abbrev fPrtUeCntNonfinite : Fld := ⟨0x108090, 32, 32⟩
/-- PRT_UE_CNT.OVERFLOW. -/
abbrev fPrtUeCntOverflow : Fld := ⟨0x108090, 0, 32⟩
/-- PRT_UE_REFRESH.COUNT. -/
abbrev fPrtUeRefreshCount : Fld := ⟨0x108098, 48, 16⟩
/-- PRT_UE_REFRESH.TABLE. -/
abbrev fPrtUeRefreshTable : Fld := ⟨0x108098, 4, 44⟩
/-- PRT_CLK_EN.EN. -/
abbrev fPrtClkEnEn : Fld := ⟨0x3F0000, 0, 20⟩
/-- PRT_LINK_CTRL.MODE. -/
abbrev fPrtLinkCtrlMode : Fld := ⟨0x100000, 8, 2⟩
/-- PRT_LINK_CTRL.AN_EN. -/
abbrev fPrtLinkCtrlAnEn : Fld := ⟨0x100000, 7, 1⟩
/-- PRT_LINK_CTRL.LT_EN. -/
abbrev fPrtLinkCtrlLtEn : Fld := ⟨0x100000, 6, 1⟩
/-- PRT_LINK_CTRL.AUTO_RETRAIN. -/
abbrev fPrtLinkCtrlAutoRetrain : Fld := ⟨0x100000, 2, 1⟩
/-- PRT_LINK_CTRL.RETRAIN. -/
abbrev fPrtLinkCtrlRetrain : Fld := ⟨0x100000, 1, 1⟩
/-- PRT_LINK_CTRL.LINK_EN. -/
abbrev fPrtLinkCtrlLinkEn : Fld := ⟨0x100000, 0, 1⟩
/-- PRT_LINK_STAT.DOWN_COUNT. -/
abbrev fPrtLinkStatDownCount : Fld := ⟨0x100008, 48, 16⟩
/-- PRT_LINK_STAT.RETRAIN_COUNT. -/
abbrev fPrtLinkStatRetrainCount : Fld := ⟨0x100008, 32, 16⟩
/-- PRT_LINK_STAT.STATE. -/
abbrev fPrtLinkStatState : Fld := ⟨0x100008, 4, 4⟩
/-- PRT_LINK_STAT.PREEMPT. -/
abbrev fPrtLinkStatPreempt : Fld := ⟨0x100008, 3, 1⟩
/-- PRT_LINK_STAT.UP1. -/
abbrev fPrtLinkStatUp1 : Fld := ⟨0x100008, 2, 1⟩
/-- PRT_LINK_STAT.UP0. -/
abbrev fPrtLinkStatUp0 : Fld := ⟨0x100008, 1, 1⟩
/-- PRT_LINK_STAT.DOWN_SEEN. -/
abbrev fPrtLinkStatDownSeen : Fld := ⟨0x100008, 0, 1⟩
/-- PRT_FEC_CNT.CORR. -/
abbrev fPrtFecCntCorr : Fld := ⟨0x100010, 32, 32⟩
/-- PRT_FEC_CNT.UNCORR. -/
abbrev fPrtFecCntUncorr : Fld := ⟨0x100010, 16, 16⟩
/-- PRT_FEC_CNT.FCS_ERR. -/
abbrev fPrtFecCntFcsErr : Fld := ⟨0x100010, 0, 16⟩
/-- PRT_MAC.MAC. -/
abbrev fPrtMacMac : Fld := ⟨0x100018, 0, 48⟩
/-- PRT_NET_CFG.PFC_EN. -/
abbrev fPrtNetCfgPfcEn : Fld := ⟨0x100020, 33, 1⟩
/-- PRT_NET_CFG.IPV6. -/
abbrev fPrtNetCfgIpv6 : Fld := ⟨0x100020, 32, 1⟩
/-- PRT_NET_CFG.BULK_PRIO. -/
abbrev fPrtNetCfgBulkPrio : Fld := ⟨0x100020, 29, 3⟩
/-- PRT_NET_CFG.EXP_PRIO. -/
abbrev fPrtNetCfgExpPrio : Fld := ⟨0x100020, 26, 3⟩
/-- PRT_NET_CFG.BULK_DSCP. -/
abbrev fPrtNetCfgBulkDscp : Fld := ⟨0x100020, 20, 6⟩
/-- PRT_NET_CFG.EXP_DSCP. -/
abbrev fPrtNetCfgExpDscp : Fld := ⟨0x100020, 14, 6⟩
/-- PRT_NET_CFG.VLAN_EN. -/
abbrev fPrtNetCfgVlanEn : Fld := ⟨0x100020, 13, 1⟩
/-- PRT_NET_CFG.VLAN_ID. -/
abbrev fPrtNetCfgVlanId : Fld := ⟨0x100020, 0, 12⟩
/-- PRT_IP0. -/
abbrev fPrtIp0 : Fld := ⟨0x100028, 0, 64⟩
/-- PRT_IP1. -/
abbrev fPrtIp1 : Fld := ⟨0x100030, 0, 64⟩
/-- PRT_PEER_IP0. -/
abbrev fPrtPeerIp0 : Fld := ⟨0x100038, 0, 64⟩
/-- PRT_PEER_IP1. -/
abbrev fPrtPeerIp1 : Fld := ⟨0x100040, 0, 64⟩
/-- PRT_PEER_MAC.MAC. -/
abbrev fPrtPeerMacMac : Fld := ⟨0x100048, 0, 48⟩
/-- PRT_PFC.XOFF_KIB. -/
abbrev fPrtPfcXoffKib : Fld := ⟨0x100050, 32, 16⟩
/-- PRT_PFC.XON_KIB. -/
abbrev fPrtPfcXonKib : Fld := ⟨0x100050, 16, 16⟩
/-- PRT_WXT_CTRL.UDP_PORT. -/
abbrev fPrtWxtCtrlUdpPort : Fld := ⟨0x100058, 48, 16⟩
/-- PRT_WXT_CTRL.SHARD. -/
abbrev fPrtWxtCtrlShard : Fld := ⟨0x100058, 32, 16⟩
/-- PRT_WXT_CTRL.REPLICA. -/
abbrev fPrtWxtCtrlReplica : Fld := ⟨0x100058, 20, 12⟩
/-- PRT_WXT_CTRL.RETRY_MAX. -/
abbrev fPrtWxtCtrlRetryMax : Fld := ⟨0x100058, 16, 4⟩
/-- PRT_WXT_CTRL.RTO_US. -/
abbrev fPrtWxtCtrlRtoUs : Fld := ⟨0x100058, 8, 8⟩
/-- PRT_WXT_CTRL.ACK_EVERY. -/
abbrev fPrtWxtCtrlAckEvery : Fld := ⟨0x100058, 4, 4⟩
/-- PRT_WXT_CTRL.WPUSH_EN. -/
abbrev fPrtWxtCtrlWpushEn : Fld := ⟨0x100058, 2, 1⟩
/-- PRT_WXT_CTRL.EN. -/
abbrev fPrtWxtCtrlEn : Fld := ⟨0x100058, 0, 1⟩
/-- PRT_WXT_STAT.FLOWS_IN. -/
abbrev fPrtWxtStatFlowsIn : Fld := ⟨0x100060, 51, 5⟩
/-- PRT_WXT_STAT.TXBUF_KIB. -/
abbrev fPrtWxtStatTxbufKib : Fld := ⟨0x100060, 16, 16⟩
/-- PRT_WXT_STAT.REGISTERED. -/
abbrev fPrtWxtStatRegistered : Fld := ⟨0x100060, 7, 1⟩
/-- PRT_WXT_STAT.REG_LATE. -/
abbrev fPrtWxtStatRegLate : Fld := ⟨0x100060, 6, 1⟩
/-- PRT_WXT_STAT.FLOW_FAILED. -/
abbrev fPrtWxtStatFlowFailed : Fld := ⟨0x100060, 5, 1⟩
/-- PRT_WXT_STAT.REFUSED_SEEN. -/
abbrev fPrtWxtStatRefusedSeen : Fld := ⟨0x100060, 4, 1⟩
/-- PRT_WXT_STAT.RX_DROP_SEEN. -/
abbrev fPrtWxtStatRxDropSeen : Fld := ⟨0x100060, 3, 1⟩
/-- PRT_WXT_CNT.RETX. -/
abbrev fPrtWxtCntRetx : Fld := ⟨0x100068, 48, 16⟩
/-- PRT_WXT_CNT.NACK_TX. -/
abbrev fPrtWxtCntNackTx : Fld := ⟨0x100068, 32, 16⟩
/-- PRT_WXT_CNT.DROP. -/
abbrev fPrtWxtCntDrop : Fld := ⟨0x100068, 16, 16⟩
/-- PRT_WXT_CNT.DUP. -/
abbrev fPrtWxtCntDup : Fld := ⟨0x100068, 0, 16⟩
/-- PRT_GX_BASE.BASE. -/
abbrev fPrtGxBaseBase : Fld := ⟨0x100070, 6, 42⟩
/-- PRT_GX_CTRL.ELEMS. -/
abbrev fPrtGxCtrlElems : Fld := ⟨0x100078, 32, 32⟩
/-- PRT_GX_CTRL.FMT. -/
abbrev fPrtGxCtrlFmt : Fld := ⟨0x100078, 27, 5⟩
/-- PRT_GX_CTRL.GX_FLAG. -/
abbrev fPrtGxCtrlGxFlag : Fld := ⟨0x100078, 21, 6⟩
/-- PRT_GX_CTRL.GX_OP. -/
abbrev fPrtGxCtrlGxOp : Fld := ⟨0x100078, 18, 3⟩
/-- PRT_GX_CTRL.GX_EN. -/
abbrev fPrtGxCtrlGxEn : Fld := ⟨0x100078, 17, 1⟩
/-- PRT_GX_CTRL.BUSY. -/
abbrev fPrtGxCtrlBusy : Fld := ⟨0x100078, 0, 1⟩
/-- PRT_ESMC.PDU_COUNT. -/
abbrev fPrtEsmcPduCount : Fld := ⟨0x100080, 48, 16⟩
/-- PRT_ESMC.ESSM. -/
abbrev fPrtEsmcEssm : Fld := ⟨0x100080, 40, 8⟩
/-- PRT_ESMC.SSM. -/
abbrev fPrtEsmcSsm : Fld := ⟨0x100080, 32, 4⟩
/-- PRT_ESMC.QL_FAILED. -/
abbrev fPrtEsmcQlFailed : Fld := ⟨0x100080, 2, 1⟩
/-- PRT_ESMC.EVENT_SEEN. -/
abbrev fPrtEsmcEventSeen : Fld := ⟨0x100080, 1, 1⟩
/-- PRT_ESMC.CHANGE_SEEN. -/
abbrev fPrtEsmcChangeSeen : Fld := ⟨0x100080, 0, 1⟩
/-- PRT_PORT_ERR.GRAD_REFUSED. -/
abbrev fPrtPortErrGradRefused : Fld := ⟨0x100088, 48, 16⟩
/-- PRT_PORT_ERR.CTRL_REFUSED. -/
abbrev fPrtPortErrCtrlRefused : Fld := ⟨0x100088, 32, 16⟩
/-- PRT_PORT_ERR.FLOW_REFUSED. -/
abbrev fPrtPortErrFlowRefused : Fld := ⟨0x100088, 16, 16⟩
/-- PRT_PORT_ERR.LAST_REASON. -/
abbrev fPrtPortErrLastReason : Fld := ⟨0x100088, 8, 8⟩
/-- GLB_ID.FAMILY. -/
abbrev fGlbIdFamily : Fld := ⟨0x0, 56, 8⟩
/-- GLB_ID.MEMBER. -/
abbrev fGlbIdMember : Fld := ⟨0x0, 48, 8⟩
/-- GLB_ID.STEPPING. -/
abbrev fGlbIdStepping : Fld := ⟨0x0, 40, 8⟩
/-- GLB_ID.DEVICE_ID. -/
abbrev fGlbIdDeviceId : Fld := ⟨0x0, 16, 16⟩
/-- GLB_ID.VENDOR_ID. -/
abbrev fGlbIdVendorId : Fld := ⟨0x0, 0, 16⟩
/-- GLB_ENGINE_STATE.JOINED. -/
abbrev fGlbEngineStateJoined : Fld := ⟨0x10, 40, 8⟩
/-- GLB_ENGINE_STATE.CAUSE. -/
abbrev fGlbEngineStateCause : Fld := ⟨0x10, 16, 16⟩
/-- GLB_ENGINE_STATE.CHANGED. -/
abbrev fGlbEngineStateChanged : Fld := ⟨0x10, 8, 1⟩
/-- GLB_ENGINE_STATE.PREV. -/
abbrev fGlbEngineStatePrev : Fld := ⟨0x10, 4, 4⟩
/-- GLB_ENGINE_STATE.STATE. -/
abbrev fGlbEngineStateState : Fld := ⟨0x10, 0, 4⟩
/-- HIF_WIN_BASE.BASE. -/
abbrev fHifWinBaseBase : Fld := ⟨0x10008, 38, 10⟩
/-- TXN_STAT.TXN_ID. -/
abbrev fTxnStatTxnId : Fld := ⟨0x60008, 48, 16⟩
/-- TXN_STAT.COUNT. -/
abbrev fTxnStatCount : Fld := ⟨0x60008, 35, 13⟩
/-- TXN_STAT.OWNER_RING. -/
abbrev fTxnStatOwnerRing : Fld := ⟨0x60008, 34, 1⟩
/-- TXN_STAT.RING. -/
abbrev fTxnStatRing : Fld := ⟨0x60008, 22, 12⟩
/-- TXN_STAT.CAUSE. -/
abbrev fTxnStatCause : Fld := ⟨0x60008, 8, 8⟩
/-- TXN_STAT.UNSTAGED_SEEN. -/
abbrev fTxnStatUnstagedSeen : Fld := ⟨0x60008, 7, 1⟩
/-- TXN_STAT.FOREIGN_SEEN. -/
abbrev fTxnStatForeignSeen : Fld := ⟨0x60008, 6, 1⟩
/-- TXN_STAT.OVERFLOW. -/
abbrev fTxnStatOverflow : Fld := ⟨0x60008, 5, 1⟩
/-- TXN_STAT.CANTON_LOST. -/
abbrev fTxnStatCantonLost : Fld := ⟨0x60008, 4, 1⟩
/-- TXN_STAT.STATE. -/
abbrev fTxnStatState : Fld := ⟨0x60008, 0, 4⟩
/-- HIF_CTRL.TXN_VEC. -/
abbrev fHifCtrlTxnVec : Fld := ⟨0x10000, 33, 11⟩
/-- HIF_CTRL.TXN_IRQ_EN. -/
abbrev fHifCtrlTxnIrqEn : Fld := ⟨0x10000, 32, 1⟩
/-- HIF_CTRL.STATE_VEC. -/
abbrev fHifCtrlStateVec : Fld := ⟨0x10000, 16, 11⟩
/-- HIF_CTRL.STATE_IRQ_EN. -/
abbrev fHifCtrlStateIrqEn : Fld := ⟨0x10000, 15, 1⟩
/-- HIF_STAT.SPEED. -/
abbrev fHifStatSpeed : Fld := ⟨0x10010, 52, 4⟩
/-- HIF_STAT.WIDTH. -/
abbrev fHifStatWidth : Fld := ⟨0x10010, 47, 5⟩
/-- HIF_STAT.FLIT. -/
abbrev fHifStatFlit : Fld := ⟨0x10010, 46, 1⟩
/-- HIF_STAT.ERR_RING_VALID. -/
abbrev fHifStatErrRingValid : Fld := ⟨0x10010, 28, 1⟩
/-- HIF_STAT.ERR_RING. -/
abbrev fHifStatErrRing : Fld := ⟨0x10010, 16, 12⟩
/-- HIF_STAT.OFFLINE_SEEN. -/
abbrev fHifStatOfflineSeen : Fld := ⟨0x10010, 5, 1⟩
/-- HIF_STAT.BAR4_WR_SEEN. -/
abbrev fHifStatBar4WrSeen : Fld := ⟨0x10010, 4, 1⟩
/-- HIF_STAT.SIZE_SEEN. -/
abbrev fHifStatSizeSeen : Fld := ⟨0x10010, 3, 1⟩
/-- HIF_STAT.DB_ERR_SEEN. -/
abbrev fHifStatDbErrSeen : Fld := ⟨0x10010, 2, 1⟩
/-- HIF_STAT.HOST_ERR_SEEN. -/
abbrev fHifStatHostErrSeen : Fld := ⟨0x10010, 1, 1⟩
/-- HIF_RING_SEL.RING. -/
abbrev fHifRingSelRing : Fld := ⟨0x10020, 0, 12⟩
/-- MGT_CLK_EN.DEBUG. -/
abbrev fMgtClkEnDebug : Fld := ⟨0x70010, 3, 1⟩
/-- MGT_CLK_EN.FLASH. -/
abbrev fMgtClkEnFlash : Fld := ⟨0x70010, 2, 1⟩
/-- MGT_CLK_EN.SMBUS. -/
abbrev fMgtClkEnSmbus : Fld := ⟨0x70010, 1, 1⟩
/-- MGT_CLK_EN.UART. -/
abbrev fMgtClkEnUart : Fld := ⟨0x70010, 0, 1⟩
/-- CKM_REF_SEL.RESULT. -/
abbrev fCkmRefSelResult : Fld := ⟨0x20000, 16, 8⟩
/-- CKM_REF_SEL.BUSY. -/
abbrev fCkmRefSelBusy : Fld := ⟨0x20000, 15, 1⟩
/-- CKM_REF_SEL.LEGACY. -/
abbrev fCkmRefSelLegacy : Fld := ⟨0x20000, 11, 1⟩
/-- CKM_REF_SEL.GO. -/
abbrev fCkmRefSelGo : Fld := ⟨0x20000, 8, 1⟩
/-- CKM_REF_SEL.TARGET. -/
abbrev fCkmRefSelTarget : Fld := ⟨0x20000, 4, 2⟩
/-- CKM_REF_SEL.ACTIVE. -/
abbrev fCkmRefSelActive : Fld := ⟨0x20000, 0, 2⟩
/-- CKM_REF_STAT.DEV_TP. -/
abbrev fCkmRefStatDevTp : Fld := ⟨0x20008, 48, 16⟩
/-- CKM_REF_STAT.DEV_XTAL. -/
abbrev fCkmRefStatDevXtal : Fld := ⟨0x20008, 32, 16⟩
/-- CKM_REF_STAT.PASS_TP. -/
abbrev fCkmRefStatPassTp : Fld := ⟨0x20008, 22, 5⟩
/-- CKM_REF_STAT.PASS_XTAL. -/
abbrev fCkmRefStatPassXtal : Fld := ⟨0x20008, 17, 5⟩
/-- CKM_REF_STAT.JUDGE. -/
abbrev fCkmRefStatJudge : Fld := ⟨0x20008, 16, 1⟩
/-- CKM_REF_STAT.MGT_XTAL_FAIL. -/
abbrev fCkmRefStatMgtXtalFail : Fld := ⟨0x20008, 7, 1⟩
/-- CKM_REF_STAT.REF_FAIL. -/
abbrev fCkmRefStatRefFail : Fld := ⟨0x20008, 6, 1⟩
/-- CKM_REF_STAT.TP_LOST. -/
abbrev fCkmRefStatTpLost : Fld := ⟨0x20008, 5, 1⟩
/-- CKM_REF_STAT.XTAL_LOST. -/
abbrev fCkmRefStatXtalLost : Fld := ⟨0x20008, 4, 1⟩
/-- CKM_REF_STAT.READY_TP. -/
abbrev fCkmRefStatReadyTp : Fld := ⟨0x20008, 1, 1⟩
/-- CKM_REF_STAT.READY_XTAL. -/
abbrev fCkmRefStatReadyXtal : Fld := ⟨0x20008, 0, 1⟩
/-- CKM_TPORT.PORT. -/
abbrev fCkmTportPort : Fld := ⟨0x20010, 0, 5⟩
/-- CKM_STEER.ERR. -/
abbrev fCkmSteerErr : Fld := ⟨0x20018, 32, 16⟩
/-- CKM_STEER.LOCKED. -/
abbrev fCkmSteerLocked : Fld := ⟨0x20018, 17, 1⟩
/-- CKM_STEER.HELD. -/
abbrev fCkmSteerHeld : Fld := ⟨0x20018, 16, 1⟩
/-- CKM_STEER.TRIM. -/
abbrev fCkmSteerTrim : Fld := ⟨0x20018, 0, 16⟩
/-- CKM_DOM.PCIE_FAIL_SEEN. -/
abbrev fCkmDomPcieFailSeen : Fld := ⟨0x20030, 63, 1⟩
/-- CKM_DOM.MGT_ON_RC. -/
abbrev fCkmDomMgtOnRc : Fld := ⟨0x20030, 62, 1⟩
/-- CKM_DOM.PTX_FAIL. -/
abbrev fCkmDomPtxFail : Fld := ⟨0x20030, 40, 20⟩
/-- CKM_DOM.BAY_FAIL. -/
abbrev fCkmDomBayFail : Fld := ⟨0x20030, 0, 40⟩
/-- CKM_RESTART.PTX. -/
abbrev fCkmRestartPtx : Fld := ⟨0x20038, 40, 20⟩
/-- CKM_RESTART.BAY. -/
abbrev fCkmRestartBay : Fld := ⟨0x20038, 0, 40⟩
/-- CKM_FAILCNT.REF_FAILS. -/
abbrev fCkmFailcntRefFails : Fld := ⟨0x20040, 48, 16⟩
/-- CKM_FAILCNT.PTX_FAILS. -/
abbrev fCkmFailcntPtxFails : Fld := ⟨0x20040, 32, 16⟩
/-- CKM_FAILCNT.BAY_FAILS. -/
abbrev fCkmFailcntBayFails : Fld := ⟨0x20040, 16, 16⟩
/-- CKM_FAILCNT.MESH_UNLOCKS. -/
abbrev fCkmFailcntMeshUnlocks : Fld := ⟨0x20040, 8, 8⟩
/-- CKM_FAILCNT.LEGACY_SWITCHES. -/
abbrev fCkmFailcntLegacySwitches : Fld := ⟨0x20040, 0, 8⟩
/-- CAN_CLK_CTRL.REJOIN. -/
abbrev fCanClkCtrlRejoin : Fld := ⟨0x408500, 8, 1⟩
/-- CAN_CLK_CTRL.FLOOR. -/
abbrev fCanClkCtrlFloor : Fld := ⟨0x408500, 0, 2⟩
/-- CAN_CLK_STAT.DOWN_US. -/
abbrev fCanClkStatDownUs : Fld := ⟨0x408508, 32, 32⟩
/-- CAN_CLK_STAT.COUPLE_OPEN. -/
abbrev fCanClkStatCoupleOpen : Fld := ⟨0x408508, 20, 4⟩
/-- CAN_CLK_STAT.REJOIN_FAIL. -/
abbrev fCanClkStatRejoinFail : Fld := ⟨0x408508, 18, 1⟩
/-- CAN_CLK_STAT.STEERED. -/
abbrev fCanClkStatSteered : Fld := ⟨0x408508, 17, 1⟩
/-- CAN_CLK_STAT.LOCKED. -/
abbrev fCanClkStatLocked : Fld := ⟨0x408508, 16, 1⟩
/-- CAN_CLK_STAT.CAUSE. -/
abbrev fCanClkStatCause : Fld := ⟨0x408508, 8, 2⟩
/-- CAN_CLK_STAT.RATIO. -/
abbrev fCanClkStatRatio : Fld := ⟨0x408508, 0, 2⟩
/-- PWR_BOOT_STAT.NOT_JOINED. -/
abbrev fPwrBootStatNotJoined : Fld := ⟨0x30000, 56, 8⟩
/-- PWR_BOOT_STAT.BAYS_READY. -/
abbrev fPwrBootStatBaysReady : Fld := ⟨0x30000, 48, 8⟩
/-- PWR_BOOT_STAT.PORTS_READY. -/
abbrev fPwrBootStatPortsReady : Fld := ⟨0x30000, 40, 8⟩
/-- PWR_BOOT_STAT.LAST_STEP. -/
abbrev fPwrBootStatLastStep : Fld := ⟨0x30000, 32, 4⟩
/-- PWR_BOOT_STAT.BCFG_VALID. -/
abbrev fPwrBootStatBcfgValid : Fld := ⟨0x30000, 31, 1⟩
/-- PWR_BOOT_STAT.BCFG_APPLIED. -/
abbrev fPwrBootStatBcfgApplied : Fld := ⟨0x30000, 30, 1⟩
/-- PWR_BOOT_STAT.PWR_EN_LOW_SEEN. -/
abbrev fPwrBootStatPwrEnLowSeen : Fld := ⟨0x30000, 29, 1⟩
/-- PWR_BOOT_STAT.UV_SEEN. -/
abbrev fPwrBootStatUvSeen : Fld := ⟨0x30000, 28, 1⟩
/-- PWR_BOOT_STAT.FW_COPY. -/
abbrev fPwrBootStatFwCopy : Fld := ⟨0x30000, 27, 1⟩
/-- PWR_BOOT_TIME.READY_MS. -/
abbrev fPwrBootTimeReadyMs : Fld := ⟨0x30008, 32, 32⟩
/-- PWR_BOOT_TIME.WAVE_MS. -/
abbrev fPwrBootTimeWaveMs : Fld := ⟨0x30008, 0, 32⟩
/-- FUS_SEL.SRC. -/
abbrev fFusSelSrc : Fld := ⟨0x40000, 15, 1⟩
/-- FUS_SEL.CANTON. -/
abbrev fFusSelCanton : Fld := ⟨0x40000, 8, 7⟩
/-- FUS_SEL.WORD. -/
abbrev fFusSelWord : Fld := ⟨0x40000, 0, 8⟩
/-- CAN_BRU_STAT.SLOT. -/
abbrev fCanBruStatSlot : Fld := ⟨0x408600, 40, 8⟩
/-- CAN_BRU_STAT.LOCK_DIR. -/
abbrev fCanBruStatLockDir : Fld := ⟨0x408600, 37, 3⟩
/-- CAN_BRU_STAT.KAT_FAIL. -/
abbrev fCanBruStatKatFail : Fld := ⟨0x408600, 31, 6⟩
/-- CAN_BRU_STAT.BIST_ROWS. -/
abbrev fCanBruStatBistRows : Fld := ⟨0x408600, 25, 6⟩
/-- CAN_BRU_STAT.SPARES_USED. -/
abbrev fCanBruStatSparesUsed : Fld := ⟨0x408600, 18, 7⟩
/-- CAN_BRU_STAT.ABSENT. -/
abbrev fCanBruStatAbsent : Fld := ⟨0x408600, 10, 8⟩
/-- CAN_BRU_STAT.FAIL_STEP. -/
abbrev fCanBruStatFailStep : Fld := ⟨0x408600, 6, 4⟩
/-- CAN_BRU_STAT.FUSE_SHADOW. -/
abbrev fCanBruStatFuseShadow : Fld := ⟨0x408600, 5, 1⟩
/-- CAN_BRU_STAT.FAILED. -/
abbrev fCanBruStatFailed : Fld := ⟨0x408600, 1, 1⟩
/-- CAN_BRU_STAT.JOINED. -/
abbrev fCanBruStatJoined : Fld := ⟨0x408600, 0, 1⟩
/-- ERR_RING_BASE.BASE. -/
abbrev fErrRingBaseBase : Fld := ⟨0x50000, 6, 58⟩
/-- ERR_RING_CFG.VECTOR. -/
abbrev fErrRingCfgVector : Fld := ⟨0x50008, 24, 11⟩
/-- ERR_RING_CFG.IRQ_EN. -/
abbrev fErrRingCfgIrqEn : Fld := ⟨0x50008, 16, 1⟩
/-- ERR_RING_CFG.LOG2_ENTRIES. -/
abbrev fErrRingCfgLog2Entries : Fld := ⟨0x50008, 8, 4⟩
/-- ERR_RING_CFG.ENABLE. -/
abbrev fErrRingCfgEnable : Fld := ⟨0x50008, 0, 1⟩
/-- ERR_RING_PTR.HEAD. -/
abbrev fErrRingPtrHead : Fld := ⟨0x50010, 32, 32⟩
/-- ERR_RING_PTR.PROD. -/
abbrev fErrRingPtrProd : Fld := ⟨0x50010, 0, 32⟩
/-- ERR_STAT.DROPPED. -/
abbrev fErrStatDropped : Fld := ⟨0x50018, 48, 16⟩
/-- ERR_STAT.QUEUED. -/
abbrev fErrStatQueued : Fld := ⟨0x50018, 32, 16⟩
/-- ERR_STAT.RING_ERR. -/
abbrev fErrStatRingErr : Fld := ⟨0x50018, 5, 1⟩
/-- ERR_STAT.OVERRUN. -/
abbrev fErrStatOverrun : Fld := ⟨0x50018, 4, 1⟩
/-- ERR_STAT.FATAL_SEEN. -/
abbrev fErrStatFatalSeen : Fld := ⟨0x50018, 3, 1⟩
/-- ERR_STAT.UNCORR_SEEN. -/
abbrev fErrStatUncorrSeen : Fld := ⟨0x50018, 2, 1⟩
/-- ERR_STAT.CORR_SEEN. -/
abbrev fErrStatCorrSeen : Fld := ⟨0x50018, 1, 1⟩
/-- ERR_RECOV_CTRL.REPLAY_EN. -/
abbrev fErrRecovCtrlReplayEn : Fld := ⟨0x50020, 16, 1⟩
/-- ERR_RECOV_CTRL.AUTO. -/
abbrev fErrRecovCtrlAuto : Fld := ⟨0x50020, 0, 16⟩
/-- ERR_RECOV_STAT.LAST_MS. -/
abbrev fErrRecovStatLastMs : Fld := ⟨0x50028, 32, 32⟩
/-- ERR_RECOV_STAT.ACTION. -/
abbrev fErrRecovStatAction : Fld := ⟨0x50028, 24, 8⟩
/-- ERR_RECOV_STAT.SLICE. -/
abbrev fErrRecovStatSlice : Fld := ⟨0x50028, 20, 4⟩
/-- ERR_RECOV_STAT.PHASE. -/
abbrev fErrRecovStatPhase : Fld := ⟨0x50028, 16, 4⟩
/-- ERR_RECOV_STAT.COUNT. -/
abbrev fErrRecovStatCount : Fld := ⟨0x50028, 0, 8⟩
/-- MGT_STAT.ADDR. -/
abbrev fMgtStatAddr : Fld := ⟨0x70000, 57, 7⟩
/-- MGT_STAT.ADDR_SEL. -/
abbrev fMgtStatAddrSel : Fld := ⟨0x70000, 51, 6⟩
/-- MGT_STAT.ADDR_BAD. -/
abbrev fMgtStatAddrBad : Fld := ⟨0x70000, 50, 1⟩
/-- MGT_STAT.DBG_FAILS. -/
abbrev fMgtStatDbgFails : Fld := ⟨0x70000, 42, 8⟩
/-- MGT_STAT.LOCKOUT. -/
abbrev fMgtStatLockout : Fld := ⟨0x70000, 41, 1⟩
/-- MGT_STAT.DEBUG. -/
abbrev fMgtStatDebug : Fld := ⟨0x70000, 40, 1⟩
/-- MGT_STAT.DEBUG_SEEN. -/
abbrev fMgtStatDebugSeen : Fld := ⟨0x70000, 39, 1⟩
/-- MGT_STAT.THERMTRIP_SEEN. -/
abbrev fMgtStatThermtripSeen : Fld := ⟨0x70000, 38, 1⟩
/-- MGT_STAT.INLET_HIGH. -/
abbrev fMgtStatInletHigh : Fld := ⟨0x70000, 37, 1⟩
/-- MGT_STAT.THERM_EVENT. -/
abbrev fMgtStatThermEvent : Fld := ⟨0x70000, 36, 1⟩
/-- MGT_STAT.MBX_PEC_ERR. -/
abbrev fMgtStatMbxPecErr : Fld := ⟨0x70000, 35, 1⟩
/-- MGT_STAT.FW_VER. -/
abbrev fMgtStatFwVer : Fld := ⟨0x70000, 0, 16⟩
/-- MGT_SENS_SEL.CANTON. -/
abbrev fMgtSensSelCanton : Fld := ⟨0x70018, 0, 7⟩
/-- MGT_FLASH_ADDR.ADDR. -/
abbrev fMgtFlashAddrAddr : Fld := ⟨0x70038, 0, 35⟩
/-- MGT_FLASH_CMD.BUF_IDX. -/
abbrev fMgtFlashCmdBufIdx : Fld := ⟨0x70048, 32, 5⟩
/-- MGT_FLASH_CMD.STATUS. -/
abbrev fMgtFlashCmdStatus : Fld := ⟨0x70048, 8, 8⟩
/-- MGT_FLASH_CMD.BUSY. -/
abbrev fMgtFlashCmdBusy : Fld := ⟨0x70048, 2, 1⟩
/-- MGT_FLASH_CMD.OP. -/
abbrev fMgtFlashCmdOp : Fld := ⟨0x70048, 0, 2⟩
/-- PWR_CAP.WATTS. -/
abbrev fPwrCapWatts : Fld := ⟨0x30010, 0, 16⟩
/-- PWR_STAT.POWER_W. -/
abbrev fPwrStatPowerW : Fld := ⟨0x30018, 48, 16⟩
/-- PWR_STAT.PEAK_W. -/
abbrev fPwrStatPeakW : Fld := ⟨0x30018, 32, 16⟩
/-- PWR_STAT.CAPPED. -/
abbrev fPwrStatCapped : Fld := ⟨0x30018, 24, 8⟩
/-- PWR_STAT.CAP_UNREACHED. -/
abbrev fPwrStatCapUnreached : Fld := ⟨0x30018, 3, 1⟩
/-- PWR_STAT.CAP_ACTIVE. -/
abbrev fPwrStatCapActive : Fld := ⟨0x30018, 2, 1⟩
/-- PWR_STAT.CAP_SRC. -/
abbrev fPwrStatCapSrc : Fld := ⟨0x30018, 0, 2⟩
/-- CNT_SEL.LEVEL. -/
abbrev fCntSelLevel : Fld := ⟨0x80000, 17, 2⟩
/-- CNT_SEL.INSTANCE. -/
abbrev fCntSelInstance : Fld := ⟨0x80000, 4, 13⟩
/-- CNT_SEL.CTR. -/
abbrev fCntSelCtr : Fld := ⟨0x80000, 0, 4⟩

end Sys2Proof.Machine
end

