-- ==== Sys2Proof/Machine/Records.lean ====
section
/-! DEFINITION. Error records (R423 to R438): raising them, coalescing, buffers, CPER framing, the NV ledger. -/
namespace Sys2Proof.Machine

/-- Engine time in nanoseconds: CKM_TIME = floor(REFCYC × 32 / 5) (R384). -/
def State.engineNs (s : State) : Nat := s.refcyc.toNat * 32 / 5

/-- Slice n. -/
def State.slice (s : State) (n : Nat) : Slice := SMap.get {} s.slices n
/-- Replace slice n. -/
def State.setSlice (s : State) (n : Nat) (x : Slice) : State := { s with slices := SMap.put {} s.slices n x }

/-- Whether canton c lies in a slice's rectangle (R227) and still belongs to the slice (R396). -/
def Slice.holds (x : Slice) (c : Nat) : Bool :=
  x.loaded && !(x.left.contains c) && x.cx0.toNat ≤ c % 10 && c % 10 < x.cx0.toNat + x.cw.toNat &&
  x.cy0.toNat ≤ c / 10 && c / 10 < x.cy0.toNat + x.ch.toNat

/-- The cantons of a slice, ascending. -/
def Slice.cantons (x : Slice) : List Nat := (List.range 100).filter x.holds

/-- The slice that owns canton c. -/
def State.sliceOf (s : State) (c : Nat) : Option Nat := (List.range 16).find? fun n => (s.slice n).holds c

/-- Whether the slice that owns canton c is running: PHASE 2 to 5 (R123). -/
def State.sliceRuns (s : State) (c : Nat) : Bool :=
  match s.sliceOf c with
  | some n => 2 ≤ (s.slice n).phase.toNat && (s.slice n).phase.toNat ≤ 5
  | none => false

/-- The physical local site that serves local tile l of cluster k (R23 to R26). -/
def State.siteOf (s : State) (k l : Nat) : Nat :=
  let x := s.cluster k
  if x.sp0.toNat = l then 48 else if x.sp1.toNat = l then 49 else l

/-- Whether port p's update engine is enabled and bound to slice n. -/
def State.boundUe (s : State) (n p : Nat) : Bool := s.fbit fPrtUeCtrlEn p && s.fget fPrtUeCtrlSlice p = n

/-- STEP of a record (R426): the lowest CSTEP plus 1 among the enabled update engines bound to the slice. -/
def State.recStep (s : State) (n : Nat) : W64 :=
  match ((List.range 20).filter (s.boundUe n)).map (fun p => s.fget fPrtUeStepCstep p) with
  | [] => 0
  | c :: cs => BitVec.ofNat 64 (2 ^ 63 + ((cs.foldl min c) + 1) % 2 ^ 48)

/-- Name a tile in a record (R426): canton, cluster, tile and physical site. -/
def State.onTile (s : State) (t : Nat) (r : Rec) : Rec :=
  { r with canton := BitVec.ofNat 8 (cantonOf t), cluster := BitVec.ofNat 8 (localCluster (clusterOf t)),
           tile := BitVec.ofNat 8 (localTile t), site := BitVec.ofNat 8 (s.siteOf (clusterOf t) (localTile t)),
           phys := true }

/-- Name a cluster in a record. -/
def onCluster (k : Nat) (r : Rec) : Rec :=
  { r with canton := BitVec.ofNat 8 (cantonOfCluster k), cluster := BitVec.ofNat 8 (localCluster k) }

/-- Name a canton in a record. -/
def onCanton (c : Nat) (r : Rec) : Rec := { r with canton := BitVec.ofNat 8 c }

/-- What the raising source fills in: TIME, TEMP, VCORE, SLICE, JOB, STEP (R426). -/
def State.fillRec (s : State) (r : Rec) : Rec :=
  let c := r.canton.toNat
  let r := { r with time := BitVec.ofNat 64 s.engineNs }
  let r := if c < 100 then { r with temp := (s.canton c).temp, vcore := (s.canton c).vcore } else r
  let sl : Option Nat := if r.slice ≠ 0xFF then some r.slice.toNat else if c < 100 then s.sliceOf c else none
  match sl with
  | none => r
  | some n => { r with slice := BitVec.ofNat 8 n, job := (s.slice n).job, step := s.recStep n }

/-- The unit of a detection (R433). -/
def Rec.unitOf (r : Rec) : RecUnit :=
  { cls := r.cls, canton := r.canton, cluster := r.cluster, tile := r.tile, site := r.site, block := r.block,
    index := r.index, row := if r.cls = 2 then r.detail0 else 0 }

/-- Classes whose detections R439 counts. -/
def countedCls (c : W16) : Bool :=
  c = 2 || c = 3 || c = 4 || c = 5 || c = 7 || c = 9 || c = 0xB

/-- Seconds of powered time that 24 h have. -/
def day : Nat := 86400

/-- The weight of a detection (R439, and OCCUR of R445's Example 1): an uncorrected one of a tile site counts twice. -/
def detectWeight (r : Rec) : Nat :=
  if r.disp ≠ 0 && (r.cls = 3 || r.cls = 4 || r.cls = 5 || r.cls = 7 || r.cls = 9) then 2 else 1

/-- Note a detection (R433, R439): OCCUR counts it and the earlier ones of its unit within 24 h of powered time. -/
def State.detect (s : State) (r : Rec) : Nat × State :=
  let now := s.err.powered.toNat
  let u := r.unitOf
  let live := s.err.detections.filter fun d => decide (now < d.at_ + day)
  let n := ((live.filter fun d => d.unit = u).map (·.weight)).sum + detectWeight r
  (n, { s with err := { s.err with detections := live ++ [⟨u, now, detectWeight r⟩] } })

/-- Push a record on a buffer of n places (R433): the new list and how many records were dropped. -/
def pushRec (n : Nat) (rs : List Rec) (r : Rec) : List Rec × Nat :=
  if rs.length < n then (rs ++ [r], 0)
  else match rs.findIdx? fun x => x.disp = 0 with
    | some i => (rs.eraseIdx i ++ [r], 1)
    | none => (rs, 1)

/-- Count dropped records in ERR_STAT (R433). -/
def State.dropRecs (s : State) (n : Nat) : State :=
  if n = 0 then s else (s.finc fErrStatDropped 0 n).fset fErrStatOverrun 1

/-- The entry word of a unit (R405), for the ledger. -/
def ledgerWord (r : Rec) : W32 :=
  let cl := r.cluster.toNat % 64 * 2 ^ 22
  let site := (if r.phys then r.site.toNat else r.tile.toNat) % 64 * 2 ^ 16
  let row := r.detail0.toNat / 64
  BitVec.ofNat 32 (
    if r.cls = 2 && r.block = 4 then 2 * 2 ^ 28 + cl + site + row % 1024
    else if r.cls = 2 && r.block = 8 then 3 * 2 ^ 28 + cl + row % 32768 / 1024 * 2 ^ 17 + row % 1024
    else if r.block = 7 then 4 * 2 ^ 28 + r.index.toNat % 4 * 2 ^ 26
    else if r.block = 0xB then 5 * 2 ^ 28 + r.index.toNat % 32 * 2 ^ 23
    else 2 ^ 28 + cl + site)

/-- RecordID (R424). -/
def Rec.id (r : Rec) : W64 := r.boot ++ r.number

/-- Boots counted in the half in use (R437). -/
def Ledger.boots (l : Ledger) : Nat :=
  l.a.foldl (fun n e => if e.kind = 7 then e.aux.toNat else n) 0

/-- Append a ledger entry (R437). -/
def State.ledger (s : State) (e : LedgerEntry) : State :=
  { s with err := { s.err with ledger := { s.err.ledger with
      a := s.err.ledger.a ++ [{ e with poweredS := BitVec.ofNat 32 s.err.powered.toNat }] } } }

/-- Write a DETECT entry, at most one per unit and class and minute (R437). -/
def State.ledgerDetect (s : State) (r : Rec) : State :=
  if !(countedCls r.cls) then s
  else
    let w := ledgerWord r
    let recent := s.err.ledger.a.any fun e =>
      e.kind = 1 && e.word = w && e.canton = r.canton && e.cls = r.cls && s.err.powered.toNat < e.poweredS.toNat + 60
    if recent then s
    else s.ledger { kind := 1, canton := r.canton, sub := if r.block = 1 then r.index else 0xFF, word := w,
                    cls := r.cls, aux := r.id }

/-- Place a record in the hoist island's queue for the BMC (R436). -/
def pushBmc (q : List Rec) (r : Rec) : List Rec :=
  if q.length < 256 then q ++ [r]
  else match q.findIdx? fun x => x.disp = 0 with
    | some i => q.eraseIdx i ++ [r]
    | none => q.drop 1 ++ [r]

/-- One record source. -/
def State.source (s : State) (src : Nat) : RecSource := SMap.get {} s.err.sources src
/-- Replace one record source. -/
def State.setSource (s : State) (src : Nat) (x : RecSource) : State :=
  { s with err := { s.err with sources := SMap.put {} s.err.sources src x } }

/-- The record that a push on a full buffer drops (R433). -/
def lostRec (n : Nat) (rs : List Rec) (r : Rec) : Option Rec :=
  if rs.length < n then none else some ((rs.find? fun x => x.disp = 0).getD r)

/-- A record that the ensign complex drops counts for its source, with what it carried: the source's next record says so
(R426, R433). -/
def State.oweRec (s : State) (v : Rec) : State :=
  let x := s.source v.source.toNat
  s.setSource v.source.toNat { x with dropped := x.dropped + 1 + v.dropped, coalesced := x.coalesced + v.coalesced }

/-- The ensign complex takes a record (R434): it gets its number, goes to the hoist queue and waits for the ring. -/
def State.takeRec (s : State) (r : Rec) : State :=
  let r := { r with number := BitVec.ofNat 40 s.err.nextNumber, boot := BitVec.ofNat 24 s.err.ledger.boots }
  let p := pushRec 4096 s.err.ensign r
  let lost := lostRec 4096 s.err.ensign r
  let stops := r.slice ≠ 0xFF && (r.stopCause ≠ 0 || r.action = 2)
  let s := { s with err := { s.err with
    nextNumber := s.err.nextNumber + 1, ensign := p.1, bmc := pushBmc s.err.bmc r
    stopRec := if stops then SMap.put none s.err.stopRec r.slice.toNat (some r) else s.err.stopRec
    replays := s.err.replays.map fun (q : PendingUnit) =>
      if q.record.source = r.source && q.record.seq = r.seq then { q with record := r } else q }
                    mgmt := if r.disp = 0 then s.mgmt else { s.mgmt with alertOff := false } }
  let s := ((s.dropRecs p.2).fset fErrStatQueued p.1.length).ledgerDetect r
  match lost with
  | some v => s.oweRec v
  | none => s

/-- The flags of ERR_STAT that a produced record sets (R454). -/
def State.seenRec (s : State) (d : BitVec 2) : State :=
  match d with
  | 0 => s.fset fErrStatCorrSeen 1
  | 1 => s.fset fErrStatUncorrSeen 1
  | 3 => s.fset fErrStatFatalSeen 1
  | _ => s

/-- Whether a detection joins a coalescing run of its source at time now (R433): 1 ms from the run's first. -/
def inRun (x : RecSource) (u : RecUnit) (now : Nat) : Bool := x.runs.any fun q => q.unit = u && now ≤ q.first + 1000000

/-- A class whose records are replayed (R440). -/
def replayCls (r : Rec) : Bool := (r.cls = 4 || r.cls = 5 || r.cls = 7) && r.capture.isSome

/-! ### Events of the counters (R465, R466) -/

/-- Add n events to a counter: it wraps at 2^48 (R465). -/
def Counter.add (x : Counter) (n : Nat) : Counter :=
  { x with count := BitVec.ofNat 48 (x.count.toNat + n), wrapped := x.wrapped || decide (2 ^ 48 ≤ x.count.toNat + n) }

/-- n events of a source in the unit whose m counters stand from key b on: they count unless FREEZE is 1 (R465). -/
def State.event (s : State) (b m : Nat) (code : Byte) (n : Nat) : State :=
  if s.mgmt.freeze then s
  else { s with mgmt := { s.mgmt with counters := s.mgmt.counters.map fun (q : Nat × Counter) =>
    if b ≤ q.1 && q.1 < b + m && q.2.source = code then (q.1, q.2.add n) else q } }

/-- Events of cluster k. -/
def State.clusterEvent (s : State) (k : Nat) (code : Byte) (n : Nat) : State := s.event (8 * k) 8 code n
/-- Events of canton c. -/
def State.cantonEvent (s : State) (c : Nat) (code : Byte) (n : Nat) : State := s.event (40000 + 8 * c) 8 code n
/-- Events of port p. -/
def State.portEvent (s : State) (p : Nat) (code : Byte) (n : Nat) : State := s.event (50000 + 16 * p) 16 code n

/-- Produce a record at a source (R431, R433): a DISP 0 detection may join a run; otherwise the record takes the next
SEQ and waits in its source, or goes to the ensign complex at once where its source holds none. -/
def State.report (s : State) (src : Nat) (r : Rec) : State :=
  let r := s.fillRec { r with source := BitVec.ofNat 16 src }
  let d := s.detect r
  let s := d.2
  let x := s.source src
  let u := r.unitOf
  let now := s.engineNs
  if r.disp = 0 && inRun x u now then s.setSource src { x with coalesced := x.coalesced + 1 }
  else
    let replay : Byte := if replayCls r then (if s.fbit fErrRecovCtrlReplayEn then 1 else 4) else r.replay
    let direct := src = 0x300 || src = 0x400 || src = 0x500
    let r := { r with seq := x.seq, occur := BitVec.ofNat 32 d.1, replay := replay }
    let runs := if r.disp = 0 then (x.runs.filter fun q => q.unit ≠ u) ++ [⟨u, now⟩] else x.runs
    let s := s.seenRec r.disp
    let s := if 0x100 ≤ src && src < 0x200 then s.cantonEvent (src - 0x100) 0x0C 1 else s
    let s := if replay = 1 then { s with err := { s.err with replays := s.err.replays ++ [⟨u, r, s.err.powered.toNat⟩] } }
      else s
    if direct then
      let r := { r with coalesced := x.coalesced, dropped := x.dropped }
      (s.setSource src { x with seq := x.seq + 1, runs := runs, coalesced := 0, dropped := 0 }).takeRec r
    else
      let p := pushRec 64 x.held r
      (s.setSource src { x with seq := x.seq + 1, runs := runs, held := p.1,
                                dropped := x.dropped + BitVec.ofNat 32 p.2 }).dropRecs p.2

/-- Produce the records of a list. -/
def State.reports (s : State) (src : Nat) (rs : List Rec) : State := rs.foldl (fun s r => s.report src r) s

/-- The source code of canton c, and of port p (R431). -/
def cantonSrc (c : Nat) : Nat := 0x100 + c
/-- The source code of port p. -/
def portSrc (p : Nat) : Nat := 0x200 + p

/-- The ensign complex fetches the records that a source holds (R434). -/
def State.fetchRecs (s : State) (src : Nat) : State :=
  let x := s.source src
  let put (acc : State × W32 × W32) (r : Rec) : State × W32 × W32 :=
    (acc.1.takeRec { r with coalesced := acc.2.1, dropped := acc.2.2 }, 0, 0)
  match x.held with
  | [] => s
  | rs => (rs.foldl put (s.setSource src { x with held := [], coalesced := 0, dropped := 0 }, x.coalesced, x.dropped)).1

/-! ### CPER framing (R423 to R426) -/

/-- A GUID in the UEFI layout (R423). -/
def guid (a b c : Nat) (d : Nat) : List Byte := leBytes 4 a ++ leBytes 2 b ++ leBytes 2 c ++ beBytes 8 d

/-- ErrorSeverity of a DISP (R424). -/
def severity (d : BitVec 2) : Nat :=
  match d with
  | 0 => 2
  | 1 => 0
  | 2 => 3
  | _ => 1

/-- ASCII bytes. -/
def ascii (xs : List Char) : List Byte := xs.map fun c => BitVec.ofNat 8 c.toNat

/-- The record header (R424). -/
def Rec.header (r : Rec) : List Byte :=
  ascii ['C', 'P', 'E', 'R'] ++ leBytes 2 0x0100 ++ leBytes 4 0xFFFFFFFF ++ leBytes 2 1 ++
  leBytes 4 (severity r.disp) ++ leBytes 4 0 ++ leBytes 4 (if r.capture.isSome then 584 else 328) ++
  leBytes 8 0 ++ leBytes 16 0 ++ leBytes 16 0 ++
  guid 0x3d6a1f40 0x8c2e 0x4b17 0x9e0561b7a2c4d9f3 ++ guid 0xb47e2c91 0x05da 0x4f3e 0xa86c2f19d0e7c5a4 ++
  leBytes 8 r.id.toNat ++ leBytes 4 (if r.disp = 0 then 1 else 0) ++ leBytes 8 0 ++ leBytes 12 0

/-- The section descriptor (R425). -/
def Rec.section_ (r : Rec) (serial : Nat) : List Byte :=
  leBytes 4 200 ++ leBytes 4 (if r.capture.isSome then 384 else 128) ++ leBytes 2 0x0100 ++ leBytes 1 3 ++
  leBytes 1 0 ++ leBytes 4 1 ++ guid 0xe2915c7b 0x4a3d 0x4e8f 0xb1607d2a9c3f0e58 ++ leBytes 8 serial ++ leBytes 8 0 ++
  leBytes 4 (severity r.disp) ++ padTo 20 (ascii ['W', 'N', '-', 'I', 'A', 'T', '-', '1', '0', '0'])

/-- The burgee section (R426). -/
def Rec.burgee (r : Rec) : List Byte :=
  leBytes 2 1 ++ leBytes 2 (if r.capture.isSome then 384 else 128) ++ leBytes 2 r.cls.toNat ++
  [BitVec.ofNat 8 (r.disp.toNat + 4 * b2n r.isolation + 8 * b2n r.capture.isSome + 16 * b2n r.phys), r.block] ++
  leBytes 2 r.source.toNat ++ leBytes 2 0 ++ leBytes 4 r.seq.toNat ++ leBytes 8 r.time.toNat ++
  [r.canton, r.cluster, r.tile, r.site, r.index, r.slice] ++ leBytes 2 r.job.toNat ++ leBytes 2 r.temp.toNat ++
  leBytes 2 r.vcore.toNat ++ leBytes 2 r.instr.toNat ++
  [r.stopCause, r.unit, r.opcode, r.afmt, r.bfmt, r.resExp, r.resAct, r.replay, r.classify, r.action] ++
  leBytes 8 r.step.toNat ++ leBytes 8 r.detail0.toNat ++ leBytes 8 r.detail1.toNat ++ leBytes 4 r.occur.toNat ++
  leBytes 4 r.coalesced.toNat ++ leBytes 4 r.dropped.toNat ++ leBytes 8 r.related.toNat ++ leBytes 36 0 ++
  (match r.capture with
    | some c => padTo 256 c
    | none => [])

/-- A record in its CPER form: 328 or 584 bytes (R423). -/
def Rec.cper (r : Rec) (serial : Nat) : List Byte := r.header ++ r.section_ serial ++ r.burgee

end Sys2Proof.Machine
end

