-- ==== Sys2Proof/Machine/Reference.lean ====
section
/-! DEFINITION. The reference's candidates and its failure (R377, R383, R385 to R387), which ports, cantons and clocks
share. -/
namespace Sys2Proof.Machine

/-- The clock-class record of a domain (R376, R428): its instance, and 1 = no edge, 2 = failed window, 3 = lock lost. -/
def clockRec (dom inst cause : Nat) : Rec :=
  { cls := 0x1C, block := 0xE, index := BitVec.ofNat 8 dom, detail0 := BitVec.ofNat 64 (dom + 256 * inst),
    detail1 := BitVec.ofNat 64 cause }

/-- Change the hoist island's state. -/
def State.updMgmt (s : State) (f : Mgmt → Mgmt) : State := { s with mgmt := f s.mgmt }

/-- CKM_REF_SEL.ACTIVE: 0 = the module crystal, 1 = the timing port, 2 = none. -/
def State.active (s : State) : Nat := s.fget fCkmRefSelActive

/-- Readiness of a candidate: 0 = the crystal, 1 = the timing port. -/
def State.ready_ (s : State) (src : Nat) : Bool := if src = 0 then s.fbit fCkmRefStatReadyXtal else s.fbit fCkmRefStatReadyTp

/-- A candidate loses its readiness: READY and PASS become 0, and LOST is set where it was ready (R377). -/
def State.loseReady (s : State) (src : Nat) : State :=
  let was := s.ready_ src
  if src = 0 then
    let s := (s.fset fCkmRefStatReadyXtal 0).fset fCkmRefStatPassXtal 0
    if was then s.fset fCkmRefStatXtalLost 1 else s
  else
    let s := (s.fset fCkmRefStatReadyTp 0).fset fCkmRefStatPassTp 0
    if was then s.fset fCkmRefStatTpLost 1 else s

/-- The reference fails (R385): holdover with the trim held, the flag, the count and the record. -/
def State.refFail (s : State) (cause : Nat) : State :=
  let s := ((s.fset fCkmRefSelActive 2).fset fCkmSteerHeld 1).fset fCkmSteerLocked 0
  ((s.fset fCkmRefStatRefFail 1).finc fCkmFailcntRefFails).report 0x400 (clockRec 1 0 cause)

/-- A switch request ends with RESULT (R380 to R383). -/
def State.switchEnd (s : State) (result : Nat) : State :=
  ((s.fset fCkmRefSelResult result).fset fCkmRefSelBusy 0).fset fCkmRefSelGo 0

/-- Whether the reference domain stands in a legacy stop: a native switch runs from GO to its end in one command, so BUSY
stands for no other (R381, R382). -/
def State.stopped (s : State) : Bool := s.fbit fCkmRefSelBusy

/-- A legacy stop ends without a clock (R383): no correction of 64. -/
def State.noClock (s : State) : State := (s.refFail 1).switchEnd 6

/-- The active source fails for a cause (R385): in a legacy stop R383 applies (R387). -/
def State.refLost (s : State) (cause : Nat) : State := if s.stopped then s.noClock else s.refFail cause

/-- The receive lanes of port p are no longer locked. Where CKM_TPORT names the port, its candidate is not ready (R377),
and of the active source that is a reference failure (R386). -/
def State.tpLost (s : State) (p : Nat) : State :=
  if s.fget fCkmTportPort = p then
    let t := s.loseReady 1
    if s.active = 1 then t.refLost 3 else t
  else s

end Sys2Proof.Machine
end

