-- ==== Sys2Proof/Config.lean ====
section
/-! DEFINITION. What an implementation fixes and what the spec leaves open: constants without a body, so that
nothing can be proved of their values. -/
namespace Sys2Proof

/-- The elements of a malformed masked flit (R137 states only that it is consumed as a poisoned input): a record as
a function of the format code and the payload. -/
opaque Config.malformedMasked : Nat → Nat → Nat

/-- What a 4 B word of configuration space reads as where neither R344 nor PCI Express's own layout of what R343 supports says
so, as a function of its offset. -/
opaque Config.configWord : Nat → BitVec 32

end Sys2Proof
end

