-- ==== Sys2Proof/Machine/Special.lean ====
section
/-! DEFINITION. The special functions of the vector unit (R104 to R106). Every constant is the correctly rounded
value of the real number that R106 states, worked out from that definition. -/
namespace Sys2Proof.Machine

/-- TE[j] = RN32(2^(j/64)) (R106). -/
def teTable : List Nat :=
  [0x3F800000, 0x3F8164D2, 0x3F82CD87, 0x3F843A29, 0x3F85AAC3, 0x3F871F62, 0x3F88980F, 0x3F8A14D5] ++
  [0x3F8B95C2, 0x3F8D1ADF, 0x3F8EA43A, 0x3F9031DC, 0x3F91C3D3, 0x3F935A2B, 0x3F94F4F0, 0x3F96942D] ++
  [0x3F9837F0, 0x3F99E046, 0x3F9B8D3A, 0x3F9D3EDA, 0x3F9EF532, 0x3FA0B051, 0x3FA27043, 0x3FA43516] ++
  [0x3FA5FED7, 0x3FA7CD94, 0x3FA9A15B, 0x3FAB7A3A, 0x3FAD583F, 0x3FAF3B79, 0x3FB123F6, 0x3FB311C4] ++
  [0x3FB504F3, 0x3FB6FD92, 0x3FB8FBAF, 0x3FBAFF5B, 0x3FBD08A4, 0x3FBF179A, 0x3FC12C4D, 0x3FC346CD] ++
  [0x3FC5672A, 0x3FC78D75, 0x3FC9B9BE, 0x3FCBEC15, 0x3FCE248C, 0x3FD06334, 0x3FD2A81E, 0x3FD4F35B] ++
  [0x3FD744FD, 0x3FD99D16, 0x3FDBFBB8, 0x3FDE60F5, 0x3FE0CCDF, 0x3FE33F89, 0x3FE5B907, 0x3FE8396A] ++
  [0x3FEAC0C7, 0x3FED4F30, 0x3FEFE4BA, 0x3FF28177, 0x3FF5257D, 0x3FF7D0DF, 0x3FFA83B3, 0x3FFD3E0C]

/-- RL[j] = RN32(1 / (1 + j/64)) (R106). -/
def rlTable : List Nat :=
  [0x3F800000, 0x3F7C0FC1, 0x3F783E10, 0x3F74898D, 0x3F70F0F1, 0x3F6D7304, 0x3F6A0EA1, 0x3F66C2B4] ++
  [0x3F638E39, 0x3F607038, 0x3F5D67C9, 0x3F5A740E, 0x3F579436, 0x3F54C77B, 0x3F520D21, 0x3F4F6475] ++
  [0x3F4CCCCD, 0x3F4A4588, 0x3F47CE0C, 0x3F4565C8, 0x3F430C31, 0x3F40C0C1, 0x3F3E82FA, 0x3F3C5264] ++
  [0x3F3A2E8C, 0x3F381703, 0x3F360B61, 0x3F340B41, 0x3F321643, 0x3F302C0B, 0x3F2E4C41, 0x3F2C7692] ++
  [0x3F2AAAAB, 0x3F28E83F, 0x3F272F05, 0x3F257EB5, 0x3F23D70A, 0x3F2237C3, 0x3F20A0A1, 0x3F1F1166] ++
  [0x3F1D89D9, 0x3F1C09C1, 0x3F1A90E8, 0x3F191F1A, 0x3F17B426, 0x3F164FDA, 0x3F14F209, 0x3F139A86] ++
  [0x3F124925, 0x3F10FDBC, 0x3F0FB824, 0x3F0E7835, 0x3F0D3DCB, 0x3F0C08C1, 0x3F0AD8F3, 0x3F09AE41] ++
  [0x3F088889, 0x3F0767AB, 0x3F064B8A, 0x3F053408, 0x3F042108, 0x3F03126F, 0x3F020821, 0x3F010204]

/-- LL[j] = RN32(−log2(RL[j])) (R106). -/
def llTable : List Nat :=
  [0x00000000, 0x3CB73CB3, 0x3D35D690, 0x3D8759C9, 0x3DB31FB7, 0x3DDE420E, 0x3E0462C4, 0x3E195751] ++
  [0x3E2E00D1, 0x3E42615F, 0x3E567AEF, 0x3E6A4F70, 0x3E7DE0B5, 0x3E88983F, 0x3E92203D, 0x3E9B8925] ++
  [0x3EA4D3C2, 0x3EAE00D1, 0x3EB71110, 0x3EC0052D, 0x3EC8DDD3, 0x3ED19BAF, 0x3EDA3F60, 0x3EE2C97E] ++
  [0x3EEB3A9E, 0x3EF39355, 0x3EFBD42A, 0x3F01FED4, 0x3F060828, 0x3F0A0650, 0x3F0DF98A, 0x3F11E20E] ++
  [0x3F15C01A, 0x3F1993E4, 0x3F1D5DA0, 0x3F211D84, 0x3F24D3C3, 0x3F28808D, 0x3F2C2410, 0x3F2FBE7F] ++
  [0x3F335004, 0x3F36D8CA, 0x3F3A58FE, 0x3F3DD0C9, 0x3F41404E, 0x3F44A7BB, 0x3F480731, 0x3F4B5ED6] ++
  [0x3F4EAECF, 0x3F51F740, 0x3F553847, 0x3F58720A, 0x3F5BA4A5, 0x3F5ED038, 0x3F61F4E5, 0x3F6512C6] ++
  [0x3F6829FA, 0x3F6B3AA0, 0x3F6E44CF, 0x3F7148A2, 0x3F744636, 0x3F773DA2, 0x3F7A2F03, 0x3F7D1A71]

/-- RN32(ln 2) (R106). -/
def c132 : W32 := 0x3F317218#32
/-- RN32((ln 2)^2 / 2) (R106). -/
def c232 : W32 := 0x3E75FDF0#32
/-- RN32((ln 2)^3 / 6) (R106). -/
def c332 : W32 := 0x3D635847#32
/-- RN32(1 / ln 2) (R106). -/
def k132 : W32 := 0x3FB8AA3B#32
/-- RN32(−1 / (2 ln 2)) (R106). -/
def k232 : W32 := 0xBF38AA3B#32
/-- RN32(1 / (3 ln 2)) (R106). -/
def k332 : W32 := 0x3EF6384F#32
/-- RN32(−1 / (4 ln 2)) (R106). -/
def k432 : W32 := 0xBEB8AA3B#32
/-- RN32(−1/3) (R106). -/
def d132 : W32 := 0xBEAAAAAB#32
/-- RN32(2/15) (R106). -/
def d232 : W32 := 0x3E088889#32
/-- RN32(2 / ln 2) (R106). -/
def kt32 : W32 := 0x4038AA3B#32

/-- Entry j of a table of FP32 constants. -/
def tabAt (t : List Nat) (j : Nat) : W32 := BitVec.ofNat 32 (t.getD j 0)

/-- split(x) of R105: the 24-bit significand sig with m = sig / 2^23, 1 ≤ m < 2, and the exponent e, of a finite
non-zero x. -/
def split32 (x : W32) : Nat × Int :=
  let p := fmtFP32.parts x.toNat
  let l := bitLen p.2.1
  (p.2.1 * 2 ^ (24 - l), p.2.2 + l - 1)

/-- RN32(y × 2^n) for an FP32 value y. -/
def scale32 (y : W32) (n : Int) : W32 :=
  match val32 y with
  | .fin m e => rn32 (.fin m (e + n))
  | v => rn32 v

/-- y with its sign inverted where s holds. -/
def signIf (s : Bool) (y : W32) : W32 := if s then neg32 y else y

/-- num / den rounded to the nearest integer, ties to even. -/
def divRne (num den : Nat) : Nat :=
  let q := num / den
  let r := num % den
  if 2 * r < den then q else if 2 * r = den then q + q % 2 else q + 1

/-- The FP32 encoding of k × 2^−12 (R105, RNE12). -/
def q12 (k : Nat) : W32 := rn32 (XVal.ofInt k (-12))

/-- One step of RCP's iteration (R105). -/
def rcpStep (m y : W32) : W32 := fma32 y (fma32 (neg32 m) y 0x3F800000#32) y

/-- RCP by its algorithm (R105), x finite and not zero. -/
def rcpAlg (x : W32) : W32 :=
  let (sig, e) := split32 x
  let m := rn32 (XVal.ofInt sig (-23))
  let i := (sig - 2 ^ 23) * 128 / 2 ^ 23
  let y := q12 (divRne (4096 * 256) (256 + 2 * i + 1))
  let y := rcpStep m (rcpStep m y)
  signIf x.msb (scale32 y (-e))

/-- The largest k below 2^n, built from its high bit down, for which k² · p ≤ t. -/
def rootDown (p t : Nat) : Nat → Nat → Nat
  | 0, k => k
  | n + 1, k => if (k + 2 ^ n) * (k + 2 ^ n) * p ≤ t then rootDown p t n (k + 2 ^ n) else rootDown p t n k

/-- RNE12(1 / sqrt(p/q)) as a multiple of 2^−12: the integer nearest to 4096 · sqrt(q/p). -/
def rsqrtSeed (p q : Nat) : Nat :=
  let t := 4096 * 4096 * q
  let k := rootDown p t 13 0
  let h := (2 * k + 1) * (2 * k + 1) * p
  if h < 4 * t then k + 1 else if h = 4 * t then k + k % 2 else k

/-- One step of RSQRT's iteration (R105). -/
def rsqrtStep (m y : W32) : W32 :=
  fma32 (mul32 0x3F000000#32 y) (fma32 (neg32 m) (mul32 y y) 0x3F800000#32) y

/-- RSQRT by its algorithm (R105), x finite and above 0. -/
def rsqrtAlg (x : W32) : W32 :=
  let (sig, e) := split32 x
  let odd := e % 2 = 1
  let sig2 := if odd then 2 * sig else sig
  let e2 := if odd then e - 1 else e
  let m := rn32 (XVal.ofInt sig2 (-23))
  let seed :=
    if sig2 < 2 ^ 24 then
      let j := (sig2 - 2 ^ 23) * 64 / 2 ^ 23
      rsqrtSeed (128 + 2 * j + 1) 128
    else
      let j := (sig2 - 2 ^ 24) * 32 / 2 ^ 23
      rsqrtSeed (128 + 2 * j + 1) 64
  let y := rsqrtStep m (rsqrtStep m (q12 seed))
  scale32 y (-(e2 / 2))

/-- EXP2 by its algorithm (R105), −150 ≤ x < 128. -/
def exp2Alg (x : W32) : W32 :=
  let (m, e) := match val32 x with
    | .fin m e => (m, e)
    | _ => (0, 0)
  let n := floorDy m e
  let f := addDy m e (-n) 0
  let j := floorDy f.1 (f.2 + 6)
  let g := addDy f.1 f.2 (-j) (-6)
  let r := rn32 (XVal.ofInt g.1 g.2)
  let q := fma32 c332 r c232
  let q := fma32 q r c132
  let q := mul32 q r
  let te := tabAt teTable j.toNat
  scale32 (fma32 te q te) n

/-- LOG2 by its algorithm (R105), x finite and above 0. -/
def log2Alg (x : W32) : W32 :=
  let (sig, e) := split32 x
  let m := rn32 (XVal.ofInt sig (-23))
  let j := (sig - 2 ^ 23) * 64 / 2 ^ 23
  let u := fma32 m (tabAt rlTable j) 0xBF800000#32
  let q := fma32 k432 u k332
  let q := fma32 q u k232
  let q := fma32 q u k132
  let p := mul32 q u
  add32 (rn32 ((XVal.ofInt e 0).add (val32 (tabAt llTable j)))) p

/-- x is finite and x ≥ k. -/
def geInt32 (x : W32) (k : Int) : Bool :=
  match val32 x with
  | .fin m e => !(ltDy m e k 0)
  | .zero _ => k ≤ 0
  | _ => false

/-- x is finite and x < k. -/
def ltInt32 (x : W32) (k : Int) : Bool :=
  match val32 x with
  | .fin m e => ltDy m e k 0
  | .zero _ => 0 < k
  | _ => false

/-- RCP (R104, R105). -/
def rcp32 (x : W32) : W32 :=
  match val32 x with
  | .nan => nan32
  | .inf n => zero32 n
  | .zero n => inf32 n
  | .fin _ _ => rcpAlg x

/-- RSQRT (R104, R105). -/
def rsqrt32 (x : W32) : W32 :=
  match val32 x with
  | .nan => nan32
  | .inf n => if n then nan32 else zero32 false
  | .zero n => inf32 n
  | .fin m _ => if m < 0 then nan32 else rsqrtAlg x

/-- EXP2 (R104, R105). -/
def exp232 (x : W32) : W32 :=
  match val32 x with
  | .nan => nan32
  | .inf n => if n then zero32 false else inf32 false
  | .zero _ => 0x3F800000#32
  | .fin _ _ =>
    if geInt32 x 128 then inf32 false
    else if ltInt32 x (-150) then zero32 false
    else exp2Alg x

/-- LOG2 (R104, R105). -/
def log232 (x : W32) : W32 :=
  match val32 x with
  | .nan => nan32
  | .inf n => if n then nan32 else inf32 false
  | .zero _ => inf32 true
  | .fin m _ => if m < 0 then nan32 else log2Alg x

/-- TANH by its algorithm (R105). -/
def tanhAlg (x : W32) : W32 :=
  let a := abs32 x
  let t :=
    if geInt32 a 9 then 0x3F800000#32
    else if a.toNat < 0x3D800000 then
      let a2 := mul32 a a
      let q := fma32 a2 d232 d132
      let q := mul32 q a2
      fma32 q a a
    else
      let w := exp232 (mul32 a kt32)
      let r := rcp32 (add32 w 0x3F800000#32)
      fma32 0xC0000000#32 r 0x3F800000#32
  (t &&& 0x7FFFFFFF#32) ||| (x &&& 0x80000000#32)

/-- TANH (R104, R105). -/
def tanh32 (x : W32) : W32 :=
  match val32 x with
  | .nan => nan32
  | .inf n => if n then 0xBF800000#32 else 0x3F800000#32
  | .zero n => zero32 n
  | .fin _ _ => tanhAlg x

/-- The special function of VSFN field FN (R151). -/
def sfn32 (fn : Nat) (x : W32) : W32 :=
  match fn with
  | 0 => rcp32 x
  | 1 => rsqrt32 x
  | 2 => exp232 x
  | 3 => log232 x
  | _ => tanh32 x

end Sys2Proof.Machine
end

