-- ==== Sys2Proof/Machine/Flags.lean ====
section
/-! DEFINITION. The sticky arithmetic flags of a tile and its event counters (R87, R101, R102, R121). -/
namespace Sys2Proof.Machine

/-- Add n events of a source to one counter word, COUNT wrapping and setting WRAPPED (R121). -/
def cntAdd (c : BitVec 33) (n : Nat) : BitVec 33 :=
  let sum := c.toNat % 2 ^ 32 + n
  BitVec.ofNat 33 (sum % 2 ^ 32 + (if 2 ^ 32 ≤ sum || c.msb then 2 ^ 32 else 0))

/-- Count n events of a source in every counter that selects it (R121). -/
def Tile.count (src n : Nat) (t : Tile) : Tile :=
  if n = 0 || t.ctrl.evtFreeze then t
  else
    { t with evtCnt := (List.range 4).foldl (fun m i =>
        if (SMap.get 0 t.evtSel i).toNat = src then SMap.put 0 m i (cntAdd (SMap.get 0 m i) n) else m) t.evtCnt }

/-- OR what CLOSE or VCVT TO reports into the flags (R87, R102). -/
def Tile.report (ks : List Conv) (shd : Bool) (t : Tile) : Tile :=
  { t with status := { t.status with
      fOvf := t.status.fOvf || ks.any (·.ovf)
      fNan := t.status.fNan || ks.any (·.nan)
      fNanZero := t.status.fNanZero || ks.any (·.nanZero)
      fShd := t.status.fShd || shd } }

/-- Set V_INVALID where an operation produced a NaN from inputs that are not NaN (R101). -/
def Tile.invalid (b : Bool) (t : Tile) : Tile :=
  { t with status := { t.status with vInvalid := t.status.vInvalid || b } }

/-- A lane result that is NaN although no input is (R101). -/
def madeNan (r : W32) (ins : List W32) : Bool := isNan32 r && !(ins.any isNan32)

/-- One lane of a VOP (R149), and whether it is invalid under R101. -/
def vopLane (op : Nat) (a b c : W32) : W32 × Bool :=
  let chk (r : W32) (ins : List W32) : W32 × Bool := (r, madeNan r ins)
  match op with
  | 0x00 => chk (add32 a b) [a, b]
  | 0x01 => chk (sub32 a b) [a, b]
  | 0x02 => chk (mul32 a b) [a, b]
  | 0x03 => chk (fma32 a b c) [a, b, c]
  | 0x04 => chk (fma32 (neg32 a) b c) [a, b, c]
  | 0x05 => chk (min32 a b) [a, b]
  | 0x06 => chk (max32 a b) [a, b]
  | 0x07 => chk (abs32 a) [a]
  | 0x08 => chk (neg32 a) [a]
  | 0x09 => (a, false)
  | 0x0A => (a &&& b, false)
  | 0x0B => (a ||| b, false)
  | _ => (a ^^^ b, false)

/-- One combination of a VRED (R152): SUM and SUMSQ add, MAX, MIN. -/
def vredComb (rop : Nat) (a b : W32) : W32 :=
  match rop with
  | 1 => max32 a b
  | 2 => min32 a b
  | _ => add32 a b

/-- One level of the canonical order (R91): element 2i with element 2i + 1, an unpaired last passing on. -/
def pairUp {α : Type} (f : α → α → α) : List α → List α
  | a :: b :: xs => f a b :: pairUp f xs
  | xs => xs

/-- The canonical reduction order of R91, n levels at most. -/
def canonReduce {α : Type} (f : α → α → α) : Nat → List α → List α
  | 0, xs => xs
  | n + 1, xs => canonReduce f n (pairUp f xs)

/-- The value VRED reduces registers of lanes to (R152), with the first step of SUMSQ. -/
def vredValue (rop : Nat) (regs : List (List W32)) : W32 :=
  let regs := if rop = 3 then regs.map (·.map fun x => mul32 x x) else regs
  let one := (canonReduce (fun a b => List.zipWith (vredComb rop) a b) 3 regs).headD []
  (canonReduce (vredComb rop) 5 one).headD 0

/-- The result of CTL.ALU (R166). -/
def aluOp (aop : Nat) (a b : W64) : W64 :=
  let sh := b.toNat % 64
  match aop with
  | 0x0 => a + b
  | 0x1 => a - b
  | 0x2 => a &&& b
  | 0x3 => a ||| b
  | 0x4 => a ^^^ b
  | 0x5 => a <<< sh
  | 0x6 => a >>> sh
  | 0x7 => a.sshiftRight sh
  | 0x8 => if a.toInt ≤ b.toInt then a else b
  | 0x9 => if a.toInt ≤ b.toInt then b else a
  | _ => a * b

/-- The comparison of CTL.P POP 0 and 1 (R165). -/
def cmpOp (cc : Nat) (a b : W64) : Bool :=
  match cc with
  | 0 => a == b
  | 1 => a != b
  | 2 => decide (a.toInt < b.toInt)
  | 3 => decide (b.toInt ≤ a.toInt)
  | 4 => decide (a.toNat < b.toNat)
  | _ => decide (b.toNat ≤ a.toNat)

end Sys2Proof.Machine
end

