-- ==== Sys2Proof/Machine/TileWord.lean ====
section
/-! DEFINITION. The 64-bit instruction word: its encoding, its decoding and its legality (R124 to R169). -/
namespace Sys2Proof.Machine

/-- Bits [lo + n - 1 : lo] of an instruction word. -/
abbrev bits (w : W64) (lo n : Nat) : BitVec n := w.extractLsb' lo n

/-- Assemble a word from its head, its opcode and its class-specific bits [45:6] (R124). -/
def mkWord (h : Head) (opc : BitVec 6) (body : BitVec 40) : W64 :=
  h.qmask ++ h.omask ++ h.psel ++ opc ++ body ++ h.ps ++ h.pc

/-- The opcode of an operation (R126). -/
def TOp.opcode : TOp → BitVec 6
  | .nop _ => 0x01
  | .gmac _ => 0x08
  | .close _ => 0x09
  | .tree _ => 0x0A
  | .vop _ => 0x10
  | .vsfn _ => 0x11
  | .vred _ => 0x12
  | .vcvtFrom _ | .vcvtTo _ => 0x13
  | .movGG _ _ | .movVV _ _ | .movVIq _ _ _ | .movGIq _ _ | .movLaneG _ _ _ _ | .movGLane _ _ _
  | .movTableG _ _ | .movGTable _ _ => 0x18
  | .movi _ _ _ => 0x19
  | .ld _ => 0x20
  | .ldx _ => 0x21
  | .st _ => 0x22
  | .send _ => 0x28
  | .syncArrive _ | .syncWait _ _ => 0x30
  | .bulkRead _ | .bulkWrite _ | .bulkWait _ _ _ => 0x34
  | .lcSetI _ _ _ _ _ | .lcSetG _ _ _ _ _ | .lcDec _ _ _ _ => 0x38
  | .ctlP _ => 0x39
  | .alu _ _ _ _ => 0x3A
  | .alui _ _ _ _ => 0x3B

/-- A MOV body from its fields (R154): form, DST, SRC, Q, QN, NF and bits [16:6]. -/
def movBody (mv : BitVec 4) (dst src : BitVec 6) (q : BitVec 3) (qn nf : BitVec 5) (low : BitVec 11) : BitVec 40 :=
  mv ++ dst ++ src ++ q ++ qn ++ nf ++ low

/-- The class-specific bits [45:6] of an operation. -/
def TOp.body : TOp → BitVec 40
  | .nop drop => drop ++ 0#35
  | .gmac f => f.afmt ++ f.bfmt ++ f.slot ++ f.lmask ++ f.act ++ f.asrc ++ b1 f.abc ++ b1 f.apair ++ b1 f.bsrc ++
      b1 f.ainc ++ b1 f.binc ++ f.areg ++ f.breg ++ f.rep ++ 0#2
  | .close f => f.slot ++ f.lmask ++ f.dfmt ++ f.rnd ++ f.ovf ++ b1 f.all ++ b1 f.dt ++ f.vd ++ f.out ++ b1 f.eot ++
      f.tag ++ 0#13
  | .tree f => f.dst ++ f.sa ++ f.sb ++ b1 f.form ++ b1 f.ord ++ f.lmask ++ 0#25
  | .vop f => f.op ++ f.vd ++ f.va ++ f.vb ++ f.vc ++ b1 f.bb ++ b1 f.bc ++ f.blb ++ f.blc ++ f.vn ++ 0#8
  | .vsfn f => f.fn ++ f.vd ++ f.va ++ f.vn ++ 0#28
  | .vred f => f.rop ++ f.vd ++ f.va ++ f.vn ++ 0#29
  | .vcvtFrom f => 0#3 ++ f.fmt ++ 0#4 ++ f.vd ++ f.va ++ 0#22
  | .vcvtTo f => 1#3 ++ f.fmt ++ f.rnd ++ f.ovf ++ f.vd ++ f.va ++ 0#22
  | .movGG gd gs => movBody 0 gd gs 0 0 0 0
  | .movVV vd vs => movBody 1 (0#3 ++ vd) (0#3 ++ vs) 0 0 0 0
  | .movVIq q qn nf => movBody 2 0 0 q qn nf 0
  | .movGIq gd q => movBody 3 gd 0 q 0 0 0
  | .movLaneG vd gs lane bc => movBody 4 vd gs 0 0 0 (lane ++ b1 bc ++ 0#5)
  | .movGLane gd vs lane => movBody 5 gd vs 0 0 0 (lane ++ 0#6)
  | .movTableG gs entry => movBody 6 0 gs 0 0 0 (entry ++ 0#4)
  | .movGTable gd entry => movBody 7 gd 0 0 0 0 (entry ++ 0#4)
  | .movi gd high imm => gd ++ b1 high ++ 0#1 ++ imm
  | .ld f => f.dt ++ f.ga ++ f.dd ++ b1 f.inc ++ f.off ++ 0#10
  | .st f => f.ss ++ f.ga ++ f.sr ++ b1 f.inc ++ f.off ++ 0#10
  | .ldx f => f.q ++ b1 f.db ++ f.gb ++ b1 f.inc ++ 0#29
  | .send f => f.out ++ f.kind ++ b1 f.eot ++ f.tag ++ f.ssrc ++ f.srcreg ++ f.qs ++ f.nf ++ b1 f.inc ++ 0#12
  | .syncArrive f => 0#2 ++ f.flag ++ f.hop ++ b1 f.immv ++ f.g ++ f.imm ++ 0#6
  | .syncWait flag g => 1#2 ++ flag ++ 0#3 ++ 0#1 ++ g ++ 0#22
  | .bulkRead f => 0#2 ++ f.btag ++ f.gl ++ f.gr ++ f.len ++ b1 f.inc ++ 0#17
  | .bulkWrite f => 1#2 ++ f.btag ++ f.gl ++ f.gr ++ f.len ++ b1 f.inc ++ 0#17
  | .bulkWait btag gr inc => 2#2 ++ btag ++ 0#6 ++ gr ++ 0#6 ++ b1 inc ++ 0#17
  | .lcSetI lcn wz pd pe imm => 0#3 ++ lcn ++ b1 wz ++ pd ++ pe ++ 0#6 ++ imm ++ 0#6
  | .lcSetG lcn wz pd pe gs => 1#3 ++ lcn ++ b1 wz ++ pd ++ pe ++ gs ++ 0#22
  | .lcDec lcn wz pd pe => 2#3 ++ lcn ++ b1 wz ++ pd ++ pe ++ 0#28
  | .ctlP f => f.pop ++ f.cc ++ f.pd ++ f.pe ++ f.a ++ f.b ++ f.imm
  | .alu aop gd ga gb => aop ++ gd ++ ga ++ gb ++ 0#18
  | .alui aop gd ga imm => aop ++ gd ++ ga ++ imm

/-- The 64-bit word of an instruction (R124, R126 and the field tables of each opcode). -/
def TInstr.word (i : TInstr) : W64 := mkWord i.hd (TOp.opcode i.op) (TOp.body i.op)

/-! ### Legality (R168) -/

/-- IQn is one of the five queues and QMASK names it (R131). -/
def popOk (qmask : BitVec 5) (q : Nat) : Bool := q < 5 && qmask.getLsbD q

/-- OMASK names On (R131). -/
def sendOk (omask : BitVec 4) (o : Nat) : Bool := omask.getLsbD o

/-- A field that must be 0. -/
def mbz {n : Nat} (x : BitVec n) : Bool := x == 0

/-- Whether a VOP operation reads VB (R149). -/
def vopReadsB (op : Nat) : Bool := op ≤ 0x06 || (0x0A ≤ op && op ≤ 0x0C)
/-- Whether a VOP operation reads VC (R149). -/
def vopReadsC (op : Nat) : Bool := op = 0x03 || op = 0x04

/-- Conditions of R168 on the fields of an operation under its head. -/
def TOp.legal (h : Head) : TOp → Bool
  | .nop drop => (drop &&& ~~~h.qmask) == 0
  | .gmac f =>
    fmtDefined f.afmt.toNat && fmtDefined f.bfmt.toNat && f.act.toNat ≤ 2 && f.asrc.toNat ≤ 6 && !(mbz f.lmask) &&
    (if f.asrc.toNat < 5 then
      mbz f.areg && !f.ainc && popOk h.qmask f.asrc.toNat &&
      (!f.apair || popOk h.qmask ((f.asrc.toNat + 1) % 5))
     else !f.apair)
  | .close f =>
    fmtIsDest f.dfmt.toNat && f.rnd.toNat ≤ 1 && f.ovf.toNat ≤ 1 &&
    (if f.all then mbz f.slot && mbz f.lmask else !(mbz f.lmask) && !(fmtIsMx f.dfmt.toNat)) &&
    (if f.dt then mbz f.vd && sendOk h.omask f.out.toNat else mbz f.out && !f.eot && mbz f.tag)
  | .tree f => !(mbz f.lmask) && (if f.form then popOk h.qmask f.sb.toNat else !f.ord)
  | .vop f =>
    f.op.toNat ≤ 0x0C &&
    (vopReadsB f.op.toNat || (mbz f.vb && !f.bb && mbz f.blb)) &&
    (vopReadsC f.op.toNat || (mbz f.vc && !f.bc && mbz f.blc))
  | .vsfn f => f.fn.toNat ≤ 4
  | .vred _ => true
  | .vcvtFrom f => fmtDefined f.fmt.toNat
  | .vcvtTo f => fmtIsDest f.fmt.toNat && f.rnd.toNat ≤ 1 && f.ovf.toNat ≤ 1
  | .movGG _ _ => true
  | .movVV _ _ => true
  | .movVIq q _ _ => popOk h.qmask q.toNat
  | .movGIq _ q => popOk h.qmask q.toNat
  | .movLaneG _ _ _ _ => true
  | .movGLane _ _ _ => true
  | .movTableG _ _ => true
  | .movGTable _ _ => true
  | .movi _ _ _ => true
  | .ld f => f.dt.toNat ≤ 3 && (f.dt.toNat ≠ 0 || !f.dd.getLsbD 5)
  | .st f =>
    f.ss.toNat ≤ 4 && (f.ss.toNat ≠ 0 || !f.sr.getLsbD 5) &&
    (f.ss.toNat ≠ 4 || popOk h.qmask (f.sr.toNat % 8))
  | .ldx f => popOk h.qmask f.q.toNat
  | .send f =>
    f.ssrc.toNat ≤ 4 && sendOk h.omask f.out.toNat &&
    ((f.ssrc.toNat ≠ 2 && f.ssrc.toNat ≠ 4) || mbz f.kind) &&
    (match f.ssrc.toNat with
      | 0 => mbz f.srcreg
      | 1 => mbz f.qs && mbz f.nf
      | 2 => f.srcreg.toNat < 8 && mbz f.qs && mbz f.nf
      | 3 => mbz f.qs
      | _ => f.srcreg.toNat < 8 && mbz f.qs && popOk h.qmask (f.srcreg.toNat % 8))
  | .syncArrive f => f.hop.toNat ≤ 4
  | .syncWait _ _ => true
  | .bulkRead _ => true
  | .bulkWrite _ => true
  | .bulkWait _ _ _ => true
  | .lcSetI _ _ _ _ _ => true
  | .lcSetG _ _ _ _ _ => true
  | .lcDec _ _ _ _ => true
  | .ctlP f =>
    match f.pop.toNat with
    | 0 => f.cc.toNat ≤ 5 && mbz f.imm
    | 1 => f.cc.toNat ≤ 5 && mbz f.b
    | 2 => f.cc.toNat ≤ 3 && mbz f.imm
    | 3 => f.cc.toNat ≤ 4 && mbz f.b && mbz f.imm && popOk h.qmask (f.a.toNat % 8)
    | 4 => f.cc.toNat ≤ 1 && mbz f.a && mbz f.b && mbz f.imm
    | _ => false
  | .alu aop _ _ _ => aop.toNat ≤ 0xA
  | .alui aop _ _ _ => aop.toNat ≤ 0xA

/-- An instruction is legal when R168 finds nothing against it. -/
def TInstr.legal (i : TInstr) : Bool := TOp.legal i.hd i.op

/-! ### Decoding -/

/-- What an instruction-store word holds: nothing (VOID), an encoding that no form of R126 gives, or an
instruction, whose legality R168 still judges. -/
inductive Word
  | void
  | bad
  | instr (i : TInstr)
  deriving DecidableEq, Repr

/-- The common fields of a word (R124). -/
def headOf (w : W64) : Head := ⟨bits w 59 5, bits w 55 4, bits w 52 3, bits w 3 3, bits w 0 3⟩

/-- A MOV word's operation (R154): every field its form does not use must be 0. -/
def decodeMov (w : W64) : Option TOp :=
  let dst := bits w 36 6
  let src := bits w 30 6
  let q := bits w 27 3
  let qn := bits w 22 5
  let nf := bits w 17 5
  let lane := bits w 12 5
  let z27 := mbz (bits w 17 13)
  let z6 := mbz (bits w 6 11)
  match (bits w 42 4).toNat with
  | 0 => if z27 && z6 then some (.movGG dst src) else none
  | 1 => if z27 && z6 && mbz (bits w 39 3) && mbz (bits w 33 3)
      then some (.movVV (bits w 36 3) (bits w 30 3)) else none
  | 2 => if mbz dst && mbz src && z6 then some (.movVIq q qn nf) else none
  | 3 => if mbz src && mbz (bits w 17 10) && z6 then some (.movGIq dst q) else none
  | 4 => if z27 && mbz (bits w 6 5)
      then some (.movLaneG dst src lane (w.getLsbD 11)) else none
  | 5 => if z27 && mbz (bits w 6 6) then some (.movGLane dst src lane) else none
  | 6 => if z27 && mbz dst && mbz (bits w 6 4) then some (.movTableG src (bits w 10 7)) else none
  | 7 => if z27 && mbz src && mbz (bits w 6 4) then some (.movGTable dst (bits w 10 7)) else none
  | _ => none

/-- The operation of a word by its opcode (R126); none where the encoding holds a reserved opcode, a reserved form
or a reserved field that is not zero. -/
def decodeOp (w : W64) : Option TOp :=
  match (bits w 46 6).toNat with
  | 0x01 => if mbz (bits w 6 35) then some (.nop (bits w 41 5)) else none
  | 0x08 => if mbz (bits w 6 2) then
      some (.gmac ⟨bits w 41 5, bits w 36 5, bits w 33 3, bits w 29 4, bits w 27 2, bits w 24 3, w.getLsbD 23,
        w.getLsbD 22, w.getLsbD 21, w.getLsbD 20, w.getLsbD 19, bits w 15 4, bits w 11 4, bits w 8 3⟩)
      else none
  | 0x09 => if mbz (bits w 6 13) then
      some (.close ⟨bits w 43 3, bits w 39 4, bits w 34 5, bits w 32 2, bits w 30 2, w.getLsbD 29, w.getLsbD 28,
        bits w 25 3, bits w 23 2, w.getLsbD 22, bits w 19 3⟩)
      else none
  | 0x0A => if mbz (bits w 6 25) then
      some (.tree ⟨bits w 43 3, bits w 40 3, bits w 37 3, w.getLsbD 36, w.getLsbD 35, bits w 31 4⟩)
      else none
  | 0x10 => if mbz (bits w 6 8) then
      some (.vop ⟨bits w 41 5, bits w 38 3, bits w 35 3, bits w 32 3, bits w 29 3, w.getLsbD 28, w.getLsbD 27,
        bits w 22 5, bits w 17 5, bits w 14 3⟩)
      else none
  | 0x11 => if mbz (bits w 6 28) then some (.vsfn ⟨bits w 43 3, bits w 40 3, bits w 37 3, bits w 34 3⟩) else none
  | 0x12 => if mbz (bits w 6 29) then some (.vred ⟨bits w 44 2, bits w 41 3, bits w 38 3, bits w 35 3⟩) else none
  | 0x13 =>
    if mbz (bits w 6 22) then
      match (bits w 43 3).toNat with
      | 0 => if mbz (bits w 34 4) then some (.vcvtFrom ⟨bits w 38 5, bits w 31 3, bits w 28 3⟩) else none
      | 1 => some (.vcvtTo ⟨bits w 38 5, bits w 36 2, bits w 34 2, bits w 31 3, bits w 28 3⟩)
      | _ => none
    else none
  | 0x18 => decodeMov w
  | 0x19 => if w.getLsbD 38 then none else some (.movi (bits w 40 6) (w.getLsbD 39) (bits w 6 32))
  | 0x20 => if mbz (bits w 6 10) then
      some (.ld ⟨bits w 43 3, bits w 37 6, bits w 31 6, w.getLsbD 30, bits w 16 14⟩) else none
  | 0x21 => if mbz (bits w 6 29) then
      some (.ldx ⟨bits w 43 3, w.getLsbD 42, bits w 36 6, w.getLsbD 35⟩) else none
  | 0x22 => if mbz (bits w 6 10) then
      some (.st ⟨bits w 43 3, bits w 37 6, bits w 31 6, w.getLsbD 30, bits w 16 14⟩) else none
  | 0x28 => if mbz (bits w 6 12) then
      some (.send ⟨bits w 44 2, bits w 42 2, w.getLsbD 41, bits w 38 3, bits w 35 3, bits w 29 6, bits w 24 5,
        bits w 19 5, w.getLsbD 18⟩)
      else none
  | 0x30 =>
    match (bits w 44 2).toNat with
    | 0 => if mbz (bits w 6 6) then
        some (.syncArrive ⟨bits w 38 6, bits w 35 3, w.getLsbD 34, bits w 28 6, bits w 12 16⟩) else none
    | 1 => if mbz (bits w 34 4) && mbz (bits w 6 22) then some (.syncWait (bits w 38 6) (bits w 28 6)) else none
    | _ => none
  | 0x34 =>
    if mbz (bits w 6 17) then
      match (bits w 44 2).toNat with
      | 0 => some (.bulkRead ⟨bits w 42 2, bits w 36 6, bits w 30 6, bits w 24 6, w.getLsbD 23⟩)
      | 1 => some (.bulkWrite ⟨bits w 42 2, bits w 36 6, bits w 30 6, bits w 24 6, w.getLsbD 23⟩)
      | 2 => if mbz (bits w 36 6) && mbz (bits w 24 6)
          then some (.bulkWait (bits w 42 2) (bits w 30 6) (w.getLsbD 23)) else none
      | _ => none
    else none
  | 0x38 =>
    if mbz (bits w 6 6) then
      match (bits w 43 3).toNat with
      | 0 => if mbz (bits w 28 6)
          then some (.lcSetI (bits w 41 2) (w.getLsbD 40) (bits w 37 3) (bits w 34 3) (bits w 12 16)) else none
      | 1 => if mbz (bits w 12 16)
          then some (.lcSetG (bits w 41 2) (w.getLsbD 40) (bits w 37 3) (bits w 34 3) (bits w 28 6)) else none
      | 2 => if mbz (bits w 12 22)
          then some (.lcDec (bits w 41 2) (w.getLsbD 40) (bits w 37 3) (bits w 34 3)) else none
      | _ => none
    else none
  | 0x39 => some (.ctlP ⟨bits w 43 3, bits w 40 3, bits w 37 3, bits w 34 3, bits w 28 6, bits w 22 6, bits w 6 16⟩)
  | 0x3A => if mbz (bits w 6 18) then some (.alu (bits w 42 4) (bits w 36 6) (bits w 30 6) (bits w 24 6)) else none
  | 0x3B => some (.alui (bits w 42 4) (bits w 36 6) (bits w 30 6) (bits w 6 24))
  | _ => none

/-- Decode an instruction-store word. -/
def decodeWord (w : W64) : Word :=
  if mbz (bits w 46 6) then .void
  else match decodeOp w with
    | some op => .instr ⟨headOf w, op⟩
    | none => .bad

end Sys2Proof.Machine
end

