-- ==== Sys2Proof/Machine/Operands.lean ====
section
/-! DEFINITION. The operand forms of a tile instruction: registers, buffers, tile memory, queues and outputs, with
their checks (R97, R111) and their poison (R117). -/
namespace Sys2Proof.Machine

/-- What an instruction hands to its cluster (R161, R163). -/
inductive Ext
  | arrive (flag : BitVec 6) (hop : BitVec 3) (v : W16)
  | bulk (write : Bool) (tag : BitVec 2) (laddr raddr rows : Nat)
  deriving DecidableEq, Repr

/-- One tile at work: the tile, the engine memory, and what its instruction raises, hands on or stops for. -/
structure TX where
  ix : Nat
  n : BitVec 9 := 0
  word : W64 := 0
  tile : Tile
  mem : Memory
  recs : List Rec := []
  stop : Option Byte := none
  ext : List Ext := []
  deriving DecidableEq, Repr

/-- Change the tile. -/
def TX.upd (x : TX) (f : Tile → Tile) : TX := { x with tile := f x.tile }

/-- Count events (R121). -/
def TX.count (x : TX) (src n : Nat) : TX := x.upd (Tile.count src n)

/-- Raise a record. -/
def TX.raise (x : TX) (r : Rec) : TX := { x with recs := x.recs ++ [r] }

/-- Stop with a cause; the first cause stands. -/
def TX.halt (x : TX) (cause : Byte) : TX :=
  match x.stop with
  | some _ => x
  | none => { x with stop := some cause }

/-- AFMT of a record of an instruction (R426): the A format of a GMAC, or the format that VCVT FROM converts. -/
def recAfmt (w : W64) : Byte :=
  if bits w 46 6 = 0x08 then (bits w 41 5).zeroExtend 8
  else if bits w 46 6 = 0x13 && bits w 43 3 = 0 then (bits w 38 5).zeroExtend 8
  else 0xFF

/-- BFMT of a record of an instruction (R426): the B format of a GMAC, or the destination format of a CLOSE. -/
def recBfmt (w : W64) : Byte :=
  if bits w 46 6 = 0x08 then (bits w 36 5).zeroExtend 8
  else if bits w 46 6 = 0x09 then (bits w 34 5).zeroExtend 8
  else 0xFF

/-- A record of this tile's instruction (R426, R428): DETAIL0 is the instruction word. -/
def TX.instrRec (x : TX) (cls : W16) (disp : BitVec 2) (block index : Byte) : Rec :=
  { cls := cls, disp := disp, block := block, index := index, instr := x.n.zeroExtend 16,
    opcode := (bits x.word 46 6).zeroExtend 8, afmt := recAfmt x.word, bfmt := recBfmt x.word
    detail0 := x.word }

/-- Consume a poisoned input (R118). -/
def TX.eatPoison (x : TX) (b : Bool) : TX :=
  if b then (x.upd fun t => { t with status := { t.status with poison := true } }).count 0x0C 1 else x

/-! ### SEC-DED words of the tile (R97, R491) -/

/-- A word of a space of R123: 1 = instruction store, 2 and 3 = operand buffers, 4 = G, 5 = V. -/
def Tile.spaceWord (t : Tile) (space off : Nat) : W64 :=
  match space with
  | 1 => SMap.get 0 t.istore off
  | 2 => BitVec.ofNat 64 (leNat (readCells t.bufA (8 * off) 8))
  | 3 => BitVec.ofNat 64 (leNat (readCells t.bufB (8 * off) 8))
  | 4 => SMap.get 0 t.g off
  | _ => BitVec.ofNat 64 (leNat (readCells t.v (8 * off) 8))

/-- Write a word of such a space, without its check bits. -/
def Tile.setSpaceWord (t : Tile) (space off : Nat) (w : W64) : Tile :=
  match space with
  | 1 => { t with istore := SMap.put 0 t.istore off w }
  | 2 => { t with bufA := writeCells t.bufA (8 * off) (leBytes 8 w.toNat) }
  | 3 => { t with bufB := writeCells t.bufB (8 * off) (leBytes 8 w.toNat) }
  | 4 => { t with g := SMap.put 0 t.g off w }
  | _ => { t with v := writeCells t.v (8 * off) (leBytes 8 w.toNat) }

/-- The key of a word's syndrome. -/
def synKey (space off : Nat) : Nat := 8192 * space + off

/-- Set the syndromes of n words to 0: they are written whole. -/
def Tile.clean (t : Tile) (space lo n : Nat) : Tile :=
  { t with syn := SMap.clear t.syn (synKey space lo) (synKey space (lo + n)) }

/-- The memory-class record of a SEC-DED word of the tile (R428). -/
def TX.synRec (x : TX) (space off : Nat) (syn : Byte) (fixed : Bool) : Rec :=
  { cls := 2, disp := if fixed then 0 else 1, block := if space = 1 then 3 else 5
    index := if space = 1 then 0xFF else BitVec.ofNat 8 space
    instr := if space = 1 then 0xFFFF else x.n.zeroExtend 16
    opcode := if space = 1 then 0xFF else (bits x.word 46 6).zeroExtend 8
    afmt := if space = 1 then 0xFF else recAfmt x.word
    bfmt := if space = 1 then 0xFF else recBfmt x.word
    action := if fixed then 1 else 2
    detail0 := BitVec.ofNat 64 (space + 256 * off)
    detail1 := BitVec.ofNat 64 (off % 8 + 256 * syn.toNat + (if fixed then 2 ^ 17 else 0)) }

/-- Read the word of one listed syndrome (R97): correct it and write it back, or stop with the store's cause. -/
def TX.fixWord (x : TX) (space off : Nat) (syn : Byte) : TX :=
  match eccFix syn (x.tile.spaceWord space off) with
  | some w =>
    ((x.upd fun t =>
        let t := (t.setSpaceWord space off w).clean space off 1
        { t with status := { t.status with corrected := true } }).count 0x12 1).raise (x.synRec space off syn true)
  | none => (x.raise (x.synRec space off syn false)).halt (if space = 1 then 0x08 else 0x09)

/-- Read n words of a space: every one whose syndrome is not 0 is met (R97). -/
def TX.touch (x : TX) (space lo n : Nat) : TX :=
  (x.tile.syn.filter fun p => decide (synKey space lo ≤ p.1) && decide (p.1 < synKey space (lo + n))).foldl
    (fun x p => x.fixWord space (p.1 - synKey space 0) p.2) x

/-! ### G, P and LC -/

/-- G register i. -/
def Tile.getG (t : Tile) (i : Nat) : W64 := SMap.get 0 t.g i

/-- Whether Gi carries poison. -/
def Tile.gPoison (t : Tile) (i : Nat) : Bool := t.gTag.getLsbD i

/-- Set or clear bit i of a tag vector. -/
def setBit {n : Nat} (x : BitVec n) (i : Nat) (b : Bool) : BitVec n :=
  if b then x ||| BitVec.ofNat n (2 ^ i) else x &&& ~~~(BitVec.ofNat n (2 ^ i))

/-- Write Gi whole: its tag follows the new data (R117). -/
def Tile.setG (t : Tile) (i : Nat) (w : W64) (psn : Bool) : Tile :=
  { (t.clean 4 i 1) with g := SMap.put 0 t.g i w, gTag := setBit t.gTag i psn }

/-- Predicate n: P0 reads 1 (R95). -/
def Tile.getP (t : Tile) (n : Nat) : Bool := n = 0 || t.pred.getLsbD n

/-- Write predicate n; P0 is never written (R125). -/
def Tile.setP (t : Tile) (n : Nat) (b : Bool) : Tile :=
  if n = 0 then t else { t with pred := setBit t.pred n b }

/-- Advance bits [15:0] of G(i) by d modulo 2^16 (R140, R156); the tag stays. -/
def Tile.advG (t : Tile) (i d : Nat) : Tile :=
  let w := (t.getG i).toNat
  { t with g := SMap.put 0 t.g i (BitVec.ofNat 64 (w / 2 ^ 16 * 2 ^ 16 + (w + d) % 2 ^ 16)) }

/-! ### V registers and quarters (R108, R149) -/

/-- The 128 B of V register n. -/
def Tile.vBytes (t : Tile) (n : Nat) : List Byte := readCells t.v (128 * (n % 8)) 128

/-- The 32 lanes of V register n. -/
def Tile.vLanes (t : Tile) (n : Nat) : List W32 :=
  (List.range 32).map fun i => BitVec.ofNat 32 (leNat (readCells t.v (128 * (n % 8) + 4 * i) 4))

/-- The V file's byte b of register n, and whether Vn carries poison. -/
def Tile.vPoison (t : Tile) (n : Nat) : Bool := t.vTag.getLsbD (n % 8)

/-- Write V register n whole (R117). -/
def Tile.setV (t : Tile) (n : Nat) (bs : List Byte) (psn : Bool) : Tile :=
  { (t.clean 5 (16 * (n % 8)) 16) with
    v := writeCells t.v (128 * (n % 8)) (padTo 128 bs), vTag := setBit t.vTag (n % 8) psn }

/-- The bytes of 32 lanes. -/
def laneBytes (ls : List W32) : List Byte := ls.flatMap fun l => leBytes 4 l.toNat

/-- Write the 32 lanes of V register n. -/
def Tile.setLanes (t : Tile) (n : Nat) (ls : List W32) (psn : Bool) : Tile := t.setV n (laneBytes ls) psn

/-- Quarter q of the V file: 32 B (R149's preamble). -/
def Tile.quarter (t : Tile) (q : Nat) : List Byte := readCells t.v (32 * (q % 32)) 32

/-- Write quarter q: a partial write ORs the poison of its data into the register's tag (R117). -/
def Tile.setQuarter (t : Tile) (q : Nat) (bs : List Byte) (psn : Bool) : Tile :=
  let r := q % 32 / 4
  { (t.clean 5 (4 * (q % 32)) 4) with
    v := writeCells t.v (32 * (q % 32)) (padTo 32 bs), vTag := setBit t.vTag r (psn || t.vTag.getLsbD r) }

/-! ### Operand buffers (R98, R140) -/

/-- Read n bytes of buffer A (b = false) or B at an address modulo 2 KiB, with the poison of the rows met. -/
def TX.readBuf (x : TX) (b : Bool) (addr n : Nat) : List Byte × Bool × TX :=
  let ws := (List.range (n / 8 + 2)).filterMap fun i =>
    let w := addr / 8 + i
    if w * 8 < addr + n then some (w % 256) else none
  let x := ws.foldl (fun x w => x.touch (if b then 3 else 2) w 1) x
  let cs := if b then x.tile.bufB else x.tile.bufA
  let tag := if b then x.tile.bTag else x.tile.aTag
  ((List.range n).map (fun i => SMap.get 0 cs ((addr + i) % 2048)), ws.any (fun w => tag.getLsbD (w / 8)), x)

/-- Write row r of an operand buffer whole (R117). -/
def Tile.setBufRow (t : Tile) (b : Bool) (r : Nat) (bs : List Byte) (psn : Bool) : Tile :=
  let r := r % 32
  if b then
    { (t.clean 3 (8 * r) 8) with bufB := writeCells t.bufB (64 * r) (padTo 64 bs), bTag := setBit t.bTag r psn }
  else
    { (t.clean 2 (8 * r) 8) with bufA := writeCells t.bufA (64 * r) (padTo 64 bs), aTag := setBit t.aTag r psn }

/-! ### Tile memory (R109 to R111) -/

/-- The split in effect: a value above 0x400 acts as 0x400 (R109). -/
def Tile.splitRow (t : Tile) : Nat := min t.split.toNat 0x400

/-- Whether tile-memory row r is class W (R109). -/
def Tile.rowW (t : Tile) (r : Nat) : Bool := r < t.splitRow

/-- The memory-class record of a tile-memory word (R428). -/
def TX.memRec (x : TX) (wi : Nat) (k : Byte) (w fixed : Bool) : Rec :=
  { cls := 2, disp := if fixed then 0 else 1, block := 4
    instr := x.n.zeroExtend 16, opcode := (bits x.word 46 6).zeroExtend 8
    afmt := recAfmt x.word, bfmt := recBfmt x.word
    action := if fixed then 1 else if w then 2 else 0
    detail0 := BitVec.ofNat 64 (tileBase x.ix + wi / 8 * 64)
    detail1 := BitVec.ofNat 64 (wi % 8 + 256 * k.toNat + (if w then 2 ^ 16 else 0) + (if fixed then 2 ^ 17 else 0)) }

/-- Read word wi (0 to 8,191) of tile memory with its checks (R111): whether it is delivered poisoned. -/
def TX.memWord (x : TX) (wi : Nat) : Bool × TX :=
  let a := tileBase x.ix + 8 * wi
  let k := x.mem.mark a
  if k = 0 then (false, x)
  else if x.tile.rowW (wi / 8) then
    match eccFix k (x.mem.word a) with
    | some w =>
      (false, ((({ x with mem := x.mem.putWord a w 0 }).upd fun t =>
        { t with status := { t.status with corrected := true } }).count 0x12 1).raise (x.memRec wi k true true))
    | none => (false, (x.raise (x.memRec wi k true false)).halt 0x07)
  else if k = 0xFF then (true, x)
  else (true, (x.raise (x.memRec wi k false false)).count 0x13 1)

/-- Meet the words of a list in order. -/
def TX.memWords (x : TX) : List Nat → Bool × TX
  | [] => (false, x)
  | w :: ws =>
    let r := x.memWord w
    let q := r.2.memWords ws
    (r.1 || q.1, q.2)

/-- Read n bytes of tile memory at an address modulo 64 KiB, the rows being counted elsewhere. -/
def TX.readBytes (x : TX) (addr n : Nat) : List Byte × Bool × TX :=
  let ws := (List.range (n / 8 + 2)).filterMap fun i =>
    let w := addr / 8 + i
    if w * 8 < addr + n then some (w % 8192) else none
  let r := x.memWords ws
  ((List.range n).map (fun i => r.2.mem.byte (tileBase x.ix + (addr + i) % 65536)), r.1, r.2)

/-- Rows of tile memory that n bytes from an address touch. -/
def rowsTouched (addr n : Nat) : Nat := if n = 0 then 0 else (addr + n + 63) / 64 - addr / 64

/-- Read n bytes of tile memory at an address modulo 64 KiB, counting the rows read (R121). -/
def TX.readMem (x : TX) (addr n : Nat) : List Byte × Bool × TX :=
  (x.count 0x10 ((addr + n + 63) / 64 - addr / 64)).readBytes addr n

/-- Store bytes of one row or one word at a tile-memory address, multiples of 8 B (R157, R117): poisoned data is
stored with the poison pattern in class A and stops the tile in class W. -/
def TX.writeMem (x : TX) (addr : Nat) (bs : List Byte) (psn : Bool) : TX :=
  let a := addr % 65536
  let k : Byte := if psn then 0xFF else 0
  if psn && x.tile.rowW (a / 64) then x.halt 0x0A
  else
    let m := (x.mem.setBytes (tileBase x.ix + a) bs).setMarks (tileBase x.ix + a) k (bs.length / 8)
    ({ x with mem := m }).count 0x11 1

/-! ### Queues and outputs (R113, R114) -/

/-- The flits of IQn. -/
def Tile.queue (t : Tile) (n : Nat) : List Flit := SMap.get [] t.iq n

/-- The head of IQn where it carries the tile's current epoch (R113). -/
def Tile.head (t : Tile) (n : Nat) : Option Flit :=
  match t.queue n with
  | f :: _ => if f.epoch = t.epoch.cur then some f else none
  | [] => none

/-- Remove the head of IQn; its hop credit becomes pending at the end of the cycle (R113). -/
def Tile.drop (t : Tile) (n : Nat) : Tile :=
  { t with iq := SMap.put [] t.iq n ((t.queue n).drop 1), pops := SMap.put 0 t.pops n (SMap.get 0 t.pops n + 1) }

/-- Pop a flit of the current epoch from IQn. -/
def TX.pop (x : TX) (n : Nat) : Option (Flit × TX) :=
  match x.tile.head n with
  | some f => some (f, ((x.upd fun t => t.drop n).count 0x0A 1).count (0x16 + n) 1)
  | none => none

/-- The credits of output n. -/
def Tile.credit (t : Tile) (n : Nat) : Nat := (SMap.get 0 t.cred n).toNat

/-- Send a flit on output n, taking one credit; none without one (R114). -/
def TX.emit (x : TX) (n : Nat) (f : Flit) : Option TX :=
  if x.tile.credit n = 0 then none
  else some ((((x.upd fun t =>
    { t with cred := SMap.put 0 t.cred n (BitVec.ofNat 6 (t.credit n - 1))
             outbox := SMap.put [] t.outbox n (SMap.get [] t.outbox n ++ [f]) }).count 0x0B 1)).count (0x1B + n) 1)

/-- A payload of 32 bytes. -/
def payloadOf (bs : List Byte) : Payload := BitVec.ofNat 256 (leNat (padTo 32 bs))

/-- The 32 bytes of a flit. -/
def Flit.bytes (f : Flit) : List Byte := leBytes 32 f.payload.toNat

/-- Cut a byte string into flits of the tile's epoch (R146, R160): END on the last only. -/
def mkFlits (ep : BitVec 4) (kind : BitVec 2) (tag : BitVec 3) (psn eot : Bool) (bs : List Byte) : Nat → List Flit
  | 0 => []
  | n + 1 =>
    { payload := payloadOf (bs.take 32), kind := kind, epoch := ep, tag := tag, poison := psn, eot := eot && n = 0 }
      :: mkFlits ep kind tag psn eot (bs.drop 32) n

end Sys2Proof.Machine
end

