-- ==== Sys2Proof/Machine/Units.lean ====
section
/-! DEFINITION. Requests to the host, completions, engine states, slice stops, and the access of one row of the engine
address space (R29 to R31, R119, R265, R266, R284 to R286, R346, R360 to R365, R492, R493). -/
namespace Sys2Proof.Machine

/-! ### The host side (R346, R365) -/

/-- Change the host interface. -/
def State.updHost (s : State) (f : HostIf → HostIf) : State := { s with host := f s.host }

/-- Whether the engine may issue requests: Bus Master Enable is 1, outside D3hot, the link up (R343, R346). -/
def HostIf.master (h : HostIf) : Bool := h.bme && !h.d3 && h.linkUp

/-- Perform one posted request. -/
def HostIf.perform (h : HostIf) : HostReq → HostIf
  | .write a bs => { h with mem := writeCells h.mem a bs }
  | .msg a d => { h with msgs := h.msgs ++ [(a, d)] }

/-- Issue a posted request, or hold it until the engine may issue requests. -/
def HostIf.post (h : HostIf) (q : HostReq) : HostIf :=
  if h.master && h.held.isEmpty then h.perform q else { h with held := h.held ++ [q] }

/-- Issue what is held, in order, once the engine may issue requests. -/
def HostIf.flush (h : HostIf) : HostIf :=
  if h.master then h.held.foldl HostIf.perform { h with held := [] } else h

/-- Write bytes to host memory. -/
def State.hostWrite (s : State) (a : Nat) (bs : List Byte) : State := s.updHost (·.post (.write a bs))

/-- Read bytes of host memory. -/
def State.hostRead (s : State) (a n : Nat) : List Byte := readCells s.host.mem a n

/-- A 4 B word of the MSI-X table; the vector-control word's mask bit is 1 at reset (PCI Express). -/
def HostIf.msixWord (h : HostIf) (i : Nat) : W32 := SMap.get (if i % 4 = 3 then 1 else 0) h.msix i

/-- Signal MSI-X vector v (R365): a masked vector becomes pending. -/
def HostIf.signal (h : HostIf) (v : Nat) : HostIf :=
  if !h.msixEn || h.msixMask || (h.msixWord (4 * v + 3)).getLsbD 0 then { h with pba := SMap.put false h.pba v true }
  else
    { (h.post (.msg (h.msixWord (4 * v + 1) ++ h.msixWord (4 * v)) (h.msixWord (4 * v + 2)))) with
      pba := SMap.put false h.pba v false }

/-- Send the messages of pending vectors that are no longer masked. -/
def HostIf.unmask (h : HostIf) : HostIf :=
  (h.pba.map (·.1)).foldl (fun h v =>
    if h.msixEn && !h.msixMask && !((h.msixWord (4 * v + 3)).getLsbD 0) then h.signal v else h) h

/-- Signal a vector. -/
def State.msi (s : State) (v : Nat) : State := s.updHost (·.signal v)

/-! ### Rings and completions (R351, R360 to R365) -/

/-- Ring r. -/
def State.ring (s : State) (r : Nat) : Ring := SMap.get {} s.host.rings r
/-- Replace ring r. -/
def State.setRing (s : State) (r : Nat) (x : Ring) : State := s.updHost fun h => { h with rings := SMap.put {} h.rings r x }

/-- Entries of a ring. -/
def Ring.n (x : Ring) : Nat := 2 ^ x.log2.toNat

/-- The descriptor's OPCODE, FLAGS, SLICE, COUNT, TAG, TIMEOUT_MS and JOB (R355), and an operand. -/
def Desc.byte (d : Desc) (o : Nat) : Nat := leAt o 1 d.bytes
/-- A field of n bytes at an offset. -/
def Desc.fld (d : Desc) (o n : Nat) : Nat := leAt o n d.bytes
/-- OPCODE. -/
def Desc.op (d : Desc) : Nat := d.byte 0
/-- FLAGS.IRQ. -/
def Desc.irq (d : Desc) : Bool := (d.byte 1).testBit 0
/-- FLAGS.ORDER. -/
def Desc.order (d : Desc) : Bool := (d.byte 1).testBit 1
/-- The slice named. -/
def Desc.slice (d : Desc) : Nat := d.byte 2 % 16

/-- What a descriptor completes with (R360, R362). -/
structure Result where
  status : Nat := 0
  poison : Bool := false
  corrected : Bool := false
  isolation : Bool := false
  r0 : Nat := 0
  r1 : Nat := 0
  deriving DecidableEq, Repr

/-- The ring signals its vector: the message covers every completion written before it (R365). -/
def State.ringSignal (s : State) (r : Nat) : State :=
  let x := s.ring r
  (s.setRing r { x with unsignalled := 0 }).msi x.vector.toNat

/-- The 28 bytes of a completion before SEQ_PH (R360). -/
def completionBytes (d : Desc) (q : Result) : List Byte :=
  d.bytes.drop 4 |>.take 4 |> fun tag => padTo 4 tag ++
  leBytes 2 (q.status + 256 * b2n q.poison + 512 * b2n q.corrected + 1024 * b2n q.isolation) ++
  leBytes 1 d.op ++ leBytes 1 (d.byte 2) ++ leBytes 8 q.r0 ++ leBytes 8 q.r1 ++ leBytes 4 d.num.toNat

/-- SEQ_PH of entry n in a ring of 2^k entries: the number modulo 2^31 with PHASE in bit 31 (R360, R435). -/
def seqPh (n size : Nat) : List Byte := leBytes 4 (n % 2 ^ 31 + (if (n / size) % 2 = 0 then 2 ^ 31 else 0))

/-- Write one completion (R360): its bytes 0 to 27, then SEQ_PH, then the signals of R365. A RUN's RESULT1 is the engine
time whatever its status (R361). The descriptor leaves the
engine; a draining ring without started descriptors is then disabled. -/
def State.completeOne (s : State) (d : Desc) (q0 : Result) : State :=
  let q := if d.op = 0x02 then { q0 with r1 := s.engineNs } else q0
  let r := d.ring.val
  let x := s.ring r
  let n := x.cqProd.toNat
  let a := x.cqb.toNat * 64 + n % x.n * 32
  let s := (s.hostWrite a (completionBytes d q)).hostWrite (a + 28) (seqPh n x.n)
  let ds := s.host.descs.filter fun e => !(e.ring = d.ring && e.num = d.num)
  let s := s.updHost fun h => { h with descs := ds }
  let idle := !(ds.any fun e => e.ring = d.ring && e.started)
  let un := x.unsignalled + 1
  let s := s.setRing r { x with cqProd := x.cqProd + 1, unsignalled := un,
                                state := if x.state = 2 && idle then 0 else x.state
                                reset := x.reset && !(x.state = 2 && idle) }
  if d.irq || (x.irqCount ≠ 0 && x.irqCount.toNat ≤ un) then s.ringSignal r else s

/-- Whether a started FENCE has nothing left to wait for (R356, R357): no earlier descriptor of its ring, or of any
ring. -/
def State.fenceDone (s : State) (d : Desc) : Bool :=
  (s.host.descs.takeWhile fun e => !(e.ring = d.ring && e.num = d.num)).all fun e => d.byte 16 = 0 && e.ring ≠ d.ring

/-- Complete the started FENCEs that have nothing left to wait for, in the order of their fetch. -/
def State.fences (s : State) : State :=
  (s.host.descs.filter fun d => d.started && d.op = 0x07).foldl
    (fun s d => if s.fenceDone d then s.completeOne d {} else s) s

/-- Complete a descriptor (R360), and the FENCEs that waited for it. -/
def State.complete (s : State) (d : Desc) (q : Result) : State := (s.completeOne d q).fences

/-- Complete a list of descriptors with one result. -/
def State.completeAll (s : State) (ds : List Desc) (q : Result) : State := ds.foldl (fun s d => s.complete d q) s

/-! ### ENGINE_STATE (R348, R450) -/

/-- The engine's state. -/
def State.engine (s : State) : Nat := s.fget fGlbEngineStateState

/-- Opcodes that every engine state performs: NOP, FENCE, QUERY (R348). -/
def freeOp (op : Nat) : Bool := op = 0x00 || op = 0x07 || op = 0x0A

/-- Change ENGINE_STATE: PREV, CHANGED and the vector of HIF_CTRL (R365). In FAULT the held descriptors complete with
ENGINE_STATE (R348), and debug is locked (R464). -/
def State.setEngine (s : State) (st : Nat) (cause : Option Nat := none) : State :=
  let s := match cause with
    | some c => s.fset fGlbEngineStateCause c
    | none => s
  if s.engine = st then s
  else
    let s := ((s.fset fGlbEngineStatePrev s.engine).fset fGlbEngineStateState st).fset fGlbEngineStateChanged 1
    let s := if s.fbit fHifCtrlStateIrqEn then s.msi (s.fget fHifCtrlStateVec) else s
    if st = 8 then
      (s.fset fMgtStatDebug 0).completeAll (s.host.descs.filter fun d => !d.started && !(freeOp d.op || (0x10 ≤ d.op && d.op ≤ 0x13)))
        { status := 0x0E }
    else s

/-! ### Tiles of slices, and stops (R119, R492) -/

/-- The present tiles of a slice, ascending by canton. -/
def State.sliceTiles (s : State) (n : Nat) : List Nat := ((s.slice n).cantons.flatMap tilesOf).filter s.isPresent

/-- Record a stop in a tile that has not stopped yet. -/
def Tile.stopWith (cause : Byte) (n : BitVec 9) (t : Tile) : Tile :=
  if t.status.stopped then t
  else { t with status := { t.status with stopped := true, stopCause := cause, stopIndex := n } }

/-- Clear a stop (R119). -/
def Tile.clearStop (t : Tile) : Tile := { t with status := { t.status with stopped := false, stopCause := 0, stopIndex := 0 } }

/-- Set RUN of a tile. -/
def Tile.setRun (b : Bool) (t : Tile) : Tile := { t with ctrl := { t.ctrl with run := b } }

/-- The RUN completion of a slice's stop (R361, R246, R249). -/
def Slice.stopResult (x : Slice) (now : Nat) : Result :=
  { status := if x.stopStatus = 0 then 0x09 else x.stopStatus.toNat
    r0 := x.faultTile.toNat * 2 ^ 38 + x.faultCause.toNat * 2 ^ 56, r1 := now }

/-- Slice n stops for a fault (R119, R492): tile is the tile that stopped for a fault of its own, if one did. Its RUN
completes with the stop's status, a RECONFIGURE with SLICE_FAULT; PHASE becomes 6. -/
def State.stopSlice (s : State) (n : Nat) (tile : Option (Nat × Byte)) : State :=
  let x := s.slice n
  if !x.loaded || x.phase = 6 then s
  else
    let c : Byte := if tile.isSome then 0x0D else 0x0E
    let s := s.mapTiles (s.sliceTiles n) (Tile.stopWith c 0)
    let x := match tile with
      | some (t, k) => { x with faultTile := BitVec.ofNat 18 t, faultCause := k }
      | none => { x with faultTile := 0x3FFFF, faultCause := 0x0E }
    -- A stop that a warm reset began goes on (R347).
    let rc := x.reconf.filter fun rc => rc.goal = .unload && rc.desc.isNone
    let s := s.setSlice n { x with phase := 6, mode := 0, run := none, reconf := rc }
    let s := match x.run with
      | some r => s.complete r.desc (x.stopResult s.engineNs)
      | none => s
    match x.reconf with
    | some { desc := some d, .. } => s.complete d { status := 0x09 }
    | _ => s

/-- The slice that owns canton c stops for a fault outside its tiles (R492). -/
def State.stopAt (s : State) (c : Nat) : State :=
  match s.sliceOf c with
  | some n => s.stopSlice n none
  | none => s

/-- A record that stops a slice: ACTION 2. -/
def stopRec (r : Rec) : Rec := { r with action := 2 }

/-! ### Requesters and rows -/

/-- Who asks for a row: a slice, the host (DMA, BAR4, TILE_ACC) or the engine itself (loading, ports, firmware). -/
inductive WhoKind
  | slice (n : Nat)
  | host
  | engine
  deriving DecidableEq, Repr

/-- A requester: its kind, its SRC (R206), and the source, canton and unit of the address-fault record it raises. -/
structure Who where
  kind : WhoKind
  src : Nat
  recSrc : Nat
  block : Byte := 8
  index : Byte := 0xFF
  canton : Byte := 0xFF
  cluster : Byte := 0xFF
  tile : Option Nat := none
  deriving DecidableEq, Repr

/-- The sequencer of cluster k asking for slice n, for a tile of it where one asks. -/
def whoSlice (n k : Nat) (tile : Option Nat) : Who :=
  { kind := .slice n, src := k, recSrc := cantonSrc (cantonOfCluster k), canton := BitVec.ofNat 8 (cantonOfCluster k),
    cluster := BitVec.ofNat 8 (localCluster k), tile := tile }

/-- The sequencer of cluster k moving rows of a host DMA. -/
def whoDma (k : Nat) : Who :=
  { kind := .host, src := k, recSrc := cantonSrc (cantonOfCluster k), canton := BitVec.ofNat 8 (cantonOfCluster k),
    cluster := BitVec.ofNat 8 (localCluster k) }

/-- The sequencer of cluster k working for the ensign complex or a port. -/
def whoEngine (k : Nat) : Who := { whoDma k with kind := .engine }

/-- The host interface itself: attachment 3 at local cluster 16 of canton 40 (R203). -/
def whoHost : Who := { kind := .host, src := 3 * 2 ^ 13 + clusterAt 40 16, recSrc := 0x500, block := 0xF }

/-- The port block of port p: attachment 5 at local cluster 27 of its canton (R203). -/
def whoPort (p : Nat) : Who :=
  { kind := .engine, src := 5 * 2 ^ 13 + clusterAt (portCanton p) 27, recSrc := portSrc p, block := 0xC,
    index := BitVec.ofNat 8 p, canton := BitVec.ofNat 8 (portCanton p) }

/-- What stands in the way of an access: nothing, an unmapped address, or an isolation refusal. -/
inductive Bar
  | free
  | unmapped
  | isolated
  deriving DecidableEq, Repr

/-- Region n of bay b. -/
def State.region (s : State) (b n : Nat) : Region := SMap.get {} (s.bay b).regions n
/-- Replace region n of bay b. -/
def State.setRegion (s : State) (b n : Nat) (r : Region) : State :=
  let y := s.bay b
  s.setBay b { y with regions := SMap.put {} y.regions n r }

/-- Whether a canton is powered and has joined. -/
def State.online (s : State) (c : Nat) : Bool := (s.canton c).powered && (s.canton c).joined

/-- Whether the engine-wide tree reaches a canton (R225). -/
def State.inEtree (s : State) (c : Nat) : Bool := s.fbit fCanHalEtreeValid c

/-- Whether a transaction can reach a canton: a joined canton that the engine-wide tree does not reach is treated as lost
(R225, R368). -/
def State.reached (s : State) (c : Nat) : Bool := s.online c && s.inEtree c

/-- Cache banks in effect (R262, R290). -/
def Cluster.banks (x : Cluster) : Nat := min x.cacheBanks.toNat 16

/-- Whether an address has a populated, addressable store behind it (R29 to R31, R261, R262, R270, R493). -/
def State.mapped (s : State) (a : Nat) : Bool :=
  match placeOf a with
  | .none => false
  | .bay b _ => s.fget fBayStatState (bayCanton b) = 2
  | .cluster k o => s.online (cantonOfCluster k) && o < 0x180000 &&
      !((s.cluster k).bankFail.getLsbD (o / 65536)) && (s.cluster k).banks ≤ o / 65536
  | .tile t _ => s.online (cantonOf t) && s.isPresent t

/-- Ownership of an address's cluster or region: OWNED, OWNER, DIRTY, LAST_JOB (R284, R285). -/
structure Owned where
  owned : Bool
  owner : Nat
  dirty : Bool
  lastJob : W16
  deriving DecidableEq, Repr

/-- The ownership of an address. -/
def State.ownership (s : State) (a : Nat) : Owned :=
  let ofCluster (k : Nat) : Owned :=
    let x := s.cluster k
    ⟨x.owned, x.owner.toNat, x.dirty, x.lastJob⟩
  match placeOf a with
  | .bay b o =>
    let r := s.region b (o / 2 ^ 30)
    ⟨r.owned, r.owner.toNat, r.dirty, r.lastJob⟩
  | .cluster k _ => ofCluster k
  | .tile t _ => ofCluster (clusterOf t)
  | .none => ⟨false, 0, false, 0xFFFF⟩

/-- Whether an unowned store keeps the contents of its last job (R286). -/
def Owned.sealed (o : Owned) : Bool := !o.owned && o.dirty && o.lastJob ≠ 0xFFFF

/-- Whether a requester may reach an address (R31, R284 to R286): debug unlocked lifts the seal of R286. -/
def State.bar (s : State) (who : Who) (a : Nat) : Bar :=
  if !(s.mapped a) then .unmapped
  else
    let o := s.ownership a
    match who.kind with
    | .slice n => if o.owned && o.owner = n then .free else .isolated
    | .host => if o.sealed && !(s.fbit fMgtStatDebug) then .isolated else .free
    | .engine => .free

/-- The address-fault record of a refused access (R31, R428). -/
def barRec (who : Who) (a : Nat) (isolated : Bool) (status : Nat) : Rec :=
  { cls := 1, isolation := isolated, block := who.block, index := who.index, canton := who.canton, cluster := who.cluster,
    detail0 := BitVec.ofNat 64 a, detail1 := BitVec.ofNat 64 (who.src % 2 ^ 16 + status * 2 ^ 16) }

/-- Raise the address-fault record of a refused access, and count an isolation refusal of a sequencer (R290). -/
def State.refuse (s : State) (who : Who) (a : Nat) (isolated : Bool) : State :=
  let r := barRec who a isolated 1
  let r := match who.tile with
    | some t => s.onTile t r
    | none => r
  let s := s.report who.recSrc r
  if isolated && who.block = 8 && who.kind ≠ .host then
    let k := who.src % 2 ^ 13
    let x := s.cluster k
    s.setCluster k { x with isolation := satInc x.isolation }
  else s

/-- Whether an address lies in a class W row (R263). -/
def State.rowIsW (s : State) (a : Nat) : Bool :=
  match placeOf a with
  | .bay b o => (s.region b (o / 2 ^ 30)).classW
  | .cluster k o => (s.cluster k).classW.getLsbD (o / 65536)
  | .tile t o => (s.tile t).rowW (o / 64)
  | .none => false

/-- The memory-class record of a row (R428, R430): its unit, the row's address, the word, the check bits seen. A slice
that asked for a row it cannot get stops (R265, R266). -/
def State.rowRec (s : State) (who : Who) (a word : Nat) (bits : Byte) (w fixed : Bool) (disp : BitVec 2) : Rec :=
  let sl : Byte := match who.kind with
    | .slice n => BitVec.ofNat 8 n
    | _ => 0xFF
  let r : Rec := { cls := 2, disp := disp, slice := sl, action := if fixed then 1 else if w && sl ≠ 0xFF then 2 else 0,
                   detail0 := BitVec.ofNat 64 (deAperture a / 64 * 64),
                   detail1 := BitVec.ofNat 64 (word + 256 * bits.toNat + 2 ^ 16 * b2n w + 2 ^ 17 * b2n fixed) }
  match placeOf a with
  | .bay b o => { (onCanton (bayCanton b) r) with block := 0xB, index := BitVec.ofNat 8 (o / 64 % 32) }
  | .cluster k o => { (onCluster k r) with block := 8, index := BitVec.ofNat 8 (o / 65536) }
  | .tile t _ => { (s.onTile t r) with block := 4 }
  | .none => r

/-- The source that reports a row's errors: its canton's controller (R431). -/
def rowSrc (a : Nat) : Nat :=
  match placeOf a with
  | .bay b _ => cantonSrc (bayCanton b)
  | .cluster k _ => cantonSrc (cantonOfCluster k)
  | .tile t _ => cantonSrc (cantonOf t)
  | .none => 0x300

/-- Raise a row's memory record. -/
def State.rowReport (s : State) (who : Who) (a word : Nat) (bits : Byte) (w fixed : Bool) (disp : BitVec 2) : State :=
  s.report (rowSrc a) (s.rowRec who a word bits w fixed disp)

/-- Count a row's error: kind 0 = corrected, 1 = class A parity or word error, 2 = uncorrectable. -/
def State.countRow (s : State) (a kind : Nat) (w : Bool) : State :=
  match placeOf a with
  | .bay b o =>
    let c := bayCanton b
    let s := if kind = 0 then
        let y := s.bay b
        let ch := o / 64 % 32
        s.setBay b { y with chanCorr := SMap.put 0 y.chanCorr ch (SMap.get 0 y.chanCorr ch + 1) }
      else s
    if kind = 0 then s.finc (if w then fBayErrcntSymCorr else fBayErrcntWordCorr) c
    else s.finc fBayErrcntUncorr c
  | .cluster k _ =>
    let x := s.cluster k
    (if kind = 0 then s.clusterEvent k 0x0F 1 else s).setCluster k (match kind with
      | 0 => { x with corr := satInc x.corr }
      | 1 => { x with parity := satInc x.parity }
      | _ => { x with uncorr := satInc x.uncorr })
  | .tile t _ =>
    match kind with
    | 0 => s.setTile t (({ s.tile t with status := { (s.tile t).status with corrected := true } } : Tile).count 0x12 1)
    | 1 => s.setTile t ((s.tile t).count 0x13 1)
    | _ => s
  | .none => s

/-- What a read of one row gives: the status of R206, the bytes, poison, and what happened on the way. -/
structure RowOut where
  status : Nat := 0
  data : List Byte := []
  poison : Bool := false
  isolation : Bool := false
  corrected : Bool := false
  deriving DecidableEq, Repr

/-- Change the engine memory. -/
def State.updMem (s : State) (f : Memory → Memory) : State := { s with mem := f s.mem }

/-- Read the words of a SEC-DED row and correct them in place: an uncorrectable word is noted. -/
def State.fixWords (s : State) (who : Who) (a : Nat) (w : Bool) : List Nat → Bool × Bool × State
  | [] => (false, false, s)
  | i :: is =>
    let k := s.mem.mark (a + 8 * i)
    if k = 0 then s.fixWords who a w is
    else
      let r : Bool × Bool × State := match eccFix k (s.mem.word (a + 8 * i)) with
        | some v => (true, false, ((s.updMem (·.putWord (a + 8 * i) v 0)).rowReport who a i k w true 0).countRow a 0 w)
        | none => (false, true, (s.rowReport who a i k w false 1).countRow a 2 w)
      let q := r.2.2.fixWords who a w is
      (r.1 || q.1, r.2.1 || q.2.1, q.2.2)

/-- Read the parity words of a class A row of tile or cluster memory. -/
def State.parityWords (s : State) (who : Who) (a : Nat) : List Nat → Bool × State
  | [] => (false, s)
  | i :: is =>
    let k := s.mem.mark (a + 8 * i)
    let s := if k = 0 || k = 0xFF then s else (s.rowReport who a i k false false 1).countRow a 1 false
    let q := s.parityWords who a is
    (k ≠ 0 || q.1, q.2)

/-- A row of a bay is read (source 0x09) or written (source 0x0A): its canton counts it (R466). -/
def State.bayEvent (s : State) (a : Nat) (code : Byte) : State :=
  match placeOf a with
  | .bay b _ => s.cantonEvent (bayCanton b) code 1
  | _ => s

/-- A row of a tile's memory that the crossbar reads (source 0x10) or writes (source 0x11): its tile counts it (R121). -/
def State.tileRowEvent (s : State) (a src : Nat) : State :=
  match placeOf a with
  | .tile t _ => s.setTile t ((s.tile t).count src 1)
  | _ => s

/-- Read a mapped row with the checks of its store and class (R265). -/
def State.fetchRow (s : State) (who : Who) (a0 : Nat) : RowOut × State :=
  let a := deAperture a0 / 64 * 64
  let s := (s.bayEvent a 0x09).tileRowEvent a 0x10
  let words := List.range 8
  let out (s : State) (poison corrected : Bool) : RowOut × State :=
    ({ data := s.mem.bytes a 64, poison := poison, corrected := corrected, status := if poison then 2 else 0 }, s)
  let w := s.rowIsW a
  match placeOf a with
  | .bay _ _ =>
    if w then
      if s.mem.rowSyn a = [0, 0, 0, 0] then out s false false
      else match s.mem.rowFix a with
        | some m => out ((({ s with mem := m } : State).rowReport who a 0 1 true true 0).countRow a 0 true) false true
        | none => ({ status := 3 }, (s.rowReport who a 0 0xFF true false 1).countRow a 2 true)
    else if words.any fun i => s.mem.mark (a + 8 * i) = 0xFF then
      match words.find? fun i => s.mem.mark (a + 8 * i) ≠ 0xFF with
      | some i => out ((s.rowReport who a i (s.mem.mark (a + 8 * i)) false false 1).countRow a 2 false) true false
      | none => out s true false
    else
      let r := s.fixWords who a false words
      out r.2.2 r.2.1 r.1
  | _ =>
    if w then
      let r := s.fixWords who a true words
      if r.2.1 then ({ status := 3, corrected := r.1 }, r.2.2) else out r.2.2 false r.1
    else
      let r := s.parityWords who a words
      out r.2 r.1 false

/-- The channel of canton c's bay that retrains: the lowest that waits (R273, R291). -/
def State.nextChannel (s : State) (c : Nat) : Option Nat :=
  (List.range 32).find? fun ch => (s.fget fBayStatRetrainAct c).testBit ch

/-- Whether requests to a bay wait in its controller: its interface clock has failed (R385, R386). -/
def State.bayStopped (s : State) (b : Nat) : Bool := (s.fget fCkmDomBayFail).testBit b

/-- Whether a request to an address waits at its store: the bay's clock has failed (R386), the row's channel retrains (R273),
or the store scrubs or re-encodes (R267, R268, R287). -/
def State.waits (s : State) (a0 : Nat) : Bool :=
  let a := deAperture a0
  let busy (x : Cluster) : Bool := x.scrubbing || x.reencoding
  match placeOf a with
  | .bay b o =>
    let r := s.region b (o / 2 ^ 30)
    s.bayStopped b || s.nextChannel (bayCanton b) = some (o / 64 % 32) || r.scrubbing || r.reencoding
  | .cluster k _ => busy (s.cluster k)
  | .tile t _ => busy (s.cluster (clusterOf t))
  | .none => false

/-- Read one row for a requester (R31, R265, R284, R286). A row that still waits at its store is not delivered: its
requester's timer has run out (R211, R386). -/
def State.readRow (s : State) (who : Who) (a : Nat) : RowOut × State :=
  match s.bar who a with
  | .unmapped => ({ status := 1, data := fillBytes 64 0 }, s.refuse who a false)
  | .free => if s.waits a then ({ status := 3 }, s) else s.fetchRow who a
  | .isolated =>
    if s.waits a then ({ status := 3 }, s) else ({ status := 1, data := fillBytes 64 0, isolation := true }, s.refuse who a true)

/-- Mark an unowned store as the host's after a write to it (R285). -/
def State.hostDirty (s : State) (a : Nat) : State :=
  let o := s.ownership a
  if o.owned then s
  else
    let onCl (k : Nat) : State :=
      let x := s.cluster k
      s.setCluster k { x with dirty := true, lastJob := 0xFFFF }
    match placeOf a with
    | .bay b off =>
      let r := s.region b (off / 2 ^ 30)
      s.setRegion b (off / 2 ^ 30) { r with dirty := true, lastJob := 0xFFFF }
    | .cluster k _ => onCl k
    | .tile t _ => onCl (clusterOf t)
    | .none => s

/-- Write one row for a requester (R31, R266, R284, R285): poisoned data is stored with the poison pattern in class A
and not written in class W (status 2 with a memory record). -/
def State.writeRow (s : State) (who : Who) (a0 : Nat) (bs : List Byte) (poison : Bool) : RowOut × State :=
  let a := deAperture a0 / 64 * 64
  match s.bar who a with
  | .unmapped => ({ status := 1 }, s.refuse who a false)
  | .isolated => if s.waits a then ({ status := 3 }, s) else ({ status := 1, isolation := true }, s.refuse who a true)
  | .free =>
    if s.waits a then ({ status := 3 }, s)
    else if poison && s.rowIsW a then
      ({ status := 2, poison := true }, s.report (rowSrc a) (s.rowRec who a 0 0 true false 1))
    else
      let s := ((s.updMem (·.putRow a bs (if poison then 0xFF else 0))).bayEvent a 0x0A).tileRowEvent a 0x11
      let s := if who.kind = .host then s.hostDirty a else s
      ({ poison := poison }, s)

/-! ### Changes of class (R110, R267) -/

/-- Re-encode one row of tile or cluster memory from class W to class A. -/
def State.wordsToA (s : State) (a : Nat) : List Nat → State
  | [] => s
  | i :: is =>
    let w := a + 8 * i
    let k := s.mem.mark w
    if k = 0 then s.wordsToA a is
    else match eccFix k (s.mem.word w) with
      | some v => (((s.updMem (·.putWord w v 0)).rowReport (whoEngine 0) a i k true true 0).countRow a 0 true).wordsToA a is
      | none => (((s.updMem (·.setMark w 0xFF)).rowReport (whoEngine 0) a i k true false 1).countRow a 2 true).wordsToA a is

/-- Zero a row that cannot become class W, with its record; an error that the read of it meets is counted, the poison
pattern is none (R265, R290, R291). -/
def State.zeroRow (s : State) (a word : Nat) (k : Byte) : State :=
  let s := if k = 0xFF then s else s.countRow a 1 false
  (s.updMem (·.zero a (a + 64))).rowReport (whoEngine 0) a word k false false 1

/-- Re-encode one row whose check bits do not match (R110, R267). -/
def State.reencodeRow (s : State) (toW : Bool) (a : Nat) : State :=
  let words := List.range 8
  let bay : Bool := match placeOf a with
    | .bay _ _ => true
    | _ => false
  if toW then
    match words.find? fun i => s.mem.mark (a + 8 * i) ≠ 0 &&
        (!bay || (eccFix (s.mem.mark (a + 8 * i)) (s.mem.word (a + 8 * i))).isNone ||
          words.any fun j => s.mem.mark (a + 8 * j) = 0xFF) with
    | some i => s.zeroRow a i (s.mem.mark (a + 8 * i))
    | none => (s.fixWords (whoEngine 0) a false words).2.2
  else if bay then
    if s.mem.rowSyn a = [0, 0, 0, 0] then s
    else match s.mem.rowFix a with
    | some m => (({ s with mem := m } : State).rowReport (whoEngine 0) a 0 1 true true 0).countRow a 0 true
    | none => ((s.updMem (·.setMarks a 0xFF 8)).rowReport (whoEngine 0) a 0 0xFF true false 1).countRow a 2 true
  else s.wordsToA a words

/-- Re-encode the rows [lo, hi): those whose check bits match keep their data. -/
def State.reencode (s : State) (lo hi : Nat) (toW : Bool) : State :=
  let rows := ((s.mem.marks.filter fun p => lo / 8 ≤ p.1 && p.1 < hi / 8).map fun p => p.1 / 8 * 64).eraseDups
  rows.foldl (fun s a => s.reencodeRow toW a) s

/-! ### Spilling queues (R247) -/

/-- A spilling queue. -/
def Cluster.spillOf (x : Cluster) (t q : Nat) : Option SpillQ := x.spillQs.find? fun y => y.tile.val = t && y.queue.val = q

/-- The flits of IQq that tile t cannot see: arrivals of a spill, while the pool holds earlier flits (R247 item 4). -/
def State.hidden (s : State) (t q : Nat) : List Flit :=
  match (s.cluster (clusterOf t)).spillOf t q with
  | some z => if z.slots.isEmpty then [] else ((s.tile t).queue q).drop z.kept
  | none => []

/-- Tile t as its instructions see it: without the hidden flits of its queues. -/
def State.seen (s : State) (t : Nat) : Tile :=
  let x := s.tile t
  { x with iq := (List.range 5).foldl (fun m q =>
      let n := (s.hidden t q).length
      if n = 0 then m else SMap.put [] m q ((x.queue q).take ((x.queue q).length - n))) x.iq }

/-- Put the hidden flits of tile t's queues back behind those of a tile that has worked. -/
def State.unhide (s : State) (t : Nat) (x : Tile) : Tile :=
  { x with iq := (List.range 5).foldl (fun m q =>
      if (s.hidden t q).isEmpty then m else SMap.put [] m q (x.queue q ++ s.hidden t q)) x.iq }

/-! ### Stream caches (R275 to R277) -/

/-- Invalidate the stream cache of a cluster, and the outstanding counts of its prefetchers (R277). -/
def Cluster.invalidate (x : Cluster) : Cluster :=
  { x with cache := []
           pf := (x.pf.map fun p => (p.1, { p.2 with out := 0 })).filter fun (p : Nat × Prefetcher) => p.2 ≠ {} }

/-- The clusters of a slice. -/
def Slice.clusters (x : Slice) : List Nat := x.cantons.flatMap clustersOf

/-- Apply f to the clusters that a list names. -/
def State.mapClusters (s : State) (ks : List Nat) (f : Cluster → Cluster) : State :=
  { s with clusters := ks.foldl (fun m k => SMap.put {} m k (f (SMap.get {} m k))) s.clusters }

/-- Invalidate every stream cache of slice n (R277). -/
def State.invalidate (s : State) (n : Nat) : State := s.mapClusters (s.slice n).clusters Cluster.invalidate

end Sys2Proof.Machine
end

