-- ==== Sys2Proof/Machine/Bulk.lean ====
section
/-! DEFINITION. Stream caches, bulk packets, pennants, and what the cluster sequencer does with a BULK (R162, R163, R204 to
R211, R216 to R218, R265, R266, R275 to R281, R493). -/
namespace Sys2Proof.Machine

/-! ### The stream cache (R275, R276) -/

/-- The sets of a cluster's cache. -/
def Cluster.sets (x : Cluster) : Nat := x.banks * 128

/-- The way of a set that holds a bay row. -/
def Cluster.way (x : Cluster) (row : Nat) : Option (Nat × CacheLine) :=
  let set := row % x.sets
  (List.range 8).findSome? fun w => match SMap.get none x.cache (8 * set + w) with
    | some l => if l.row = row then some (w, l) else none
    | none => none

/-- Tree pseudo-LRU: the bits of a set after way w is used. Bit 0 is the root, bits 1 and 2 its children, 3 to 6 the
leaves' parents; a bit of 1 points to the upper half. -/
def plruUse (b : BitVec 7) (w : Nat) : BitVec 7 :=
  let n1 := 1 + w / 4
  let n2 := 3 + w / 2
  setBit (setBit (setBit b 0 (w / 4 = 0)) n1 (w / 2 % 2 = 0)) n2 (w % 2 = 0)

/-- The way that tree pseudo-LRU replaces. -/
def plruVictim (b : BitVec 7) : Nat :=
  let h := b2n (b.getLsbD 0)
  let q := b2n (b.getLsbD (1 + h))
  4 * h + 2 * q + b2n (b.getLsbD (3 + 2 * h + q))

/-- Prefetcher i of a cluster. -/
def Cluster.pfOf (x : Cluster) (i : Nat) : Prefetcher := SMap.get {} x.pf i
/-- Replace prefetcher i. -/
def Cluster.setPf (x : Cluster) (i : Nat) (p : Prefetcher) : Cluster := { x with pf := SMap.put {} x.pf i p }

/-- A line's prefetcher counts it consumed (R280). -/
def Cluster.consume (x : Cluster) (l : CacheLine) (evicted : Bool) : Cluster :=
  match l.pf with
  | none => x
  | some i =>
    let p := x.pfOf i
    x.setPf i { p with out := p.out - 1, evict := if evicted then satInc p.evict else p.evict }

/-- Note the use of a way. -/
def Cluster.useWay (x : Cluster) (set w : Nat) : Cluster :=
  { x with plru := SMap.put 0 x.plru set (plruUse (SMap.get 0 x.plru set) w) }

/-- Write one way of a set. -/
def Cluster.setLine (x : Cluster) (set w : Nat) (l : Option CacheLine) : Cluster :=
  { x with cache := SMap.put none x.cache (8 * set + w) l }

/-- The way of a set that a new line takes: the lowest free way, else the pseudo-LRU line's. -/
def Cluster.fillWay (x : Cluster) (set : Nat) : Nat :=
  ((List.range 8).find? fun w => (SMap.get none x.cache (8 * set + w)).isNone).getD (plruVictim (SMap.get 0 x.plru set))

/-- Place a row in the cache: in the set's lowest free way, else in place of the pseudo-LRU line. -/
def Cluster.fill (x : Cluster) (row : Nat) (data : List Byte) (pf : Option (Fin 16)) : Cluster :=
  if x.sets = 0 then x
  else
    let set := row % x.sets
    let w := x.fillWay set
    let x := match SMap.get none x.cache (8 * set + w) with
      | some l => x.consume l true
      | none => x
    (x.setLine set w (some { row := row, data := BitVec.ofNat 512 (leNat data), pf := pf })).useWay set w

/-- Drop a row from the cache (R276). -/
def Cluster.dropRow (x : Cluster) (row : Nat) : Cluster :=
  if x.sets = 0 then x
  else match x.way row with
    | some (w, l) => (x.consume l true).setLine (row % x.sets) w none
    | none => x

/-- Whether cluster k of slice n may cache the bay row at a (R275). -/
def State.cacheable (s : State) (n k a : Nat) : Bool :=
  match placeOf a with
  | .bay b o =>
    let r := s.region b (o / 2 ^ 30)
    r.cache && r.owned && r.owner.toNat = n && (s.cluster k).sets ≠ 0
  | _ => false

/-- The record of an error in a cached line: marked corrected (R265). -/
def State.cacheRec (s : State) (k a w : Nat) : State :=
  let x := s.cluster k
  let row := deAperture a / 64
  ((s.clusterEvent k 0x0F 1).setCluster k { x with corr := satInc x.corr }).report (cantonSrc (cantonOfCluster k))
    { (onCluster k { cls := 2 }) with disp := 0, action := 1, block := 8
                                      index := BitVec.ofNat 8 ((8 * (row % x.sets) + w) / 1024)
                                      detail0 := BitVec.ofNat 64 (64 * row), detail1 := BitVec.ofNat 64 (2 ^ 16 + 2 ^ 17) }

/-- Look a row up for a BULK READ (R276): the bytes on a hit. An uncorrectable line is dropped (R265). -/
def State.lookup (s : State) (n k a : Nat) : Option (List Byte) × State :=
  if !(s.cacheable n k a) then (none, s)
  else
    let x := s.cluster k
    let row := deAperture a / 64
    let miss (s : State) : Option (List Byte) × State :=
      let x := s.cluster k
      -- The first miss on row BASE starts a triggered prefetcher (R279).
      let x := (List.range 16).foldl (fun x i =>
        let p := x.pfOf i
        if p.enable && p.trigger && !p.started && p.base.toNat * 64 = 64 * row then x.setPf i { p with started := true }
        else x) x
      (none, (s.clusterEvent k 0x05 1).setCluster k { x with misses := satInc x.misses })
    match x.way row with
    | none => miss s
    | some (w, l) =>
      if l.mark ≤ 1 then
        let s := if l.mark = 1 then s.cacheRec k a w else s
        let x := s.cluster k
        let x := (x.consume l false).setLine (row % x.sets) w (some { l with pf := none, mark := 0 })
        (some (leBytes 64 l.data.toNat), (s.clusterEvent k 0x04 1).setCluster k ({ x with hits := satInc x.hits }.useWay (row % x.sets) w))
      else miss ((s.cacheRec k a w).setCluster k ((s.cacheRec k a w).cluster k |>.dropRow row))

/-- A line that leaves cluster k's cache: a prefetched line that was never read counts as evicted unused (R466). -/
def State.evictEvent (s : State) (k : Nat) (l : Option CacheLine) : State :=
  if l.any fun x => x.pf.isSome then s.clusterEvent k 0x07 1 else s

/-- Place a row that was read for cluster k in its cache (R276); poisoned rows are not cached (R266). -/
def State.cacheFill (s : State) (n k a : Nat) (data : List Byte) (poison : Bool) (pf : Option (Fin 16)) : State :=
  if poison || !(s.cacheable n k a) || ((s.cluster k).way (deAperture a / 64)).isSome then s
  else
    let x := s.cluster k
    let set := deAperture a / 64 % x.sets
    (s.evictEvent k (SMap.get none x.cache (8 * set + x.fillWay set))).setCluster k (x.fill (deAperture a / 64) data pf)

/-- Cluster k drops a row that it writes (R276). -/
def State.cacheDrop (s : State) (k a : Nat) : State :=
  let x := s.cluster k
  let old := if x.sets = 0 then none else (x.way (deAperture a / 64)).map (·.2)
  (s.evictEvent k old).setCluster k (x.dropRow (deAperture a / 64))

/-- A row that the bay's fan-out serves to a cluster of its own canton, or a seam bay bridge to a neighbouring canton
(R271): the cluster counts the one and the requester's canton the other (R466). -/
def State.nearEvent (s : State) (k a : Nat) : State :=
  match placeOf a with
  | .bay b _ => if bayCanton b = cantonOfCluster k then s.clusterEvent k 0x10 1 else s.cantonEvent (cantonOfCluster k) 0x0B 1
  | _ => s

/-! ### Bulk packets (R205, R206) -/

/-- The head flit's fields (R206). -/
structure Packet where
  typ : Nat
  leg : Bool := true
  wpv : Bool := false
  rows : Nat := 0
  status : Nat := 0
  src : Nat
  dst : Nat
  wpt : Nat := 0
  tid : Nat := 0
  slice : Nat := 0
  addr : Nat := 0
  /-- Payload rows, each with its POISON bit. -/
  body : List (BitVec 512 × Bool) := []
  deriving DecidableEq, Repr

/-- The head flit's 64 bytes as a number (R206). -/
def Packet.head (p : Packet) : BitVec 512 :=
  BitVec.ofNat 512 (p.typ + 2 ^ 8 * b2n p.leg + 2 ^ 9 * b2n p.wpv + 2 ^ 16 * p.rows + 2 ^ 24 * p.status + 2 ^ 32 * p.src +
    2 ^ 48 * p.dst + 2 ^ 64 * p.wpt + 2 ^ 80 * p.tid + 2 ^ 96 * p.slice + 2 ^ 128 * p.addr)

/-- Requests travel on VC0 and responses on VC1 (R206). -/
def Packet.vc (p : Packet) : BitVec 2 := if p.typ ≤ 2 then 0 else 1

/-- The flits of a packet; lane 1 unless it goes to a waypoint first (R208). -/
def Packet.flits (p : Packet) : List MFlit :=
  { vc := p.vc, lane := p.leg, head := true, tail := p.body.isEmpty, data := p.head } ::
  ((List.range p.body.length).zip p.body).map fun q =>
    { vc := p.vc, lane := p.leg, head := false, tail := q.1 + 1 = p.body.length, poison := q.2.2, data := q.2.1 }

/-- The packet of a list of flits. -/
def packetOf (fs : List MFlit) : Option Packet :=
  match fs with
  | [] => none
  | h :: body =>
    let w := h.data.toNat
    some { typ := fld w 0 8, leg := w.testBit 8, wpv := w.testBit 9, rows := fld w 16 8, status := fld w 24 8,
           src := fld w 32 16, dst := fld w 48 16, wpt := fld w 64 13, tid := fld w 80 16, slice := fld w 96 4,
           addr := fld w 128 48, body := body.map fun f => (f.data, f.poison) }

/-- Bytes 0 to 7 and 16 to 23 of a head flit, for the mesh records (R428). -/
def headDetails (h : BitVec 512) : W64 × W64 := (BitVec.ofNat 64 h.toNat, BitVec.ofNat 64 (h.toNat / 2 ^ 128))

/-- A mesh record of canton c (R428). -/
def meshRec (cls : W16) (k : Nat) (h : BitVec 512) : Rec :=
  { (onCluster k { cls := cls }) with block := 9, detail0 := (headDetails h).1, detail1 := (headDetails h).2 }

/-- The waypoint-table entry of canton c for cluster k (R209). -/
def Canton.wptOf (x : Canton) (k : Nat) : Nat := (SMap.get 0 x.wpt k).toNat

/-- Form a packet's head at cluster k (R209): none where the table marks its destination unreachable. -/
def State.routed (s : State) (k : Nat) (p : Packet) : Option Packet :=
  let e := (s.canton (cantonOfCluster k)).wptOf (p.dst % 2 ^ 13)
  if e.testBit 14 then none
  else if e.testBit 15 then some { p with leg := false, wpv := true, wpt := e % 2 ^ 13 }
  else some { p with leg := true, wpv := false }

/-- Hand a packet to the router of cluster k at an input: 4 the sequencer, 5 the attachment. -/
def State.inject (s : State) (k port : Nat) (p : Packet) : State :=
  let m := s.mrouter k
  s.setMrouter k { m with inject := SMap.put [] m.inject port (SMap.get [] m.inject port ++ [p.flits]) }

/-- Note a packet ended for a failed or unreachable path (R209, R210). -/
def State.pathRec (s : State) (k : Nat) (h : BitVec 512) : State :=
  let c := cantonOfCluster k
  ((s.finc fCanMeshErrPathFail c).fset fCanMeshErrPathSeen 1 c).report (cantonSrc c) (meshRec 0x10 k h)

/-- Send a packet from cluster k: false where its destination is unreachable (R209). -/
def State.send (s : State) (k port : Nat) (p : Packet) : Bool × State :=
  match s.routed k p with
  | some q => (true, (if p.typ = 1 || p.typ = 2 then s.clusterEvent k 0x08 1 else s).inject k port q)
  | none => (false, s.pathRec k p.head)

/-- Issue a request over the mesh (R207): false where its destination is unreachable (R209). The sequencer of its cluster
sends it, or the attachment. -/
def State.issue (s : State) (r : Request) (dst : Nat) : Bool × State :=
  let k := r.cluster.val
  let tid := (s.cluster k).nextTid
  let p : Packet := { typ := if r.write then 2 else 1, rows := r.rows, src := if r.port then 5 * 2 ^ 13 + k else k, dst := dst
                      tid := tid.toNat, slice := r.slice.toNat, addr := r.addr, body := r.body }
  let q := s.send k (if r.port then 5 else 4) p
  if q.1 then
    (true, { q.2.setCluster k { q.2.cluster k with nextTid := tid + 1 } with
             requests := q.2.requests ++ [{ r with tid := tid, body := [] }] })
  else (false, q.2)

/-- A request on a nearer path waits at its store (R204, R268, R386). -/
def State.await (s : State) (r : Request) : State :=
  let k := r.cluster.val
  let tid := (s.cluster k).nextTid
  { s.setCluster k { s.cluster k with nextTid := tid + 1 } with requests := s.requests ++ [{ r with tid := tid, near := true }] }

/-! ### Pennants (R203, R216, R217) -/

/-- The ensign complex as a mesh node: attachment 4 at local cluster 24 of canton 40. -/
def ensignNode : Nat := 4 * 2 ^ 13 + clusterAt 40 24
/-- The controller of canton c as a mesh node: attachment 6 at its local cluster 20. -/
def controllerNode (c : Nat) : Nat := 6 * 2 ^ 13 + clusterAt c 20
/-- The block of port p as a mesh node: attachment 5 at local cluster 27 of its canton. -/
def portNode (p : Nat) : Nat := 5 * 2 ^ 13 + clusterAt (portCanton p) 27

/-- A pennant (R216). -/
structure Pennant where
  code : Nat
  leg : Bool := true
  wpv : Bool := false
  src : Nat
  dst : Nat
  wpt : Nat := 0
  seq : Nat := 0
  /-- The seven bytes of ARG, little-endian. -/
  arg : Nat := 0
  deriving DecidableEq, Repr

/-- A pennant's first 16 bytes as a number; the rest are zero (R216). -/
def Pennant.data (p : Pennant) : BitVec 512 :=
  BitVec.ofNat 512 (p.code + 2 ^ 8 * b2n p.leg + 2 ^ 9 * b2n p.wpv + 2 ^ 16 * p.src + 2 ^ 32 * p.dst + 2 ^ 48 * p.wpt +
    2 ^ 64 * p.seq + 2 ^ 72 * p.arg)

/-- The VC2 flit of a pennant; lane 1 unless it goes to a waypoint first (R208, R216). -/
def Pennant.flit (p : Pennant) : MFlit := { vc := 2, lane := p.leg, head := true, tail := true, data := p.data }

/-- The pennant of a flit (R216). -/
def pennantOf (f : MFlit) : Pennant :=
  let w := f.data.toNat
  { code := fld w 0 8, leg := w.testBit 8, wpv := w.testBit 9, src := fld w 16 16, dst := fld w 32 16, wpt := fld w 48 13
    seq := fld w 64 8, arg := fld w 72 56 }

/-- Byte i of a pennant's ARG. -/
def Pennant.byte (p : Pennant) (i : Nat) : Nat := fld p.arg (8 * i) 8

/-- Send a pennant from one node to another (R208, R209, R216): it takes the next SEQ of its source and destination. One to an
unreachable destination is not sent. -/
def State.sendPennant (s : State) (src dst code arg : Nat) : State :=
  let k := src % 2 ^ 13
  let e := (s.canton (cantonOfCluster k)).wptOf (dst % 2 ^ 13)
  let x := 65536 * src + dst
  let n := SMap.get 0 s.pennOut x
  let p : Pennant := { code := code, leg := !(e.testBit 15), wpv := e.testBit 15, src := src, dst := dst
                       wpt := if e.testBit 15 then e % 2 ^ 13 else 0, seq := n, arg := arg }
  if e.testBit 14 then s.pathRec k p.data
  else
    let key := if src / 2 ^ 13 = 0 then 6 else 7
    let m := s.mrouter k
    { s.setMrouter k { m with inject := SMap.put [] m.inject key (SMap.get [] m.inject key ++ [[p.flit]]) } with
      pennOut := SMap.put 0 s.pennOut x ((n + 1) % 256) }

/-- ARG of a QUIESCE pennant, and of a RESUME where OP is 0 (R243). -/
def QMsg.arg (m : QMsg) : Nat := m.slice + 2 ^ 8 * (if m.op = 0 then 1 else m.op) + 2 ^ 16 * m.epoch.toNat
/-- PCODE of the same (R217). -/
def QMsg.code (m : QMsg) : Nat := if m.op = 0 then 3 else 1
/-- What a QUIESCE or RESUME pennant says. -/
def Pennant.msg (p : Pennant) : QMsg :=
  { slice := p.byte 0 % 16, op := if p.code = 3 then 0 else p.byte 1, epoch := BitVec.ofNat 4 (p.byte 2) }

/-- ARG of a QUIESCE_ACK pennant (R243): the discards saturate. -/
def QAck.arg (a : QAck) : Nat := a.slice + 2 ^ 8 * a.op + 2 ^ 16 * a.state + 2 ^ 24 * min a.discards 0xFFFFFFFF
/-- What a QUIESCE_ACK pennant says. -/
def Pennant.ack (p : Pennant) : QAck :=
  { slice := p.byte 0 % 16, op := p.byte 1, state := p.byte 2, discards := fld p.arg 24 32 }

/-- A mesh-protocol error that a receiver at router k meets (R206, R216, R217). -/
def State.protoRec (s : State) (k : Nat) (h : BitVec 512) : State :=
  let c := cantonOfCluster k
  (s.fset fCanMeshErrProtoSeen 1 c).report (cantonSrc c) (meshRec 0xF k h)

/-- Whether the codes leave a pennant reserved: its PCODE (R217), or the OP of a handshake pennant (R243). -/
def Pennant.reserved (p : Pennant) : Bool :=
  match p.code with
  | 1 => p.byte 1 = 0 || 5 < p.byte 1
  | 2 => p.byte 1 = 0 || 5 < p.byte 1
  | 3 => p.byte 1 ≠ 1
  | c => c = 0 || 7 < c

/-- A pennant leaves the receiver's end of router k: its SEQ is noted, and a gap raises a record (R216). -/
def State.noteSeq (s : State) (p : Pennant) : State :=
  let x := 65536 * p.src + p.dst
  let s' := { s with pennIn := SMap.put 0 s.pennIn x ((p.seq + 1) % 256) }
  if SMap.get 0 s.pennIn x = p.seq then s' else s'.protoRec (p.dst % 2 ^ 13) p.data

/-- The receiver at a node takes the oldest pennant that has arrived from a source, where it is one that the receiver asks
for. A reserved one is discarded with a record (R217); another stays. -/
def State.takePennant (s : State) (src dst : Nat) (mine : Pennant → Bool) : Option Pennant × State :=
  let k := dst % 2 ^ 13
  let o := if dst / 2 ^ 13 = 0 then 4 else 5
  let m := s.mrouter k
  let ps := SMap.get [] m.arrived o
  match ps.findIdx? fun fs => fs.any fun f => f.vc = 2 && (pennantOf f).src = src with
  | none => (none, s)
  | some i =>
    match ps.getD i [] with
    | [] => (none, s)
    | f :: _ =>
      let p := pennantOf f
      let rest := (s.setMrouter k { m with arrived := SMap.put [] m.arrived o (ps.eraseIdx i) }).noteSeq p
      if p.reserved then (none, rest.protoRec k p.data)
      else if mine p then (some p, rest)
      else (none, s)

/-- The destination of a memory request: a bay port or a sequencer (R203). -/
def destOf (a : Nat) : Nat :=
  match placeOf a with
  | .bay b o => if o / 4096 % 2 = 0 then 1 * 2 ^ 13 + clusterAt (bayCanton b) 19 else 2 * 2 ^ 13 + clusterAt (bayCanton b) 28
  | .cluster k _ => k
  | .tile t _ => clusterOf t
  | .none => 0

/-! ### Paths (R204, R493) -/

/-- Whether cluster k reaches an address by a nearer path than the mesh (R204). -/
def nearPath (k a : Nat) : Bool :=
  let c := cantonOfCluster k
  match placeOf a with
  | .bay b _ => bayCanton b = c || (List.range 4).any fun d => cantonNeighbour c d = some (bayCanton b)
  | .cluster k' _ => k' = k
  | .tile t _ => clusterOf t = k
  | .none => true

/-- Unmapped addresses that the requester's own sequencer answers (R493). -/
def State.localBar (s : State) (who : Who) (a : Nat) : Bar :=
  let off : Bool := match placeOf a with
    | .none => true
    | .cluster k o => !(s.online (cantonOfCluster k)) || 0x180000 ≤ o
    | .tile t _ => !(s.online (cantonOf t))
    | .bay b _ => s.fget fBayStatState (bayCanton b) ≠ 2
  if off then .unmapped
  else match who.kind with
    | .slice n => let o := s.ownership a
                  if o.owned && o.owner = n then .free else .isolated
    | _ => .free

/-- Whether R218 refuses a request: a tile window in another canton, in a slice of more than 16 cantons. -/
def State.bulkRefused (s : State) (n k a : Nat) : Bool :=
  match placeOf a with
  | .tile t _ => cantonOf t ≠ cantonOfCluster k && 16 < (s.slice n).cw.toNat * (s.slice n).ch.toNat
  | _ => false

/-! ### BULK operations (R163, R207) -/

/-- The status bits of a R206 status (R207). -/
def statusBits (st : Nat) : BitVec 3 :=
  match st with
  | 1 => 1
  | 5 => 1
  | 2 => 2
  | 3 => 4
  | 4 => 4
  | _ => 0

/-- OR a status into a tag of a tile. -/
def State.tagStatus (s : State) (t tag st : Nat) : State :=
  let x := s.tile t
  let b : BulkTag := SMap.get {} x.bulk tag
  s.setTile t { x with bulk := SMap.put {} x.bulk tag { b with status := b.status ||| statusBits st } }

/-- One operation of a tag completes. -/
def State.tagDone (s : State) (t tag : Nat) : State :=
  let x := s.tile t
  let b : BulkTag := SMap.get {} x.bulk tag
  s.setTile t { x with bulk := SMap.put {} x.bulk tag { b with out := b.out - 1 } }

/-- Write a row into tile t's memory for a BULK READ (R266): the status, and whether the slice stops. -/
def State.deliver (s : State) (who : Who) (t laddr : Nat) (data : List Byte) (poison : Bool) : Nat × Bool × State :=
  let a := tileBase t + laddr % 65536
  if poison && s.rowIsW a then (2, true, s.rowReport who a 0 0 true false 1)
  else (if poison then 2 else 0, false, (s.updMem (·.putRow a data (if poison then 0xFF else 0))).tileRowEvent a 0x11)

/-- Tile t consumes a poisoned row that a BULK WRITE hands on (R117, R118). -/
def State.eatPoison (s : State) (t : Nat) (b : Bool) : State :=
  let x := s.tile t
  if b then s.setTile t (({ x with status := { x.status with poison := true } } : Tile).count 0x0C 1) else s

/-- Read a row of tile t's memory for a BULK WRITE. -/
def State.sourceRow (s : State) (who : Who) (t laddr : Nat) : RowOut × State :=
  let r := s.fetchRow who (tileBase t + laddr % 65536)
  (r.1, r.2.eatPoison t r.1.poison)

/-- Where one row of a transfer stands: done with a status, or left for a request: one that the mesh carries or R218 refuses,
or one that waits at a store on a nearer path. -/
inductive RowStep
  | done (status : Nat) (stop : Bool)
  | later (near : Bool)
  deriving DecidableEq, Repr

/-- A row of a BULK READ has been read for tile t (R265, R266): cached, delivered; its status, and whether the slice stops. -/
def State.bulkRead (s : State) (n k t laddr a : Nat) : Nat × Bool × State :=
  let who := whoSlice n k (some t)
  let r := (s.nearEvent k a).readRow who a
  if r.1.status = 1 || r.1.status = 3 then (r.1.status, r.1.status = 3, r.2)
  else (r.2.cacheFill n k a r.1.data r.1.poison none).deliver who t laddr r.1.data r.1.poison

/-- A row of a BULK WRITE is written on a nearer path (R266): its status, and whether the slice stops. -/
def State.bulkWrite (s : State) (n k t a : Nat) (bs : List Byte) (poison : Bool) : Nat × Bool × State :=
  let q := (s.nearEvent k a).writeRow (whoSlice n k (some t)) a bs poison
  (q.1.status, q.1.status = 2 && s.rowIsW a, q.2)

/-- One row of a BULK by cluster k for slice n: handled at once, or left for a request. -/
def State.bulkRow (s : State) (n k t : Nat) (write : Bool) (laddr a : Nat) : RowStep × State :=
  let who := whoSlice n k (some t)
  match s.localBar who a with
  | .unmapped => (.done 1 false, s.refuse who a false)
  | .isolated => (.done 1 false, s.refuse who a true)
  | .free =>
    if s.bulkRefused n k a then (.later false, s)
    else if write then
      let s := s.cacheDrop k a
      if !(nearPath k a) || s.waits a then (.later (nearPath k a), s)
      else
        let r := s.sourceRow who t laddr
        if r.1.status = 3 then (.done 3 true, r.2)
        else
          let q := r.2.bulkWrite n k t a r.1.data r.1.poison
          (.done q.1 q.2.1, q.2.2)
    else
      let l := s.lookup n k a
      match l.1 with
      | some bs =>
        let d := l.2.deliver who t laddr bs false
        (.done d.1 d.2.1, d.2.2)
      | none =>
        let s := l.2
        if !(nearPath k a) || s.waits a then (.later (nearPath k a), s)
        else
          let d := s.bulkRead n k t laddr a
          (.done d.1 d.2.1, d.2.2)

/-- A group of rows of a transfer for one packet, or one row that waits on a nearer path. -/
structure RowGroup where
  addr : Nat
  laddr : Nat
  rows : Nat
  near : Bool := false
  deriving DecidableEq, Repr

/-- Add a row to the groups: packets of at most 8 rows, none crossing a 4 KiB boundary (R207); a row on a nearer path stands
alone. The last group is the head of the list. -/
def addRow (gs : List RowGroup) (a laddr : Nat) (near : Bool) : List RowGroup :=
  match gs with
  | g :: gs' =>
    if !near && !g.near && g.rows < 8 && g.addr + 64 * g.rows = a && a % 4096 ≠ 0 then { g with rows := g.rows + 1 } :: gs'
    else ⟨a, laddr, 1, near⟩ :: g :: gs'
  | [] => [⟨a, laddr, 1, near⟩]

/-- The rows of a BULK in order: the status bits, whether the slice stops, the groups left for requests (newest first). -/
def State.bulkRows (s : State) (n k t tag : Nat) (write : Bool) (laddr a : Nat) : Nat → List RowGroup → Bool × List RowGroup × State
  | 0, gs => (false, gs, s)
  | m + 1, gs =>
    let r := s.bulkRow n k t write laddr a
    match r.1 with
    | .later near => r.2.bulkRows n k t tag write (laddr + 64) (a + 64) m (addRow gs a laddr near)
    | .done st stop =>
      let q := (r.2.tagStatus t tag st).bulkRows n k t tag write (laddr + 64) (a + 64) m gs
      (stop || q.1, q.2)

/-- The payload of a WRITE_REQ: rows of tile memory with their poison; none where one is uncorrectable. -/
def State.payload (s : State) (who : Who) (t laddr : Nat) : Nat → Option (List (BitVec 512 × Bool)) × State
  | 0 => (some [], s)
  | m + 1 =>
    let r := s.sourceRow who t laddr
    if r.1.status = 3 then (none, r.2)
    else
      let q := r.2.payload who t (laddr + 64) m
      (q.1.map fun bs => (BitVec.ofNat 512 (leNat r.1.data), r.1.poison) :: bs, q.2)

/-- Refuse a request under R218: status 5, the count and the record, whose head flit is the request's. -/
def State.refuseGroup (s : State) (n k t tag : Nat) (write : Bool) (g : RowGroup) : State :=
  let c := cantonOfCluster k
  let p : Packet := { typ := if write then 2 else 1, rows := g.rows, src := k, dst := destOf g.addr, slice := n, addr := deAperture g.addr }
  (((s.finc fCanMeshErrRefused c).fset fCanMeshErrRefusedSeen 1 c).report (cantonSrc c)
    (s.onTile t { meshRec 0x12 k p.head with block := 8 })).tagStatus t tag 5

/-- Issue one request of a BULK (R207), or refuse it (R218): whether it waits for a response, and whether the slice stops. -/
def State.request (s : State) (n k t tag op : Nat) (write : Bool) (g : RowGroup) : Bool × Bool × State :=
  if s.bulkRefused n k g.addr then (false, false, s.refuseGroup n k t tag write g) else
  let who := whoSlice n k (some t)
  let b : Option (List (BitVec 512 × Bool)) × State := if write then s.payload who t g.laddr g.rows else (some [], s)
  match b.1 with
  | none => (false, true, b.2.tagStatus t tag 3)
  | some body =>
    let r : Request := { cluster := Fin.ofNat 4800 k, tid := 0, write := write, addr := deAperture g.addr, rows := g.rows, body := body
                         local_ := g.laddr, for_ := .bulk (Fin.ofNat 230400 t) (BitVec.ofNat 2 tag), op := op
                         slice := BitVec.ofNat 4 n }
    if g.near then (true, false, b.2.await r)
    else
      let q := b.2.issue r (destOf g.addr)
      if q.1 then (true, false, q.2) else (false, false, q.2.tagStatus t tag 4)

/-- Issue the requests of the groups, oldest first: how many wait for a response, and whether the slice stops. -/
def State.requestAll (s : State) (n k t tag op : Nat) (write : Bool) : List RowGroup → Nat × Bool × State
  | [] => (0, false, s)
  | g :: gs =>
    let r := s.request n k t tag op write g
    let q := r.2.2.requestAll n k t tag op write gs
    (b2n r.1 + q.1, r.2.1 || q.2.1, q.2.2)

/-- The handoff of a BULK to the cluster sequencer (R163, R204, R207): rows on a nearer path are moved at once, the
others go out as packets; the operation completes when every response has arrived. A tile of no loaded slice owns no
store. -/
def State.bulk (s : State) (t : Nat) (write : Bool) (tag laddr raddr rows : Nat) : State :=
  let k := clusterOf t
  let n := (s.sliceOf (cantonOf t)).getD 16
  let op := s.nextOp
  let s := { s with nextOp := op + 1 }
  let r := s.bulkRows n k t tag write laddr raddr rows []
  let q := r.2.2.requestAll n k t tag op write r.2.1.reverse
  let s := if q.1 = 0 then q.2.2.tagDone t tag
    else { q.2.2 with bulkOps := q.2.2.bulkOps ++ [⟨op, Fin.ofNat 230400 t, BitVec.ofNat 2 tag, q.1⟩] }
  if r.1 || q.2.1 then s.stopSlice n none else s

end Sys2Proof.Machine
end

