-- ==== Sys2Proof/Machine/Codes.lean ====
section
/-! DEFINITION. CRC-32 (R230), CRC-64 (R308) and CRC-16 (R205). -/
namespace Sys2Proof.Machine

/-- Apply f n times. -/
def times {α : Type} (f : α → α) : Nat → α → α
  | 0, x => x
  | n + 1, x => times f n (f x)

/-- One bit of the reflected CRC-32. -/
def crc32Bit (c : W32) : W32 := if c.getLsbD 0 then (c >>> 1) ^^^ 0xEDB88320#32 else c >>> 1

/-- One byte of CRC-32. -/
def crc32Byte (c : W32) (b : Byte) : W32 := times crc32Bit 8 (c ^^^ b.zeroExtend 32)

/-- CRC-32 of a byte string: polynomial 0x04C1_1DB7 reflected, initial value and final XOR 0xFFFF_FFFF (R230). -/
def crc32 (bs : List Byte) : W32 := bs.foldl crc32Byte 0xFFFFFFFF#32 ^^^ 0xFFFFFFFF#32

/-- One bit of CRC-64. -/
def crc64Bit (c : W64) : W64 := if c.getLsbD 63 then (c <<< 1) ^^^ 0x42F0E1EBA9EA3693#64 else c <<< 1

/-- CRC-64 (ECMA-182) continued from c: most significant bit first, no final XOR (R308). -/
def crc64 (c : W64) (bs : List Byte) : W64 :=
  bs.foldl (fun c (b : Byte) => times crc64Bit 8 (c ^^^ (b.zeroExtend 64 <<< 56))) c

/-- One bit of CRC-16. -/
def crc16Bit (c : W16) : W16 := if c.getLsbD 15 then (c <<< 1) ^^^ 0x1021#16 else c <<< 1

/-- CRC-16 with initial value 0xFFFF (R205). -/
def crc16 (bs : List Byte) : W16 :=
  bs.foldl (fun c (b : Byte) => times crc16Bit 8 (c ^^^ (b.zeroExtend 16 <<< 8))) 0xFFFF#16

/-- One bit of CRC-8 with polynomial 0x07. -/
def crc8Bit (c : Byte) : Byte := if c.getLsbD 7 then (c <<< 1) ^^^ 0x07#8 else c <<< 1

/-- CRC-8 of the stream and halyard links (R174): initial value 0, nothing reflected or inverted. -/
def crc8 (bs : List Byte) : Byte := bs.foldl (fun c b => times crc8Bit 8 (c ^^^ b)) 0#8

end Sys2Proof.Machine
end

