-- ==== Sys2Proof/Machine/Halyard.lean ====
section
/-! DEFINITION. The halyard network: trees, rounds, faults (R219 to R226). -/
namespace Sys2Proof.Machine

/-! ### Trees (R220, R225) -/

/-- Whether the halyard link of canton c in direction d works. -/
def State.halLink (s : State) (c d : Nat) : Bool := !((s.canton c).halFail.getLsbD d)

/-- One canton's place in a tree: its depth and its parent's direction, 4 at the root. -/
structure HalPlace where
  canton : Nat
  depth : Nat
  parent : Nat
  deriving DecidableEq, Repr

/-- The place of a canton in a tree. -/
def halFind (ps : List HalPlace) (c : Nat) : Option HalPlace := ps.find? fun p => p.canton = c

/-- One more depth of a tree: each canton not yet placed takes as parent its placed neighbour at depth n with the
lowest direction number. -/
def State.halGrow (s : State) (cs : List Nat) (n : Nat) (ps : List HalPlace) : List HalPlace :=
  ps ++ cs.filterMap fun c =>
    if (halFind ps c).isSome then none
    else
      ((List.range 4).find? fun d => s.halLink c d && match cantonNeighbour c d with
        | some e => (halFind ps e).any fun p => p.depth = n
        | none => false).map fun d => ⟨c, n + 1, d⟩

/-- The tree by fewest hops over cantons cs from a root, to depth 18 (R220, second rule). -/
def State.halSpan (s : State) (cs : List Nat) (root : Nat) : List HalPlace :=
  (List.range 18).foldl (fun ps n => s.halGrow cs n ps) [⟨root, 0, 4⟩]

/-- The direction of the first-rule parent of canton c for the root (rx, ry): along the row, then the column. -/
def rowParent (c rx ry : Nat) : Nat :=
  if c % 10 ≠ rx then (if rx < c % 10 then 3 else 1)
  else if c / 10 ≠ ry then (if ry < c / 10 then 0 else 2)
  else 4

/-- The distance of two coordinates. -/
def absDiff (a b : Nat) : Nat := (a - b) + (b - a)

/-- The root canton of a slice's rectangle (R220). -/
def Slice.halRoot (x : Slice) : Nat :=
  (x.cy0.toNat + (x.ch.toNat - 1) / 2) * 10 + x.cx0.toNat + (x.cw.toNat - 1) / 2

/-- The halyard tree of a slice (R220): none where no tree of depth at most 18 reaches every usable canton. -/
def State.halTree (s : State) (x : Slice) : Option (List HalPlace) :=
  let cs := x.cantons
  let root := x.halRoot
  let usable := cs.filter s.online
  let whole := usable = cs && cs.all fun c => (List.range 4).all fun d => match cantonNeighbour c d with
    | some e => !(x.holds e) || s.halLink c d
    | none => true
  if whole then
    some (cs.map fun c => ⟨c, absDiff (c % 10) (root % 10) + absDiff (c / 10) (root / 10),
                           rowParent c (root % 10) (root / 10)⟩)
  else if !(usable.contains root) then none
  else
    let ps := s.halSpan usable root
    if usable.all fun c => (halFind ps c).isSome then some ps else none

/-- The children of a canton in a tree: bit d for the neighbour in direction d. -/
def halChildren (ps : List HalPlace) (c : Nat) : Nat :=
  (List.range 4).foldl (fun n d => match cantonNeighbour c d with
    | some e => if (halFind ps e).any fun p => p.parent = opp d then n + 2 ^ d else n
    | none => n) 0

/-- Write CAN_HAL_TREE of every canton of slice n (R226); no tree clears VALID. -/
def State.setHalTree (s : State) (n : Nat) (ps : List HalPlace) : State :=
  (s.slice n).cantons.foldl (fun s c => match halFind ps c with
    | some p =>
      let agent := (List.range 64).any fun f => SMap.get false s.halAgents (64 * c + f)
      ((((((s.fset fCanHalTreeSlice n c).fset fCanHalTreeValid 1 c).fset fCanHalTreeRoot (b2n (p.parent = 4)) c).fset
        fCanHalTreeParent p.parent c).fset fCanHalTreeChild (halChildren ps c) c).fset fCanHalTreeDepth p.depth c).fset
        fCanHalTreeAgent (b2n agent) c
    | none => s.setReg (0x408100 + c * 0x10000) (regReset 0x408100)) s

/-- Build the tree of the engine-wide flag (R225): rooted at canton 40, over the joined cantons. -/
def State.buildEtree (s : State) : State :=
  let ps := s.halSpan ((List.range 100).filter fun c => c ≠ 40 && s.online c) 40
  (List.range 100).foldl (fun s c => match halFind ps c with
    | some p =>
      ((((s.fset fCanHalEtreeValid 1 c).fset fCanHalEtreeRoot (b2n (c = 40)) c).fset fCanHalEtreeParent p.parent c).fset
        fCanHalEtreeChild (halChildren ps c) c).fset fCanHalEtreeDepth p.depth c
    | none => s.setReg (0x408110 + c * 0x10000) (regReset 0x408110)) s

/-- Whether the way of canton c to the root of the engine-wide tree passes through the link of canton b in direction d,
whose other end is e. -/
def State.beyond (s : State) (b d e : Nat) : Nat → Nat → Bool
  | 0, _ => false
  | n + 1, c =>
    let p := s.fget fCanHalEtreeParent c
    s.inEtree c && p < 4 && ((c = b && p = d) || (c = e && p = opp d) ||
      (match cantonNeighbour c p with
        | some u => s.beyond b d e n u
        | none => false))

/-- The halyard link of canton c in direction d fails at both ends (R223, R226). A commit's broadcast in progress ends for
the cantons beyond it, which are lost (R225, R368). -/
def State.failHal (s : State) (c d : Nat) : State :=
  match cantonNeighbour c d with
  | none => s
  | some e =>
    let t := s.host.txn
    let far := t.apply.filter fun u => s.beyond c d e 19 u
    let s := if far.isEmpty then s else s.updHost fun h => { h with txn := { t with lost := t.lost ++ far } }
    let s := s.setCanton c { s.canton c with halFail := setBit (s.canton c).halFail d true }
    let s := s.setCanton e { s.canton e with halFail := setBit (s.canton e).halFail (opp d) true }
    (s.fset fCanHalStatLinkFailed 1 c).fset fCanHalStatLinkFailed 1 e

/-- CAN_HAL_TREE.AGENT of every canton of slice n follows the counts of its configuration (R226). -/
def State.setHalAgents (s : State) (n : Nat) : State :=
  (s.slice n).cantons.foldl (fun s c =>
    if s.fbit fCanHalTreeValid c then
      s.fset fCanHalTreeAgent (b2n ((List.range 64).any fun f => SMap.get false s.halAgents (64 * c + f))) c
    else s) s

/-! ### Rounds (R221, R222) -/

/-- A fault of the engine-wide flag at the node of canton c (R225): reported as R223 reports it, with EFLAG; 1 = overrun,
2 = operation mismatch. -/
def State.engineFault (s : State) (c cause : Nat) : State :=
  let s := ((s.fset fCanHalStatLastFlag 0 c).fset fCanHalStatEflag 1 c).fset
    (if cause = 1 then fCanHalStatOverrun else fCanHalStatMismatch) 1 c
  s.report (cantonSrc c) { onCanton c { cls := 0x13, disp := 1, block := 0xA } with detail0 := BitVec.ofNat 64 (256 * cause) }

/-- A round on the engine-wide flag (R225, R414 part d): every canton that its tree reaches contributes, and the result
returns; a fault at a node ends it without one. The operation is OR and every contribution 0, which the spec leaves open
(DESIGN CHOICE, log entry 87). -/
def State.engineRound (s : State) (fault : Option (CantonIx × Bool)) : State :=
  match fault with
  | some (c, mismatch) =>
    ({ s with eround := { op := some 1, void := true } } : State).engineFault c (1 + b2n mismatch)
  | none => { s with eround := { op := some 1, agents := (List.range 100).filter s.reached } }

/-- The identity of an operation (R236). -/
def hopIdentity (op : Nat) : W16 := if op = 0 || op = 2 then 0xFFFF else 0

/-- Two values under an operation (R161). -/
def hopApply (op : Nat) (a b : W16) : W16 :=
  match op with
  | 0 => a &&& b
  | 1 => a ||| b
  | 2 => if b.toNat < a.toNat then b else a
  | 3 => if a.toNat < b.toNat then b else a
  | _ => a + b

/-- The round of slice n's flag. -/
def State.round (s : State) (n flag : Nat) : Round := SMap.get {} s.rounds (64 * n + flag)
/-- Replace a round. -/
def State.setRound (s : State) (n flag : Nat) (r : Round) : State :=
  { s with rounds := SMap.put {} s.rounds (64 * n + flag) r }

/-- Participating tiles of cluster k for a flag (R221). -/
def State.halCount (s : State) (k flag : Nat) : Nat := SMap.get 0 s.halPart (64 * k + flag)
/-- Whether canton c's agent takes part in a flag. -/
def State.halAgent (s : State) (c flag : Nat) : Bool := SMap.get false s.halAgents (64 * c + flag)

/-- Whether the agents of END_FLAG contribute by themselves (R236). -/
def Slice.autoAgents (x : Slice) (flag : Nat) : Bool := x.endFlag.toNat = flag

/-- A halyard error at a node of canton c (R223): the record, the flags of CAN_HAL_STAT, no result, and the stop. -/
def State.halFault (s : State) (n c flag cause : Nat) (r : Rec) : State :=
  let s := ((s.fset fCanHalStatLastFlag flag c).fset fCanHalStatEflag 0 c)
  let s := match cause with
    | 1 => s.fset fCanHalStatOverrun 1 c
    | 2 => s.fset fCanHalStatMismatch 1 c
    | _ => s.fset fCanHalStatLinkFailed 1 c
  let s := s.setRound n flag { s.round n flag with void := true }
  let s := s.report (cantonSrc c) (stopRec { r with
    cls := 0x13, block := 0xA, canton := BitVec.ofNat 8 c, slice := BitVec.ofNat 8 n,
    detail0 := BitVec.ofNat 64 (flag + 256 * cause) })
  s.stopSlice n none

/-- Add a contribution to a round of slice n; a different operation is the fault of R223. -/
def State.contribute (s : State) (n flag op : Nat) (v : W16) : Round :=
  let r := s.round n flag
  let x := s.slice n
  let start := if x.autoAgents flag then x.endOp.toNat else op
  let acc := if r.op.isNone then hopIdentity start else r.acc
  { r with op := some (BitVec.ofNat 3 (if r.op.isNone then start else op)), acc := hopApply op acc v }

/-- The operation that a round has, or has by its END_FLAG agents. -/
def State.roundOp (s : State) (n flag : Nat) : Option Nat :=
  match (s.round n flag).op with
  | some o => some o.toNat
  | none => if (s.slice n).autoAgents flag then some (s.slice n).endOp.toNat else none

/-- A tile arrives (R161, R221 to R223). A tile of no loaded slice reaches no tree. -/
def State.arrive (s : State) (t flag op : Nat) (v : W16) : State :=
  let k := clusterOf t
  let c := cantonOf t
  match s.sliceOf c with
  | none => s
  | some n =>
    let r := s.round n flag
    let rec0 := s.onTile t { cls := 0x13 }
    let m := SMap.get 0 r.arrivals k
    if s.halCount k flag ≤ m then s.halFault n c flag 1 rec0
    else if (s.roundOp n flag).any fun o => decide (o ≠ op) then s.halFault n c flag 2 rec0
    else s.setRound n flag { s.contribute n flag op v with arrivals := SMap.put 0 r.arrivals k (m + 1) }

/-- The agent of canton c arrives on a flag. -/
def State.agentArrive (s : State) (c flag op : Nat) (v : W16) : State :=
  match s.sliceOf c with
  | none => s
  | some n =>
    let r := s.round n flag
    let rec0 : Rec := onCanton c { cls := 0x13 }
    if !(s.halAgent c flag) || r.agents.contains c then s.halFault n c flag 1 rec0
    else if (s.roundOp n flag).any fun o => decide (o ≠ op) then s.halFault n c flag 2 rec0
    else s.setRound n flag { s.contribute n flag op v with agents := r.agents ++ [c] }

/-- Whether every participant of a round has reported (R222). -/
def State.roundFull (s : State) (n flag : Nat) : Bool :=
  let x := s.slice n
  let r := s.round n flag
  r.op.isSome && !r.void &&
  (x.clusters.all fun k => s.halCount k flag ≤ SMap.get 0 r.arrivals k) &&
  (x.cantons.all fun c => !(s.halAgent c flag) || x.autoAgents flag || r.agents.contains c)

/-- HALYARD_ROUND_DONE (R222): the result goes down the tree and every participant's flag becomes DONE. -/
def execHalyardRoundDone (n : SliceIx) (flag : BitVec 6) (s : State) : Host.Outcome State Fault Refusal :=
  let f := flag.toNat
  if !(s.roundFull n f) then .next s
  else
    let r := s.round n f
    let ts := s.sliceTiles n
    let done (t : Tile) : Tile :=
      if SMap.get .idle t.flags f = .arrived then { t with flags := SMap.put .idle t.flags f (.done r.acc) } else t
    let s := (s.slice n).cantons.foldl (fun (s : State) c => s.cantonEvent c 0x07 1) s
    .next ((s.mapTiles ts done).setRound n f
      { result := r.acc, toTake := (s.slice n).cantons.filter fun c => s.halAgent c f })

/-- Whether slice n's tree uses the link of canton c in direction d. -/
def State.treeUses (s : State) (c d : Nat) : Bool :=
  s.fbit fCanHalTreeValid c && (s.fget fCanHalTreeParent c = d || (s.fget fCanHalTreeChild c).testBit d)

/-- HALYARD_LINK_RETRY (R219, R223): a CRC failure is retried once; a retry that fails too fails the link, and every
slice whose tree uses it stops. The engine-wide tree is built again (R225). -/
def execHalyardLinkRetry (c : CantonIx) (d : Fin 4) (flag : BitVec 6) (ok : Bool) (s : State) :
    Host.Outcome State Fault Refusal :=
  match cantonNeighbour c d with
  | none => .next s
  | some e =>
    let s := s.finc fCanHalStatRetry c
    let crc : Rec := { onCanton c { cls := 0xB } with block := 0xA, index := BitVec.ofNat 8 d, detail0 := BitVec.ofNat 64 (d + 16) }
    if ok then .next (s.report (cantonSrc c) { crc with disp := 0, action := 1 })
    else
      let s := s.report (cantonSrc c) { crc with disp := 1, action := 7 }
      let s := s.failHal c d
      let ns := (List.range 16).filter fun n => (s.slice n).holds c && (s.slice n).holds e && s.treeUses c d
      .next (ns.foldl (fun s n => s.halFault n c flag.toNat 3 { onCanton c { cls := 0x13 } with index := BitVec.ofNat 8 d })
        s).buildEtree

end Sys2Proof.Machine
end

