-- ==== Sys2Proof/Machine/Queues.lean ====
section
/-! DEFINITION. The DMA queues of the cluster sequencers (R282, R283). -/
namespace Sys2Proof.Machine

/-- The cluster that runs the piece of an engine row (R282); an unmapped address falls to the host's own cluster. -/
def runner (a : Nat) : Nat :=
  match placeOf a with
  | .bay b o => clusterAt (bayCanton b) (o / 4096 % 48)
  | .cluster k _ => k
  | .tile t _ => clusterOf t
  | .none => clusterAt 40 16

/-- DMA queue q of cluster k. -/
def State.dmaq (s : State) (k q : Nat) : DmaQueue := SMap.get {} (s.cluster k).dmaq q
/-- Replace a DMA queue. -/
def State.setDmaq (s : State) (k q : Nat) (x : DmaQueue) : State :=
  s.setCluster k { s.cluster k with dmaq := SMap.put {} (s.cluster k).dmaq q x }

/-- Put an entry into a DMA queue. -/
def State.pushDma (s : State) (k q : Nat) (e : DmaEntry) : State :=
  let x := s.dmaq k q
  s.setDmaq k q { x with entries := x.entries ++ [e] }

/-- Whether a DMA queue has room for another entry (R282). -/
def State.dmaRoom (s : State) (k q : Nat) : Bool := decide ((s.dmaq k q).entries.length < 16)

/-- n rows of a feeder's oldest open entry have been handled; the entry's first status other than 0 holds. -/
def handleRows (f : Feeder) (n : Nat) (st : Byte) : List DmaEntry → List DmaEntry
  | [] => []
  | e :: es =>
    if e.feeder = f && e.left ≠ 0 then { e with left := e.left - n, status := if e.status = 0 then st else e.status } :: es
    else e :: handleRows f n st es

/-- n rows of a feeder's entry in queue q of cluster k have been handled, the worst with a status. -/
def State.dmaHandled (s : State) (k q : Nat) (f : Feeder) (n : Nat) (st : Byte) : State :=
  let x := s.dmaq k q
  s.setDmaq k q { x with entries := handleRows f n st x.entries }

/-- Entries that the ensign complex's queue of a slice has run and completed in its clusters (R282): the transfer is handled
whole with its command. -/
def State.ensignDone (s : State) (n : Nat) (ks : List Nat) : State :=
  ks.foldl (fun s k =>
    let x := s.dmaq k (16 + n % 8)
    s.setDmaq k (16 + n % 8) { x with doneCount := x.doneCount + 1 }) s

/-- Whether an entry of some feeders stands in any DMA queue. -/
def State.dmaAny (s : State) (f : Feeder → Bool) : Bool :=
  s.clusters.any fun (p : Nat × Cluster) => p.2.dmaq.any fun (q : Nat × DmaQueue) => q.2.entries.any fun e => f e.feeder

/-- Whether an entry of a feeder stands in any DMA queue. -/
def State.dmaLeft (s : State) (f : Feeder) : Bool := s.dmaAny (· = f)

/-- Whether an entry is of port p's refresh. -/
def Feeder.ofPort (p : Nat) : Feeder → Bool
  | .port q _ => q.val = p
  | _ => false

/-! ### Rows for the requests and entries of one transfer -/

/-- Rows of a DMA that one request carries: its cluster, the first row, whether it waits on a nearer path, the address, and
for a write the rows with what the read of each gave. -/
structure DmaGroup where
  k : Nat
  row : Nat
  write : Bool
  near : Bool
  addr : Nat
  body : List (BitVec 512 × Bool) := []
  ends : List RowEnd := []
  deriving DecidableEq, Repr

/-- Rows of a group. -/
def DmaGroup.rows (g : DmaGroup) : Nat := if g.write then g.body.length else 1

/-- Add a group of one row: packets of at most 8 rows, none crossing a 4 KiB boundary of the destination (R207). The last
group is the head of the list. -/
def addDma (gs : List DmaGroup) (x : DmaGroup) : List DmaGroup :=
  match gs with
  | g :: gs' =>
    if g.write && x.write && !g.near && !x.near && g.k = x.k && g.row + g.rows = x.row && g.rows < 8 &&
        g.addr + 64 * g.rows = x.addr && x.addr % 4096 ≠ 0 then
      { g with body := g.body ++ x.body, ends := g.ends ++ x.ends } :: gs'
    else x :: g :: gs'
  | [] => [x]

/-- A piece of a DMA: its cluster, its rows not yet handled, its status. -/
structure Piece where
  k : Nat
  left : Nat
  status : Byte
  deriving DecidableEq, Repr

/-- Note a row of a piece: the first status that is not 0 holds. -/
def addPiece (ps : List Piece) (k left : Nat) (st : Byte) : List Piece :=
  if ps.any fun p => p.k = k then
    ps.map fun p => if p.k = k then { p with left := p.left + left, status := if p.status = 0 then st else p.status } else p
  else ps ++ [⟨k, left, st⟩]

end Sys2Proof.Machine
end

