-- ==== Sys2Proof/Machine/Update.lean ====
section
/-! DEFINITION. Update engines: rules, requantisation, stripes, commit, refresh and recovery commands (R292 to R316,
R449). -/
namespace Sys2Proof.Machine

/-! ### Binary32 square root and division (R300) -/

/-- A positive magnitude with a sticky bit below it: 2q + 1 where something was cut off. -/
def sticky (q : Nat) (rest : Bool) : Nat := 2 * q + b2n rest

/-- DIV32: the IEEE 754 quotient, correctly rounded; every NaN is canonical. -/
def div32 (a b : W32) : W32 :=
  match val32 a, val32 b with
  | .nan, _ => nan32
  | _, .nan => nan32
  | .inf _, .inf _ => nan32
  | .zero _, .zero _ => nan32
  | .inf s, y => inf32 (s != y.neg)
  | .zero s, y => zero32 (s != y.neg)
  | x, .inf t => zero32 (x.neg != t)
  | x, .zero t => inf32 (x.neg != t)
  | .fin m1 e1, .fin m2 e2 =>
    let d := m2.natAbs
    let num := m1.natAbs * 2 ^ (64 + d.log2)
    rn32 (XVal.ofMag (decide (m1 < 0) != decide (m2 < 0)) (sticky (num / d) (num % d ≠ 0)) (e1 - e2 - 65 - (d.log2 : Int)))

/-- SQRT32: the IEEE 754 square root, correctly rounded. -/
def sqrt32 (a : W32) : W32 :=
  match val32 a with
  | .nan => nan32
  | .zero s => zero32 s
  | .inf s => if s then nan32 else inf32 false
  | .fin m e =>
    if m < 0 then nan32
    else
      let odd := e % 2 ≠ 0
      let t := m.natAbs * (if odd then 2 else 1) * 2 ^ 64
      let q := rootDown 1 t 64 0
      rn32 (XVal.ofMag false (sticky q (q * q ≠ t)) ((if odd then e - 1 else e) / 2 - 33))

/-- a > b for two FP32 values. -/
def gt32 (a b : W32) : Bool :=
  match (val32 a).add (val32 b).flip with
  | .fin m _ => decide (0 < m)
  | .inf s => !s
  | _ => false

/-! ### The four rules (R299, R300) -/

/-- The hyperparameters of R299. -/
structure Hyper where
  rule : Nat
  lr : W32
  b1 : W32
  b2 : W32
  eps : W32
  wd : W32
  gamma : W32
  gscale : W32
  deriving DecidableEq, Repr

/-- 1.0. -/
def one32 : W32 := 0x3F800000#32

/-- The new moments and the direction u of one element (R300). -/
def Hyper.step (h : Hyper) (m v g : W32) : W32 × W32 × W32 :=
  let c1 := sub32 one32 h.b1
  let c2 := sub32 one32 h.b2
  let adamM := fma32 h.b1 m (mul32 c1 g)
  let adamV := fma32 h.b2 v (mul32 c2 (mul32 g g))
  match h.rule with
  | 0 =>
    let m' := fma32 h.b1 m g
    (m', v, if h.gamma &&& 0x7FFFFFFF#32 = 0 then m' else fma32 h.gamma m' g)
  | 1 => (adamM, adamV, div32 adamM (add32 (sqrt32 adamV) h.eps))
  | 2 => (adamM, adamV, div32 (fma32 h.gamma (sub32 adamM m) adamM) (add32 (sqrt32 adamV) h.eps))
  | _ =>
    let c := fma32 h.b1 m (mul32 c1 g)
    let u := if isNan32 c then nan32 else if gt32 c h.gamma then one32 else if gt32 (neg32 h.gamma) c then neg32 one32 else 0
    (fma32 h.b2 m (mul32 c2 g), v, u)

/-- The new (w, m, v) of one element (R300). -/
def Hyper.apply (h : Hyper) (w m v g : W32) : W32 × W32 × W32 :=
  let q := h.step m v g
  (fma32 (neg32 h.lr) (fma32 h.wd w q.2.2) w, q.1, q.2.1)

/-- The gradient of a raw element (R298, R301): g, and whether it counts as non-finite. -/
def Hyper.grad (h : Hyper) (zero : Bool) (raw : W32) : W32 × Bool :=
  let g := mul32 raw h.gscale
  let bad := !(isFin32 raw) || !(isFin32 g)
  (if bad && zero then 0 else g, bad)

/-- Whether an element overflowed: a new value is infinite although its inputs were finite (R301). -/
def overflowed (w m v g : W32) (o : W32 × W32 × W32) : Bool :=
  (isInf32 o.1 || isInf32 o.2.1 || isInf32 o.2.2) && isFin32 w && isFin32 m && isFin32 v && isFin32 g

/-! ### Requantisation (R302, R303) -/

/-- The value of an MX element before its scale. -/
def elemVal (fmt q : Nat) : XVal :=
  match floatFmtOf fmt with
  | some f => f.val q
  | none => XVal.ofInt (sext q 8) 0

/-- Round an FP32 value into an MX element format, round-to-nearest, SATFINITE. -/
def elemRound (fmt : Nat) (t : XVal) : Conv :=
  match floatFmtOf fmt with
  | some f => convFloat f false false t
  | none =>
    match t with
    | .fin m e =>
      let x := roundToInt false m e
      { bits := intBits 8 (max (-128) (min x 127)), ovf := decide (x < -128) || decide (127 < x) }
    | .inf n => { bits := if n then 0x80 else 0x7F, ovf := true }
    | _ => { bits := 0 }

/-- The error-compensated elements of a block from error e on (R302 step 3). -/
def ecElems (fmt scale : Nat) : W32 → List W32 → List Nat
  | _, [] => []
  | e, w :: ws =>
    if isInf32 w then (elemRound fmt (val32 w)).bits :: ecElems fmt scale 0 ws
    else
      let up : Int := if fmt = 0x15 then 6 else 0
      let x := match val32 w with
        | .fin m k => rn32 (.fin m (k + 127 - scale + up))
        | v => rn32 v
      let t := add32 x e
      let q := elemRound fmt (val32 t)
      q.bits :: ecElems fmt scale (if q.ovf then 0 else rn32 ((val32 t).add (elemVal fmt q.bits).flip)) ws

/-- CHK over the bytes d0 to dK (R303). -/
def chkOf (ds : List Byte) : Nat :=
  let x := ds.foldl (fun a b => a ^^^ b.toNat) 0
  let sum := ((List.range ds.length).zip ds).foldl (fun n (p : Nat × Byte) => n + (p.1 + 1) * p.2.toNat) 0
  x + 256 * (sum % 65536)

/-- Bytes d0 to dK of the BLOCK of 32 master weights (R302, R303). -/
def blockData (fmt : Nat) (ec : Bool) (ws : List W32) : List Byte :=
  let vs := ws.map val32
  let b := mxBlock fmt 0 0 vs
  let els := if ec && b.1 ≠ 0xFF then ecElems fmt b.1 0 ws else b.2.map (·.bits)
  leBytes (4 * elemWidth fmt) (packElems (elemWidth fmt) els) ++ leBytes 1 b.1

/-- The 36 bytes of BLOCK (R296): the record and its padding. -/
def blockOf (ds : List Byte) : List Byte := padTo 36 (ds ++ leBytes 3 (chkOf ds))

/-! ### Stripes (R292, R294 to R296) -/

/-- Stripes of port p's shard. -/
def State.ueStripes (s : State) (p : Nat) : Nat := s.fget fPrtUeShardStripes p
/-- Bay offset of the shard. -/
def State.ueBase (s : State) (p : Nat) : Nat := 64 * s.fget fPrtUeShardBaseRow p
/-- The committed step. -/
def State.cstep (s : State) (p : Nat) : Nat := s.fget fPrtUeStepCstep p
/-- The engine's state (R297). -/
def State.ueState (s : State) (p : Nat) : Nat := s.fget fPrtUeStatState p
/-- Set the engine's state. -/
def State.setUe (s : State) (p st : Nat) : State := s.fset fPrtUeStatState st p
/-- Port p. -/
def State.port (s : State) (p : Nat) : Port := SMap.get {} s.ports p
/-- Replace port p. -/
def State.setPort (s : State) (p : Nat) (x : Port) : State := { s with ports := SMap.put {} s.ports p x }

/-- The engine address of a shard byte. -/
def State.shardAddr (s : State) (p off : Nat) : Nat := bayBase (homeBay p) + s.ueBase p + off

/-- Offset of stripe i's header in the shard. -/
def hdrOff (i : Nat) : Nat := 6848 * (i / 8) + 16 * (i % 8)
/-- Offset of slot n of stripe i in the shard. -/
def slotOff (i n : Nat) : Nat := 6848 * (i / 8) + 128 + 3360 * n + 420 * (i % 8)

/-- A stripe header (R295). -/
structure Stripe where
  valid : Bool
  slot : Nat
  step : Nat
  check0 : W32
  check1 : W32
  deriving DecidableEq, Repr

/-- Bytes of the shard as the bay holds them. -/
def State.shardBytes (s : State) (p off n : Nat) : List Byte := s.mem.bytes (s.shardAddr p off) n

/-- The header of stripe i. -/
def State.stripe (s : State) (p i : Nat) : Stripe :=
  let b := s.shardBytes p (hdrOff i) 16
  let w := leAt 0 8 b
  ⟨fld w 56 8 = 0xA5, fld w 48 1, w % 2 ^ 48, BitVec.ofNat 32 (leAt 8 4 b), BitVec.ofNat 32 (leAt 12 4 b)⟩

/-- A header's check word of slot n. -/
def Stripe.check (h : Stripe) (n : Nat) : W32 := if n = 0 then h.check0 else h.check1

/-- The check word of a slot's bytes for step s (R296). -/
def slotCheck (bs : List Byte) (step : Nat) : W32 := crc32 (bs ++ leBytes 8 step)

/-- Whether slot n of stripe i carries the check word of a step. -/
def State.slotOk (s : State) (p i n step : Nat) : Bool :=
  (s.stripe p i).check n = slotCheck (s.shardBytes p (slotOff i n) 420) step

/-- The bytes of a header (R295). -/
def headerBytes (step : Nat) (c0 c1 : W32) : List Byte :=
  leBytes 8 (step % 2 ^ 48 + (step % 2) * 2 ^ 48 + 0xA5 * 2 ^ 56) ++ leBytes 4 c0.toNat ++ leBytes 4 c1.toNat

/-- Whether the home bay answers. -/
def State.bayUp (s : State) (p : Nat) : Bool := s.fget fBayStatState (portCanton p) = 2

/-- Whether requests to the home bay wait: its clock has failed, or one of its channels retrains (R273, R386). -/
def State.bayWaits (s : State) (p : Nat) : Bool := s.bayStopped (homeBay p) || (s.nextChannel (portCanton p)).isSome

/-- Read shard rows [row, row + n) for port p with their checks (R265): whether all could be read. -/
def State.checkRows (s : State) (p row : Nat) : Nat → Bool × State
  | 0 => (true, s)
  | n + 1 =>
    let r := s.fetchRow (whoPort p) (s.shardAddr p (64 * row))
    let q := r.2.checkRows p (row + 1) n
    (r.1.status ≠ 3 && q.1, q.2)

/-- Read the shard rows that hold n bytes from an offset: whether all could be read. -/
def State.checkSpan (s : State) (p off n : Nat) : Bool × State :=
  let s := s.portEvent p 0x0D n
  if s.bayUp p then s.checkRows p (off / 64) ((off + n - 1) / 64 - off / 64 + 1) else (false, s)

/-- The rows that len bytes from a lie in. -/
def rowsOf (a len : Nat) : List Nat :=
  if len = 0 then [] else (List.range ((a % 64 + len + 63) / 64)).map fun i => a / 64 * 64 + 64 * i

/-- Write bytes into rows, whole rows at a time, with valid check bits; the rows' other bytes keep their values. -/
def Memory.patch (m : Memory) (a : Nat) (bs : List Byte) : Memory :=
  let rows := rowsOf a bs.length
  let new := spliceAt (a % 64) bs (m.bytes (a / 64 * 64) (64 * rows.length))
  ((List.range rows.length).zip rows).foldl (fun m (q : Nat × Nat) => m.putRow q.2 ((new.drop (64 * q.1)).take 64) 0) m

/-- Write shard bytes. -/
def State.shardPatch (s : State) (p off : Nat) (bs : List Byte) : State :=
  (s.portEvent p 0x0E bs.length).updMem (·.patch (s.shardAddr p off) bs)

/-! ### Records -/

/-- An update record of port p (R428): DETAIL0 holds the port and a cause. A record of an enabled engine names its bound
slice, and so the slice's step (R301, R426); one of the link does not. -/
def State.ueRec (s : State) (p : Nat) (cls : W16) (disp : BitVec 2) (cause detail1 : Nat) : State :=
  let sl : Byte := if cls = 0x1B || !(s.fbit fPrtUeCtrlEn p) then 0xFF else BitVec.ofNat 8 (s.fget fPrtUeCtrlSlice p)
  s.report (portSrc p) { (onCanton (portCanton p) { cls := cls, disp := disp }) with
    slice := sl, block := 0xC, index := BitVec.ofNat 8 p, detail0 := BitVec.ofNat 64 (p + 256 * cause), detail1 := BitVec.ofNat 64 detail1 }

/-- The engine leaves for a state in which it neither applies nor refreshes: its command goes, and with it OP (R314,
R316). -/
def State.ueStop (s : State) (p st : Nat) : State :=
  ((s.setUe p st).fset fPrtUeCmdOp 0 p).setPort p { s.port p with cmdEnd := none, enabling := false, refreshAt := none }

/-- A faulty stripe stops the engine in FAULT (R313). -/
def State.ueFault (s : State) (p stripe cause : Nat) : State :=
  ((s.setUe p 5).fset fPrtUeStatFaultSeen 1 p).ueRec p 0x19 1 cause stripe

/-! ### Applying a group (R298, R304) -/

/-- The hyperparameters in effect. -/
def State.hyper (s : State) (p : Nat) : Hyper :=
  let h (i : Nat) : W32 := BitVec.ofNat 32 (s.reg (0x108020 + 8 * i + 0x10000 * p)).toNat
  { rule := s.fget fPrtUeCfgRule p, lr := h 0, b1 := h 1, b2 := h 2, eps := h 3, wd := h 4, gamma := h 5, gscale := h 6 }

/-- Words of FP32 in a slot's bytes. -/
def slotWords (bs : List Byte) (off : Nat) : List W32 :=
  (List.range 32).map fun i => BitVec.ofNat 32 (leAt (off + 4 * i) 4 bs)

/-- The first fault of stripe i at step c (R313): its cause, 1 = not initialised, 2 = wrong step, 3 = wrong slot,
4 = check word. -/
def State.stripeFault (s : State) (p i c : Nat) : Option Nat :=
  let h := s.stripe p i
  if !h.valid then some 1
  else if h.step ≠ c then some 2
  else if h.slot ≠ h.step % 2 then some 3
  else if !(s.slotOk p i (c % 2) c) then some 4
  else none

/-- What a stripe's new slot is, and its counts of R301. -/
structure NewSlot where
  bytes : List Byte
  data : List Byte
  nf : Nat
  ov : Nat
  deriving DecidableEq, Repr

/-- The new slot of a stripe from its current slot and 32 raw gradient elements (R300 to R302). -/
def Hyper.slot (h : Hyper) (nf ec : Bool) (dfmt : Nat) (cur : List Byte) (raw : List W32) : NewSlot :=
  let ws := slotWords cur 0
  let ms := slotWords cur 128
  let vs := slotWords cur 256
  let gs := raw.map (h.grad nf)
  let at_ (l : List W32) (i : Nat) : W32 := l.getD i 0
  let out := (List.range 32).map fun i => h.apply (at_ ws i) (at_ ms i) (at_ vs i) (gs.getD i (0, false)).1
  let ov := ((List.range 32).filter fun i =>
    overflowed (at_ ws i) (at_ ms i) (at_ vs i) (gs.getD i (0, false)).1 (out.getD i (0, 0, 0))).length
  let ds := blockData dfmt ec (out.map (·.1))
  let f (g : W32 × W32 × W32 → W32) : List Byte := out.flatMap fun o => leBytes 4 (g o).toNat
  { bytes := f (·.1) ++ f (·.2.1) ++ f (·.2.2) ++ blockOf ds, data := ds, nf := (gs.filter (·.2)).length, ov := ov }

/-- Apply the group in turn (R304): the new slot rows, then the header rows; DIG takes the new blocks (R308). -/
def State.applyGroup (s : State) (p : Nat) : State :=
  let x := s.port p
  let c := s.cstep p
  let h := s.hyper p
  let g := x.group
  let nf := s.fbit fPrtUeCfgNf p
  let new := (List.range 8).map fun j =>
    h.slot nf (s.fbit fPrtUeCfgEc p) (s.fget fPrtUeCfgDfmt p) (s.shardBytes p (slotOff (8 * g + j) (c % 2)) 420)
      ((x.grad.drop (32 * j)).take 32)
  let n := (c + 1) % 2
  let hdrs := ((List.range 8).zip new).flatMap fun (q : Nat × NewSlot) =>
    let st := s.stripe p (8 * g + q.1)
    let k := slotCheck q.2.bytes (c + 1)
    headerBytes (c + 1) (if n = 0 then k else st.check0) (if n = 1 then k else st.check1)
  let s := (s.portEvent p 0x0A 256).portEvent p 0x0B 8
  let s := s.shardPatch p (slotOff (8 * g) n) (new.flatMap (·.bytes))
  let s := s.shardPatch p (hdrOff (8 * g)) hdrs
  let s := s.fset fPrtUeDig0 (crc64 (BitVec.ofNat 64 (s.fget fPrtUeDig0 p)) (new.flatMap (·.data))).toNat p
  let nfs := (new.map (·.nf)).sum
  let ovs := (new.map (·.ov)).sum
  let s := (s.finc fPrtUeCntNonfinite p nfs).finc fPrtUeCntOverflow p ovs
  let s := if nfs = 0 then s else s.fset fPrtUeStatNonfiniteSeen 1 p
  (s.fset fPrtUeStatDone (8 * (g + 1)) p).setPort p
    { x with grad := x.grad.drop 256, group := g + 1, stepNf := x.stepNf + nfs, stepOv := x.stepOv + ovs }

/-- The first faulty stripe of a group, with its cause; 5 = an uncorrectable row (R313). -/
def State.groupFault (s : State) (p g c : Nat) : Option (Nat × Nat) × State :=
  (List.range 8).foldl (fun (q : Option (Nat × Nat) × State) j =>
    match q.1 with
    | some _ => q
    | none =>
      let i := 8 * g + j
      let a := q.2.checkSpan p (hdrOff i) 16
      let b := a.2.checkSpan p (slotOff i (c % 2)) 420
      if !(a.1 && b.1) then (some (i, 5), b.2) else ((b.2.stripeFault p i c).map fun k => (i, k), b.2)) (none, s)

/-- Whether the shard has a group left for the elements that wait. -/
def State.groupReady (s : State) (p : Nat) : Bool :=
  !(s.bayWaits p) && s.ueState p = 2 && decide (256 ≤ (s.port p).grad.length) && decide (8 * (s.port p).group < s.ueStripes p)

/-! ### Digest and commit (R307, R309) -/

/-- Whether a step is a digest step. -/
def State.digestStep (s : State) (p step : Nat) : Bool := step % max 1 (s.fget fPrtUeCfgDigestN p) = 0

/-- The digest registers at the commit of a step (R309). -/
def State.commitDigest (s : State) (p step : Nat) : State :=
  if s.digestStep p step then (s.fset fPrtUeDig0 0 p).fset fPrtUeDig1 0 p
  else s.fset fPrtUeDig1 (s.fget fPrtUeDig0 p) p

/-- Forget the step in progress: its chunks, its groups, and the flows of all steps but those above a step. -/
def State.stepReset (s : State) (p : Nat) (above : Nat := 2 ^ 48) : State :=
  let x := s.port p
  s.setPort p { x with expect := 0, grad := [], group := 0, stepNf := 0, stepOv := 0, bound := x.bound.filter fun b => decide (above < b.1) }

/-- The agent of a port's canton arrives on REFRESH_FLAG (R312). -/
def State.refreshArrive (s : State) (p : Nat) : State :=
  if s.fbit fPrtUeCtrlFlagEn p then
    s.agentArrive (portCanton p) (s.fget fPrtUeCtrlRefreshFlag p) (s.fget fPrtUeCtrlFlagOp p) (BitVec.ofNat 16 (s.cstep p))
  else s

/-- Whether the bound slice owns every row of a range. -/
def State.ownedRange (s : State) (n a len : Nat) : Bool :=
  (List.range ((a % 64 + len + 63) / 64)).all fun i =>
    let r := a / 64 * 64 + 64 * i
    let o := s.ownership r
    s.mapped r && o.owned && o.owner = n

/-- One entry of the refresh table (R311). -/
structure RefreshEntry where
  first : Nat
  n : Nat
  fanout : Nat
  shift : Nat
  dest : Nat
  deriving DecidableEq, Repr

/-- The address of stripe i's block in copy k (R30, R311). -/
def RefreshEntry.at_ (e : RefreshEntry) (size k i : Nat) : Nat := deAperture (e.dest + k * 2 ^ e.shift + i * size)

/-- Read one stripe's committed block (R311, R312): its record, where it can be written. -/
def State.refreshRead (s : State) (p i : Nat) : Option (List Byte) × State :=
  let fmt := s.fget fPrtUeCfgDfmt p
  let off := slotOff i (s.cstep p % 2) + 384
  let q := s.checkSpan p off 36
  let b := q.2.shardBytes p off 36
  let ds := b.take (4 * elemWidth fmt + 1)
  if !q.1 then (none, q.2.fset fPrtUeStatRefreshErr 1 p)
  else if leAt (4 * elemWidth fmt + 1) 3 b ≠ chkOf ds then
    let a := q.2.shardAddr p off
    (none, (q.2.report (portSrc p) { (onCanton (portCanton p) { cls := 2, block := 0xC, index := BitVec.ofNat 8 p }) with
      detail0 := BitVec.ofNat 64 (a / 64 * 64), detail1 := BitVec.ofNat 64 (a % 64 / 8 + 2 ^ 16) }).fset fPrtUeStatRefreshErr 1 p)
  else (some (b.take (recordBytes fmt)), q.2)

/-- Read an entry's blocks in stripe order: those that can be written, each with its place in the entry. -/
def State.refreshReads (s : State) (p : Nat) (e : RefreshEntry) : List (Nat × List Byte) × State :=
  (List.range e.n).foldl (fun (q : List (Nat × List Byte) × State) i =>
    let r := q.2.refreshRead p (e.first + i)
    match r.1 with
    | some b => (q.1 ++ [(i, b)], r.2)
    | none => (q.1, r.2)) ([], s)

/-- The DMA queue of a port's refresh (R311). -/
def refreshQueue (p : Nat) : Nat := 28 + p % 4

/-- The rows of an entry's copies, copy by copy. A row that a record fills in part keeps its other bytes as they stand in
memory when its packet is formed; view is memory with the rows formed so far. -/
def RefreshEntry.rows (e : RefreshEntry) (size : Nat) (blocks : List (Nat × List Byte)) (view : Memory) : List DmaGroup :=
  ((List.range e.fanout).foldl (fun (q : Memory × List DmaGroup) k =>
    let m := blocks.foldl (fun m (b : Nat × List Byte) => m.patch (e.at_ size k b.1) b.2) q.1
    let rs := (blocks.flatMap fun b => rowsOf (e.at_ size k b.1) size).eraseDups
    (m, rs.foldl (fun gs a => addDma gs
      { k := runner a, row := a / 64, write := true, near := false, addr := a
        body := [(BitVec.ofNat 512 (leNat (m.bytes a 64)), false)] }) q.2)) (view, [])).2.reverse

/-- Send a refresh's packets from the port's attachment (R206, R311); one whose destination is unreachable fails there. -/
def State.refreshSend (s : State) (p i : Nat) (gs : List DmaGroup) : State :=
  gs.foldl (fun s g =>
    let r : Request := { cluster := Fin.ofNat 4800 (clusterAt (portCanton p) 27), tid := 0, write := true, addr := g.addr, rows := g.rows
                         port := true, body := g.body, local_ := 0, for_ := .refresh (Fin.ofNat 20 p) i (Fin.ofNat 4800 g.k), op := 0
                         slice := BitVec.ofNat 4 (s.fget fPrtUeCtrlSlice p) }
    let q := s.issue r (destOf g.addr)
    if q.1 then q.2 else q.2.dmaHandled g.k (refreshQueue p) (.port (Fin.ofNat 20 p) i) g.rows 4) s

/-- Handle entry i of the refresh table (R311, R312): an entry out of reach is skipped with an address-fault record; of another
each block is read once, and its copies stand as entries in the queues of their clusters until they are written. -/
def State.refreshEntry (s : State) (p i : Nat) (e : RefreshEntry) : State :=
  let n := s.fget fPrtUeCtrlSlice p
  let size := recordBytes (s.fget fPrtUeCfgDfmt p)
  let bad := (List.range e.fanout).find? fun k => !(s.ownedRange n (e.dest + k * 2 ^ e.shift) (e.n * size))
  if s.ueStripes p < e.first + e.n then s.refuse (whoPort p) e.dest false
  else match bad with
    | some k => s.refuse (whoPort p) (e.dest + k * 2 ^ e.shift) (s.mapped (e.dest + k * 2 ^ e.shift))
    | none =>
      let q := s.refreshReads p e
      let gs := e.rows size q.1 q.2.mem
      let s := q.2.portEvent p 0x11 (size * q.1.length * e.fanout)
      let ps := gs.foldl (fun ps g => addPiece ps g.k g.rows 0) []
      (ps.foldl (fun s y => s.pushDma y.k (refreshQueue p) ⟨.port (Fin.ofNat 20 p) i, y.left, y.status⟩) s).refreshSend p i gs

/-- Entry i of a refresh table as its 16 bytes give it. -/
def refreshEntryOf (b : List Byte) : RefreshEntry := ⟨leAt 0 4 b, leAt 4 2 b, leAt 6 1 b, leAt 7 1 b, leAt 8 8 b⟩

/-- The address of entry i of the refresh table. -/
def State.refreshAddr (s : State) (p i : Nat) : Nat := 16 * s.fget fPrtUeRefreshTable p + 16 * i

/-- Whether rows of an entry must wait: the queue of a cluster that takes them is full, or a row of an earlier entry that they
share is not yet written. -/
def State.refreshHeld (s : State) (p i : Nat) : Bool :=
  let a := s.refreshAddr p i
  let e := refreshEntryOf (s.mem.bytes (deAperture a) 16)
  let size := recordBytes (s.fget fPrtUeCfgDfmt p)
  let open_ := s.requests.filter fun r => match r.for_ with
    | .refresh q _ _ => q.val = p
    | _ => false
  (List.range e.fanout).any fun k => (rowsOf (e.at_ size k 0) (e.n * size)).any fun a =>
    !(s.dmaRoom (runner a) (refreshQueue p)) || open_.any fun r => r.addr ≤ a && a < r.addr + 64 * r.rows

/-- Handle the entries of the refresh table in their order (R311), at most n, until one must wait. -/
def State.refreshGo (s : State) (p : Nat) : Nat → State
  | 0 => s
  | n + 1 =>
    match (s.port p).refreshAt with
    | none => s
    | some i =>
      let b := s.refreshAddr p i
      if s.fget fPrtUeRefreshCount p ≤ i || s.refreshHeld p i then s
      else
        let s := s.setPort p { s.port p with refreshAt := some (i + 1) }
        let s :=
          if s.ownedRange (s.fget fPrtUeCtrlSlice p) b 16 then
            let r := s.fetchRow (whoPort p) b
            if r.1.status = 0 then r.2.refreshEntry p i (refreshEntryOf ((r.1.data.drop (b % 64)).take 16))
            else r.2.fset fPrtUeStatRefreshErr 1 p
          else s.refuse (whoPort p) b (s.mapped b)
        s.refreshGo p n

/-- Go on with the refresh in progress. -/
def State.refreshOn (s : State) (p : Nat) : State := s.refreshGo p (s.fget fPrtUeRefreshCount p)

/-- Start a refresh of the committed step (R311). -/
def State.refreshStart (s : State) (p : Nat) : State := (s.setPort p { s.port p with refreshAt := some 0 }).refreshOn p

/-- Whether the refresh in progress has handled every entry (R312): nothing waits, and every copy is written or has failed. -/
def State.refreshed (s : State) (p : Nat) : Bool :=
  ((s.port p).refreshAt.all fun i => decide (s.fget fPrtUeRefreshCount p ≤ i)) && !(s.dmaAny (Feeder.ofPort p))

/-- Steps 2 and 3 of R307 for committed step c: caches and digests; the step's own state goes. -/
def State.committed (s : State) (p c : Nat) : State :=
  ((s.invalidate (s.fget fPrtUeCtrlSlice p)).commitDigest p c).stepReset p c

/-- Steps 2 to 4 of R307 for committed step c: caches, digests, REFRESH. Under modes 0 and 2 the arrival follows step 2
at once (R312). -/
def State.commitFrom (s : State) (p c : Nat) : State :=
  let s := (s.committed p c).setUe p 4
  if s.fget fPrtUeCtrlRefreshMode p = 1 then s.refreshStart p else s.refreshArrive p

/-- Commit the step that stands in APPLIED (R307). -/
def State.commit (s : State) (p : Nat) : State :=
  let c := s.cstep p + 1
  (s.fset fPrtUeStepCstep c p).commitFrom p c

/-! ### Recovery commands (R314, R449) -/

/-- Read every header row of the shard: whether all could be read. -/
def State.checkHeaders (s : State) (p : Nat) : Bool × State :=
  (List.range (s.ueStripes p / 8)).foldl (fun (q : Bool × State) g =>
    let r := q.2.checkSpan p (6848 * g) 128
    (q.1 && r.1, r.2)) (true, s)

/-- Read rows of the slot array n of every group whose stripes need it: whether all could be read. -/
def State.checkSlots (s : State) (p n : Nat) : Bool × State :=
  (List.range (s.ueStripes p / 8)).foldl (fun (q : Bool × State) g =>
    let r := q.2.checkSpan p (6848 * g + 128 + 3360 * n) 3360
    (q.1 && r.1, r.2)) (true, s)

/-- SCAN (R314): the result, 0 or 2, and PRT_UE_SCAN. -/
def State.scan (s : State) (p : Nat) : Nat × State :=
  let q := s.checkHeaders p
  if !q.1 then (2, q.2)
  else
    let hs := (List.range (q.2.ueStripes p)).map (q.2.stripe p)
    let bad := hs.any fun h => !h.valid || h.slot ≠ h.step % 2
    let steps := (hs.filter (·.valid)).map (·.step)
    let lo := steps.foldl min (steps.headD 0)
    let hi := steps.foldl max 0
    let s := ((q.2.fset fPrtUeScanValid 1 p).fset fPrtUeScanInvalid (b2n bad) p).fset fPrtUeScanSpread (min (hi - lo) 255) p
    (0, s.fset fPrtUeScanMin lo p)

/-- Whether a stripe is valid at a step. -/
def State.stripeAt (s : State) (p i step : Nat) : Bool :=
  let h := s.stripe p i
  h.valid && h.step = step && h.slot = step % 2

/-- A command has run: what UE_COMMAND_END will enter. -/
def State.cmdDone (s : State) (p result state : Nat) (commit : Bool := false) : State :=
  s.setPort p { s.port p with cmdEnd := some ⟨result, state, commit⟩ }

/-- The state that a command which leads to st ends in: only EXPEL_CLR leaves EXPELLED (R310). -/
def State.leads (s : State) (p st : Nat) : Nat := if (s.port p).was = 6 then 6 else st

/-- Whether command op waits in BUSY to run. -/
def State.cmdWaits (s : State) (p op : Nat) : Bool :=
  !(s.bayWaits p) && s.ueState p = 8 && !(s.port p).enabling && (s.port p).cmdEnd.isNone && s.fget fPrtUeCmdOp p = op

/-- A command enters BUSY (R314). -/
def State.ueBusy (s : State) (p : Nat) : State :=
  let st := s.ueState p
  (s.setPort p { s.port p with was := if st = 8 then (s.port p).was else st, cmdEnd := none }).setUe p 8

/-- Read the slot n of the stripes of a list: whether all could be read. -/
def State.checkSlotsOf (s : State) (p n : Nat) (is : List Nat) : Bool × State :=
  is.foldl (fun (q : Bool × State) i =>
    let r := q.2.checkSpan p (slotOff i n) 420
    (q.1 && r.1, r.2)) (true, s)

/-- ROLLBACK (R314): the slot of TARGET is read for the stripes at TARGET + 1. -/
def State.rollback (s : State) (p target : Nat) : State :=
  let was := (s.port p).was
  let q := s.checkHeaders p
  let is := List.range (s.ueStripes p)
  let r := q.2.checkSlotsOf p (target % 2) (is.filter fun i => q.2.stripeAt p i (target + 1))
  let s := r.2
  let ok := is.all fun i => s.stripeAt p i target || (s.stripeAt p i (target + 1) && s.slotOk p i (target % 2) target)
  if !(q.1 && r.1) then s.cmdDone p 2 was
  else if !ok then s.cmdDone p 1 was
  else
    let s := is.foldl (fun s i =>
      let h := s.stripe p i
      s.shardPatch p (hdrOff i) (headerBytes target h.check0 h.check1)) s
    let s := (s.fset fPrtUeStepCstep target p).fset fPrtUeDig0 (s.fget fPrtUeDig1 p) p
    (s.stepReset p).cmdDone p 0 (s.leads p 1)

/-- ROLLFWD (R314): the commit continues from the cache invalidation, so that the state becomes REFRESH. -/
def State.rollfwd (s : State) (p target : Nat) : State :=
  let was := (s.port p).was
  let q := s.checkHeaders p
  let r := q.2.checkSlots p (target % 2)
  let s := r.2
  let ok := (List.range (s.ueStripes p)).all fun i => s.stripeAt p i target && s.slotOk p i (target % 2) target
  if !(q.1 && r.1) then s.cmdDone p 2 was
  else if !ok then s.cmdDone p 1 was
  else (s.fset fPrtUeStepCstep target p).cmdDone p 0 (s.leads p 4) true

/-- INIT of one stripe (R314). -/
def State.initStripe (s : State) (p target i : Nat) : State :=
  let n := target % 2
  let cur := s.shardBytes p (slotOff i n) 420
  let ds := blockData (s.fget fPrtUeCfgDfmt p) (s.fbit fPrtUeCfgEc p) (slotWords cur 0)
  let new := cur.take 384 ++ blockOf ds
  let k := slotCheck new target
  let s := s.shardPatch p (slotOff i n) new
  s.shardPatch p (hdrOff i) (headerBytes target (if n = 0 then k else 0) (if n = 1 then k else 0))

/-- INIT (R314). -/
def State.initShard (s : State) (p target : Nat) : State :=
  let r := s.checkSlots p (target % 2)
  if !r.1 then r.2.cmdDone p 2 (s.port p).was
  else
    let s := (List.range (s.ueStripes p)).foldl (fun s i => s.initStripe p target i) r.2
    let s := ((s.fset fPrtUeStepCstep target p).fset fPrtUeDig0 0 p).fset fPrtUeDig1 0 p
    (s.stepReset p).cmdDone p 0 1

end Sys2Proof.Machine
end

