-- ==== Sys2Proof/Machine/Wxt.lean ====
section
/-! DEFINITION. The Weanum exchange transport: messages, flows, delivery (R321 to R340). -/
namespace Sys2Proof.Machine

/-! ### Messages (R325, R326) -/

/-- Whether a message type travels on an express flow (R326). -/
def expressTyp (t : Byte) : Bool := 5 ≤ t && t ≤ 8
/-- Whether a type is reserved. -/
def reservedTyp (t : Byte) : Bool := t = 0 || 0x0A < t
/-- Whether a type is sent without reliability. -/
def looseTyp (t : Byte) : Bool := t = 1 || t = 9 || t = 0x0A

/-- A big-endian field of n bytes at an offset of a message body. -/
def beAt (o n : Nat) (xs : List Byte) : Nat := leNat (sliceOf o n xs).reverse

/-- FLAGS of a message (R325). -/
def wxtFlags (rel syn retx : Bool) : Nat := b2n rel + 2 * b2n syn + 8 * b2n retx

/-- A message of port p (R325): the common header, then the body. -/
def State.wxtMsg (s : State) (p : Nat) (typ : Byte) (flags flow seq step : Nat) (body : List Byte) : List Byte :=
  beBytes 2 0x5758 ++ [1, typ] ++ beBytes 2 flags ++ beBytes 2 body.length ++ beBytes 2 (s.fget fPrtWxtCtrlReplica p) ++
  beBytes 2 (s.fget fPrtWxtCtrlShard p) ++ beBytes 4 flow ++ beBytes 4 seq ++ beBytes 8 step ++ leBytes 4 0 ++ body

/-! ### Sending (R319, R322, R323, R328, R332) -/

/-- Whether port p's block is clocked and its canton online (R320, R345). -/
def State.portOn (s : State) (p : Nat) : Bool := (s.fget fPrtClkEnEn).testBit p && s.online (portCanton p)

/-- Whether the link is up. -/
def State.linkIsUp (s : State) (p : Nat) : Bool := s.fget fPrtLinkStatState p = 2

/-- Whether the port runs in breakout (R319). -/
def State.breakout (s : State) (p : Nat) : Bool := 2 ≤ s.fget fPrtLinkCtrlMode p

/-- Whether WXT frames of a class may start now: WXT is enabled, the link is up and their priority is not paused (R322). -/
def State.mayStart (s : State) (p : Nat) (express : Bool) : Bool :=
  s.linkIsUp p && s.fbit fPrtWxtCtrlEn p && !((s.port p).paused.getLsbD (s.fget (if express then fPrtNetCfgExpPrio else fPrtNetCfgBulkPrio) p))

/-- The port's own IP address. -/
def State.ownIp (s : State) (p : Nat) : BitVec 128 := BitVec.ofNat 128 (s.fget fPrtIp0 p * 2 ^ 64 + s.fget fPrtIp1 p)
/-- The peer's IP address (R321). -/
def State.peerIp (s : State) (p : Nat) : BitVec 128 := BitVec.ofNat 128 (s.fget fPrtPeerIp0 p * 2 ^ 64 + s.fget fPrtPeerIp1 p)
/-- The MAC address of a half (R319). -/
def State.halfMac (s : State) (p : Nat) (half : Bool) : BitVec 48 := SMap.get 0 s.mgmt.macs p + (if half then 1 else 0)

/-- The sum of big-endian 16-bit words, a last odd byte standing high. -/
def sum16 : List Byte → Nat
  | a :: b :: xs => 256 * a.toNat + b.toNat + sum16 xs
  | [a] => 256 * a.toNat
  | [] => 0

/-- The UDP checksum (R324): the one's complement of the one's complement sum over the pseudo-header of the IP version, the UDP
header and the message; a sum of zero is sent as 0xFFFF. -/
def udpSum (ipv6 : Bool) (src dst : BitVec 128) (sport dport : Nat) (msg : List Byte) : W16 :=
  let len := 8 + msg.length
  let pseudo := if ipv6 then beBytes 16 src.toNat ++ beBytes 16 dst.toNat ++ beBytes 4 len ++ beBytes 4 17
    else beBytes 4 src.toNat ++ beBytes 4 dst.toNat ++ beBytes 2 17 ++ beBytes 2 len
  let n := sum16 (pseudo ++ beBytes 2 sport ++ beBytes 2 dport ++ beBytes 2 len ++ beBytes 2 0 ++ msg)
  let c := 0xFFFF - (if n = 0 then 0 else (n - 1) % 0xFFFF + 1)
  BitVec.ofNat 16 (if c = 0 then 0xFFFF else c)

/-- The frame of a message (R317, R319, R321 to R324): an outbound flow F goes out on half F mod 2; BAR, COMMIT, DIGEST and EXPEL
go through the express MAC where verification has succeeded; a class gives the DSCP and, with a tag, the PCP. -/
def State.frame (s : State) (p : Nat) (q : TxPend) : SentFrame :=
  let half := s.breakout p && q.flow % 2 = 1
  let ipv6 := s.fbit fPrtNetCfgIpv6 p
  let sport := 0xC000 + q.flow % 2 ^ 14
  let dport := s.fget fPrtWxtCtrlUdpPort p
  let prio := s.fget (if q.express then fPrtNetCfgExpPrio else fPrtNetCfgBulkPrio) p
  { half := half
    expressMac := expressTyp (q.msg.getD 3 0) && s.fbit fPrtLinkStatPreempt p
    src := s.halfMac p half, dst := BitVec.ofNat 48 (s.fget fPrtPeerMacMac p)
    tag := if s.fbit fPrtNetCfgVlanEn p then some (BitVec.ofNat 16 (prio * 2 ^ 13 + s.fget fPrtNetCfgVlanId p)) else none
    dscp := BitVec.ofNat 6 (s.fget (if q.express then fPrtNetCfgExpDscp else fPrtNetCfgBulkDscp) p)
    ipv6 := ipv6, srcIp := s.ownIp p, dstIp := q.dst, srcPort := BitVec.ofNat 16 sport, dstPort := BitVec.ofNat 16 dport
    sum := udpSum ipv6 (s.ownIp p) q.dst sport dport q.msg, msg := q.msg }

/-- Put a WXT message on the link. -/
def State.putFrame (s : State) (p : Nat) (q : TxPend) : State :=
  let s := ((s.portEvent p 0x01 1).portEvent p 0x03 q.msg.length).portEvent p 0x05 (b2n (expressTyp (q.msg.getD 3 0)))
  let x := s.port p
  s.setPort p { x with sent := x.sent ++ [.wxt (s.frame p q)] }

/-- Send a WXT message of a flow: at once, or when frames of its class may start (R322). -/
def State.emit (s : State) (p : Nat) (express : Bool) (flow : Nat) (dst : BitVec 128) (msg : List Byte) : State :=
  let q : TxPend := { express := express, flow := flow, dst := dst, msg := msg }
  if s.mayStart p express then s.putFrame p q else s.setPort p { s.port p with ctl := (s.port p).ctl ++ [q] }

/-- Start the frames of a class that have waited, where they may start. -/
def State.flush (s : State) (p : Nat) (express : Bool) : State :=
  if s.mayStart p express then
    let x := s.port p
    (x.ctl.filter fun q => q.express = express).foldl (fun s q => s.putFrame p q)
      (s.setPort p { x with ctl := x.ctl.filter fun q => q.express ≠ express })
  else s

/-- The outbound flow of a class. -/
def Port.out (x : Port) (express : Bool) : FlowOut := if express then x.express else x.bulk
/-- Replace the outbound flow of a class. -/
def Port.setOut (x : Port) (express : Bool) (f : FlowOut) : Port :=
  if express then { x with express := f } else { x with bulk := f }

/-- Bytes of a flow's retransmission buffer. -/
def FlowOut.bytes (f : FlowOut) : Nat := (f.buf.map fun t => t.bytes.length).sum

/-- TXBUF_KIB. -/
def State.noteTxbuf (s : State) (p : Nat) : State :=
  let x := s.port p
  s.fset fPrtWxtStatTxbufKib ((x.express.bytes + x.bulk.bytes) / 1024) p

/-- Whether a flow has room for a frame of n bytes: at most 64 unacknowledged, and its part of the buffer (R329, R332). -/
def FlowOut.room (f : FlowOut) (express : Bool) (n : Nat) : Bool :=
  decide (f.buf.length < 64) && decide (f.bytes + n ≤ (if express then 262144 else 4194304))

/-- Send the waiting messages of a flow that can start, at most n. -/
def State.drainOut (s : State) (p : Nat) (express : Bool) : Nat → State
  | 0 => s
  | n + 1 =>
    let x := s.port p
    let f := x.out express
    match f.wait with
    | [] => s
    | (typ, step, body) :: rest =>
      let msg := s.wxtMsg p typ (wxtFlags true f.fresh false) (if express then 0 else 1) f.next.toNat step.toNat body
      if s.mayStart p express && f.room express msg.length then
        let f := { f with next := f.next + 1, fresh := false, wait := rest, buf := f.buf ++ [{ seq := f.next, bytes := msg }] }
        ((s.setPort p (x.setOut express f)).emit p express (if express then 0 else 1) (s.peerIp p) msg).drainOut p express n
      else s

/-- Send what can start on both outbound flows, express first (R323). -/
def State.pour (s : State) (p : Nat) : State :=
  let s := s.flush p true
  let s := (s.drainOut p true (s.port p).express.wait.length).flush p false
  (s.drainOut p false (s.port p).bulk.wait.length).noteTxbuf p

/-- Queue a reliable message on the outbound flow of its class. -/
def State.sendRel (s : State) (p : Nat) (typ : Byte) (step : Nat) (body : List Byte) : State :=
  let x := s.port p
  let e := expressTyp typ
  let f := x.out e
  (s.setPort p (x.setOut e { f with wait := f.wait ++ [(typ, BitVec.ofNat 48 step, body)] })).pour p

/-! ### The gradient exporter (R336) -/

/-- Bytes of an exported element. -/
def gxSize (fmt : Nat) : Nat := if fmt = 0 then 4 else 2

/-- The exporter's agent arrives on GX_FLAG with the operation's identity (R336). -/
def State.gxArrive (s : State) (p : Nat) : State :=
  let op := s.fget fPrtGxCtrlGxOp p
  s.agentArrive (portCanton p) (s.fget fPrtGxCtrlGxFlag p) op (hopIdentity op)

/-- Read n rows of the export buffer: none at a row that cannot be read. -/
def State.gxRows (s : State) (p a : Nat) : Nat → Option (List Byte) × State
  | 0 => (some [], s)
  | n + 1 =>
    let r := s.readRow (whoPort p) a
    if r.1.status = 1 || r.1.status = 3 then (none, r.2)
    else
      let q := r.2.gxRows p (a + 64) n
      (q.1.map (r.1.data ++ ·), q.2)

/-- The export ends; agent says that its agent arrives again. -/
def State.gxEnd (s : State) (p : Nat) (agent : Bool) : State :=
  let s := (s.setPort p { s.port p with gx := none }).fset fPrtGxCtrlBusy 0 p
  if agent then s.gxArrive p else s

/-- Go on with the export while nothing waits on the bulk flow: GRAD frames of 8,192 B of the buffer; its last element ends it,
and so does an unreadable row. -/
def State.gxGo (s : State) (p : Nat) : Nat → State
  | 0 => s
  | n + 1 =>
    match (s.port p).gx with
    | none => s
    | some g =>
      let size := gxSize g.fmt
      let cnt := min g.left (8192 / size)
      if g.left = 0 then s.gxEnd p true
      else if !((s.port p).bulk.wait.isEmpty) then s
      else
        let q := s.gxRows p (64 * s.fget fPrtGxBaseBase p + g.off * size) ((cnt * size + 63) / 64)
        match q.1 with
        | none => q.2.gxEnd p false
        | some bs =>
          let s := q.2.setPort p { q.2.port p with gx := some { g with off := g.off + cnt, left := g.left - cnt } }
          (s.sendRel p 2 g.step (beBytes 8 g.off ++ beBytes 4 cnt ++ beBytes 1 g.fmt ++ [1] ++ leBytes 2 0 ++ bs.take (cnt * size))).gxGo p n

/-- Go on with an export in progress. -/
def State.gxOn (s : State) (p : Nat) : State :=
  match (s.port p).gx with
  | some g => s.gxGo p (g.left + 1)
  | none => s

/-- Send what can start, and with room on the bulk flow the next frames of an export in progress. -/
def State.drain (s : State) (p : Nat) : State := (s.pour p).gxOn p

/-- A record of the port-link class (R428). -/
def State.portRec (s : State) (p cause : Nat) : State := s.ueRec p 0x1B 1 cause 0

/-! ### Acknowledgements (R330, R331) -/

/-- The inbound flow of a peer and number. -/
def Port.flowIn (x : Port) (peer : BitVec 128) (flow : W32) : Option FlowIn :=
  x.flowsIn.find? fun f => f.peer = peer && f.flow = flow

/-- Replace an inbound flow. -/
def State.setFlow (s : State) (p : Nat) (f : FlowIn) : State :=
  let x := s.port p
  s.setPort p { x with flowsIn := x.flowsIn.map fun g => if g.peer = f.peer && g.flow = f.flow then f else g }

/-- FLOWS_IN. -/
def State.noteFlows (s : State) (p : Nat) : State := s.fset fPrtWxtStatFlowsIn (s.port p).flowsIn.length p

/-- SACK: bit i says that CUM + 1 + i has been received. -/
def FlowIn.sack (f : FlowIn) : Nat :=
  f.held.foldl (fun n (q : Bool × WxtMsg) =>
    let d := modSub 32 q.2.seq.toNat (f.cum.toNat + 1)
    if d < 64 then n ||| 2 ^ d else n) 0

/-- Send an ACK for a flow, to the address that it comes from. -/
def State.sendAck (s : State) (p : Nat) (f : FlowIn) : State :=
  let body := beBytes 4 f.cum.toNat ++ leBytes 4 0 ++ beBytes 8 f.sack
  (s.setFlow p { f with unacked := 0, owed := false }).emit p f.express f.flow.toNat f.peer (s.wxtMsg p 9 0 f.flow.toNat 0 0 body)

/-- Send a NACK (R330, R331) to the address that the frame came from, and count it. -/
def State.sendNack (s : State) (p : Nat) (dst : BitVec 128) (express : Bool) (flow cum : W32) (reason : Byte) (nseq : W32) (detail : Nat) : State :=
  let body := beBytes 4 cum.toNat ++ [reason] ++ leBytes 3 0 ++ beBytes 4 nseq.toNat ++ beBytes 4 detail
  let s := (s.emit p express flow.toNat dst (s.wxtMsg p 0x0A 0 flow.toNat 0 0 body)).finc fPrtWxtCntNackTx p
  if reason = 0 then s
  else
    let s := (s.fset fPrtWxtStatRefusedSeen 1 p).fset fPrtPortErrLastReason reason.toNat p
    if reason ≤ 7 then s.finc fPrtPortErrFlowRefused p
    else if reason ≤ 0x0D then s.finc fPrtPortErrGradRefused p else s.finc fPrtPortErrCtrlRefused p

/-- Drop a received frame. -/
def State.rxDrop (s : State) (p : Nat) : State := (s.finc fPrtWxtCntDrop p).fset fPrtWxtStatRxDropSeen 1 p

/-! ### What a delivered frame does -/

/-- What comes of a frame at the head of its flow: taken, refused with a reason and DETAIL, or held. -/
inductive Taken
  | done
  | nack (reason : Byte) (detail : Nat)
  | wait
  deriving DecidableEq, Repr

/-- The FP32 value of a gradient element of a format: 0 = FP32, 1 = BF16, 2 = FP16 (R298, R334). -/
def gradElem (fmt w : Nat) : W32 :=
  match fmt with
  | 0 => BitVec.ofNat 32 w
  | 1 => BitVec.ofNat 32 (w * 65536)
  | _ => rn32 (fmtFP16.val w)

/-- The elements of a GRAD payload, little-endian. -/
def gradElems (fmt : Nat) (bs : List Byte) (n : Nat) : List W32 :=
  let size := if fmt = 0 then 4 else 2
  (List.range n).map fun i => gradElem fmt (leNat ((bs.drop (size * i)).take size))

/-- Activate a pending hyperparameter bank at the first chunk of a step (R299). -/
def State.hpActivate (s : State) (p step : Nat) : State :=
  match (s.port p).hpPend with
  | some (vs, act) =>
    if act ≤ step then
      let s := ((List.range 7).zip vs).foldl (fun s (q : Nat × W32) =>
        s.setReg (0x108020 + 8 * q.1 + 0x10000 * p) (q.2.zeroExtend 64)) s
      (s.setPort p { s.port p with hpPend := none }).fset fPrtUeStatHpPending 0 p
    else s
  | none => s

/-- Apply an accepted chunk (R298): its elements wait for UE_GROUP_APPLY. -/
def State.takeChunk (s : State) (p : Nat) (fmt count : Nat) (bs : List Byte) : State :=
  let s := if s.ueState p = 1 then ((s.hpActivate p (s.cstep p + 1)).setUe p 2).fset fPrtUeStatDone 0 p else s
  let x := s.port p
  s.setPort p { x with grad := x.grad ++ gradElems fmt bs count, expect := x.expect + count }

/-- Whether a step is bound to another flow than a frame's (R335). -/
def Port.boundElse (x : Port) (m : WxtMsg) : Bool :=
  x.bound.any fun b => b.1 = m.step.toNat && !(b.2.1 = m.peer && b.2.2 = m.flow)

/-- Bind a frame's step to its flow, where the step is not bound yet (R335). -/
def State.bindStep (s : State) (p : Nat) (m : WxtMsg) : State :=
  let x := s.port p
  if x.bound.any fun b => b.1 = m.step.toNat then s else s.setPort p { x with bound := x.bound ++ [(m.step.toNat, m.peer, m.flow)] }

/-- GRAD of step C + 1 in READY or APPLYING (R298, R334, R335): only a chunk that breaks no rule changes the state. -/
def State.grad (s : State) (p : Nat) (m : WxtMsg) : Taken × State :=
  let off := beAt 0 8 m.body
  let count := beAt 8 4 m.body
  let fmt := beAt 12 1 m.body
  let size := if fmt = 0 then 4 else 2
  let x := s.port p
  if x.boundElse m then (.nack 0x0C 0, s)
  else if 2 < fmt || m.body.length ≠ 16 + count * size || 8192 < count * size then (.nack 8 0, s)
  else if off % 256 ≠ 0 || count % 256 ≠ 0 then (.nack 9 0, s)
  else if off ≠ x.expect || 32 * s.ueStripes p < off + count then (.nack 0x0A (x.expect % 2 ^ 32), s)
  else (.done, (s.bindStep p m).takeChunk p fmt count (m.body.drop 16))

/-- A GRAD that is held binds its step; one on another flow is refused (R335). -/
def State.holdGrad (s : State) (p : Nat) (m : WxtMsg) : Taken × State :=
  if (s.port p).boundElse m then (.nack 0x0C 0, s) else (.wait, s.bindStep p m)

/-- WXT_GRAD at the head of its flow (R331, R335): the table is that of DIR = 0. -/
def State.takeGrad (s : State) (p : Nat) (m : WxtMsg) : Taken × State :=
  let c := s.cstep p
  let step := m.step.toNat
  let st := s.ueState p
  let badStep : Taken × State := (.nack 0x0B (c % 2 ^ 32), s)
  if beAt 13 1 m.body % 2 = 1 then (.nack 8 0, s)
  else if step ≤ c then (.done, s)
  else if st = 1 || st = 2 then if step = c + 1 then s.grad p m else badStep
  else if st = 3 then
    if step = c + 1 then (.nack 0x0A ((s.port p).expect % 2 ^ 32), s) else if step = c + 2 then s.holdGrad p m else badStep
  else if st = 4 then if step = c + 1 then s.holdGrad p m else badStep
  else (.nack 0x0D st, s)

/-- COMMIT (R307, R337). -/
def State.takeCommit (s : State) (p : Nat) (m : WxtMsg) : Taken × State :=
  let c := s.cstep p
  let st := s.ueState p
  if m.step.toNat ≤ c then (.done, s)
  else if m.step.toNat = c + 1 && st = 3 then (.done, s.commit p)
  else (.nack 0x0E st, s)

/-- EXPEL (R310, R338): every enabled update engine of the engine enters EXPELLED. -/
def State.takeExpel (s : State) (m : WxtMsg) : State :=
  (List.range 20).foldl (fun s q =>
    let s := s.setPort q { s.port q with expelReason := BitVec.ofNat 16 (beAt 0 2 m.body) }
    if s.ueState q = 0 then s
    else ((s.ueStop q 6).fset fPrtUeStatExpelSeen 1 q).ueRec q 0x1A 2 0 0) s

/-- Whether a range lies within the shard. -/
def State.inShard (s : State) (p off len : Nat) : Bool := decide (off + len ≤ 856 * s.ueStripes p)

/-- Read shard rows for a reply: the bytes up to the first row that cannot be read, and that row's offset. -/
def State.pullRows (s : State) (p off : Nat) : Nat → List Byte × Option Nat × State
  | 0 => ([], none, s)
  | n + 1 =>
    let q := s.checkSpan p off 64
    if !q.1 then ([], some off, q.2)
    else
      let b := q.2.shardBytes p off 64
      let r := q.2.pullRows p (off + 64) n
      (b ++ r.1, r.2)

/-- The WPUSH frames of a reply (R339): payloads of at most 8,192 B; last says that the final one carries LAST. -/
def State.pushFrames (s : State) (p tag off : Nat) (last : Bool) (bs : List Byte) : Nat → State
  | 0 => s
  | n + 1 =>
    if bs.isEmpty then s
    else
      let b := bs.take 8192
      let fin := last && bs.length ≤ 8192
      let s := s.sendRel p 4 (s.cstep p) (beBytes 8 off ++ beBytes 4 b.length ++ beBytes 2 tag ++ beBytes 2 (b2n fin) ++ b)
      s.pushFrames p tag (off + b.length) last (bs.drop 8192) n

/-- WPULL (R339): the reply, or a refusal. -/
def State.takePull (s : State) (p : Nat) (m : WxtMsg) : Taken × State :=
  let off := beAt 0 8 m.body
  let len := beAt 8 4 m.body
  let st := s.ueState p
  let ok := (st = 1 || st = 3 || st = 5 || st = 6 || st = 7) && s.inShard p off len && off % 64 = 0 && len % 64 = 0 &&
    64 ≤ len && len ≤ 67108864
  if !ok then (.nack 0x10 (off % 2 ^ 32), s)
  else
    let r := s.pullRows p off (len / 64)
    let s := r.2.2.pushFrames p (beAt 12 2 m.body) off r.2.1.isNone r.1 (len / 8192 + 1)
    match r.2.1 with
    | none => (.done, s)
    | some bad => (.nack 0x10 (bad % 2 ^ 32), s)

/-- Whether the bound slice owns the shard's rows of a range, in class W. -/
def State.shardOwnedW (s : State) (p off len : Nat) : Bool :=
  let a := s.shardAddr p off
  (List.range (len / 64)).all fun i =>
    let o := s.ownership (a + 64 * i)
    s.mapped (a + 64 * i) && o.owned && o.owner = s.fget fPrtUeCtrlSlice p && s.rowIsW (a + 64 * i)

/-- WPUSH (R339): the rows are written, or the frame is refused. -/
def State.takePush (s : State) (p : Nat) (m : WxtMsg) : Taken × State :=
  let off := beAt 0 8 m.body
  let len := beAt 8 4 m.body
  let st := s.ueState p
  let ok := s.fbit fPrtWxtCtrlWpushEn p && (st = 0 || st = 5 || st = 6) && off % 64 = 0 && len % 64 = 0 && len ≤ 8192 &&
    m.body.length = 16 + len && s.inShard p off len && s.shardOwnedW p off len
  if ok then (.done, s.shardPatch p off (m.body.drop 16)) else (.nack 0x0F (off % 2 ^ 32), s)

/-- Deliver one frame that has passed the checks of R327. A DIGEST or a BAR, which only engines send (R326), has no consumer
here: it is acknowledged and discarded. -/
def State.deliverMsg (s : State) (p : Nat) (m : WxtMsg) : Taken × State :=
  match m.typ.toNat with
  | 2 => s.takeGrad p m
  | 3 => s.takePull p m
  | 4 => s.takePush p m
  | 5 => (.done, s)
  | 7 => (.done, s)
  | 6 => (.done, s.takeExpel m)
  | 8 => s.takeCommit p m
  | _ => (.nack 6 m.typ.toNat, s)

/-! ### Receiving (R327 to R329) -/

/-- The checks of R327 that need no order: a refusal, where one applies. -/
def State.refusal (s : State) (p : Nat) (m : WxtMsg) : Option (Byte × Nat) :=
  if m.ver ≠ 1 then some (5, m.ver.toNat)
  else if reservedTyp m.typ then some (6, m.typ.toNat)
  else if m.typ ≠ 1 && !(m.replica.toNat = s.fget fPrtWxtCtrlReplica p && m.shard.toNat = s.fget fPrtWxtCtrlShard p) then
    some (7, s.fget fPrtWxtCtrlReplica p * 65536 + s.fget fPrtWxtCtrlShard p)
  else if m.typ ≠ 1 && !(s.fbit fPrtWxtStatRegistered p) then some (1, 0)
  else none

/-- Close a flow; an ACK that is due goes out in its time (R330). -/
def State.closeFlow (s : State) (p : Nat) (peer : BitVec 128) (flow : W32) : State :=
  let x := s.port p
  (s.setPort p { x with flowsIn := x.flowsIn.filter fun f => !(f.peer = peer && f.flow = flow)
                        closed := x.closed ++ x.flowsIn.filter fun f => f.peer = peer && f.flow = flow && f.owed }).noteFlows p

/-- Send the ACK that a closed flow still owes. -/
def State.lastAck (s : State) (p : Nat) (peer : BitVec 128) (flow : W32) : State :=
  let x := s.port p
  let mine (f : FlowIn) : Bool := f.peer = peer && f.flow = flow
  (x.closed.filter mine).foldl (fun s f => s.sendAck p f) (s.setPort p { x with closed := x.closed.filter fun f => !(mine f) })

/-- Deliver the frames of a flow in order until one waits; FIN closes the flow. -/
def State.deliverFlow (s : State) (p : Nat) (peer : BitVec 128) (flow : W32) : Nat → State
  | 0 => s
  | n + 1 =>
    match (s.port p).flowIn peer flow with
    | none => s
    | some f =>
      match f.queue with
      | [] => s
      | m :: rest =>
        let r := s.deliverMsg p m
        let drop (s : State) : State := match (s.port p).flowIn peer flow with
          | some g => s.setFlow p { g with queue := rest }
          | none => s
        match r.1 with
        | .wait => r.2
        | .done =>
          let s := drop r.2
          if m.fin then s.closeFlow p peer flow else s.deliverFlow p peer flow n
        | .nack reason detail =>
          (drop (r.2.sendNack p peer f.express f.flow f.cum reason m.seq detail)).deliverFlow p peer flow n

/-- Re-examine the frames that wait on every flow of port p (R335). -/
def State.pump (s : State) (p : Nat) : State :=
  (s.port p).flowsIn.foldl (fun s f => s.deliverFlow p f.peer f.flow (f.queue.length + 1)) s

/-- Move frames that are next in order from a flow's held list to its queue. -/
def FlowIn.advance (f : FlowIn) : Nat → FlowIn
  | 0 => f
  | n + 1 =>
    match f.held.find? fun q => q.2.seq = f.cum with
    | none => f
    | some q =>
      FlowIn.advance { f with cum := f.cum + 1, unacked := f.unacked + 1
                              held := f.held.filter fun r => r.2.seq ≠ f.cum
                              queue := if q.1 then f.queue else f.queue ++ [q.2] } n

/-- The 1st retransmission timeout in ns. -/
def State.rtoNs (s : State) (p : Nat) : Nat := 1000 * max 1 (s.fget fPrtWxtCtrlRtoUs p)

/-- Send NACK GAP, at most once per RTO for one gap (R330). -/
def State.gapNack (s : State) (p : Nat) (f : FlowIn) : State :=
  let quiet := match f.gap with
    | some (n, t) => n = f.cum && decide (s.engineNs < t + s.rtoNs p)
    | none => false
  if quiet then s
  else (s.setFlow p { f with gap := some (f.cum, s.engineNs) }).sendNack p f.peer f.express f.flow f.cum 0 f.cum 0

/-- Send an ACK where one is due (R330): at once on an express flow, above a gap too, else after ACK_EVERY frames. -/
def State.ackDue (s : State) (p : Nat) (peer : BitVec 128) (flow : W32) : State :=
  match (s.port p).flowIn peer flow with
  | some f =>
    if (f.express && f.owed) || decide (max 1 (s.fget fPrtWxtCtrlAckEvery p) ≤ f.unacked) then s.sendAck p f else s
  | none => s

/-- A reliable frame on an open flow (R328, R329). -/
def State.rxOnFlow (s : State) (p : Nat) (f : FlowIn) (m : WxtMsg) : State :=
  let d := modSub 32 m.seq.toNat f.cum.toNat
  if 2 ^ 31 ≤ d || f.held.any fun q => q.2.seq = m.seq then (s.finc fPrtWxtCntDup p).sendAck p f
  else if 64 ≤ d then s.rxDrop p
  else
    let why : Option (Byte × Nat) := if !(reservedTyp m.typ) && expressTyp m.typ ≠ f.express then some (4, 0) else s.refusal p m
    let f1 := FlowIn.advance { f with held := f.held ++ [(why.isSome, m)], owed := true } (f.held.length + 1)
    let s := s.setFlow p f1
    let s := match why with
      | some (reason, detail) => s.sendNack p f.peer f.express f.flow f1.cum reason m.seq detail
      | none => s
    let s := if d ≠ 0 then s.gapNack p f1 else s
    (s.ackDue p f.peer f.flow).deliverFlow p f.peer f.flow (f1.queue.length + 1)

/-- A reliable frame (R328): SYN opens a flow, in place of an open one of its name. -/
def State.rxRel (s : State) (p : Nat) (m : WxtMsg) : State :=
  let x := s.port p
  let e := expressTyp m.typ
  let old := x.flowIn m.peer m.flow
  if m.syn then
    if old.isNone && decide (16 ≤ x.flowsIn.length) then s.sendNack p m.peer e m.flow 0 3 m.seq 0
    else
      let f : FlowIn := { peer := m.peer, flow := m.flow, express := e, cum := m.seq }
      let s := s.lastAck p m.peer m.flow
      let x := s.port p
      let s := if old.isSome then s.setFlow p f else s.setPort p { x with flowsIn := x.flowsIn ++ [f] }
      (s.noteFlows p).rxOnFlow p f m
  else match old with
    | some f => s.rxOnFlow p f m
    | none => s.sendNack p m.peer e m.flow 0 2 m.seq 0

end Sys2Proof.Machine
end

