-- ==== Sys2Proof/Machine/Ports.lean ====
section
/-! DEFINITION. Ports: frames, timers, links, export, and the commands of the update engines (R297 to R342, R449). -/
namespace Sys2Proof.Machine

/-! ### Receive buffers and priority flow control (R315, R322) -/

/-- Bytes of a message. -/
def msgSize (m : WxtMsg) : Nat := 32 + m.body.length

/-- Bytes in the receive buffer of a class: frames that wait on its flows, and for bulk the elements not yet applied. -/
def Port.occupied (x : Port) (express : Bool) : Nat :=
  ((x.flowsIn.filter fun f => f.express = express).map fun f =>
    (f.queue.map msgSize).sum + (f.held.map fun (q : Bool × WxtMsg) => msgSize q.2).sum).sum +
  (if express then 0 else 4 * x.grad.length)

/-- Send a PFC frame for the bulk priority. -/
def State.sendPfc (s : State) (p : Nat) (quanta : W16) : State :=
  let s := (s.portEvent p 0x01 1).portEvent p 0x07 (b2n (quanta ≠ 0))
  let x := s.port p
  s.setPort p { x with pauseSent := quanta ≠ 0, sent := x.sent ++ [.pfc (BitVec.ofNat 3 (s.fget fPrtNetCfgBulkPrio p)) quanta] }

/-- Whether the bulk buffer stands at or above XOFF. -/
def State.aboveXoff (s : State) (p : Nat) : Bool := decide (1024 * s.fget fPrtPfcXoffKib p ≤ (s.port p).occupied false)

/-- Pause the peer at XOFF, release it below XON (R322). -/
def State.pfcCheck (s : State) (p : Nat) : State :=
  let x := s.port p
  if !(s.fbit fPrtNetCfgPfcEn p && s.linkIsUp p) then s
  else if !x.pauseSent && s.aboveXoff p then s.sendPfc p 0xFFFF
  else if x.pauseSent && decide (x.occupied false < 1024 * s.fget fPrtPfcXonKib p) then s.sendPfc p 0
  else s

/-- After a change of the update engine's state: held frames are examined again (R335), and the buffer's threshold. -/
def State.settle (s : State) (p : Nat) : State := (s.pump p).pfcCheck p

/-- Port p takes a list of ports' changes of state. -/
def State.settleAll (s : State) (ps : List Nat) : State := ps.foldl State.settle s

/-- Update engines bound to slice n lose its regions and enter STOPPED; a group is never half written between two commands
(R293). An expelled engine stays so (R310). -/
def State.ueRelease (s : State) (n : Nat) : State :=
  let ps := (List.range 20).filter fun p => s.boundUe n p && s.ueState p ≠ 6
  (ps.foldl (fun s p => s.ueStop p 7) s).settleAll ps

/-! ### HELLO (R333) -/

/-- Whether the port may send HELLO. -/
def State.helloOk (s : State) (p : Nat) : Bool :=
  (s.engine = 5 || s.engine = 6) && s.fbit fPrtWxtCtrlEn p && s.linkIsUp p && s.portOn p

/-- Send a HELLO. -/
def State.sendHello (s : State) (p : Nat) : State :=
  let reg := s.fget fPrtWxtStatRegistered p
  let caps := b2n (s.breakout p) + 2 * s.fget fPrtLinkStatPreempt p + 4 * s.fget fPrtNetCfgIpv6 p
  let body := [0] ++ beBytes 1 reg ++ beBytes 1 p ++ beBytes 1 s.engine ++ beBytes 1 (s.fget fPrtUeCfgRule p) ++
    beBytes 1 (s.fget fPrtUeCfgDfmt p) ++ beBytes 1 (s.fget fPrtUeCfgDigestN p) ++ beBytes 1 (s.ueState p) ++
    beBytes 8 s.mgmt.serial.toNat ++ beBytes 4 (s.ueStripes p) ++ beBytes 4 caps ++ leBytes 8 0
  s.emit p false 1 (s.peerIp p) (s.wxtMsg p 1 0 1 0 (s.cstep p) body)

/-- A HELLO from a server registers the port, or withdraws it (R333). -/
def State.takeHello (s : State) (p : Nat) (m : WxtMsg) : State :=
  if beAt 0 1 m.body ≠ 1 then s
  else if beAt 1 1 m.body % 2 = 1 then
    let s := s.fset fPrtWxtStatRegistered 1 p
    if s.helloOk p then s.sendHello p else s
  else (s.fset fPrtWxtStatRegistered 0 p).setPort p { s.port p with helloSent := false, late := false }

/-! ### ACK and NACK from the peer (R330, R332) -/

/-- Whether an ACK covers a frame. -/
def covered (cum sack : Nat) (seq : W32) : Bool :=
  let below := modSub 32 cum seq.toNat
  let above := modSub 32 seq.toNat (cum + 1)
  (0 < below && below ≤ 2 ^ 31) || (decide (above < 64) && sack.testBit above)

/-- Release the frames that an ACK covers. -/
def State.takeAck (s : State) (p : Nat) (m : WxtMsg) : State :=
  if m.flow.toNat < 2 then
    let x := s.port p
    let e := m.flow.toNat = 0
    let f := x.out e
    let cum := beAt 0 4 m.body
    let sack := beAt 8 8 m.body
    (s.setPort p (x.setOut e { f with buf := f.buf.filter fun t => !(covered cum sack t.seq) })).drain p
  else s

/-- A message with RETX set. -/
def retx (bs : List Byte) : List Byte := updAt 5 (· ||| 8#8) bs

/-- Retransmit one frame of a flow and change its entry. -/
def State.resend (s : State) (p : Nat) (express : Bool) (t t' : TxFrame) : State :=
  let x := s.port p
  let f := x.out express
  let x := x.setOut express { f with buf := f.buf.map fun u => if u.seq = t.seq then t' else u }
  ((s.setPort p x).emit p express (if express then 0 else 1) (s.peerIp p) (retx t.bytes)).finc fPrtWxtCntRetx p |>.portEvent p 0x09 1

/-- A NACK GAP retransmits the frame it names, once (R332); while its priority is paused the frame waits (R322). -/
def State.takeNack (s : State) (p : Nat) (m : WxtMsg) : State :=
  let e := m.flow.toNat = 0
  if m.flow.toNat < 2 && beAt 4 1 m.body = 0 then
    match ((s.port p).out e).buf.find? fun t => t.seq.toNat = beAt 8 4 m.body && !t.gapSent with
    | some t => s.resend p e t { t with gapSent := true }
    | none => s
  else s

/-! ### A received message (R317, R324, R327) -/

/-- A frame of a size has come on port p's link: its codewords are counted, and one whose FCS is wrong or whose size no port takes
is dropped (R317). -/
def State.rxLine (s : State) (p : Nat) (l : RxLine) (size : Nat) : Bool × State :=
  let s := ((s.portEvent p 0x0F l.corr.toNat).finc fPrtFecCntCorr p l.corr.toNat).finc fPrtFecCntUncorr p l.uncorr.toNat
  if !l.fcs || size < 64 || 9216 < size then (false, s.finc fPrtFecCntFcsErr p) else (true, s.portEvent p 0x02 1)

/-- Bytes of a message's frame from the destination address to the FCS (R317, R324). -/
def State.frameSize (s : State) (p : Nat) (m : WxtMsg) : Nat :=
  14 + (if m.line.tagged then 4 else 0) + (if s.fbit fPrtNetCfgIpv6 p then 40 else 20) + 8 + msgSize m + 4

/-- Whether a datagram is for the port's WXT endpoint, with a checksum that it takes (R324). -/
def State.mine (s : State) (p : Nat) (m : WxtMsg) : Bool :=
  m.dst = s.ownIp p && m.udp.toNat = s.fget fPrtWxtCtrlUdpPort p && m.sumOk && !(m.sumZero && !(s.fbit fPrtNetCfgIpv6 p))

/-- A message that the port's MAC has taken. -/
def State.rxFrame (s : State) (p : Nat) (m : WxtMsg) : State :=
  if !(s.mine p m) || !(s.fbit fPrtWxtCtrlEn p) || !m.framed || m.rel = looseTyp m.typ then s.rxDrop p
  else if m.rel then
    let e := expressTyp m.typ
    if (if e then 262144 else 2097152) < (s.port p).occupied e + msgSize m then s.rxDrop p
    else if e then (s.rxRel p m).settleAll (List.range 20)
    else (s.rxRel p m).settle p
  else match s.refusal p m with
    | some (reason, detail) => s.sendNack p m.peer (m.typ ≠ 1 && m.flow = 0) m.flow 0 reason m.seq detail
    | none =>
      match m.typ.toNat with
      | 1 => s.takeHello p m
      | 9 => s.takeAck p m
      | _ => s.takeNack p m

/-- A datagram arrives at the port. -/
def State.rxMsg (s : State) (p : Nat) (m : WxtMsg) : State :=
  if !(s.portOn p && s.linkIsUp p) then s
  else
    let q := s.rxLine p m.line (s.frameSize p m)
    if q.1 then (q.2.portEvent p 0x04 (msgSize m)).rxFrame p m else q.2

/-- Whether a message type has no command of its own: reserved, or one that only engines send. -/
def strayTyp (t : Byte) : Bool := reservedTyp t || t = 5 || t = 7

/-- A row of a message type takes messages of that type, and of the types without a row. -/
def State.rxTyp (s : State) (p : Nat) (typ : Byte) (m : WxtMsg) : State :=
  if m.typ = typ || strayTyp m.typ then s.rxMsg p m else s

/-- WXT_GRAD (R335). -/
def execWxtGrad (p : PortIx) (m : WxtMsg) (s : State) : Host.Outcome State Fault Refusal := .next (s.rxTyp p 2 m)
/-- WXT_COMMIT (R307). -/
def execWxtCommit (p : PortIx) (m : WxtMsg) (s : State) : Host.Outcome State Fault Refusal := .next (s.rxTyp p 8 m)
/-- WXT_EXPEL (R310, R338). -/
def execWxtExpel (p : PortIx) (m : WxtMsg) (s : State) : Host.Outcome State Fault Refusal := .next (s.rxTyp p 6 m)
/-- WXT_HELLO (R333). -/
def execWxtHello (p : PortIx) (m : WxtMsg) (s : State) : Host.Outcome State Fault Refusal := .next (s.rxTyp p 1 m)
/-- WXT_WPULL (R339). -/
def execWxtWpull (p : PortIx) (m : WxtMsg) (s : State) : Host.Outcome State Fault Refusal := .next (s.rxTyp p 3 m)
/-- WXT_WPUSH (R339). -/
def execWxtWpush (p : PortIx) (m : WxtMsg) (s : State) : Host.Outcome State Fault Refusal := .next (s.rxTyp p 4 m)
/-- WXT_ACK (R330). -/
def execWxtAck (p : PortIx) (m : WxtMsg) (s : State) : Host.Outcome State Fault Refusal := .next (s.rxTyp p 9 m)
/-- WXT_NACK (R332). -/
def execWxtNack (p : PortIx) (m : WxtMsg) (s : State) : Host.Outcome State Fault Refusal := .next (s.rxTyp p 0x0A m)

/-! ### Transport timers -/

/-- ACK_TIMER (R330): 2 µs have passed since a flow's first frame not yet acknowledged; the flow may have closed since. -/
def execAckTimer (p : PortIx) (peer : BitVec 128) (flow : W32) (s : State) : Host.Outcome State Fault Refusal :=
  match (s.port p).flowIn peer flow with
  | some f => .next (if f.owed && s.portOn p && s.linkIsUp p then s.sendAck p f else s)
  | none => .next (if s.portOn p && s.linkIsUp p then s.lastAck p peer flow else s)

/-- A flow fails: its buffer is discarded and it starts again at SEQ 0 (R332). -/
def State.failFlow (s : State) (p : Nat) (express : Bool) : State :=
  let x := s.port p
  let f := x.out express
  let s := (s.setPort p (x.setOut express { wait := f.wait })).fset fPrtWxtStatFlowFailed 1 p
  (s.portRec p 3).drain p

/-- RTO_EXPIRY (R332): a frame's timeout; timers do not run while the link is down. -/
def execRtoExpiry (p : PortIx) (express : Bool) (seq : W32) (s : State) : Host.Outcome State Fault Refusal :=
  if !(s.portOn p && s.linkIsUp p) then .next s
  else match ((s.port p).out express).buf.find? fun t => t.seq = seq with
    | none => .next s
    | some t =>
      let t' := { t with timeouts := t.timeouts + 1 }
      if max 1 (s.fget fPrtWxtCtrlRetryMax p) ≤ t'.timeouts then .next (s.failFlow p express)
      else .next (s.resend p express t t')

/-- FLOW_IDLE_CLOSE (R328). -/
def execFlowIdleClose (p : PortIx) (peer : BitVec 128) (flow : W32) (s : State) : Host.Outcome State Fault Refusal :=
  .next ((s.closeFlow p peer flow).pfcCheck p)

/-- HELLO_TIMER (R333): 250 ms without registration, or 10 s with it. -/
def execHelloTimer (p : PortIx) (s : State) : Host.Outcome State Fault Refusal :=
  if s.helloOk p then
    let s := s.sendHello p
    .next (if s.fbit fPrtWxtStatRegistered p then s else s.setPort p { s.port p with helloSent := true })
  else .next s

/-- REG_LATE (R333): 2 s since the first HELLO without registration. -/
def execRegLate (p : PortIx) (s : State) : Host.Outcome State Fault Refusal :=
  let x := s.port p
  if x.helloSent && !x.late && !(s.fbit fPrtWxtStatRegistered p) then
    .next (((s.setPort p { x with late := true }).fset fPrtWxtStatRegLate 1 p).portRec p 4)
  else .next s

/-! ### Priority flow control (R322) -/

/-- PFC_FRAME (R322): a received frame: its enabled priorities and the 8 times in quanta, priority 0 in the low bits. A
time pauses a priority, time 0 releases it. -/
def execPfcFrame (p : PortIx) (line : RxLine) (enable : Byte) (quanta : BitVec 128) (s : State) : Host.Outcome State Fault Refusal :=
  if !(s.portOn p && s.linkIsUp p) then .next s
  else
    let q := s.rxLine p line 64
    if !q.1 then .next q.2 else
    let s := q.2
    let x := s.port p
    let time (i : Nat) : Nat := if enable.getLsbD i then fld quanta.toNat (16 * i) 16 else 0
    let paused := (List.range 8).foldl (fun (m : Byte) i => if enable.getLsbD i then setBit m i (time i ≠ 0) else m) x.paused
    let s := s.portEvent p 0x08 ((List.range 8).map time).sum
    .next ((s.setPort p { x with paused := paused }).drain p)

/-- PFC_PAUSE_EXPIRY (R322): a pause's time has run out. -/
def execPfcPauseExpiry (p : PortIx) (prio : BitVec 3) (s : State) : Host.Outcome State Fault Refusal :=
  let x := s.port p
  .next ((s.setPort p { x with paused := setBit x.paused prio.toNat false }).drain p)

/-- PFC_REFRESH (R322): 300 ns after the last pause, while the buffer stands at or above XOFF. -/
def execPfcRefresh (p : PortIx) (s : State) : Host.Outcome State Fault Refusal :=
  if (s.port p).pauseSent && s.aboveXoff p && s.fbit fPrtNetCfgPfcEn p && s.linkIsUp p then .next (s.sendPfc p 0xFFFF) else .next s

/-! ### Synchronous Ethernet and neighbours (R321, R341) -/

/-- ESMC_PDU (R341): its SSM code, its enhanced SSM code where the extended TLV is present, its event flag. -/
def execEsmcPdu (p : PortIx) (line : RxLine) (ssm : BitVec 4) (essm : Option Byte) (event : Bool) (s : State) : Host.Outcome State Fault Refusal :=
  if !(s.portOn p && s.linkIsUp p) then .next s
  else
    let q := s.rxLine p line 64
    if !q.1 then .next q.2 else
    let s := q.2
    let s := if s.fget fPrtEsmcSsm p = ssm.toNat then s else s.fset fPrtEsmcChangeSeen 1 p
    let s := ((s.fset fPrtEsmcSsm ssm.toNat p).finc fPrtEsmcPduCount p).fset fPrtEsmcQlFailed 0 p
    let s := match essm with
      | some e => s.fset fPrtEsmcEssm e.toNat p
      | none => s
    .next (if event then s.fset fPrtEsmcEventSeen 1 p else s)

/-- QL_TIMEOUT (R341). -/
def execQlTimeout (p : PortIx) (s : State) : Host.Outcome State Fault Refusal :=
  .next (if s.portOn p then s.fset fPrtEsmcQlFailed 1 p else s)

/-- NEIGHBOUR_REQUEST (R319, R321): a received frame of a size that is neither WXT nor a control frame; own says that it is an
ARP request or a neighbour solicitation for the port's address, half that it came on half 1 of a breakout link, which answers
with its own MAC address. -/
def execNeighbourRequest (p : PortIx) (line : RxLine) (size : W16) (half own : Bool) (s : State) : Host.Outcome State Fault Refusal :=
  if !(s.portOn p && s.linkIsUp p) then .next s
  else
    let q := s.rxLine p line size.toNat
    if !q.1 then .next q.2
    else if own then
      let s := q.2.portEvent p 0x01 1
      let x := s.port p
      let h := half && s.breakout p
      .next (s.setPort p { x with sent := x.sent ++ [.neighbour h (s.ownIp p) (s.halfMac p h)] })
    else .next (q.2.rxDrop p)

/-! ### Links (R317, R318) -/

/-- LINK_UP (R318, R323): a training link comes up; preempt says that 802.3br verification succeeded, half1 that half 1
of a breakout link is up too. A port whose transmit clock has failed stays down (R385). -/
def execLinkUp (p : PortIx) (preempt half1 : Bool) (s : State) : Host.Outcome State Fault Refusal :=
  let st := s.fget fPrtLinkStatState p
  if s.portOn p && (st = 1 || st = 3) && !((s.fget fCkmDomPtxFail).testBit p) then
    let s := if st = 3 then s.finc fPrtLinkStatRetrainCount p else s
    let s := (((s.fset fPrtLinkStatState 2 p).fset fPrtLinkStatUp0 1 p).fset fPrtLinkStatUp1 (b2n (half1 && s.breakout p)) p)
    .next (((s.fset fPrtLinkStatPreempt (b2n preempt) p).fset fPrtLinkCtrlRetrain 0 p).drain p)
  else .next s

/-- The link's halves and preemption are gone. -/
def State.linkDown (s : State) (p st : Nat) : State :=
  (((s.fset fPrtLinkStatState st p).fset fPrtLinkStatUp0 0 p).fset fPrtLinkStatUp1 0 p).fset fPrtLinkStatPreempt 0 p

/-- Retrain a port's link (R318): training disturbs the clock that it recovers (R401). -/
def State.retrain (s : State) (p : Nat) : State :=
  if s.fbit fPrtLinkCtrlLinkEn p then ((s.linkDown p 3).fset fPrtLinkCtrlRetrain 1 p).tpLost p else s

/-- LINK_RETRAIN (R318): a write of PRT_LINK_CTRL.RETRAIN. -/
def execLinkRetrain (p : PortIx) (s : State) : Host.Outcome State Fault Refusal :=
  .next (if s.portOn p then s.retrain p else s)

/-- LINK_TRAIN_TIMEOUT (R318): with AUTO_RETRAIN the port tries again at once. -/
def execLinkTrainTimeout (p : PortIx) (s : State) : Host.Outcome State Fault Refusal :=
  let st := s.fget fPrtLinkStatState p
  if st = 1 || st = 3 then
    let s := ((s.linkDown p 4).fset fPrtLinkCtrlRetrain 0 p).portRec p 2
    .next (if s.fbit fPrtLinkCtrlAutoRetrain p then s.fset fPrtLinkStatState st p else s)
  else .next s

/-! ### The gradient exporter (R336) -/

/-- GX_ROUND_DONE (R336): the round of GX_FLAG has completed; an export begins, and at its end the agent arrives again. -/
def execGxRoundDone (p : PortIx) (s : State) : Host.Outcome State Fault Refusal :=
  let c := portCanton p
  let flag := s.fget fPrtGxCtrlGxFlag p
  match s.sliceOf c with
  | none => .next s
  | some n =>
    let r := s.round n flag
    if !(s.fbit fPrtGxCtrlGxEn p && r.toTake.contains c) then .next s
    else
      let s := s.setRound n flag { r with toTake := r.toTake.filter (· ≠ c) }
      let g : GxRun := { step := s.cstep p + 1, fmt := s.fget fPrtGxCtrlFmt p, off := 0, left := s.fget fPrtGxCtrlElems p }
      .next (((s.setPort p { s.port p with gx := some g }).fset fPrtGxCtrlBusy 1 p).gxOn p)

/-! ### The update engine's steps -/

/-- UE_APPLIED (R298, R301, R309, R337): every group is written. -/
def execUeApplied (p : PortIx) (s : State) : Host.Outcome State Fault Refusal :=
  let x := s.port p
  if s.ueState p = 2 && x.grad.isEmpty && s.ueStripes p ≤ 8 * x.group then
    let step := s.cstep p + 1
    let s := s.setUe p 3
    let s := if x.stepNf = 0 && x.stepOv = 0 then s
      else s.ueRec p 0x18 2 0 (x.stepNf % 2 ^ 32 * 2 ^ 32 + x.stepOv % 2 ^ 32)
    let s := if s.digestStep p step then
        let s := (s.fset fPrtUeDig2 (s.fget fPrtUeDig0 p) p).fset fPrtUeStepDigStep step p
        s.sendRel p 5 step (beBytes 8 (s.fget fPrtUeDig0 p))
      else s
    .next ((s.sendRel p 7 step (beBytes 4 (min x.stepNf (2 ^ 32 - 1)) ++ beBytes 4 (min x.stepOv (2 ^ 32 - 1)))).settle p)
  else .next s

/-- REFRESH_END (R307, R311, R312): entries of the table that could not be handled before go on; once every one is handled the
agent arrives, and from REFRESH the engine returns to READY. A refresh that a recovery started runs in any other state
(R443). -/
def execRefreshEnd (p : PortIx) (s : State) : Host.Outcome State Fault Refusal :=
  if s.ueState p = 8 then .next s
  else
    let s := s.refreshOn p
    if !(s.refreshed p) then .next s else
    let s := if (s.port p).refreshAt.isSome then (s.setPort p { s.port p with refreshAt := none }).refreshArrive p else s
    .next (if s.ueState p = 4 then (s.setUe p 1).settle p else s)

/-! ### The commands -/

/-- UE_GROUP_APPLY (R304, R313): the next group of port p, where 256 elements of its step wait. -/
def execUeGroupApply (p : PortIx) (s : State) : Host.Outcome State Fault Refusal :=
  if !(s.groupReady p) then .next s
  else
    let q := s.groupFault p (s.port p).group (s.cstep p)
    match q.1 with
    | some (i, k) => .next ((q.2.ueFault p i k).settle p)
    | none => .next ((q.2.applyGroup p).settle p)

/-- SCAN of a PRT_UE_CMD in BUSY: the engine then returns to the state it had (R314). -/
def execUeScan (p : PortIx) (s : State) : Host.Outcome State Fault Refusal :=
  if s.cmdWaits p 1 then
    let q := s.scan p
    .next (q.2.cmdDone p q.1 (q.2.port p).was)
  else .next s

/-- UE_ROLLBACK (R314). -/
def execUeRollback (p : PortIx) (s : State) : Host.Outcome State Fault Refusal :=
  .next (if s.cmdWaits p 2 then s.rollback p (s.fget fPrtUeCmdTarget p) else s)

/-- UE_ROLLFWD (R314). -/
def execUeRollfwd (p : PortIx) (s : State) : Host.Outcome State Fault Refusal :=
  .next (if s.cmdWaits p 3 then s.rollfwd p (s.fget fPrtUeCmdTarget p) else s)

/-- UE_EXPEL_CLR (R310, R314). -/
def execUeExpelClr (p : PortIx) (s : State) : Host.Outcome State Fault Refusal :=
  if s.cmdWaits p 4 then
    .next (if (s.port p).was = 6 then (s.stepReset p).cmdDone p 0 1 else s.cmdDone p 1 (s.port p).was)
  else .next s

/-- UE_INIT (R314). -/
def execUeInit (p : PortIx) (s : State) : Host.Outcome State Fault Refusal :=
  .next (if s.cmdWaits p 5 then s.initShard p (s.fget fPrtUeCmdTarget p) else s)

/-- The engine leaves BUSY for a state; a refresh that the command found in progress goes on only in REFRESH. -/
def State.ueLeave (s : State) (p st : Nat) : State :=
  let s := s.setUe p st
  if st = 4 then s else s.setPort p { s.port p with refreshAt := none }

/-- What a command in BUSY ends with takes effect (R314). -/
def State.ueEnd (s : State) (p : Nat) : State :=
  match (s.port p).cmdEnd with
  | none => s
  | some e =>
    if s.ueState p ≠ 8 then s
    else
      let s := ((s.setPort p { s.port p with cmdEnd := none }).fset fPrtUeCmdOp 0 p).fset fPrtUeStatCmdResult e.result p
      (if !e.commit then s.ueLeave p e.state
       else if e.state = 6 then (s.committed p (s.cstep p)).ueLeave p 6 else s.commitFrom p (s.cstep p)).settle p

/-- UE_COMMAND_END (R314): CMD_RESULT, and the state the command ends in. -/
def execUeCommandEnd (p : PortIx) (s : State) : Host.Outcome State Fault Refusal := .next (s.ueEnd p)

/-- A command that was written during the SCAN of an enable then runs. -/
def State.ueNext (s : State) (p : Nat) : State := if s.fget fPrtUeCmdOp p = 0 then s else s.ueBusy p

/-- UE_ENABLE (R449): the SCAN after EN = 1. -/
def execUeEnable (p : PortIx) (s : State) : Host.Outcome State Fault Refusal :=
  if s.ueState p = 8 && (s.port p).enabling && !(s.bayWaits p) then
    let q := s.scan p
    let s := q.2.setPort p { q.2.port p with enabling := false }
    if q.1 = 0 && !(s.fbit fPrtUeScanInvalid p) && s.fget fPrtUeScanSpread p = 0 then
      .next ((((s.fset fPrtUeStepCstep (s.fget fPrtUeScanMin p) p).fset fPrtUeStatCmdResult 0 p).setUe p 1).ueNext p)
    else .next (((s.fset fPrtUeStatCmdResult (if q.1 = 0 then 1 else q.1) p).setUe p 5).ueNext p)
  else .next s

end Sys2Proof.Machine
end

