-- ==== Sys2Proof/Machine/Descs.lean ====
section
/-! DEFINITION. Rings and descriptors: doorbells, fetch, validity, and which descriptor may start (R351 to R357, R366). -/
namespace Sys2Proof.Machine

/-! ### The transaction's end by its owner (R366) -/

/-- TXN_STAT.STATE. -/
def State.txnState (s : State) : Nat := s.fget fTxnStatState

/-- Signal a transaction's outcome (R365). -/
def State.txnSignal (s : State) : State := if s.fbit fHifCtrlTxnIrqEn then s.msi (s.fget fHifCtrlTxnVec) else s

/-- Abort the open transaction: its entries are discarded and STATE becomes ABORTED (R366). -/
def State.txnDrop (s : State) : State :=
  let s := s.updHost fun h => { h with txn := { h.txn with stage := [], desc := none, asked := [], votes := [], apply := [] } }
  (((s.fset fTxnStatState 5).fset fTxnStatCount 0).fset fTxnStatOverflow 0).txnSignal

/-- Whether ring r owns the transaction. -/
def State.txnOwnedBy (s : State) (r : Nat) : Bool := s.fbit fTxnStatOwnerRing && s.fget fTxnStatRing = r

/-- The owning ring leaves ACTIVE: an OPEN transaction is aborted (R366). -/
def State.ringLeaves (s : State) (r : Nat) : State :=
  if s.txnState = 1 && s.txnOwnedBy r then s.txnDrop else s

/-! ### Rings (R351, R352) -/

/-- A ring enters ERROR with its cause (R352). -/
def State.ringError (s : State) (r cause : Nat) : State :=
  let s := s.setRing r { s.ring r with state := 3, cause := BitVec.ofNat 8 cause }
  ((s.fset fHifStatErrRing r).fset fHifStatErrRingValid 1).ringLeaves r

/-- Note a doorbell error (R352). -/
def State.dbError (s : State) : State := s.fset fHifStatDbErrSeen 1

/-- Whether doorbells reach the engine: outside D3hot, with Memory Space Enable (R343). -/
def HostIf.decodes (h : HostIf) : Bool := h.mse && !h.d3

/-- SQ_TAIL_DOORBELL (R352). -/
def execSqTailDoorbell (r : RingIx) (v : W32) (s : State) : Host.Outcome State Fault Refusal :=
  let x := s.ring r
  if !s.host.decodes then .next s
  else if v = x.sqTail && x.state ≠ 0 then .next s
  else if x.state = 1 then
    if x.n < modSub 32 v.toNat x.sqFetch.toNat then .next (s.ringError r 1)
    else .next (s.setRing r { x with sqTail := v })
  else .next s.dbError

/-- CQ_HEAD_DOORBELL (R352): a head is in range when CQ_PROD − CQ_HEAD is from 0 to N and the head does not pass back. -/
def execCqHeadDoorbell (r : RingIx) (v : W32) (s : State) : Host.Outcome State Fault Refusal :=
  let x := s.ring r
  if !s.host.decodes then .next s
  else if v = x.cqHead && x.state ≠ 0 then .next s
  else if x.state = 0 || x.state = 2 then .next s.dbError
  else
    let d := modSub 32 x.cqProd.toNat v.toNat
    if x.n < d then
      if x.state = 3 then .next s.dbError else .next (s.ringError r 2)
    else .next (s.setRing r { x with cqHead := v })

/-- Whether a ring has a descriptor that may be fetched (R351, R352). -/
def Ring.fetchable (x : Ring) : Bool :=
  x.state = 1 && x.sqFetch ≠ x.sqTail && modSub 32 x.sqFetch.toNat x.cqHead.toNat < x.n

/-- The ring to fetch from (R353): the ring served last while its turn has descriptors left, else the next in ascending
order after it. -/
def State.nextRing (s : State) : Option Nat :=
  let last := s.host.served.toNat
  let x := s.ring last
  if x.fetchable && 0 < s.host.turn && s.host.turn < max 1 x.weight.toNat then some last
  else
    let rs := (s.host.rings.map (·.1)).filter fun r => (s.ring r).fetchable
    match rs.find? fun r => decide (last < r) with
    | some r => some r
    | none => rs.head?

/-! ### Validity (R355 to R357) -/

/-- Whether an opcode names a slice (R356). -/
def namesSlice (op : Nat) : Bool := (1 ≤ op && op ≤ 4) || op = 8

/-- Whether the operand bytes outside the listed fields are zero; fields as (offset, size). -/
def Desc.onlyIn (d : Desc) (fs : List (Nat × Nat)) : Bool :=
  (List.range 48).all fun i => d.byte (16 + i) = 0 || fs.any fun (p : Nat × Nat) => p.1 ≤ 16 + i && 16 + i < p.1 + p.2

/-- Bytes of a QUERY's table (R357). -/
def querySize (what : Nat) : Nat :=
  match what with
  | 0 => 28800
  | 1 => 256
  | _ => 64

/-- The operands of an opcode are in range and aligned, and nothing else is set (R357). -/
def Desc.operandsOk (d : Desc) : Bool :=
  match d.op with
  | 0x01 =>
    d.onlyIn [(16, 3), (24, 16)] && d.byte 16 ≤ 2 && d.fld 24 8 % 64 = 0 &&
    (if d.byte 16 = 2 then d.byte 18 ≤ 3 && d.fld 24 8 = 0 else d.byte 18 = 0)
  | 0x03 => d.onlyIn [(16, 3)] && 1 ≤ d.byte 16 && d.byte 16 ≤ 15 && 1 ≤ d.byte 17 && d.byte 17 ≤ 2 && d.byte 18 ≤ 15
  | 0x05 =>
    d.onlyIn [(16, 21), (40, 16)] && d.fld 16 8 % 64 = 0 && d.fld 24 8 % 64 = 0 && d.fld 32 4 % 64 = 0 &&
    64 ≤ d.fld 32 4 && d.byte 36 ≤ 2 && d.fld 40 8 % 64 = 0
  | 0x06 =>
    d.onlyIn [(16, 8)] && 1 ≤ d.fld 18 2 &&
    (if d.byte 16 = 0 then d.byte 17 = 0 && d.fld 20 4 + d.fld 18 2 ≤ 4800
     else d.byte 16 = 1 && d.byte 17 < 40 && d.fld 20 4 + d.fld 18 2 ≤ 128)
  | 0x07 => d.onlyIn [(16, 1)] && d.byte 16 ≤ 1
  | 0x08 =>
    d.onlyIn [(16, 2), (24, 16)] && d.byte 16 ≤ 1 && d.byte 17 ≤ 1 && d.fld 24 8 % 64 = 0 && d.fld 32 8 % 64 = 0
  | 0x09 =>
    d.onlyIn [(16, 2), (24, 16)] && 1 ≤ d.byte 16 && d.byte 16 ≤ 15 && d.byte 17 ≤ 1 && d.fld 24 8 % 64 = 0
  | 0x0A =>
    d.onlyIn [(16, 1), (24, 16)] && d.byte 16 ≤ 2 && d.fld 24 8 % 64 = 0 && querySize (d.byte 16) ≤ d.fld 32 8
  | 0x11 =>
    let n := d.byte 3
    1 ≤ n && n ≤ 3 && d.onlyIn ((List.range n).flatMap fun i => [(16 + 16 * i, 4), (24 + 16 * i, 8)]) &&
    (List.range n).all fun i => d.fld (16 + 16 * i) 4 % 8 = 0 && d.fld (16 + 16 * i) 4 < 0x1000000
  | op => (op = 0x00 || op = 0x02 || op = 0x04 || op = 0x10 || op = 0x12 || op = 0x13) && d.onlyIn []

/-- Whether a descriptor is valid (R355). -/
def Desc.ok (d : Desc) : Bool :=
  let op := d.op
  d.byte 1 < 4 && d.byte 2 < 16 && (d.byte 2 = 0 || namesSlice op || (op = 0x09 && d.byte 17 = 1)) &&
  (op = 0x11 || d.byte 3 = 0) &&
  (d.fld 8 4 = 0 || op = 0x02 || (op = 0x03 && d.byte 17 = 1)) &&
  (if op = 0x01 then d.fld 12 2 ≠ 0xFFFF else d.fld 12 2 = 0) && d.fld 14 2 = 0 && d.operandsOk

/-- Take one fetched descriptor in (R355, R348): an invalid one completes with INVALID_DESC; in FAULT all but the free
opcodes and the transaction forms complete with ENGINE_STATE. -/
def State.accept (s : State) (d : Desc) : State :=
  let s := s.updHost fun h => { h with descs := h.descs ++ [d] }
  if !d.ok then s.complete d { status := 0x01 }
  else if s.engine = 8 && !(freeOp d.op) && !(0x10 ≤ d.op && d.op ≤ 0x13) then s.complete d { status := 0x0E }
  else s

/-- DESCRIPTOR_FETCH (R353): the descriptor at SQ_FETCH of the next ring; ok says that the host answered the read (R346).
Nothing is fetched while the engine may not issue requests. -/
def execDescriptorFetch (ok : Bool) (s : State) : Host.Outcome State Fault Refusal :=
  if !s.host.master then .next s
  else match s.nextRing with
    | none => .next s
    | some r =>
      let x := s.ring r
      if !ok then .next ((s.fset fHifStatHostErrSeen 1).ringError r 3)
      else
        let bytes := s.hostRead (x.sqb.toNat * 64 + x.sqFetch.toNat % x.n * 64) 64
        let d : Desc := { ring := Fin.ofNat 4096 r, num := x.sqFetch, bytes := bytes }
        let turn := if s.host.served.toNat = r && 0 < s.host.turn && s.host.turn < max 1 x.weight.toNat then s.host.turn + 1 else 1
        let s := (s.setRing r { x with sqFetch := x.sqFetch + 1 }).updHost fun h => { h with served := BitVec.ofNat 12 r, turn := turn }
        .next (s.accept d)

/-! ### Starting a descriptor (R348, R354) -/

/-- Whether the engine's state lets an opcode start (R348). -/
def State.allows (s : State) (op : Nat) : Bool :=
  freeOp op || (0x10 ≤ op && op ≤ 0x13) || s.engine = 5 || s.engine = 6

/-- The oldest unstarted descriptor of ring r. -/
def State.ringHead (s : State) (r : Nat) : Option Desc := s.host.descs.find? fun d => d.ring.val = r && !d.started

/-- The descriptors fetched before d and not completed. -/
def State.before (s : State) (d : Desc) : List Desc := s.host.descs.takeWhile fun e => !(e.ring = d.ring && e.num = d.num)

/-- Whether the ring's next descriptor may start (R348, R351, R354). -/
def State.startable (s : State) (d : Desc) : Bool :=
  (s.ring d.ring).state = 1 && !s.host.d3 && s.allows d.op &&
  (!d.order || (s.before d).all fun e => e.ring ≠ d.ring) &&
  (!(namesSlice d.op) || (s.before d).all fun e => !(namesSlice e.op) || e.slice ≠ d.slice)

/-- Mark a descriptor started. -/
def State.start (s : State) (d : Desc) : State :=
  s.updHost fun h => { h with descs := h.descs.map fun e =>
    if e.ring = d.ring && e.num = d.num then { e with started := true } else e }

/-- The next descriptor of ring r, started, where p holds of it and it may start. -/
def State.take (s : State) (r : Nat) (p : Desc → Bool) : Option (Desc × State) :=
  match s.ringHead r with
  | some d => if p d && s.startable d then some ({ d with started := true }, s.start d) else none
  | none => none

/-- Perform the next descriptor of ring r with f, where p holds of it and it may start. -/
def State.perform (s : State) (r : Nat) (p : Desc → Bool) (f : Desc → State → State) : State :=
  match s.take r p with
  | some q => f q.1 q.2
  | none => s

end Sys2Proof.Machine
end

