-- ==== Sys2Proof/Machine/TileArith.lean ====
section
/-! DEFINITION. GMAC, CLOSE and TREE on one tile (R138 to R148, R72 to R90), with the checks of R61, R71 and R79. -/
namespace Sys2Proof.Machine

/-! ### Slot lanes of a tile -/

/-- Lane l of slot j: lane number 4j + l (R73). -/
def Tile.lane (t : Tile) (k : Nat) : Lane := SMap.get {} t.lanes k

/-- Write a slot lane. -/
def Tile.setLane (t : Tile) (k : Nat) (l : Lane) : Tile := { t with lanes := SMap.put {} t.lanes k l }

/-- The lanes of slot j that a mask names. -/
def maskLanes (j : Nat) (mask : Nat) : List Nat :=
  (List.range 4).filterMap fun l => if mask.testBit l then some (4 * j + l) else none

/-- The UNIT byte of a record for lane k (R426). -/
def unitByte (k : Nat) (masked : Bool) : Byte := BitVec.ofNat 8 (k % 4 + 4 * (k / 4) + (if masked then 32 else 0))

/-- A slot-state fault at lane k (R76): the record names the instruction, the slot and the lane. -/
def TX.slotFault (x : TX) (k : Nat) : TX :=
  (x.raise { x.instrRec 6 1 1 (BitVec.ofNat 8 (k % 4)) with unit := unitByte k false, action := 2 }).halt 0x02

/-- A stop for a poisoned address, count or control input, or for a poisoned store (R117). -/
def TX.poisonStop (x : TX) (cause : Byte) : TX :=
  ((x.eatPoison true).raise { x.instrRec 0x0A 1 3 0xFF with action := 2 }).halt cause

/-- Go on only where the instruction has not stopped. -/
def TX.andThen (x : TX) (f : TX → TX) : TX := if x.stop.isSome then x else f x

/-- A stop for a decode-table entry with wrong parity (R55). -/
def TX.tableStop (x : TX) (entry : Nat) : TX :=
  (x.raise { x.instrRec 3 1 5 7 with
    action := 2
    detail1 := BitVec.ofNat 64 (entry / 16 + 16 * (entry % 16)) }).halt 0x06

/-! ### The records of a GMAC's sides (R139 to R142) -/

/-- One record that a side supplies: its bits, whether it is poisoned, and whether a masked flit carried it, with the
raw bytes for a capture (R429). -/
structure SideRec where
  bits : Nat
  poison : Bool := false
  masked : Bool := false
  raw : Nat
  deriving DecidableEq, Repr

/-- The zero record that a poisoned address gives (R117). -/
def zeroRec : SideRec := { bits := 0, poison := true, raw := 0 }

/-- Read one record of n bytes: src 0 and 1 are operand buffers A and B, 2 is tile memory. -/
def TX.readRec (x : TX) (src addr n : Nat) : SideRec × TX :=
  let r := if src = 2 then x.readBytes addr n else x.readBuf (src = 1) addr n
  ({ bits := leNat r.1, poison := r.2.1, raw := leNat r.1 }, r.2.2)

/-- Read k records at consecutive addresses. -/
def TX.readRecs (x : TX) (src addr n : Nat) : Nat → List SideRec × TX
  | 0 => ([], x)
  | k + 1 =>
    let r := x.readRec src addr n
    let q := r.2.readRecs src (addr + n) n k
    (r.1 :: q.1, q.2)

/-- A side that reads k records of format fmt from an address (R140), none where the address is poisoned (R117). -/
def TX.sideRecs (x : TX) (src : Nat) (addr : Option Nat) (fmt k : Nat) : List SideRec × TX :=
  match addr with
  | none => (List.replicate k zeroRec, x.eatPoison true)
  | some a =>
    let r := x.readRecs src a (recordBytes fmt) k
    (r.1, r.1.foldl (fun x s => x.eatPoison s.poison) r.2)

/-- The record of a masked flit (R137). -/
def maskedSide (fmt : Nat) (f : Flit) : SideRec :=
  let p := f.payload.toNat
  if maskedOk fmt p then { bits := maskedRecord fmt p, poison := f.poison, masked := true, raw := p }
  else { bits := Config.malformedMasked fmt p, poison := true, masked := true, raw := p }

/-- Flits that a dense record of a format takes (R141). -/
def recFlits (fmt : Nat) : Nat := (recordBytes fmt + 31) / 32

/-- The most flits that k records still take after the flits of a list (R141). -/
def flitsLeft (fmt : Nat) : Nat → List Flit → Nat
  | 0, _ => 0
  | k + 1, [] => (k + 1) * recFlits fmt
  | k + 1, f :: fs =>
    if f.kind = 1 then flitsLeft fmt k fs
    else if fs.length + 1 < recFlits fmt then recFlits fmt - (fs.length + 1) + k * recFlits fmt
    else flitsLeft fmt k ((f :: fs).drop (recFlits fmt))

/-- Cut popped flits into k records (R141): none while a flit is missing. -/
def cutRecs (fmt : Nat) : Nat → List Flit → Option (List SideRec × List Flit)
  | 0, fs => some ([], fs)
  | _ + 1, [] => none
  | k + 1, f :: fs =>
    if f.kind = 1 then (cutRecs fmt k fs).map fun r => (maskedSide fmt f :: r.1, r.2)
    else
      let n := recFlits fmt
      let mine := (f :: fs).take n
      if mine.length < n then none
      else
        let w := leNat ((mine.flatMap Flit.bytes).take (recordBytes fmt))
        (cutRecs fmt k ((f :: fs).drop n)).map fun r =>
          ({ bits := w, poison := mine.any (·.poison), raw := w } :: r.1, r.2)

/-- The flits that the record under way still takes after some of a side's flits, need being due at their start. -/
def recDue (fmt : Nat) : Nat → List Flit → Nat
  | need, [] => need
  | 0, f :: fs => if f.kind = 1 then recDue fmt 0 fs else recDue fmt (recFlits fmt - 1) fs
  | need + 1, _ :: fs => recDue fmt need fs

/-- Whether the next flit of a side is consumed as a poisoned input (R117, R137): it carries poison, or it is a malformed
masked flit at the start of a record. -/
def flitPoison (fmt : Nat) (got : List Flit) (f : Flit) : Bool :=
  f.poison || (decide (f.kind = 1) && decide (recDue fmt 0 got = 0) && !(maskedOk fmt f.payload.toNat))

/-- A poisoned flit of kind control stops a GMAC (R117). -/
def badControl (f : Flit) : Bool := f.poison && f.kind = 3

/-! ### One iteration of a GMAC -/

/-- The raw 128 B of a capture for one side (R429): a T4 record is followed by its table. -/
def captureSide (t : DecodeTables) (fmt : Nat) (s : SideRec) : List Byte :=
  if s.masked then padTo 128 (leBytes 32 s.raw)
  else if fmt = 0x0D then
    padTo 128 (leBytes 20 s.raw ++
      (List.range 16).flatMap fun i => leBytes 2 (tableEntry t (16 * fld (metaWord fmt s.bits) 0 3 + i)).1.toNat)
  else padTo 128 (leBytes (recordBytes fmt) s.raw)

/-- The cause and class of a failed check (R61, R71, R79). -/
def checkCause : CheckKind → Byte
  | .decode => 0x03
  | .residue => 0x04
  | .slot => 0x05
  | .convert => 0x05

/-- The error class of a failed check (R427). -/
def checkCls : CheckKind → W16
  | .decode => 0x0004
  | .residue => 0x0005
  | .slot => 0x0007
  | .convert => 0x0007

/-- The capture of a slot-check record (R429): the lane before the update, then the group result or TREE operand. -/
def slotCapture (l : Lane) (v : Nat) : List Byte :=
  padTo 256 (leBytes 8 l.laneBits ++ padTo 8 (leBytes 2 l.stateBits) ++ leBytes 8 v)

/-- The pair of a group result as a slot-check capture holds it (R429), for an INT lane too: the split pair of R77 of the
integer result (DESIGN CHOICE, log entry 86). -/
def pairNat (g : GroupResult) : Nat := let p := splitPair g.val; p.1.toNat + 2 ^ 32 * p.2.1.toNat

/-- A failed check of lane k: the record, and the stop where the retry failed too. -/
def TX.check (x : TX) (e : CheckEv) (k : Nat) (r : Rec) : TX :=
  let r := { r with cls := (checkCls e.kind), disp := if e.again then 1 else 0, unit := r.unit ||| unitByte k false,
                    action := if e.again then 2 else 1 }
  if e.again then (x.raise r).halt (checkCause e.kind)
  else ((x.raise r).upd fun t => { t with status := { t.status with corrected := true } }).count 0x07 1

/-- Whether a checker looks at a group on its way into a lane: the residue check at a finite result (R69), the slot check
at an ACCUMULATE whose sum t is finite (R79), and at every ACCUMULATE of an INT lane (R80). -/
def checkApplies (act : Nat) (l : Lane) (g : GroupResult) : CheckKind → Bool
  | .decode => true
  | .residue => !g.val.special
  | .slot => decide (act = 1) && (l.intMode || !((val32 (add32 l.hi (splitPair g.val).1)).special))
  | .convert => false

/-- What the checkers saw at one group, in the order of the pipeline (R61, R71, R79): the event of the decoders, of the
residue check and of the slot, up to the first that failed again. -/
def groupChecks (chk : List CheckEv) (iter unit : Nat) (skip : Bool) (act : Nat) (l : Lane) (g : GroupResult) :
    List CheckEv :=
  let ev (k : CheckKind) : List CheckEv :=
    (chk.find? fun e => decide (e.iter = iter) && decide (e.unit.val = unit) && e.kind = k).toList
  let upTo : List CheckEv → List CheckEv := fun es =>
    es.take ((es.findIdx? (·.again)).elim es.length (· + 1))
  if skip then [] else upTo (([.decode, .residue, .slot].filter (checkApplies act l g)).flatMap ev)

/-- One group of a GMAC iteration into lane k (R72, R74), as the unit of that lane judges it by itself: where both sides
meet a bad table entry the record names the A side's, and each unit that fails raises a record of its own; event 0x03 counts
the groups of every iteration (DESIGN CHOICE, log entry 86). act is the slot action, skip the zero-group skip (R100). -/
def TX.groupInto (x : TX) (f : GmacF) (tb : DecodeTables) (act iter : Nat) (skip : Bool) (chk : List CheckEv) (k : Nat)
    (a b : SideRec) : TX :=
  let af := f.afmt.toNat
  let bf := f.bfmt.toNat
  let bad := match badTableEntry tb af a.bits with
    | some n => if a.masked then none else some n
    | none => none
  let bad := match bad with
    | some n => some n
    | none => badTableEntry tb bf b.bits
  match bad with
  | some n => x.tableStop n
  | none =>
    let g := group (decodeRecord tb af a.bits) (decodeRecord tb bf b.bits)
    let intg := fmtIsInt af && fmtIsInt bf
    let l := x.tile.lane k
    let evs := groupChecks chk iter (k % 4) skip act l g
    let x := evs.foldl (fun x e => x.check e k { x.instrRec (checkCls e.kind) 1 1 (BitVec.ofNat 8 (k % 4)) with
          unit := unitByte 0 a.masked
          resExp := if e.kind = .residue then e.resExp else 0xFF
          resAct := if e.kind = .residue then e.resAct else 0xFF
          capture := some (if e.kind = .slot then slotCapture l (pairNat g)
            else captureSide tb af a ++ captureSide tb bf b) }) x
    if evs.any (·.again) then x
    else
      let psn := a.poison || b.poison
      let x := x.upd (·.setLane k (Lane.act act intg l g psn))
      if skip then x
      else ((((x.count 0x03 1).count 0x05 (if 0 < g.shed then 1 else 0)).count 0x06 g.shed).count 0x1F
        (if af = 0 || bf = 0 then 4 else 0))

/-- The groups of one iteration: each unit that passes accumulates, and the first failure is the one that stops. -/
def TX.groups (x : TX) (f : GmacF) (tb : DecodeTables) (act iter : Nat) (skip : Bool) (chk : List CheckEv) :
    List Nat → List SideRec → List SideRec → TX
  | k :: ks, a :: as, b :: bs =>
    let x := x.groupInto f tb act iter skip chk k a b
    x.groups f tb act iter skip chk ks (if f.abc then a :: as else as) bs
  | _, _, _ => x

/-- The slot action of an iteration (R139). -/
def actOf (f : GmacF) (iter : Nat) : Nat := if iter = 0 then f.act.toNat else 1

/-- The lanes a GMAC writes. -/
def gmacLanes (f : GmacF) : List Nat := maskLanes f.slot.toNat f.lmask.toNat

/-- The first lane at which a GMAC meets a slot-state fault (R76). -/
def gmacFault (t : Tile) (f : GmacF) : Option Nat :=
  (gmacLanes f).find? fun k => laneFault f.act.toNat (fmtIsInt f.afmt.toNat && fmtIsInt f.bfmt.toNat) (t.lane k)

/-- Whether the A side is a queue. -/
def gmacAQueue (f : GmacF) : Bool := f.asrc.toNat < 5

/-- The records per iteration of the A side (R139). -/
def gmacACount (f : GmacF) : Nat := if f.abc then 1 else (gmacLanes f).length

/-- The address that register g gives a side. -/
def regAddr (t : Tile) (g : Nat) : Option Nat := if t.gPoison g then none else some ((t.getG g).toNat % 65536 / 4 * 4)

/-- The address registers of a GMAC are read with their checks. -/
def TX.gmacRegs (x : TX) (f : GmacF) : TX :=
  (if gmacAQueue f then x else x.touch 4 f.areg.toNat 1).touch 4 f.breg.toNat 1

/-- What a GMAC that issues on a tile holds. -/
def gmacBase (t : Tile) (f : GmacF) : GmacBase :=
  { a := regAddr t f.areg.toNat, b := regAddr t f.breg.toNat, tables := t.tables }

/-- The bytes that the A side reads in an iteration, and those that the B side reads (R139, R41). -/
def gmacBytesA (f : GmacF) : Nat := gmacACount f * recordBytes f.afmt.toNat
def gmacBytesB (f : GmacF) : Nat := (gmacLanes f).length * recordBytes f.bfmt.toNat

/-- The address of a side of n bytes in an iteration (R140). -/
def sideAddr (base : Option Nat) (n : Nat) (inc : Bool) (iter : Nat) : Option Nat :=
  base.map fun a => (a + if inc then iter * n else 0) % 65536

/-- The rows of tile memory that an iteration reads for a side of n bytes: a row that the side touches is read once in
the instruction (R133). -/
def sideRows (base : Option Nat) (n : Nat) (inc : Bool) (iter : Nat) : Nat :=
  match sideAddr base n inc iter with
  | none => 0
  | some a =>
    if iter = 0 then rowsTouched a n
    else if inc then rowsTouched a n - (if a % 64 = 0 then 0 else 1)
    else 0

/-- The rows of tile memory that an iteration of a GMAC reads. -/
def gmacRows (g : GmacBase) (f : GmacF) (iter : Nat) : Nat :=
  (if f.asrc = 6 then sideRows g.a (gmacBytesA f) f.ainc iter else 0) +
  (if f.bsrc then sideRows g.b (gmacBytesB f) f.binc iter else 0)

/-- The A records that an iteration reads by the A address, with the tile after the reads. -/
def TX.gmacSideA (x : TX) (f : GmacF) (g : GmacBase) (iter : Nat) : List SideRec × TX :=
  x.sideRecs (if f.asrc.toNat = 5 then 0 else 2) (sideAddr g.a (gmacBytesA f) f.ainc iter) f.afmt.toNat (gmacACount f)

/-- The B records that an iteration reads, with the tile after the reads. -/
def TX.gmacSideB (x : TX) (f : GmacF) (g : GmacBase) (iter : Nat) : List SideRec × TX :=
  x.sideRecs (if f.bsrc then 2 else 1) (sideAddr g.b (gmacBytesB f) f.binc iter) f.bfmt.toNat (gmacLanes f).length

/-- Advance the address registers after an iteration (R140). -/
def Tile.gmacInc (t : Tile) (f : GmacF) : Tile :=
  let t := if f.ainc then t.advG f.areg.toNat (gmacBytesA f) else t
  if f.binc then t.advG f.breg.toNat (gmacBytesB f) else t

/-- One iteration from its A records (R139 to R142): the B side is read, the groups enter the units, and where none fails
the address registers advance. -/
def TX.gmacIter (x : TX) (f : GmacF) (g : GmacBase) (iter : Nat) (skip : Bool) (chk : List CheckEv) (as : List SideRec) :
    TX :=
  let b := x.gmacSideB f g iter
  b.2.andThen fun y => (y.groups f g.tables (actOf f iter) iter skip chk (gmacLanes f) as b.1).andThen fun y =>
    y.upd fun t => t.gmacInc f

/-- One iteration whose A side has an address register. -/
def TX.gmacIterA (x : TX) (f : GmacF) (g : GmacBase) (iter : Nat) (skip : Bool) (chk : List CheckEv) : TX :=
  let a := x.gmacSideA f g iter
  a.2.andThen fun y => y.gmacIter f g iter skip chk a.1

/-- The queue that flit j of a GMAC's A stream comes from (R141). -/
def gmacQueueOf (f : GmacF) (j : Nat) : Nat :=
  if f.apair && j % 2 = 1 then (f.asrc.toNat + 1) % 5 else f.asrc.toNat

/-- The flits that a skip candidate's A side would pop, where all are at the heads of their queues (R100). -/
def skipFlits (t : Tile) (f : GmacF) : Option (List Flit) :=
  let n := (gmacACount f)
  let h0 := t.head (gmacQueueOf f 0)
  let one := match h0 with
    | some p => cutRecs f.afmt.toNat n [p] |>.map fun _ => [p]
    | none => none
  match one with
  | some fs => some fs
  | none =>
    if f.apair then match h0, t.head (gmacQueueOf f 1) with
      | some p, some q => (cutRecs f.afmt.toNat n [p, q]).map fun _ => [p, q]
      | _, _ => none
    else none

/-- Whether R100 skips a GMAC: every selected unit's group meets R59. -/
def gmacSkips (x : TX) (f : GmacF) : Bool :=
  let x := x.gmacRegs f
  if x.tile.ctrl.zskip && f.rep = 0 && f.afmt ≠ 0 && f.bfmt ≠ 0 && !f.bsrc && f.asrc ≠ 6 then
    let a : Option (List SideRec × TX) :=
      if gmacAQueue f then
        (skipFlits x.tile f).bind fun fs =>
          if fs.any badControl then none else (cutRecs f.afmt.toNat (gmacACount f) fs).map fun r => (r.1, x)
      else some (x.gmacSideA f (gmacBase x.tile f) 0)
    match a with
    | none => false
    | some a =>
      let b := a.2.gmacSideB f (gmacBase x.tile f) 0
      b.2.stop.isNone &&
      a.1.all (fun r => badTableEntry x.tile.tables f.afmt.toNat r.bits |>.isNone) &&
      b.1.all (fun r => badTableEntry x.tile.tables f.bfmt.toNat r.bits |>.isNone) &&
      a.1.all (fun r => allZero (decodeRecord x.tile.tables f.afmt.toNat r.bits)) &&
      b.1.all (fun r => !hasSpecial (decodeRecord x.tile.tables f.bfmt.toNat r.bits))
  else false

/-! ### CLOSE (R144 to R146) -/

/-- The lanes of a CLOSE, with their element positions in a V register. -/
def closeLanes (f : CloseF) : List Nat := if f.all then List.range 32 else maskLanes f.slot.toNat f.lmask.toNat

/-- Replace w bits at bit position p of x. -/
def putBits (w p v x : Nat) : Nat :=
  x - fld x p w * 2 ^ p + (v % 2 ^ w) * 2 ^ p

/-- The image of a 128 B register after elements (position, bits) of width w are written. -/
def putElems (w : Nat) : List (Nat × Nat) → Nat → Nat
  | [], x => x
  | (i, v) :: es, x => putElems w es (putBits w (w * i) v x)

/-- The converter check of a CLOSE or a TREE (R421). -/
def convCheck (chk : List CheckEv) : Option CheckEv := chk.find? fun e => e.kind = .convert

/-- CLOSE (R82 to R88, R144 to R146): the tile after it, and the flits it sends. -/
def TX.close (x : TX) (f : CloseF) (chk : List CheckEv) : List Flit × TX :=
  let ks := closeLanes f
  match ks.find? fun k => !(x.tile.lane k).isOpen with
  | some k => ([], x.slotFault k)
  | none =>
    let ls := ks.map x.tile.lane
    let fmt := f.dfmt.toNat
    let x := match convCheck chk with
      | none => x
      | some e => x.check e (ks.headD 0) { x.instrRec 7 1 1 (BitVec.ofNat 8 (e.unit.val)) with
          bfmt := BitVec.ofNat 8 fmt, capture := some (slotCapture (ls.headD {}) 0) }
    if x.stop.isSome then ([], x)
    else
      let psn := ls.any (·.poison)
      let rv := convRecord fmt f.rnd.toNat f.ovf.toNat (ls.map Lane.src)
      let x := ls.foldl (fun x l => x.eatPoison l.poison) x
      let x := x.upd fun t => (ks.foldl (fun t k => t.setLane k { t.lane k with isOpen := false }) t).report rv.2
        (ls.any (·.shd))
      let w := elemWidth fmt
      if f.dt then
        let bs := if f.all then leBytes 128 rv.1
          else leBytes 128 (putElems w ((ks.zip rv.2).map fun p => (p.1 % 4, p.2.bits)) 0)
        let n := if f.all then (recordBytes fmt + 31) / 32 else 1
        (mkFlits x.tile.epoch.cur 0 f.tag psn f.eot bs n, x)
      else if f.all then ([], x.upd fun t => t.setV f.vd.toNat (leBytes 128 rv.1) psn)
      else
        let x := x.touch 5 (16 * f.vd.toNat) 16
        ([], x.andThen fun x => x.upd fun t =>
          t.setV f.vd.toNat (leBytes 128 (putElems w ((ks.zip rv.2).map fun p => (p.1, p.2.bits))
            (leNat (t.vBytes f.vd.toNat)))) (psn || t.vPoison f.vd.toNat))

/-! ### TREE (R147, R148) -/

/-- Check the slot operands of a TREE, then write the destination lanes. comb l gives lane l's result. -/
def TX.treeWrite (x : TX) (f : TreeF) (chk : List CheckEv) (comb : Nat → Lane) : TX :=
  let x := match convCheck chk with
    | none => x
    | some e => x.check e (4 * f.dst.toNat + e.unit.val) { x.instrRec 7 1 1 (BitVec.ofNat 8 e.unit.val) with
        capture := some (slotCapture (x.tile.lane (4 * f.sa.toNat + e.unit.val))
          (x.tile.lane (4 * f.sb.toNat % 32 + e.unit.val)).laneBits) }
  x.andThen fun x =>
    let ls := (maskLanes 0 f.lmask.toNat).map fun l => (l, comb l)
    let x := ls.foldl (fun x p => x.eatPoison p.2.poison) x
    x.upd fun t => ls.foldl (fun t p => t.setLane (4 * f.dst.toNat + p.1) p.2) t

/-- The first closed lane among the slot operands of a TREE, lowest lane first and slot SA before SB. -/
def treeClosed (t : Tile) (f : TreeF) : Option Nat :=
  ((maskLanes 0 f.lmask.toNat).flatMap fun l =>
    (4 * f.sa.toNat + l) :: (if f.form then [] else [4 * f.sb.toNat + l])).find? fun k => !(t.lane k).isOpen

/-- TREE of two slots. -/
def TX.treeSlots (x : TX) (f : TreeF) (chk : List CheckEv) : TX :=
  x.treeWrite f chk fun l => treeLane (x.tile.lane (4 * f.sa.toNat + l)) (x.tile.lane (4 * f.sb.toNat + l))

/-- TREE of a slot and a partial whose two flits have been popped (R90). A closed lane of the partial is a slot-state fault
whose record names DST, since the partial comes from no slot (DESIGN CHOICE, log entry 86). -/
def TX.treePartial (x : TX) (f : TreeF) (chk : List CheckEv) (p1 p2 : Flit) : TX :=
  if p1.poison || p2.poison then
    x.treeWrite f chk fun l => { x.tile.lane (4 * f.sa.toNat + l) with poison := true }
  else
    let lane (l : Nat) := partialLane p1.payload p2.payload l
    match (maskLanes 0 f.lmask.toNat).find? fun l => !(lane l).isOpen with
    | some l => x.slotFault (4 * f.dst.toNat + l)
    | none => x.treeWrite f chk fun l =>
        let s := x.tile.lane (4 * f.sa.toNat + l)
        if f.ord then treeLane (lane l) s else treeLane s (lane l)

end Sys2Proof.Machine
end

