-- ==== Sys2Proof/Machine/TileVec.lean ====
section
/-! DEFINITION. Vector and move instructions of one tile (R149 to R155). -/
namespace Sys2Proof.Machine

/-- Read V register n with its checks. -/
def TX.useV (x : TX) (n : Nat) : TX := (x.touch 5 (16 * (n % 8)) 16).eatPoison (x.tile.vPoison n)

/-- Read G register n with its checks. -/
def TX.useG (x : TX) (n : Nat) : TX := (x.touch 4 n 1).eatPoison (x.tile.gPoison n)

/-- Read the V registers of a list. -/
def TX.useVs (x : TX) (ns : List Nat) : TX := ns.foldl TX.useV x

/-- The steps 0 to VN (R149). -/
def steps (vn : BitVec 3) : List Nat := List.range (vn.toNat + 1)

/-- Lanes of a broadcast or plain second or third operand. -/
def vopSrc (t : Tile) (reads bcast : Bool) (v lane i : Nat) : List W32 :=
  if !reads then List.replicate 32 0
  else if bcast then List.replicate 32 ((t.vLanes v).getD lane 0)
  else t.vLanes (v + i)

/-- The registers that step i of a VOP reads. -/
def vopRegs (f : VopF) (i : Nat) : List Nat :=
  [f.va.toNat + i] ++
  (if vopReadsB f.op.toNat then [if f.bb then f.vb.toNat else f.vb.toNat + i] else []) ++
  (if vopReadsC f.op.toNat then [if f.bc then f.vc.toNat else f.vc.toNat + i] else [])

/-- The lanes of step i of a VOP, each with whether it is invalid under R101. -/
def vopStep (t : Tile) (f : VopF) (i : Nat) : List (W32 × Bool) :=
  let op := f.op.toNat
  let a := t.vLanes (f.va.toNat + i)
  let b := vopSrc t (vopReadsB op) f.bb f.vb.toNat f.blb.toNat i
  let c := vopSrc t (vopReadsC op) f.bc f.vc.toNat f.blc.toNat i
  (a.zip (b.zip c)).map fun p => vopLane op p.1 p.2.1 p.2.2

/-- VOP (R149, R150): every step reads the registers as they stood before the VOP. -/
def TX.vop (x : TX) (f : VopF) : TX :=
  (x.useVs ((steps f.vn).flatMap (vopRegs f))).andThen fun x =>
    let t0 := x.tile
    (x.upd fun t => (steps f.vn).foldl (fun t i =>
      let r := vopStep t0 f i
      (t.setLanes (f.vd.toNat + i) (r.map (·.1)) ((vopRegs f i).any t0.vPoison)).invalid (r.any (·.2))) t).count 0x0F 1

/-- VSFN (R151). Every step reads its source as it stood before the VSFN, as R150 has it for VOP: the spec does not say it
of a VSFN (DESIGN CHOICE, log entry 86). -/
def TX.vsfn (x : TX) (f : VsfnF) : TX :=
  (x.useVs ((steps f.vn).map fun i => f.va.toNat + i)).andThen fun x =>
    let t0 := x.tile
    (((x.upd fun t => (steps f.vn).foldl (fun t i =>
      let a := t0.vLanes (f.va.toNat + i)
      let r := a.map (sfn32 f.fn.toNat)
      (t.setLanes (f.vd.toNat + i) r (t0.vPoison (f.va.toNat + i))).invalid
        ((a.zip r).any fun p => madeNan p.2 [p.1])) t).count 0x0F 1).count 0x0E (32 * (f.vn.toNat + 1)))

/-- VRED (R152). -/
def TX.vred (x : TX) (f : VredF) : TX :=
  let ns := (steps f.vn).map fun i => f.va.toNat + i
  (x.useVs ns).andThen fun x => (x.upd fun t =>
    let regs := ns.map t.vLanes
    let r := vredValue f.rop.toNat regs
    (t.setLanes f.vd.toNat (List.replicate 32 r) (ns.any t.vPoison)).invalid (madeNan r regs.flatten)).count 0x0F 1

/-- The record at byte 0 of a V register. -/
def vRecord (t : Tile) (v fmt : Nat) : Nat := leNat ((t.vBytes v).take (recordBytes fmt))

/-- Whether the scale of a zero-point record is infinite (R102). -/
def zpInf (fmt rec_ : Nat) : Bool :=
  if fmt = 0x0E then fmtFP16.isInf (fld (metaWord fmt rec_) 0 16)
  else if fmt = 0x0F then fmtBF16.isInf (fld (metaWord fmt rec_) 0 16) else false

/-- VCVT FROM (R153, R102, R55). -/
def TX.vcvtFrom (x : TX) (f : VcvtFromF) : TX :=
  (x.useV f.va.toNat).andThen fun x =>
    let fmt := f.fmt.toNat
    let rec_ := vRecord x.tile f.va.toNat fmt
    match badTableEntry x.tile.tables fmt rec_ with
    | some n => x.tableStop n
    | none =>
      let r := (decodeRecord x.tile.tables fmt rec_).map fun e => rn32 e.val
      (x.upd fun t => (t.setLanes f.vd.toNat r (t.vPoison f.va.toNat)).invalid (zpInf fmt rec_ && r.any isNan32)).count 0x0F 1

/-- VCVT TO (R153, R102): the flags of R87 but SHD. -/
def TX.vcvtTo (x : TX) (f : VcvtToF) : TX :=
  (x.useV f.va.toNat).andThen fun x => (x.upd fun t =>
    let r := convRecord f.fmt.toNat f.rnd.toNat f.ovf.toNat ((t.vLanes f.va.toNat).map fun l => { val := val32 l })
    (t.setV f.vd.toNat (leBytes 128 r.1) (t.vPoison f.va.toNat)).report r.2 false).count 0x0F 1

/-! ### MOV and MOVI (R154, R155) -/

/-- MOV G ← G. -/
def TX.movGG (x : TX) (gd gs : BitVec 6) : TX :=
  (x.useG gs.toNat).andThen fun x => x.upd fun t => t.setG gd.toNat (t.getG gs.toNat) (t.gPoison gs.toNat)

/-- MOV V ← V. -/
def TX.movVV (x : TX) (vd vs : BitVec 3) : TX :=
  (x.useV vs.toNat).andThen fun x => x.upd fun t => t.setV vd.toNat (t.vBytes vs.toNat) (t.vPoison vs.toNat)

/-- MOV G ← IQ: one flit. -/
def TX.movGIq (x : TX) (gd : BitVec 6) (q : BitVec 3) : TX :=
  match x.pop q.toNat with
  | some (f, x) => (x.eatPoison f.poison).upd fun t => t.setG gd.toNat (BitVec.ofNat 64 f.payload.toNat) f.poison
  | none => x

/-- MOV V lane ← G: the destination is V(DST[2:0]). -/
def TX.movLaneG (x : TX) (dst gs : BitVec 6) (lane : BitVec 5) (bcast : Bool) : TX :=
  let x := x.useG gs.toNat
  let vd := dst.toNat % 8
  let x := if bcast then x else x.touch 5 (16 * vd) 16
  x.andThen fun x => x.upd fun t =>
    let w := BitVec.ofNat 32 (t.getG gs.toNat).toNat
    let p := t.gPoison gs.toNat
    if bcast then t.setLanes vd (List.replicate 32 w) p
    else t.setLanes vd (updAt lane.toNat (fun _ => w) (t.vLanes vd)) (p || t.vPoison vd)

/-- MOV G ← V lane: the source is V(SRC[2:0]). -/
def TX.movGLane (x : TX) (gd src : BitVec 6) (lane : BitVec 5) : TX :=
  let vs := src.toNat % 8
  (x.useV vs).andThen fun x => x.upd fun t =>
    t.setG gd.toNat (((t.vLanes vs).getD lane.toNat 0).zeroExtend 64) (t.vPoison vs)

/-- MOV table ← G (R53, R117). -/
def TX.movTableG (x : TX) (gs : BitVec 6) (entry : BitVec 7) : TX :=
  (x.touch 4 gs.toNat 1).andThen fun x =>
    if x.tile.gPoison gs.toNat then x.poisonStop 0x0A
    else x.upd fun t => { t with tables := SMap.put (0, false) t.tables entry.toNat
                                   (BitVec.ofNat 16 (t.getG gs.toNat).toNat, false) }

/-- MOV G ← table (R55). -/
def TX.movGTable (x : TX) (gd : BitVec 6) (entry : BitVec 7) : TX :=
  let e := tableEntry x.tile.tables entry.toNat
  if e.2 then x.tableStop entry.toNat
  else x.upd fun t => t.setG gd.toNat (e.1.zeroExtend 64) false

/-- MOVI (R155): HIGH keeps bits [31:0] and their poison. -/
def TX.movi (x : TX) (gd : BitVec 6) (high : Bool) (imm : BitVec 32) : TX :=
  if high then
    (x.useG gd.toNat).andThen fun x => x.upd fun t =>
      t.setG gd.toNat (imm ++ (t.getG gd.toNat).extractLsb' 0 32) (t.gPoison gd.toNat)
  else x.upd fun t => t.setG gd.toNat (imm.signExtend 64) false

end Sys2Proof.Machine
end

