-- ==== Sys2Proof/Machine/TileMove.lean ====
section
/-! DEFINITION. Tile memory, outputs, flags and control instructions of one tile (R156 to R167). -/
namespace Sys2Proof.Machine

/-- The tile-memory address of LD and ST (R156). -/
def memAddr (g : W64) (off : BitVec 14) (align : Nat) : Nat :=
  (((g.toNat % 65536 : Nat) : Int) + off.toInt).emod 65536 |>.toNat |> (· / align * align)

/-- Whether G register n can serve as an address to write to (R117). -/
def TX.addrOk (x : TX) (n : Nat) : TX :=
  (x.touch 4 n 1).andThen fun x => if x.tile.gPoison n then x.poisonStop 0x0B else x

/-- Write what an LD has read into its destination, and advance its address register (R156). Where DT = 3 names one register
as both, the loaded word replaces the advance: the spec does not say which write holds (DESIGN CHOICE, log entry 86). -/
def Tile.ldInto (t : Tile) (f : LdF) (bs : List Byte) (psn : Bool) : Tile :=
  let n := if f.dt = 3 then 8 else 64
  let row := (t.getG f.dd.toNat).toNat % 2048 / 64
  let t := match f.dt.toNat with
    | 0 => (t.setQuarter f.dd.toNat (bs.take 32) psn).setQuarter (f.dd.toNat + 1) (bs.drop 32) psn
    | 1 => t.setBufRow false row bs psn
    | 2 => t.setBufRow true row bs psn
    | _ => t
  let t := if f.inc then t.advG f.ga.toNat n else t
  if f.dt = 3 then t.setG f.dd.toNat (BitVec.ofNat 64 (leNat bs)) psn else t

/-- LD (R156). -/
def TX.ld (x : TX) (f : LdF) : TX :=
  let g := f.ga.toNat
  let dt := f.dt.toNat
  let x := x.useG g
  let x := if dt = 1 || dt = 2 then x.andThen fun x => x.addrOk f.dd.toNat else x
  x.andThen fun x =>
    let n := if dt = 3 then 8 else 64
    let psn := x.tile.gPoison g
    let r := if psn then (fillBytes n 0, true, x) else x.readMem (memAddr (x.tile.getG g) f.off n) n
    r.2.2.andThen fun x =>
      let x := if psn then x else x.eatPoison r.2.1
      x.upd fun t => t.ldInto f r.1 r.2.1

/-- The tile-memory address that an ST stores to. -/
def stAddr (t : Tile) (f : StF) : Nat :=
  memAddr (t.getG f.ga.toNat) f.off (if f.ss = 3 then 8 else 64)

/-- Store a row or word at a tile-memory address (R157): poisoned data for a class W row stop the tile (R117). -/
def TX.stStore (x : TX) (a : Nat) (bs : List Byte) (psn : Bool) : TX :=
  if psn && x.tile.rowW (a / 64) then x.poisonStop 0x0A else (x.eatPoison psn).writeMem a bs psn

/-- Store a row or word of an ST and advance its address register (R157). -/
def TX.stWrite (x : TX) (f : StF) (bs : List Byte) (psn : Bool) : TX :=
  let n := if f.ss = 3 then 8 else 64
  let a := stAddr x.tile f
  if psn && x.tile.rowW (a / 64) then x.poisonStop 0x0A
  else (x.stStore a bs psn).upd fun t => if f.inc then t.advG f.ga.toNat n else t

/-- ST from a register or a buffer (R157); a poisoned SR6 gives poisoned zeros (R117). -/
def TX.st (x : TX) (f : StF) : TX :=
  (x.addrOk f.ga.toNat).andThen fun x =>
    let r := f.sr.toNat
    match f.ss.toNat with
    | 0 =>
      let x := x.touch 5 (4 * (r % 32)) 4
      let x := x.touch 5 (4 * ((r + 1) % 32)) 4
      x.andThen fun x => x.stWrite f (x.tile.quarter r ++ x.tile.quarter (r + 1))
        (x.tile.vPoison (r % 32 / 4) || x.tile.vPoison ((r + 1) % 32 / 4))
    | 3 => (x.touch 4 r 1).andThen fun x => x.stWrite f (leBytes 8 (x.tile.getG r).toNat) (x.tile.gPoison r)
    | ss =>
      (x.touch 4 r 1).andThen fun x =>
        if x.tile.gPoison r then x.stWrite f (fillBytes 64 0) true
        else
          let d := x.readBuf (ss = 2) ((x.tile.getG r).toNat % 2048 / 64 * 64) 64
          d.2.2.andThen fun x => x.stWrite f d.1 d.2.1

/-! ### LDX (R158) -/

/-- The requester field of a record that a tile's access raises: its cluster in the SRC format of R206. -/
def tileSrc (t : Nat) : Nat := clusterOf t

/-- The address-fault record of an index entry out of range (R158). -/
def TX.indexRec (x : TX) (e : Nat) : Rec :=
  { x.instrRec 1 1 4 0xFF with
    detail0 := BitVec.ofNat 64 (tileBase x.ix + 64 * e), detail1 := BitVec.ofNat 64 (tileSrc x.ix + 2 ^ 16) }

/-- The entries of an LDX from buffer address a: rows read and written, with the address after them. -/
def TX.ldxRows (x : TX) (b : Bool) (a : Nat) : List Nat → Nat × TX
  | [] => (a, x)
  | e :: es =>
    if x.stop.isSome then (a, x)
    else if e = 0xFFFF then x.ldxRows b a es
    else if e < 0x400 then
      let r := x.readMem (64 * e) 64
      let x := r.2.2.andThen fun x => (x.eatPoison r.2.1).upd fun t => t.setBufRow b (a % 2048 / 64) r.1 r.2.1
      x.ldxRows b (a + 64) es
    else
      let x := (x.raise (x.indexRec e)).upd fun t => t.setBufRow b (a % 2048 / 64) (fillBytes 64 0) true
      x.ldxRows b (a + 64) es

/-- LDX (R158). Its INC advances bits [15:0] of GB modulo 2^16 and keeps the rest, as R140 and R156 have it for theirs: R158
gives no width (DESIGN CHOICE, log entry 86). -/
def TX.ldx (x : TX) (f : LdxF) : TX :=
  (x.addrOk f.gb.toNat).andThen fun x =>
    match x.pop f.q.toNat with
    | none => x
    | some (fl, x) =>
      let a := (x.tile.getG f.gb.toNat).toNat % 65536 / 64 * 64
      let r :=
        if fl.poison then
          (a + 64, (x.eatPoison true).upd fun t => t.setBufRow f.db (a % 2048 / 64) (fillBytes 64 0) true)
        else x.ldxRows f.db a ((List.range 16).map fun i => fld fl.payload.toNat (16 * i) 16)
      r.2.andThen fun x => x.upd fun t => if f.inc then t.advG f.gb.toNat (r.1 - a) else t

/-! ### SEND (R159, R160) -/

/-- The flit count of NF, where 0 means 32. -/
def flitCount (nf : BitVec 5) : Nat := if nf = 0 then 32 else nf.toNat

/-- The flits of a SEND that does not forward, and the tile after they are read and their poison is met (R160, R118): one
poisoned input for each V register, G register, slot lane or read of tile memory. With SSRC 3 one poisoned word poisons
every flit, and INC advances bits [15:0] of SRCREG modulo 2^16: R117 and R159 leave both open (DESIGN CHOICE, log entry 86). -/
def TX.sendFlits (x : TX) (f : SendF) : List Flit × TX :=
  let ep := x.tile.epoch.cur
  let r := f.srcreg.toNat
  let n := flitCount f.nf
  match f.ssrc.toNat with
  | 0 =>
    let qs := (List.range n).map fun i => f.qs.toNat + i
    let x := qs.foldl (fun x q => x.touch 5 (4 * (q % 32)) 4) x
    let x := (qs.map fun q => q % 32 / 4).eraseDups.foldl (fun x v => x.eatPoison (x.tile.vPoison v)) x
    let t := x.tile
    let fs := qs.map fun q => ({ payload := payloadOf (t.quarter q), kind := f.kind, epoch := ep, tag := f.tag,
                                 poison := t.vPoison (q % 32 / 4) } : Flit)
    (fs, x)
  | 1 =>
    let x := x.touch 4 r 1
    ([{ payload := BitVec.ofNat 256 (x.tile.getG r).toNat, kind := f.kind, epoch := ep, tag := f.tag,
        poison := x.tile.gPoison r }], x.eatPoison (x.tile.gPoison r))
  | 2 =>
    let ls := (List.range 4).map fun l => x.tile.lane (4 * (r % 8) + l)
    let p := partialPayloads ls
    let psn := ls.any (·.poison)
    ([{ payload := p.1, epoch := ep, tag := f.tag, poison := psn },
      { payload := p.2, epoch := ep, tag := f.tag, poison := psn }],
     ls.foldl (fun x l => x.eatPoison l.poison) x)
  | _ =>
    let x := x.touch 4 r 1
    let psn := x.tile.gPoison r
    let d := if psn then (fillBytes (32 * n) 0, true, x)
      else x.readMem ((x.tile.getG r).toNat % 65536 / 32 * 32) (32 * n)
    let x := d.2.2.upd fun t => if f.inc then t.advG r (32 * n) else t
    (mkFlits ep f.kind f.tag d.2.1 false d.1 n, x.eatPoison d.2.1)

/-- Mark the last flit of a SEND with END. -/
def TX.sendStart (x : TX) (f : SendF) : List Flit × TX :=
  let r := x.sendFlits f
  let fs := r.1
  let fs := (List.range fs.length).zip fs |>.map fun p => { p.2 with eot := f.eot && p.1 + 1 = fs.length }
  (fs, r.2)

/-! ### SYNC and BULK (R161 to R163) -/

/-- The state of flag n. -/
def Tile.flag (t : Tile) (n : Nat) : FlagSt := SMap.get .idle t.flags n

/-- Set the state of flag n. -/
def Tile.setFlag (t : Tile) (n : Nat) (v : FlagSt) : Tile := { t with flags := SMap.put .idle t.flags n v }

/-- SYNC ARRIVE (R161). -/
def TX.syncArrive (x : TX) (f : ArriveF) : TX :=
  let x := if f.immv then x else x.addrOk f.g.toNat
  x.andThen fun x =>
    let v := if f.immv then f.imm else BitVec.ofNat 16 (x.tile.getG f.g.toNat).toNat
    { (x.upd fun t => t.setFlag f.flag.toNat .arrived) with ext := x.ext ++ [.arrive f.flag f.hop v] }

/-- SYNC WAIT (R161). -/
def TX.syncWait (x : TX) (flag g : BitVec 6) : TX :=
  match x.tile.flag flag.toNat with
  | .done v => x.upd fun t => (t.setG g.toNat (v.zeroExtend 64) false).setFlag flag.toNat .idle
  | _ => x

/-- BULK tag n of a tile. -/
def Tile.btag (t : Tile) (n : Nat) : BulkTag := SMap.get {} t.bulk n

/-- Set BULK tag n. -/
def Tile.setBtag (t : Tile) (n : Nat) (b : BulkTag) : Tile := { t with bulk := SMap.put {} t.bulk n b }

/-- BULK operations outstanding (R163). -/
def Tile.bulkOut (t : Tile) : Nat := ((List.range 4).map fun n => (t.btag n).out).sum

/-- The rows of LEN, where 0 means 64. -/
def bulkRows (len : BitVec 6) : Nat := if len = 0 then 64 else len.toNat

/-- BULK READ and WRITE (R162, R163): the handoff to the cluster sequencer. -/
def TX.bulk (x : TX) (write : Bool) (f : BulkF) : TX :=
  ((x.addrOk f.gl.toNat).andThen fun x => x.addrOk f.gr.toNat).andThen fun x =>
    let n := bulkRows f.len
    let gl := (x.tile.getG f.gl.toNat).toNat
    let gr := (x.tile.getG f.gr.toNat).toNat
    let x := x.upd fun t =>
      let b := t.btag f.btag.toNat
      let t := t.setBtag f.btag.toNat { b with out := b.out + 1 }
      if f.inc then
        let t := t.advG f.gl.toNat (64 * n)
        let w := (t.getG f.gr.toNat).toNat
        { t with g := SMap.put 0 t.g f.gr.toNat
                   (BitVec.ofNat 64 (w / 2 ^ 48 * 2 ^ 48 + (w + 64 * n) % 2 ^ 48)) }
      else t
    let x := (x.count 0x15 1).count 0x14 1
    { x with ext := x.ext ++ [.bulk write f.btag (gl % 65536 / 64 * 64) (gr % 2 ^ 48 / 64 * 64) n] }

/-- BULK WAIT (R163). -/
def TX.bulkWait (x : TX) (btag : BitVec 2) (gr : BitVec 6) : TX :=
  x.upd fun t =>
    let b := t.btag btag.toNat
    (t.setG gr.toNat (b.status.zeroExtend 64) false).setBtag btag.toNat { b with status := 0 }

/-! ### CTL (R164 to R166) -/

/-- Write PD with a value and PE with its complement. -/
def Tile.setPair (t : Tile) (pd pe : BitVec 3) (b : Bool) : Tile := (t.setP pd.toNat b).setP pe.toNat !b

/-- Write loop counter n and its predicates (R164). -/
def Tile.setLc (t : Tile) (n : Nat) (pd pe : BitVec 3) (v : W16) : Tile :=
  ({ t with lc := SMap.put 0 t.lc n v } : Tile).setPair pd pe (v != 0)

/-- CTL.LC SETI. -/
def TX.lcSetI (x : TX) (lcn : BitVec 2) (pd pe : BitVec 3) (imm : W16) : TX := x.upd fun t => t.setLc lcn.toNat pd pe imm

/-- CTL.LC SETG. -/
def TX.lcSetG (x : TX) (lcn : BitVec 2) (pd pe : BitVec 3) (gs : BitVec 6) : TX :=
  (x.addrOk gs.toNat).andThen fun x =>
    x.upd fun t => t.setLc lcn.toNat pd pe (BitVec.ofNat 16 (t.getG gs.toNat).toNat)

/-- CTL.LC DEC. -/
def TX.lcDec (x : TX) (lcn : BitVec 2) (pd pe : BitVec 3) : TX :=
  x.upd fun t =>
    let v := SMap.get 0 t.lc lcn.toNat
    t.setLc lcn.toNat pd pe (if v = 0 then 0 else v - 1)

/-- The logic of CTL.P POP 2. -/
def predLogic (cc : Nat) (a b : Bool) : Bool :=
  match cc with
  | 0 => a && b
  | 1 => a || b
  | 2 => a != b
  | _ => a && !b

/-- The head test of CTL.P POP 3. -/
def headTest (cc : Nat) (f : Flit) : Bool := if cc = 0 then f.eot else f.kind.toNat + 1 == cc

/-- CTL.P (R165). -/
def TX.ctlP (x : TX) (f : CtlPF) : TX :=
  let put (x : TX) (b : Bool) : TX := x.upd fun t => t.setPair f.pd f.pe b
  match f.pop.toNat with
  | 0 => ((x.addrOk f.a.toNat).andThen fun x => x.addrOk f.b.toNat).andThen fun x =>
      put x (cmpOp f.cc.toNat (x.tile.getG f.a.toNat) (x.tile.getG f.b.toNat))
  | 1 => (x.addrOk f.a.toNat).andThen fun x =>
      put x (cmpOp f.cc.toNat (x.tile.getG f.a.toNat) (f.imm.signExtend 64))
  | 2 => put x (predLogic f.cc.toNat (x.tile.getP (f.a.toNat % 8)) (x.tile.getP (f.b.toNat % 8)))
  | 3 =>
    match x.tile.head (f.a.toNat % 8) with
    | none => x
    | some h => if h.poison then x.poisonStop 0x0B else put x (headTest f.cc.toNat h)
  | _ => put x (f.cc = 1)

/-- CTL.ALU and CTL.ALUI (R166): b is the second operand and its poison. -/
def TX.alu (x : TX) (aop : BitVec 4) (gd ga : BitVec 6) (b : TX → W64 × Bool) : TX :=
  (x.useG ga.toNat).andThen fun x => x.upd fun t =>
    t.setG gd.toNat (aluOp aop.toNat (t.getG ga.toNat) (b x).1) (t.gPoison ga.toNat || (b x).2)

/-- Pop one flit of IQn and forget it. -/
def TX.discard (x : TX) (n : Nat) : TX :=
  match x.pop n with
  | some p => p.2
  | none => x

/-- NOP: pop one flit from each queue of a mask (R167). -/
def TX.drops (x : TX) (mask : Nat) : TX :=
  (List.range 5).foldl (fun x n => if mask.testBit n then x.discard n else x) x

end Sys2Proof.Machine
end

