-- ==== Sys2Proof/Machine/TileIssue.lean ====
section
/-! DEFINITION. Triggered issue (R125 to R137): readiness, interlocks, the instructions that pop and send over several
cycles, and the issue cycle. -/
namespace Sys2Proof.Machine

/-- The rider: PC, then PS (R125). -/
def Tile.rider (t : Tile) (h : Head) : Tile := (t.setP h.pc.toNat false).setP h.ps.toNat true

/-! ### What an instruction in flight holds (R130, R132) -/

/-- The most flits that a GMAC in flight has still to pop (R139, R141). -/
def popsLeft (fl : InFlight) (f : GmacF) : Nat :=
  if gmacAQueue f then
    flitsLeft f.afmt.toNat (gmacACount f) fl.got + (f.rep.toNat - fl.iter) * gmacACount f * recFlits f.afmt.toNat
  else 0

/-- Queues that an in-flight instruction holds reserved: each until its last flit has been popped. -/
def heldQueues (fl : InFlight) : List Nat :=
  match fl.op with
  | .gmac f =>
    let n := popsLeft fl f
    if n = 0 then [] else if n = 1 then [gmacQueueOf f fl.popped]
    else [gmacQueueOf f fl.popped, gmacQueueOf f (fl.popped + 1)]
  | .tree f => if f.form then [f.sb.toNat] else []
  | .movVIq q _ _ => [q.toNat]
  | .st f => if f.ss = 4 then [f.sr.toNat % 8] else []
  | .send f => if f.ssrc = 4 && fl.popped < flitCount f.nf then [f.srcreg.toNat % 8] else []
  | _ => []

/-- Outputs that an in-flight instruction holds reserved. -/
def heldOuts (fl : InFlight) : List Nat :=
  match fl.op with
  | .close f => [f.out.toNat]
  | .send f => [f.out.toNat]
  | _ => []

/-- Items 2 to 4 of R127 on the state at the start of the cycle. -/
def triggered (t : Tile) (h : Head) : Bool :=
  ((List.range 5).all fun n => !(h.qmask.getLsbD n) ||
    ((t.head n).isSome && !(t.inflight.any fun fl => (heldQueues fl).contains n))) &&
  ((List.range 4).all fun n => !(h.omask.getLsbD n) ||
    (1 ≤ t.credit n && !(t.inflight.any fun fl => (heldOuts fl).contains n))) &&
  t.getP h.psel.toNat

/-- The conditions that an opcode's own section adds (R161, R163, R164). -/
def ownReady (t : Tile) : TOp → Bool
  | .syncArrive f => t.flag f.flag.toNat == .idle
  | .syncWait flag _ => match t.flag flag.toNat with
    | .done _ => true
    | _ => false
  | .bulkRead _ => t.bulkOut < 8
  | .bulkWrite _ => t.bulkOut < 8
  | .bulkWait b _ _ => (t.btag b.toNat).out = 0
  | .lcSetI n wz _ _ _ => !wz || SMap.get 0 t.lc n.toNat = 0
  | .lcSetG n wz _ _ _ => !wz || SMap.get 0 t.lc n.toNat = 0
  | .lcDec n wz _ _ => !wz || SMap.get 0 t.lc n.toNat = 0
  | _ => true

/-! ### Resources of R132: Gn at n, Vn at 64 + n, lane k at 72 + k, rows of A at 104 + r and of B at 136 + r -/

/-- The row of an operand buffer that an address register names. -/
def bufRow (t : Tile) (b : Bool) (g : Nat) : Nat := (if b then 136 else 104) + (t.getG g).toNat % 2048 / 64

/-- Rows of an operand buffer that n bytes from the address in register g touch. -/
def bufRows (t : Tile) (b : Bool) (g n : Nat) : List Nat :=
  let a := (t.getG g).toNat % 65536 / 4 * 4
  (List.range (min 32 ((a % 64 + n + 63) / 64))).map fun i => (if b then 136 else 104) + (a / 64 + i) % 32

/-- The registers VD to VD + VN as resources. -/
def vRes (v : Nat) (vn : BitVec 3) : List Nat := (steps vn).map fun i => 64 + (v + i) % 8

/-- The V register of quarter q as a resource. -/
def quarterRes (q : Nat) : Nat := 64 + q % 32 / 4

/-- What an instruction reads (R132). A MOV into V quarters and a forward read no register. -/
def opReads (t : Tile) : TOp → List Nat
  | .gmac f =>
    let k := (gmacLanes f).length
    let it := f.rep.toNat + 1
    let na := (gmacACount f) * recordBytes f.afmt.toNat * (if f.ainc then it else 1)
    let nb := k * recordBytes f.bfmt.toNat * (if f.binc then it else 1)
    (if gmacAQueue f then [] else [f.areg.toNat]) ++ [f.breg.toNat] ++
    (if f.asrc = 5 then bufRows t false f.areg.toNat na else []) ++
    (if f.bsrc then [] else bufRows t true f.breg.toNat nb) ++
    (if f.act = 0 then [] else (gmacLanes f).map (72 + ·))
  | .close f => (closeLanes f).map (72 + ·)
  | .tree f => (maskLanes f.sa.toNat f.lmask.toNat ++ (if f.form then [] else maskLanes f.sb.toNat f.lmask.toNat)).map
      (72 + ·)
  | .vop f => (steps f.vn).flatMap fun i => (vopRegs f i).map fun r => 64 + r % 8
  | .vsfn f => vRes f.va.toNat f.vn
  | .vred f => vRes f.va.toNat f.vn
  | .vcvtFrom f => [64 + f.va.toNat]
  | .vcvtTo f => [64 + f.va.toNat]
  | .movGG _ gs => [gs.toNat]
  | .movVV _ vs => [64 + vs.toNat]
  | .movVIq _ _ _ => []
  | .movGIq _ _ => []
  | .movLaneG _ gs _ _ => [gs.toNat]
  | .movGLane _ vs _ => [64 + vs.toNat % 8]
  | .movTableG gs _ => [gs.toNat]
  | .movGTable _ _ => []
  | .movi gd high _ => if high then [gd.toNat] else []
  | .ld f => [f.ga.toNat] ++ (if f.dt = 1 || f.dt = 2 then [f.dd.toNat] else [])
  | .ldx f => [f.gb.toNat]
  | .st f => [f.ga.toNat] ++ (match f.ss.toNat with
      | 0 => [quarterRes f.sr.toNat, quarterRes (f.sr.toNat + 1)]
      | 1 => [f.sr.toNat, bufRow t false f.sr.toNat]
      | 2 => [f.sr.toNat, bufRow t true f.sr.toNat]
      | 3 => [f.sr.toNat]
      | _ => [])
  | .send f => match f.ssrc.toNat with
      | 0 => (List.range (flitCount f.nf)).map fun i => quarterRes (f.qs.toNat + i)
      | 1 => [f.srcreg.toNat]
      | 2 => (maskLanes (f.srcreg.toNat % 8) 15).map (72 + ·)
      | 3 => [f.srcreg.toNat]
      | _ => []
  | .syncArrive f => if f.immv then [] else [f.g.toNat]
  | .syncWait _ _ => []
  | .bulkRead f => [f.gl.toNat, f.gr.toNat]
  | .bulkWrite f => [f.gl.toNat, f.gr.toNat]
  | .bulkWait _ _ _ => []
  | .lcSetI _ _ _ _ _ => []
  | .lcSetG _ _ _ _ gs => [gs.toNat]
  | .lcDec _ _ _ _ => []
  | .ctlP f => if f.pop = 0 then [f.a.toNat, f.b.toNat] else if f.pop = 1 then [f.a.toNat] else []
  | .alu _ _ ga gb => [ga.toNat, gb.toNat]
  | .alui _ _ ga _ => [ga.toNat]
  | .nop _ => []

/-- The rows that an LDX writes: one for each entry that it does not skip, and one for a poisoned index flit (R158). -/
def ldxCount (t : Tile) (f : LdxF) : Nat :=
  match t.head f.q.toNat with
  | none => 1
  | some p => if p.poison then 1
    else ((List.range 16).filter fun i => fld p.payload.toNat (16 * i) 16 ≠ 0xFFFF).length

/-- What an instruction writes, with the cycles from its issue to the earliest dependent issue (R134): n + 0 where
the table names none. -/
def opWrites (t : Tile) : TOp → List (Nat × Nat)
  | .gmac f =>
    (if f.ainc && !(gmacAQueue f) then [(f.areg.toNat, 1)] else []) ++ (if f.binc then [(f.breg.toNat, 1)] else []) ++
    (gmacLanes f).map fun k => (72 + k, 8)
  | .close f => (closeLanes f).map (fun k => (72 + k, 1)) ++
      (if f.dt then [] else [(64 + f.vd.toNat, if f.all then 11 else 4)])
  | .tree f => (maskLanes f.dst.toNat f.lmask.toNat).map fun k => (72 + k, 4)
  | .vop f => (steps f.vn).map fun i => (64 + (f.vd.toNat + i) % 8, i + 4)
  | .vsfn f => (steps f.vn).map fun i => (64 + (f.vd.toNat + i) % 8, 4 * i + 10)
  | .vred f => [(64 + f.vd.toNat, f.vn.toNat + 10)]
  | .vcvtFrom f => [(64 + f.vd.toNat, 4)]
  | .vcvtTo f => [(64 + f.vd.toNat, 4)]
  | .movGG gd _ => [(gd.toNat, 1)]
  | .movVV vd _ => [(64 + vd.toNat, 2)]
  | .movVIq _ qn nf => (List.range (flitCount nf)).map fun i => (quarterRes (qn.toNat + i), 0)
  | .movGIq gd _ => [(gd.toNat, 2)]
  | .movLaneG vd _ _ _ => [(64 + vd.toNat % 8, 2)]
  | .movGLane gd _ _ => [(gd.toNat, 2)]
  | .movTableG _ _ => []
  | .movGTable gd _ => [(gd.toNat, 2)]
  | .movi gd _ _ => [(gd.toNat, 1)]
  | .ld f => (if f.inc then [(f.ga.toNat, 1)] else []) ++ (match f.dt.toNat with
      | 0 => [(quarterRes f.dd.toNat, 4), (quarterRes (f.dd.toNat + 1), 4)]
      | 1 => [(bufRow t false f.dd.toNat, 4)]
      | 2 => [(bufRow t true f.dd.toNat, 4)]
      | _ => [(f.dd.toNat, 4)])
  | .ldx f =>
    let n := ldxCount t f
    (if f.inc then [(f.gb.toNat, max n 1)] else []) ++
      (List.range n).map fun i => ((if f.db then 136 else 104) + ((t.getG f.gb.toNat).toNat % 2048 / 64 + i) % 32, n)
  | .st f => if f.inc then [(f.ga.toNat, 1)] else []
  | .send f => if f.ssrc = 3 && f.inc then [(f.srcreg.toNat, 1)] else []
  | .syncArrive _ => []
  | .syncWait _ g => [(g.toNat, 2)]
  | .bulkRead f => if f.inc then [(f.gl.toNat, 1), (f.gr.toNat, 1)] else []
  | .bulkWrite f => if f.inc then [(f.gl.toNat, 1), (f.gr.toNat, 1)] else []
  | .bulkWait _ gr _ => [(gr.toNat, 2)]
  | .lcSetI _ _ _ _ _ => []
  | .lcSetG _ _ _ _ _ => []
  | .lcDec _ _ _ _ => []
  | .ctlP _ => []
  | .alu aop gd _ _ => [(gd.toNat, if aop = 0xA then 3 else 1)]
  | .alui aop gd _ _ => [(gd.toNat, if aop = 0xA then 3 else 1)]
  | .nop _ => []

/-- The units an instruction needs and the cycles it holds them (R133): 0 to 3 the group units, 4 the vector unit, 5
the special-function pipeline, 6 the converter, 7 the combiner, 8 the tile-memory port. -/
def opUnits (t : Tile) : TOp → List (Nat × Nat)
  | .gmac f =>
    ((List.range 4).filterMap fun u => if f.lmask.getLsbD u then some (u, 1) else none) ++
    (if f.bsrc || f.asrc = 6 then [(8, 1)] else [])
  | .close f => [(6, if f.all then 8 else 1)]
  | .tree _ => [(7, 1)]
  | .vop f => [(4, f.vn.toNat + 1)]
  | .vsfn f => [(5, 4 * (f.vn.toNat + 1))]
  | .vred f => [(4, f.vn.toNat + 1)]
  | .vcvtFrom _ => [(4, 1)]
  | .vcvtTo _ => [(4, 1)]
  | .ld f => if t.gPoison f.ga.toNat then [] else [(8, 1)]
  | .ldx f => [(8, max (ldxCount t f) 1)]
  | .st _ => [(8, 1)]
  | .send f => if f.ssrc = 3 && !(t.gPoison f.srcreg.toNat) then
      [(8, rowsTouched ((t.getG f.srcreg.toNat).toNat % 65536 / 32 * 32) (32 * flitCount f.nf))] else []
  | _ => []

/-- Whether an instruction is a GMAC. -/
def isGmac : TOp → Bool
  | .gmac _ => true
  | _ => false

/-- The registers that an instruction writes only later, after its issue: a MOV V ← IQ waits for what still reads one of
them when it comes to it. -/
def lateWrites : TOp → List Nat
  | .movVIq _ qn nf => ((List.range (flitCount nf)).map fun i => quarterRes (qn.toNat + i)).filter (· ≠ quarterRes qn.toNat)
  | _ => []

/-- Whether an in-flight instruction holds another by a dependence (R132): a GMAC's lanes do not hold a GMAC, whose units
keep the order of its groups; they hold one that R100 skips, which goes through no unit (R81, R100). -/
def heldBy (t : Tile) (op : TOp) (skip : Bool) (fl : InFlight) : Bool :=
  let gg := isGmac op && isGmac fl.op && !skip
  let lane (r : Nat) : Bool := gg && decide (72 ≤ r) && decide (r < 104)
  (opReads t op).any (fun r => fl.wres.contains r && !(lane r)) ||
  (opWrites t op).any (fun p =>
    (fl.wres.contains p.1 || (fl.rres.contains p.1 && !((lateWrites op).contains p.1))) && !(lane p.1))

/-- The rows of tile memory that a GMAC in flight has still to read. -/
def rowsLeft (fl : InFlight) (f : GmacF) : Nat :=
  (((List.range (f.rep.toNat + 1)).drop fl.iter).map (gmacRows fl.base f)).sum - fl.rows

/-- Whether an in-flight instruction has tile-memory accesses to make: these are made in issue order (R132). -/
def portHeld (fl : InFlight) : Bool :=
  match fl.op with
  | .st _ => true
  | .gmac f => 0 < rowsLeft fl f
  | _ => false

/-- Whether an in-flight instruction occupies a unit until it ends. -/
def unitHeld (t : Tile) (u : Nat) (fl : InFlight) : Bool :=
  if u = 8 then portHeld fl else u < 4 && isGmac fl.op && (opUnits t fl.op).any fun v => v.1 = u

/-- The dependences on instructions that still work, whatever the clock (R132). skip: the GMAC needs no unit (R100). -/
def unheld (t : Tile) (op : TOp) (skip : Bool) : Bool := !(t.inflight.any (heldBy t op skip)) &&
  (skip || !((opUnits t op).any fun u => t.inflight.any (unitHeld t u.1)))

/-- The interlocks and units of R132 to R134 at the current cycle. -/
def onTime (t : Tile) (op : TOp) (skip : Bool) : Bool :=
  let free (m : SMap Nat) (r : Nat) : Bool := SMap.get 0 m r ≤ t.cyc
  ((opReads t op).all fun r => free t.board.wr r && (isGmac op || free t.board.gm r)) &&
  ((opWrites t op).all fun (p : Nat × Nat) => free t.board.wr p.1 &&
    (free t.board.rd p.1 || (lateWrites op).contains p.1) && (isGmac op || free t.board.gm p.1)) &&
  (skip || (opUnits t op).all fun (u : Nat × Nat) => free t.board.unit u.1)

/-- Set the resources that an issue in the current cycle occupies (R133, R134): t0 is the tile at the issue. -/
def Tile.occupy (t t0 : Tile) (op : TOp) (skip : Bool) : Tile :=
  let late (m : SMap Nat) (r c : Nat) : SMap Nat := SMap.put 0 m r (max (SMap.get 0 m r) (t.cyc + c))
  let b := t.board
  let b := if isGmac op then
      { b with gm := (opWrites t0 op).foldl (fun m (p : Nat × Nat) => if 72 ≤ p.1 then late m p.1 p.2 else m) b.gm
               wr := (opWrites t0 op).foldl (fun m (p : Nat × Nat) => if p.1 < 72 then late m p.1 p.2 else m) b.wr }
    else { b with wr := (opWrites t0 op).foldl (fun m (p : Nat × Nat) => late m p.1 p.2) b.wr }
  let per : Nat := match op with
    | .vsfn _ => 4
    | _ => 1
  let b := { b with rd := match op with
    | .vop f => (steps f.vn).foldl (fun m i => (vopRegs f i).foldl (fun m r => late m (64 + r % 8) (i + 1)) m) b.rd
    | .vsfn f => (steps f.vn).foldl (fun m i => late m (64 + (f.va.toNat + i) % 8) (per * i + 1)) b.rd
    | .vred f => (steps f.vn).foldl (fun m i => late m (64 + (f.va.toNat + i) % 8) (i + 1)) b.rd
    | .close f => if f.all then (List.range 32).foldl (fun m k => late m (72 + k) (k / 4 + 1)) b.rd else b.rd
    | _ => b.rd }
  { t with board :=
      if skip then b else { b with unit := (opUnits t0 op).foldl (fun m (u : Nat × Nat) => late m u.1 u.2) b.unit } }

/-- Add c cycles to what a finished instruction wrote: its dependents may issue from then on. -/
def Tile.release (t : Tile) (gm : Bool) (rs : List Nat) (c : Nat) : Tile :=
  let late (m : SMap Nat) (r : Nat) : SMap Nat := SMap.put 0 m r (max (SMap.get 0 m r) (t.cyc + c))
  { t with board :=
      if gm then { t.board with gm := rs.foldl (fun m r => if 72 ≤ r then late m r else m) t.board.gm }
      else { t.board with wr := rs.foldl late t.board.wr } }

/-! ### Work over several cycles -/

/-- The cycles that one iteration holds the group units (R133). -/
def gmacPer (f : GmacF) : Nat := if f.afmt = 0 || f.bfmt = 0 then 4 else 1

/-- After an iteration of a GMAC in flight has entered the units (R133, R134): the next is due when they are free, and
after the last the lanes are. -/
def TX.gmacNext (x : TX) (fl : InFlight) (f : GmacF) : Option InFlight × TX :=
  let w := gmacPer f
  let last := f.rep.toNat ≤ fl.iter
  let x1 := x.upd fun t =>
    let un := (List.range 4).foldl (fun m u =>
      if f.lmask.getLsbD u then SMap.put 0 m u (max (SMap.get 0 m u) (t.cyc + w)) else m) t.board.unit
    (if last then t.release true ((gmacLanes f).map (72 + ·)) (w + 7) else t) |> fun t =>
      { t with board := { t.board with unit := un } }
  if x1.stop.isSome || last then (none, x1)
  else (some { fl with iter := fl.iter + 1, got := [], rows := 0, from_ := x.tile.cyc + w }, x1)

/-- Pop the next flit of a GMAC's A stream, once per queue and cycle: at most n pops. -/
def TX.gmacPops (x : TX) (f : GmacF) (fl : InFlight) : Nat → InFlight × TX
  | 0 => (fl, x)
  | n + 1 =>
    if (cutRecs f.afmt.toNat (gmacACount f) fl.got).isSome || x.stop.isSome then (fl, x)
    else match x.pop (gmacQueueOf f fl.popped) with
      | none => (fl, x)
      | some (p, x) =>
        if badControl p then (fl, x.poisonStop 0x0B)
        else
          (x.eatPoison (flitPoison f.afmt.toNat fl.got p)).gmacPops f
            { fl with got := fl.got ++ [p], popped := fl.popped + 1 } n

/-- The pops of a GMAC in one cycle: where a poisoned control flit is among them the GMAC is not performed, and its stop
leaves the queues as they were (R117). -/
def TX.gmacTake (x : TX) (f : GmacF) (fl : InFlight) (n : Nat) : InFlight × TX :=
  let r := x.gmacPops f fl n
  if x.stop.isNone && r.2.stop.isSome then (fl, x.poisonStop 0x0B) else r

/-- One cycle of a GMAC in flight: it pops its next flits, reads one row of tile memory, and starts an iteration whose
records are all present once its units are free (R130, R133, R142). -/
def TX.gmacPump (x : TX) (timed : Bool) (chk : List CheckEv) (f : GmacF) (fl : InFlight) : Option InFlight × TX :=
  let r := if gmacAQueue f then x.gmacTake f fl (if f.apair then 2 else 1) else (fl, x)
  let need := gmacRows fl.base f fl.iter
  let whole := !(gmacAQueue f) || (cutRecs f.afmt.toNat (gmacACount f) r.1.got).isSome
  let n := if timed then min 1 (need - fl.rows) else if whole then need - fl.rows else 0
  let fl := { r.1 with rows := fl.rows + n }
  let y := r.2.count 0x10 n
  let wait := timed && (decide (fl.rows < need) || decide (x.tile.cyc < fl.from_))
  if y.stop.isSome then (none, y)
  else if gmacAQueue f then
    match cutRecs f.afmt.toNat (gmacACount f) fl.got with
    | none => (some fl, y)
    | some a => if wait then (some fl, y) else (y.gmacIter f fl.base fl.iter false chk a.1).gmacNext fl f
  else if wait then (some fl, y)
  else (y.gmacIterA f fl.base fl.iter false chk).gmacNext fl f

/-- Put flit i of a MOV of n flits from quarter qn on into its quarter: a register whose four quarters this MOV writes is
replaced whole, so its tag starts anew with the first of them (R117). -/
def Tile.takeQuarter (t : Tile) (qn n i : Nat) (p : Flit) : Tile :=
  let ws := (List.range n).filter fun k => quarterRes (qn + k) = quarterRes (qn + i)
  let t := t.setQuarter (qn + i) p.bytes p.poison
  if 4 ≤ ws.length && ws.head? = some i then { t with vTag := setBit t.vTag ((qn + i) % 32 / 4) p.poison } else t

/-- One cycle of an instruction in flight: what stays in flight, and the tile. timed: the cycle counts of R133 hold. -/
def TX.pump (x : TX) (timed : Bool) (chk : List CheckEv) (fl : InFlight) : Option InFlight × TX :=
  if timed && x.tile.cyc < fl.from_ && !(isGmac fl.op) then (some fl, x)
  else
  let x := { x with n := fl.n, word := TInstr.word ⟨fl.hd, fl.op⟩ }
  match fl.op with
  | .gmac f => x.gmacPump timed chk f fl
  | .tree f =>
    match x.pop f.sb.toNat with
    | none => (some fl, x)
    | some (p, x) => match fl.got with
      | [] => (some { fl with got := [p], popped := 1 }, x)
      | p0 :: _ => (none, (x.treePartial f chk p0 p).upd fun t => t.release false fl.wres 4)
  | .movVIq q qn nf =>
    let qr := qn.toNat + fl.popped
    let busy := timed && (x.tile.cyc < SMap.get 0 x.tile.board.rd (quarterRes qr) ||
      x.tile.inflight.any fun o => o.rres.contains (quarterRes qr))
    if busy then (some fl, x)
    else match x.pop q.toNat with
      | none => (some fl, x)
      | some (p, x) =>
        let x := x.eatPoison p.poison
        let done := fl.popped + 1
        let last := done = flitCount nf
        let x := x.upd fun t => t.takeQuarter qn.toNat (flitCount nf) fl.popped p
        let fl := { fl with popped := done }
        if last then (none, x.upd fun t => t.release false fl.wres 2) else (some fl, x)
  | .st f =>
    match x.pop (f.sr.toNat % 8) with
    | none => (some fl, x)
    | some (p, x) => match fl.got with
      | [] => (some { fl with got := [p], popped := 1 }, x)
      | p0 :: _ => (none, x.stStore fl.addr (p0.bytes ++ p.bytes) (p0.poison || p.poison))
  | .close f =>
    match fl.out with
    | [] => (none, x)
    | o :: os => match x.emit f.out.toNat o with
      | none => (some fl, x)
      | some x => (if os.isEmpty then none else some { fl with out := os }, x)
  | .send f =>
    let e := match fl.out with
      | [] => (fl, x)
      | o :: os => match x.emit f.out.toNat o with
        | none => (fl, x)
        | some x => ({ fl with out := os, rres := fl.rres.drop 1 }, x)
    let e :=
      if f.ssrc = 4 && e.1.popped < flitCount f.nf && e.1.out.isEmpty then
        match e.2.pop (f.srcreg.toNat % 8) with
        | none => e
        | some (p, x) =>
          let last := e.1.popped + 1 = flitCount f.nf
          ({ e.1 with
              popped := e.1.popped + 1
              out := [{ p with epoch := x.tile.epoch.cur, tag := f.tag, eot := p.eot || (f.eot && last) }] },
            x.eatPoison p.poison)
      else e
    if e.1.out.isEmpty && (f.ssrc ≠ 4 || flitCount f.nf ≤ e.1.popped) then (none, e.2) else (some e.1, e.2)
  | _ => (none, x)

/-- One cycle of an instruction in flight beside others: one that stops the tile ends no other (R135), and the first stop
names its instruction. -/
def TX.pumpOne (x : TX) (timed : Bool) (chk : List CheckEv) (fl : InFlight) : Option InFlight × TX :=
  let r := ({ x with stop := none } : TX).pump timed chk fl
  (r.1, match x.stop with
    | some c => { r.2 with stop := some c, n := x.n }
    | none => r.2)

/-- One cycle of every instruction in flight, oldest first. -/
def TX.pumpAll (x : TX) (timed : Bool) (chk : List CheckEv) : TX :=
  let r := x.tile.inflight.foldl (fun (acc : List InFlight × TX) fl =>
    let q := acc.2.pumpOne timed chk fl
    (acc.1 ++ q.1.toList, q.2)) ([], x)
  r.2.upd fun t => { t with inflight := r.1 }

/-! ### Issue -/

/-- A new in-flight instruction, with the resources it holds. -/
def TX.flight (x : TX) (h : Head) (op : TOp) (from_ : Nat) (out : List Flit) : InFlight :=
  let rres := match op with
    | .close _ => []
    | .send f => if f.ssrc = 0 then opReads x.tile op else []
    | .st _ => []
    | .gmac _ => (opReads x.tile op).filter (64 ≤ ·)
    | _ => opReads x.tile op
  let wres := match op with
    | .movVIq _ qn nf => (List.range (flitCount nf)).map fun i => quarterRes (qn.toNat + i)
    | .close _ => []
    | .st _ => []
    | .send _ => []
    | _ => (opWrites x.tile op).map (·.1)
  let base := match op with
    | .gmac f => gmacBase x.tile f
    | _ => {}
  { n := x.n, hd := h, op := op, out := out, from_ := x.tile.cyc + from_, rres := rres, wres := wres
    base := base }

/-- The effect of an instruction in its issue cycle, and what stays in flight. skip: R100 skips the GMAC. -/
def TX.start (x : TX) (h : Head) (op : TOp) (skip : Bool) (chk : List CheckEv) : Option InFlight × TX :=
  match op with
  | .gmac f =>
    match gmacFault x.tile f with
    | some k => (none, x.slotFault k)
    | none =>
      let x := x.gmacRegs f
      if x.stop.isSome then (none, x)
      else if skip then
        let g := gmacBase x.tile f
        let r := if gmacAQueue f then
            let p := x.gmacTake f { n := x.n, hd := h, op := op } 2
            match cutRecs f.afmt.toNat (gmacACount f) p.1.got with
            | some a => p.2.gmacIter f g 0 true chk a.1
            | none => p.2
          else x.gmacIterA f g 0 true chk
        (none, r.count 0x04 1)
      else (some (x.flight h op 0 []), x)
  | .close f =>
    let r := x.close f chk
    (if f.dt && r.2.stop.isNone then some (x.flight h op 2 r.1) else none, r.2)
  | .tree f =>
    match treeClosed x.tile f with
    | some k => (none, x.slotFault k)
    | none => if f.form then (some (x.flight h op 0 []), x) else (none, x.treeSlots f chk)
  | .vop f => (none, x.vop f)
  | .vsfn f => (none, x.vsfn f)
  | .vred f => (none, x.vred f)
  | .vcvtFrom f => (none, x.vcvtFrom f)
  | .vcvtTo f => (none, x.vcvtTo f)
  | .movGG gd gs => (none, x.movGG gd gs)
  | .movVV vd vs => (none, x.movVV vd vs)
  | .movVIq _ _ _ => (some (x.flight h op 0 []), x)
  | .movGIq gd q => (none, x.movGIq gd q)
  | .movLaneG vd gs lane b => (none, x.movLaneG vd gs lane b)
  | .movGLane gd vs lane => (none, x.movGLane gd vs lane)
  | .movTableG gs e => (none, x.movTableG gs e)
  | .movGTable gd e => (none, x.movGTable gd e)
  | .movi gd high imm => (none, x.movi gd high imm)
  | .ld f => (none, x.ld f)
  | .ldx f => (none, x.ldx f)
  | .st f =>
    if f.ss = 4 then
      let y := x.addrOk f.ga.toNat
      if y.stop.isSome then (none, y)
      else (some { x.flight h op 0 [] with addr := stAddr y.tile f },
        y.upd fun t => if f.inc then t.advG f.ga.toNat 64 else t)
    else (none, x.st f)
  | .send f =>
    if f.ssrc = 4 then (some (x.flight h op 0 []), x)
    else
      let r := x.sendStart f
      (if r.2.stop.isSome then none else some (x.flight h op 1 r.1), r.2)
  | .syncArrive f => (none, x.syncArrive f)
  | .syncWait flag g => (none, x.syncWait flag g)
  | .bulkRead f => (none, x.bulk false f)
  | .bulkWrite f => (none, x.bulk true f)
  | .bulkWait b gr _ => (none, x.bulkWait b gr)
  | .lcSetI n _ pd pe imm => (none, x.lcSetI n pd pe imm)
  | .lcSetG n _ pd pe gs => (none, x.lcSetG n pd pe gs)
  | .lcDec n _ pd pe => (none, x.lcDec n pd pe)
  | .ctlP f => (none, x.ctlP f)
  | .alu aop gd ga gb => (none, (x.useG gb.toNat).andThen fun x =>
      x.alu aop gd ga fun y => (y.tile.getG gb.toNat, y.tile.gPoison gb.toNat))
  | .alui aop gd ga imm => (none, x.alu aop gd ga fun _ => (imm.signExtend 64, false))
  | .nop drop => (none, x.drops drop.toNat)

/-- The stop of an illegal instruction (R169): BLOCK is the scheduler. -/
def TX.illegal (x : TX) : TX := (x.raise { x.instrRec 8 1 3 0xFF with action := 2 }).halt 0x01

/-- Whether an instruction that was selected has issued (R119): no instruction issues in the cycle of a stop; a GMAC whose
group fails a check of R55, R61, R71 or R79 has issued before the check. -/
def TX.hasIssued (x : TX) (op : TOp) : Bool :=
  match x.stop with
  | none => true
  | some c => isGmac op && 0x03 ≤ c.toNat && c.toNat ≤ 0x06

/-- The work of an instruction in its issue cycle: its effect, its first pops, its rider, and its place among the
instructions in flight. -/
def TX.issueWork (x : TX) (h : Head) (op : TOp) (skip timed : Bool) (chk : List CheckEv) : TX :=
  let r := x.start h op skip chk
  let x1 := r.2
  if x1.stop.isSome then x1
  else
    let x1 := x1.upd fun t => if timed then t.occupy x.tile op skip else t
    let p := match r.1 with
      | some fl => x1.pump timed chk fl
      | none => (none, x1)
    let x2 := p.2.upd fun t => { t with inflight := t.inflight ++ p.1.toList }
    if x2.hasIssued op then x2.upd fun t => t.rider h else x2

/-- Issue an instruction in the current cycle, counting it where it issues (R121). -/
def TX.issue (x : TX) (h : Head) (op : TOp) (skip timed : Bool) (chk : List CheckEv) : TX :=
  let y := (x.count 0x02 1).issueWork h op skip timed chk
  if y.hasIssued op then y else x.issueWork h op skip timed chk

/-! ### One instruction by itself -/

/-- Let the instructions in flight run as far as flits and credits allow. -/
def TX.settle (x : TX) (chk : List CheckEv) : Nat → TX
  | 0 => x
  | n + 1 =>
    let y := x.pumpAll false chk
    if y.tile.inflight == x.tile.inflight || y.stop.isSome then y else y.settle chk n

/-- Whether the zero-group skip of R100 applies to an instruction. -/
def TX.skips (x : TX) : TOp → Bool
  | .gmac f => gmacSkips x f
  | _ => false

/-- One instruction selected and issued by itself: illegal, it stops the tile (R169); not ready, it does nothing
(R127). The clock's part in readiness, R133 and R134, is taken as passed. -/
def TX.instr (x : TX) (h : Head) (op : TOp) (chk : List CheckEv) : TX :=
  if x.tile.status.stopped || !(triggered x.tile h) then x
  else if !(TOp.legal h op) then x.illegal
  else if !(ownReady x.tile op) || !(unheld x.tile op (x.skips op)) then x
  else
    (x.issue h op (x.skips op) false chk).settle chk 160

/-! ### The issue cycle (R127, R128) -/

/-- What selection finds at one store entry. -/
inductive Pick
  | no
  | bad
  | go (i : TInstr)
  deriving DecidableEq, Repr

/-- Whether the entry n of the store is selected, on the state t. noGmac: the second selection of R128. -/
def pickOf (t : Tile) (noGmac : Bool) (w : W64) : Pick :=
  match decodeWord w with
  | .void => .no
  | .bad => if triggered t (headOf w) && !(noGmac && bits w 46 6 = 0x08) then .bad else .no
  | .instr i =>
    if !(triggered t i.hd) || (noGmac && isGmac i.op) then .no
    else if !(TInstr.legal i) then .bad
    else
      let skip := ({ ix := 0, tile := t, mem := {} } : TX).skips i.op
      if ownReady t i.op && unheld t i.op skip && onTime t i.op skip then .go i else .no

/-- The lowest entry of the store that selection finds, entries in a list not looked at. -/
def select (t : Tile) (noGmac : Bool) (skip : List Nat) : SMap W64 → Option (Nat × W64 × Pick)
  | [] => none
  | (n, w) :: es =>
    if skip.contains n then select t noGmac skip es
    else match pickOf t noGmac w with
      | .no => select t noGmac skip es
      | p => some (n, w, p)

/-- Name the instruction at work. -/
def TX.at (x : TX) (n : Nat) (w : W64) : TX := { x with n := BitVec.ofNat 9 n, word := w }

/-- One selection and issue on the start-of-cycle state t0 (R128): whether anything issued, and the tile. -/
def TX.attempt (x : TX) (t0 : Tile) (chk : List CheckEv) : Bool × TX :=
  match select t0 false [] t0.istore with
  | none => (false, x)
  | some (n, w, .bad) => (false, (x.at n w).illegal)
  | some (_, _, .no) => (false, x)
  | some (n, w, .go i) =>
    let x := x.at n w
    let skip := x.skips i.op
    let y := x.issue i.hd i.op skip true chk
    if skip && y.stop.isNone then
      let z := (({ x with tile := t0 } : TX).issue i.hd i.op true true chk).tile
      match select z true [n] z.istore with
      | some (n2, w2, .bad) => (true, (y.at n2 w2).illegal)
      | some (n2, w2, .go i2) => (true, (y.at n2 w2).issue i2.hd i2.op false true chk)
      | _ => (true, y)
    else (y.hasIssued i.op, y)

/-- The instruction words of the store with wrong check bits are met (R97). -/
def TX.scan (x : TX) : TX :=
  (x.tile.syn.filter fun p => decide (synKey 1 0 ≤ p.1) && decide (p.1 < synKey 1 512)).foldl (fun x p =>
    let n := p.1 - synKey 1 0
    let y := x.fixWord 1 (p.1 - synKey 1 0) p.2
    if x.stop.isNone && y.stop.isSome then { y with n := BitVec.ofNat 9 n } else y) x

/-- The stall counters of a cycle in which nothing issued (R120). -/
def Tile.stalls (t : Tile) : Tile :=
  let names (f : Head → Bool) : Bool := t.istore.any fun p =>
    decodeWord p.2 != .void && f (headOf p.2) && t.getP (headOf p.2).psel.toNat
  let up (m : SMap W16) (k : Nat) (b : Bool) : SMap W16 := if b then SMap.put 0 m k (satInc (SMap.get 0 m k)) else m
  let m := (List.range 5).foldl (fun m n => up m n ((t.queue n).isEmpty && names fun h => h.qmask.getLsbD n)) t.stall
  let m := (List.range 4).foldl (fun m n => up m (5 + n) (t.credit n = 0 && names fun h => h.omask.getLsbD n)) m
  { t with stall := m }

/-- Raise the deadlock probe once 4,096 consecutive cycles are blocked (R116). -/
def Tile.probe (t : Tile) : Tile :=
  if t.ctrl.probeEn && 4096 ≤ t.blocked then { t with status := { t.status with probe := true } } else t

/-- What a cycle in which the scheduler selected counts (R116, R120, R121). -/
def TX.tally (x : TX) (t0 : Tile) (issued : Bool) : TX :=
  if issued then x.upd fun t => { t with blocked := 0, status := { t.status with probe := false } }
  else
    let blk := (List.range 5).any (fun n => !(t0.queue n).isEmpty) && (List.range 4).any fun n => t0.credit n = 0
    let x := x.count 0x08 1
    let x := x.upd fun t => { t with stall := t0.stalls.stall }
    if blk then (x.count 0x09 1).upd fun t => ({ t with blocked := t.blocked + 1 } : Tile).probe
    else x.upd fun t => { t with blocked := 0 }

/-- The end of a cycle: TILE_CTRL.STEP clears, whether or not an instruction was ready (R123). -/
def Tile.tick (t : Tile) : Tile := { t with cyc := t.cyc + 1, ctrl := { t.ctrl with step := false } }

/-- A parity error in an entry of an input queue marks its flit poisoned (R97). -/
def Tile.parityError (t : Tile) (e : Fin 5 × Fin 16) : Tile :=
  { t with iq := SMap.put [] t.iq e.1 (updAt e.2.val (fun (p : Flit) => { p with poison := true }) (t.queue e.1)) }

/-- One cycle of a tile (R128): the instructions in flight work, and where sel the scheduler selects. dup: the two
copies of a duplicated item disagree in this cycle (R97). -/
def TX.cycle (x : TX) (sel dup : Bool) (chk : List CheckEv) : TX :=
  let t0 := x.tile
  let x := (x.pumpAll true chk).count 0x01 1
  let x := if dup && !t0.status.stopped then
      let y := ({ x with n := 0, word := 0 } : TX).raise { cls := 9, block := 5, action := 2 }
      if x.stop.isSome then { y with n := x.n } else y.halt 0x09
    else x
  let x :=
    if sel && x.stop.isNone then
      let x := x.scan
      if x.stop.isSome then x
      else
        let r := x.attempt { t0 with istore := x.tile.istore } chk
        r.2.tally t0 r.1
    else x
  x.upd Tile.tick

end Sys2Proof.Machine
end

