-- ==== Sys2Proof/Machine/TileRun.lean ====
section
/-! DEFINITION. A tile's work put back into the state: stops, records, halyard arrivals, BULK handoffs (R115 to R119). -/
namespace Sys2Proof.Machine

/-- Tile t at work. -/
def State.tx (s : State) (t : Nat) (n : BitVec 9) (w : W64) : TX :=
  { ix := t, n := n, word := w, tile := s.seen t, mem := s.mem }

/-- What an instruction handed to its cluster. -/
def State.handOn (s : State) (t : Nat) : Ext → State
  | .arrive f h v => s.arrive t f.toNat h.toNat v
  | .bulk w tag l r n => s.bulk t w tag.toNat l r n

/-- ARG of the PROBE pennant that tells of a tile, with local tile number l (R244). -/
def Tile.probeArg (x : Tile) (l : Nat) : Nat :=
  let mask (n : Nat) (p : Nat → Bool) : Nat := ((List.range n).map fun i => b2n (p i) * 2 ^ i).sum
  l + 2 ^ 7 * b2n x.status.probe + 2 ^ 8 * mask 5 (fun q => (x.queue q).length = 16) +
    2 ^ 16 * mask 5 (fun q => (x.queue q).isEmpty) + 2 ^ 24 * mask 4 (fun o => x.credit o = 0) + 2 ^ 32 * x.epoch.cur.toNat

/-- Where tile t's probe is no longer as it was before, its sequencer sends a PROBE pennant to the ensign complex; one with
bit 7 = 1 is counted (R244, R259). -/
def State.tellProbe (s : State) (t : Nat) (before : Bool) : State :=
  let x := s.tile t
  if x.status.probe = before then s
  else
    let s := if before then s else s.finc fCanDlCntProbes (cantonOf t)
    s.sendPennant (clusterOf t) ensignNode 6 (x.probeArg (localTile t))

/-- A stop of tile t for a fault of its own reaches its slice (R119). -/
def State.tileStopped (s : State) (t : Nat) (cause : Byte) : State :=
  match s.sliceOf (cantonOf t) with
  | some n => s.stopSlice n (some (t, cause))
  | none => s

/-- Put a tile back after work: its state and memory, its records, its stop, and what it handed on. -/
def State.put (s : State) (t : Nat) (x : TX) : State :=
  let before := (s.tile t).status.probe
  let tile := match x.stop with
    | some c => x.tile.stopWith c (if c = 0x0C then 0 else x.n)
    | none => x.tile
  let s := { (s.setTile t (s.unhide t tile)) with mem := x.mem }
  let s := s.tellProbe t before
  let s := s.reports (cantonSrc (cantonOf t)) (x.recs.map fun r =>
    s.onTile t { r with stopCause := if r.action = 2 then x.stop.getD 0 else 0 })
  let s := x.ext.foldl (fun s e => s.handOn t e) s
  match x.stop with
  | some c => s.tileStopped t c
  | none => s

/-- One instruction of tile t selected and issued by itself, and carried as far as flits and credits allow. A position
without a tile runs nothing. -/
def State.runInstr (s : State) (p : At) (op : TOp) (chk : List CheckEv) : State :=
  if s.isPresent p.tile then
    s.put p.tile ((s.tx p.tile p.n (TInstr.word ⟨p.hd, op⟩)).instr p.hd op chk)
  else s

/-- One cycle of tile t; where sel, the scheduler selects (R128). par: the queue entries whose parity fails in this cycle
(R97). -/
def State.tileCycle (s : State) (t : Nat) (sel dup : Bool) (par : List (Fin 5 × Fin 16)) (chk : List CheckEv) : State :=
  if s.isPresent t then
    let s := if par.isEmpty then s else s.setTile t (par.foldl Tile.parityError (s.tile t))
    s.put t ((s.tx t 0 0).cycle sel dup chk)
  else s

/-- TILE_ISSUE_CYCLE (R128): the scheduler selects where RUN is 1, or a write of STEP asked for one attempt (R123). -/
def execTileIssueCycle (t : TileIx) (dup : Bool) (par : List (Fin 5 × Fin 16)) (chk : List CheckEv)
    (s : State) : Host.Outcome State Fault Refusal :=
  .next (s.tileCycle t (((s.tile t).ctrl.run || (s.tile t).ctrl.step) && !(s.tile t).status.stopped) dup par chk)

/-- TILE_STEP (R128): a write of STEP with its cycle, one issue attempt with RUN = 0 and STOPPED = 0. The write is refused
while the tile's slice is running (R123). -/
def execTileStep (t : TileIx) (dup : Bool) (par : List (Fin 5 × Fin 16)) (chk : List CheckEv)
    (s : State) : Host.Outcome State Fault Refusal :=
  if s.sliceRuns (cantonOf t) || (s.tile t).ctrl.run || (s.tile t).status.stopped then .next s
  else .next (s.tileCycle t true dup par chk)

/-- Whether a foreign head flit of tile t may be discarded under R115: neither current nor the announced next epoch. -/
def Tile.foreignHead (t : Tile) (q : Nat) : Bool :=
  match t.queue q with
  | f :: _ => f.epoch ≠ t.epoch.cur && !(t.epoch.nextValid && f.epoch = t.epoch.next)
  | [] => false

/-- A discard of a flit that is not expected is an error of the slice (R256). -/
def State.epochError (s : State) (c : Nat) (r : Rec) : State :=
  match s.sliceOf c with
  | none => s
  | some n =>
    if (s.canton c).watch = .purging then s
    else
      let s := s.finc fCanDlCntEpochErr c
      let s := s.setSlice n { s.slice n with epochErr := true }
      (s.report (cantonSrc c) (stopRec { r with cls := 0x17 })).stopSlice n none

/-- EPOCH_DISCARD (R115): the head leaves with its credit, EPOCH_DROP is set and event 0x0D counted. -/
def execEpochDiscard (t : TileIx) (q : Fin 5) (s : State) : Host.Outcome State Fault Refusal :=
  let x := s.tile t
  if !((s.seen t).foreignHead q) then .next s
  else
    let x := (x.drop q).count 0x0D 1
    let s := s.setTile t { x with status := { x.status with epochDrop := true } }
    let c := s.canton (cantonOf t)
    let s := if c.watch = .purging then s.setCanton (cantonOf t) { c with purged := c.purged + 1 } else s
    .next (s.epochError (cantonOf t)
      (s.onTile t { cls := 0x17, block := 6, index := BitVec.ofNat 8 (4 + q.val) }))

/-- DEADLOCK_PROBE (R116): after 4,096 consecutive blocked cycles the probe is raised. -/
def execDeadlockProbe (t : TileIx) (s : State) : Host.Outcome State Fault Refusal :=
  let x := s.tile t
  .next ((s.setTile t x.probe).tellProbe t x.status.probe)

/-- A write of TILE_MEM_SPLIT (R109, R110): rows that change their class are re-encoded. -/
def State.writeSplit (s : State) (t : Nat) (v : BitVec 11) : State :=
  let x := s.tile t
  let y := { x with split := v }
  let o := x.splitRow
  let n := y.splitRow
  let b := tileBase t
  let s := s.reencode (b + 64 * min o n) (b + 64 * max o n) (decide (o < n))
  s.setTile t { s.tile t with split := v }

/-- TILE_MEM_SPLIT_WRITE (R110): accepted only while RUN is 0. -/
def execTileMemSplitWrite (t : TileIx) (v : W64) (s : State) : Host.Outcome State Fault Refusal :=
  if (s.tile t).ctrl.run || !(s.isPresent t) then .next s else .next (s.writeSplit t (BitVec.ofNat 11 v.toNat))

end Sys2Proof.Machine
end

