-- ==== Sys2Proof/Machine/Router.lean ====
section
/-! DEFINITION. Routers: registers, table checks, one cycle of a canton's routers, seams, table switches (R170 to
R202). -/
namespace Sys2Proof.Machine

/-! ### Tables (R176, R180, R202) -/

/-- Direction d of tile t crosses a seam (RT_STATUS.SEAM_DIR). -/
def seamDir (t d : Nat) : Bool :=
  match tileNeighbour t d with
  | some j => cantonOf j ≠ cantonOf t
  | none => false

/-- RT_STATUS.LINK_FAIL of direction d: a wafer edge, a failed seam link, a neighbour off or not joined. -/
def Router.noLink (r : Router) (t d : Nat) : Bool := (tileNeighbour t d).isNone || r.linkFail.getLsbD d

/-- The entry of row s for output o. -/
def Router.entry (r : Router) (s o : Nat) : Nat := (SMap.get 0 r.slots (9 * s + o)).toNat
/-- SRC of an entry. -/
def entSrc (e : Nat) : Nat := e % 16
/-- TAG of an entry. -/
def entTag (e : Nat) : Nat := e / 16 % 8
/-- CHK of an entry. -/
def entChk (e : Nat) : Bool := e.testBit 7

/-- The share of tag t in seam queue d. -/
def Router.shareOf (r : Router) (d t : Nat) : Nat := fld (SMap.get 0 r.share d).toNat (6 * t) 6
/-- SEG_INIT of share t of seam queue d: above 32 acts as 32. -/
def Router.shareInitOf (r : Router) (d t : Nat) : Nat := min 32 (fld (SMap.get 0 r.shareInit d).toNat (6 * t) 6)
/-- SEG_INIT of output queue n. -/
def Router.segInit (r : Router) (n : Nat) : Nat := min 32 (fld r.oqInit.toNat (24 + 6 * n) 6)
/-- OQ_CRED of output n. -/
def Router.oqCred (r : Router) (n : Nat) : Nat := min 32 (fld r.oqInit.toNat (6 * n) 6)

/-- Rows of the table. -/
def rows16 : List Nat := List.range 16

/-- TBL_CAUSE (R180): the lowest cause that holds, 0 for none. -/
def Router.tblCause (r : Router) (t : Nat) : Nat :=
  let any (p : Nat → Nat → Nat → Bool) : Bool := rows16.any fun s => (List.range 9).any fun o => p s o (r.entry s o)
  let seamSrc (e : Nat) : Bool := 1 ≤ entSrc e && entSrc e ≤ 4 && seamDir t (entSrc e - 1)
  if any fun _ _ e => decide (8 < entSrc e) then 1
  else if any fun _ o e => decide (o < 4) && decide (entSrc e = o + 1) then 2
  else if any fun _ o e => (o < 4 && entSrc e ≠ 0 && r.noLink t o) ||
      (1 ≤ entSrc e && entSrc e ≤ 4 && r.noLink t (entSrc e - 1)) then 3
  else if (List.range 4).any fun d => seamDir t d && decide (8 < (rows16.filter fun s => entSrc (r.entry s d) ≠ 0).length)
    then 4
  else if (List.range 4).any fun d => seamDir t d && decide (32 < ((List.range 8).map (r.shareOf d)).sum) then 5
  else if any fun _ _ e => seamSrc e && r.shareOf (entSrc e - 1) (entTag e) = 0 then 6
  else if rows16.any fun s => (List.range 9).any fun o => (List.range 9).any fun p =>
      let e := r.entry s o
      let f := r.entry s p
      seamSrc e && entSrc e = entSrc f && entTag e ≠ entTag f then 7
  else 0

/-- Load the credits of the table in effect: SEG_CRED from SEG_INIT, no pending and no join counts (R183, R199). -/
def Router.loadCredits (r : Router) (t : Nat) : Router :=
  let own := (List.range 4).foldl (fun m n => SMap.put 0 m n (r.segInit n)) []
  { r with
    segCred := (List.range 4).foldl (fun m d => (List.range 8).foldl (fun m g =>
      if seamDir t d then SMap.put 0 m (4 + 8 * d + g) (r.shareInitOf d g) else m) m) own
    join := [], pend := [] }

/-! ### Registers of space 0x09 (R202) -/

/-- RT_ERRCNT. -/
def Router.errcnt (r : Router) : W64 := r.errCrc ++ r.errTag ++ r.errMis ++ r.errOvf

/-- Six-bit fields, lowest first. -/
def sixes (xs : List Nat) : Nat := (xs.reverse.foldl (fun n x => n * 64 + x % 64) 0)

/-- The register of space 0x09 at byte offset off, of tile t. -/
def Router.readReg (r : Router) (t off : Nat) : W64 :=
  if off < 0x100 then
    let s := off / 16
    if off % 16 = 0 then BitVec.ofNat 64 ((List.range 8).foldl (fun n o => n + r.entry s o * 256 ^ o) 0)
    else BitVec.ofNat 64 (r.entry s 8)
  else if off = 0x100 then r.oqInit
  else if off = 0x108 then
    BitVec.ofNat 64 (sixes ((List.range 4).map fun n => (SMap.get [] r.oq n).length) +
      2 ^ 24 * sixes ((List.range 4).map fun n => SMap.get 0 r.segCred n))
  else if off < 0x130 then SMap.get 0 r.share ((off - 0x110) / 8)
  else if off < 0x150 then SMap.get 0 r.shareInit ((off - 0x130) / 8)
  else if off < 0x170 then
    let d := (off - 0x150) / 8
    SMap.get 0 r.rxFull d ++ SMap.get 0 r.txEmpty d
  else if off = 0x170 then
    let dirs (p : Nat → Bool) : Nat := (List.range 4).foldl (fun n d => n + b2n (p d) * 2 ^ d) 0
    let c := r.tblCause t
    BitVec.ofNat 64 (c * 2 ^ 14 + dirs (seamDir t) * 2 ^ 10 + dirs (r.noLink t) * 2 ^ 6 + b2n r.shim * 2 ^ 5 +
      b2n (c ≠ 0) * 2 ^ 4 + b2n r.ovfSeen * 8 + b2n r.misrouteSeen * 4 + b2n r.crcSeen * 2 + b2n r.tagSeen)
  else if off = 0x178 then BitVec.ofNat 64 (r.purgeCnt.toNat * 2 ^ 32 + b2n r.purge * 32 + r.epoch.toNat)
  else if off = 0x180 then r.errcnt
  else 0

/-- Bits of fields of 6 bits, [47:0]. -/
def mask48 : W64 := 0x0000FFFFFFFFFFFF

/-- Write a register of space 0x09. -/
def Router.writeReg (r : Router) (off : Nat) (v : W64) : Router :=
  if off < 0x100 then
    let s := off / 16
    if off % 16 = 0 then
      { r with slots := (List.range 8).foldl (fun m o => SMap.put 0 m (9 * s + o) (BitVec.ofNat 8 (fld v.toNat (8 * o) 8))) r.slots }
    else { r with slots := SMap.put 0 r.slots (9 * s + 8) (BitVec.ofNat 8 v.toNat) }
  else if off = 0x100 then { r with oqInit := v &&& mask48 }
  else if off < 0x110 then r
  else if off < 0x130 then { r with share := SMap.put 0 r.share ((off - 0x110) / 8) (v &&& mask48) }
  else if off < 0x150 then { r with shareInit := SMap.put 0 r.shareInit ((off - 0x130) / 8) (v &&& mask48) }
  else if off < 0x170 then
    let d := (off - 0x150) / 8
    { r with rxFull := SMap.put 0 r.rxFull d (BitVec.ofNat 32 (v.toNat / 2 ^ 32))
             txEmpty := SMap.put 0 r.txEmpty d (BitVec.ofNat 32 v.toNat) }
  else if off = 0x170 then
    { r with ovfSeen := r.ovfSeen && !(v.getLsbD 3), misrouteSeen := r.misrouteSeen && !(v.getLsbD 2)
             crcSeen := r.crcSeen && !(v.getLsbD 1), tagSeen := r.tagSeen && !(v.getLsbD 0) }
  else if off = 0x178 then { r with purgeCnt := BitVec.ofNat 32 (v.toNat / 2 ^ 32) }
  else if off = 0x180 then
    { r with errCrc := BitVec.ofNat 16 (v.toNat / 2 ^ 48), errTag := BitVec.ofNat 16 (v.toNat / 2 ^ 32)
             errMis := BitVec.ofNat 16 (v.toNat / 2 ^ 16), errOvf := BitVec.ofNat 16 v.toNat }
  else r

/-- ROUTER_TABLE_WRITE (R180): the register takes the value; TBL_ERR and TBL_CAUSE follow the table as it stands. A
running tile's registers are not written (R123). -/
def execRouterTableWrite (t : TileIx) (off : BitVec 6) (v : W64) (s : State) : Host.Outcome State Fault Refusal :=
  if (s.tile t).ctrl.run then .next s
  else .next (s.setRouter t ((s.router t).writeReg (8 * off.toNat) v))

/-! ### One cycle of one router (R176 to R198) -/

/-- What a router does in one cycle: its new state, flits for the tile's input queues, credits for its outputs,
records, whether a credit overflow stops the slice, and flits discarded under PURGE. -/
structure RStep where
  t : Nat
  r : Router
  toIq : List (Nat × Flit) := []
  cred : List Nat := []
  recs : List Rec := []
  ovf : Bool := false
  purged : Nat := 0
  deriving DecidableEq, Repr

/-- A record of router t (R428, R430): its class, the port, a flit's or share's tag, and the kind of a credit overflow.
Its BLOCK is the seam's for a link that crosses one. -/
def RStep.raise (x : RStep) (cls : W16) (port tag kind : Nat) : RStep :=
  let seam := port < 4 && seamDir x.t port
  { x with recs := x.recs ++ [{ cls := cls, block := if seam then 7 else 6, index := BitVec.ofNat 8 port
                                action := if cls = 0xE then 2 else 0
                                detail0 := BitVec.ofNat 64 (port + 16 * b2n seam + 32 * (tag % 8) + 256 * kind)
                                detail1 := x.r.errcnt }] }

/-- A credit overflow (R193). -/
def RStep.overflow (x : RStep) (port tag kind : Nat) : RStep :=
  { x with ovf := true, r := { x.r with ovfSeen := true, errOvf := satInc x.r.errOvf } }.raise 0xE port tag kind

/-- Discard a flit under PURGE (R198). -/
def RStep.discard (x : RStep) : RStep :=
  { x with r := { x.r with purgeCnt := satInc x.r.purgeCnt }, purged := x.purged + 1 }

/-- Whether PURGE discards a flit. -/
def Router.purges (r : Router) (f : Flit) : Bool := r.purge && f.epoch ≠ r.epoch

/-- The value at a key of a map without default. -/
def optGet {α : Type} (m : SMap α) (k : Nat) : Option α := (m.find? fun p => p.1 = k).map (·.2)

/-- Whether the link between t and its neighbour j passes a remap shim (R24). -/
def State.shimLink (s : State) (t j : Nat) : Bool := (s.router t).shim || (s.router j).shim

/-! ### Halves and their CRC (R171, R173, R174) -/

/-- The sideband of a flit (R173): VALID, KIND, END, EPOCH, POISON, TAG. -/
def Flit.sideband (f : Flit) : BitVec 12 :=
  1#1 ++ f.kind ++ BitVec.ofBool f.eot ++ f.epoch ++ BitVec.ofBool f.poison ++ f.tag

/-- The CRC-8 of a half (R174): its 16 bytes, then one byte of its sideband bits. -/
def halfCrc (data : BitVec 128) (side : BitVec 6) : Byte := crc8 (leBytes 16 data.toNat ++ [side.zeroExtend 8])

/-- A half as a router drives it, with a fresh CRC. -/
def mkHalf (data : BitVec 128) (side : BitVec 6) : Half := ⟨data, side, halfCrc data side⟩

/-- The first half of a flit: payload bytes 0 to 15 and sideband bits [11:6]. -/
def Flit.lo (f : Flit) : Half := mkHalf (f.payload.extractLsb' 0 128) (f.sideband.extractLsb' 6 6)

/-- The second half of a flit: payload bytes 16 to 31 and sideband bits [5:0]. -/
def Flit.hi (f : Flit) : Half := mkHalf (f.payload.extractLsb' 128 128) (f.sideband.extractLsb' 0 6)

/-- A flit as a router drives it onto a link. -/
def Flit.wire (f : Flit) : Wire := ⟨f.lo, f.hi⟩

/-- Whether both halves pass their check. -/
def Wire.ok (w : Wire) : Bool := w.lo.crc == halfCrc w.lo.data w.lo.side && w.hi.crc == halfCrc w.hi.data w.hi.side

/-- The sideband of both halves. -/
def Wire.sideband (w : Wire) : BitVec 12 := w.lo.side ++ w.hi.side

/-- The flit that two halves carry, its fields taken as received: none where VALID is 0 (R173). -/
def Wire.flit (w : Wire) : Option Flit :=
  let b := w.sideband
  if b.getLsbD 11 then
    some { payload := w.hi.data ++ w.lo.data, kind := b.extractLsb' 9 2, eot := b.getLsbD 8, epoch := b.extractLsb' 4 4
           poison := b.getLsbD 3, tag := b.extractLsb' 0 3 }
  else none

/-- A half after what disturbs it on the link. -/
def Half.disturb (h : Half) (n : HalfNoise) : Half := ⟨h.data ^^^ n.data, h.side ^^^ n.side, h.crc ^^^ n.crc⟩

/-- A flit's halves after what disturbs them. -/
def Wire.disturb (w : Wire) (lo hi : HalfNoise) : Wire := ⟨w.lo.disturb lo, w.hi.disturb hi⟩

/-- What stands on link input d of tile t, inside a canton (R176). -/
def State.linkIn (s : State) (t d : Nat) : Option Wire :=
  if seamDir t d then none
  else match tileNeighbour t d with
    | none => none
    | some j => optGet (s.router j).link (if s.shimLink t j then 4 + opp d else opp d)

/-- The credit that stands on the reverse wire of link output d of tile t (R185). -/
def State.revIn (s : State) (t d : Nat) : Bool :=
  if seamDir t d then false
  else match tileNeighbour t d with
    | none => false
    | some j => SMap.get false (s.router j).rev (if s.shimLink t j then 4 + opp d else opp d)

/-- Outputs of a row that share an entry's source. -/
def Router.fork (r : Router) (row src : Nat) : List Nat := (List.range 9).filter fun o => entSrc (r.entry row o) = src

/-- PORT of a sender or receiver: an output queue's, or the link's. -/
def srcPort (src : Nat) : Nat := if src ≤ 4 then src - 1 else src + 4

/-- Pass a credit to an entry's source (R185): a reverse wire, or a sender's SEG_CRED. -/
def RStep.pass (x : RStep) (src tag : Nat) : RStep :=
  let add (x : RStep) (k g : Nat) : RStep :=
    let n := SMap.get 0 x.r.segCred k
    if 32 ≤ n then x.overflow (srcPort src) g 1 else { x with r := { x.r with segCred := SMap.put 0 x.r.segCred k (n + 1) } }
  if src = 0 || 8 < src then x
  else if 5 ≤ src then add x (src - 5) 0
  else if seamDir x.t (src - 1) then add x (4 + 8 * (src - 1) + tag) tag
  else { x with r := { x.r with rev := SMap.put false x.r.rev (src - 1) true } }

/-- A credit for output o of a row (R185, R186): at a fork it raises the join count. -/
def RStep.credit (x : RStep) (row o : Nat) : RStep :=
  let e := x.r.entry row o
  let src := entSrc e
  if src = 0 then x
  else if (x.r.fork row src).length < 2 then x.pass src (entTag e)
  else
    let k := 9 * row + o
    let n := SMap.get 0 x.r.join k
    if 32 ≤ n then x.overflow o (if o < 4 && seamDir x.t o then entTag e else 0) 2
    else { x with r := { x.r with join := SMap.put 0 x.r.join k (n + 1) } }

/-- Join the forks of a row (R186). -/
def RStep.joins (x : RStep) (row : Nat) : RStep :=
  (List.range 9).foldl (fun x src =>
    let os := x.r.fork row src
    if src = 0 || os.length < 2 || !(os.all fun o => 1 ≤ SMap.get 0 x.r.join (9 * row + o)) then x
    else
      let r := { x.r with join := os.foldl (fun m o => SMap.put 0 m (9 * row + o) (SMap.get 0 m (9 * row + o) - 1)) x.r.join }
      ({ x with r := r } : RStep).pass src (entTag (r.entry row (os.headD 0)))) x

/-- Return a receiver's pending credit (R184): the count k, for output o of a row. -/
def RStep.giveBack (x : RStep) (p0 : SMap Nat) (k row o : Nat) : RStep :=
  if SMap.get 0 p0 k = 0 then x
  else ({ x with r := { x.r with pend := SMap.put 0 x.r.pend k (SMap.get 0 x.r.pend k - 1) } } : RStep).credit row o

/-- The credits of a cycle with slot c (R184 to R186): arrivals on reverse wires, returns, joins. bad: the links whose
two copies disagree. -/
def RStep.credits (x : RStep) (s0 : State) (c : Nat) (bad : List Nat) : RStep :=
  let row := (16 - c) % 16
  let p0 := x.r.pend
  let x := (List.range 4).foldl (fun x o =>
    if seamDir x.t o then x
    else
      let x := if bad.contains o then x.raise 0xB o 0 0 else x
      if s0.revIn x.t o || bad.contains o then x.credit row o else x) x
  let x := (List.range 5).foldl (fun x n =>
    if entSrc (x.r.entry row (4 + n)) = 0 then x else x.giveBack p0 n row (4 + n)) x
  let x := (List.range 4).foldl (fun x o =>
    let e := x.r.entry row o
    if seamDir x.t o && entSrc e ≠ 0 then x.giveBack p0 (5 + 8 * o + entTag e) row o else x) x
  x.joins row

/-- Take the head of seam share (d, t). -/
def Router.takeShare (r : Router) (d t : Nat) : Router :=
  let k := 8 * d + t
  { r with seamQ := SMap.put [] r.seamQ k ((SMap.get [] r.seamQ k).drop 1) }

/-- Take the head of output queue n. -/
def Router.takeOq (r : Router) (n : Nat) : Router := { r with oq := SMap.put [] r.oq n ((SMap.get [] r.oq n).drop 1) }

/-- Discards of PURGE at the heads of the buffers (R198). -/
def RStep.purgeHeads (x : RStep) : RStep :=
  if !x.r.purge then x
  else
    let x := (List.range 4).foldl (fun x n => match SMap.get [] x.r.oq n with
      | f :: _ => if x.r.purges f then ({ x with r := x.r.takeOq n } : RStep).discard else x
      | [] => x) x
    let x := (List.range 32).foldl (fun x k => match SMap.get [] x.r.seamQ k with
      | f :: _ => if x.r.purges f then ({ x with r := x.r.takeShare (k / 8) (k % 8) } : RStep).discard else x
      | [] => x) x
    (List.range 4).foldl (fun x d => match SMap.get [] x.r.tx d with
      -- The second half of a flit that has begun to leave follows in this cycle, unless its link has failed.
      | f :: fs => if x.r.purges f && ((optGet x.r.half d).isNone || x.r.noLink x.t d) then
          ({ x with r := { x.r with tx := SMap.put [] x.r.tx d fs, half := SMap.del d x.r.half } } : RStep).discard else x
      | [] => x) x

/-- A flit that a failed check poisons (R174). -/
def RStep.checked (x : RStep) (bad : Bool) (d : Nat) (f : Flit) : Flit × RStep :=
  if bad then
    ({ f with poison := true }, ({ x with r := { x.r with crcSeen := true, errCrc := satInc x.r.errCrc } } : RStep).raise 0xB d f.tag.toNat 0)
  else (f, x)

/-- Lose a flit that came in on link d (R177). -/
def RStep.misroute (x : RStep) (d : Nat) (f : Flit) : RStep :=
  ({ x with r := { x.r with misrouteSeen := true, errMis := satInc x.r.errMis } } : RStep).raise 0xC d f.tag.toNat 0

/-- A flit that two halves carry into link input d: checked (R174), and none where PURGE discards its epoch (R198). -/
def RStep.receive (x : RStep) (d : Nat) (w : Wire) : Option Flit × RStep :=
  match w.flit with
  | none => (none, x)
  | some f =>
    let a := x.checked (!w.ok) d f
    if a.2.r.purges a.1 then (none, a.2.discard) else (some a.1, a.2)

/-- The flit on link input d, after what disturbs it on the link. -/
def RStep.arrive (x : RStep) (s0 : State) (noise : List LinkNoise) (d : Nat) : Option Flit × RStep :=
  match s0.linkIn x.t d with
  | none => (none, x)
  | some w => match noise.find? fun n => n.t.val = x.t && n.d.val = d with
    | some n => x.receive d (w.disturb n.lo n.hi)
    | none => x.receive d w

/-- The flit that a source gives up in row s (R176, R183, R190), and the router after it. -/
def RStep.source (x : RStep) (s0 : State) (noise : List LinkNoise) (s src : Nat) : Option Flit × RStep :=
  let os := x.r.fork s src
  if 5 ≤ src then
    let n := src - 5
    match SMap.get [] x.r.oq n with
    | f :: _ =>
      if os.isEmpty || SMap.get 0 x.r.segCred n = 0 || x.r.purges f then (none, x)
      else
        (some f, { x with r := { x.r.takeOq n with segCred := SMap.put 0 x.r.segCred n (SMap.get 0 x.r.segCred n - 1) }
                          cred := x.cred ++ [n] })
    | [] => (none, x)
  else
    let d := src - 1
    if seamDir x.t d then
      match os with
      | [] => (none, x)
      | o :: _ =>
        let g := entTag (x.r.entry s o)
        let k := 4 + 8 * d + g
        match SMap.get [] x.r.seamQ (8 * d + g) with
        | f :: _ =>
          if SMap.get 0 x.r.segCred k = 0 || x.r.purges f then (none, x)
          else
            let r := x.r.takeShare d g
            (some f, { x with r := { r with
              segCred := SMap.put 0 r.segCred k (SMap.get 0 r.segCred k - 1)
              credWait := SMap.put 0 r.credWait (8 * d + g) (SMap.get 0 r.credWait (8 * d + g) + 1) } })
        | [] => (none, x)
    else
      let a := x.arrive s0 noise d
      match a.1 with
      | none => a
      | some f => if os.isEmpty then (none, a.2.misroute d f) else a

/-- Carry a flit to output o by an entry (R179, R188, R193). -/
def RStep.carry (x : RStep) (q : List Flit) (e o : Nat) (f : Flit) : RStep :=
  let seam := o < 4 && seamDir x.t o
  let bad := (entChk e || seam) && f.tag.toNat ≠ entTag e
  let x := if bad then
      ({ x with r := { x.r with tagSeen := true, errTag := satInc x.r.errTag } } : RStep).raise 0xD (srcPort (entSrc e)) f.tag.toNat 0
    else x
  let f := if bad then { f with poison := true, tag := BitVec.ofNat 3 (entTag e) } else f
  if 4 ≤ o then
    if 16 ≤ q.length then x.overflow o f.tag.toNat 0 else { x with toIq := x.toIq ++ [(o - 4, f)] }
  else if seam then { x with r := { x.r with tx := SMap.put [] x.r.tx o (SMap.get [] x.r.tx o ++ [f]) } }
  else { x with r := { x.r with link := SMap.ins o f.wire x.r.link } }

/-- The row drives output o and no flit came: a seam counts it (R194). -/
def RStep.emptyRow (x : RStep) (o : Nat) : RStep :=
  if o < 4 && seamDir x.t o then
    { x with r := { x.r with txEmpty := SMap.put 0 x.r.txEmpty o (satInc (SMap.get 0 x.r.txEmpty o)) } }
  else x

/-- The flits of a row: every source's flit goes to all its outputs (R176, R177). -/
def RStep.flits (x : RStep) (s0 : State) (noise : List LinkNoise) (s : Nat) : RStep :=
  let tile := s0.tile x.t
  ((List.range 8).map (· + 1)).foldl (fun x src =>
    let r := x.source s0 noise s src
    match r.1 with
    | none => (x.r.fork s src).foldl RStep.emptyRow r.2
    | some f => (r.2.r.fork s src).foldl (fun y o => y.carry (tile.queue (o - 4)) (y.r.entry s o) o f) r.2) x

/-- With TBL_ERR the router drives nothing, returns no credit and discards what arrives (R180); its inputs and reverse
wires are still checked. -/
def RStep.shut (x : RStep) (s0 : State) (noise : List LinkNoise) (bad : List Nat) (row : Nat) : RStep :=
  (List.range 4).foldl (fun x d =>
    let a := x.arrive s0 noise d
    let x := match a.1 with
      | none => a.2
      | some f => a.2.misroute d f
    let x := if bad.contains d && !(seamDir x.t d) then x.raise 0xB d 0 0 else x
    if entSrc (x.r.entry row d) ≠ 0 then x.emptyRow d else x) x

/-- The seam transmitters send one half each (R188); the second half puts the flit on the seam. -/
def Router.transmit (r : Router) (t : Nat) : Router :=
  (List.range 4).foldl (fun r d =>
    if !(seamDir t d) || r.noLink t d then r
    else match SMap.get [] r.tx d with
      | [] => r
      | f :: fs =>
        match optGet r.half d with
        | some h => { r with tx := SMap.put [] r.tx d fs, half := SMap.del d r.half
                             wire := SMap.put [] r.wire d (SMap.get [] r.wire d ++ [⟨h, f.hi⟩]) }
        | none => { r with half := SMap.ins d f.lo r.half }) r

/-- One credit message leaves on each seam input (R191): the tag after the one served last. -/
def Router.credMsgs (r : Router) (w0 : SMap Nat) : Router :=
  (List.range 4).foldl (fun r d =>
    let last := SMap.get 7 r.credLast d
    match ((List.range 8).map fun i => (last + 1 + i) % 8).find? fun g => decide (0 < SMap.get 0 w0 (8 * d + g)) with
    | none => r
    | some g =>
      { r with credWait := SMap.put 0 r.credWait (8 * d + g) (SMap.get 0 r.credWait (8 * d + g) - 1)
               credLast := SMap.put 7 r.credLast d g
               credMsg := SMap.put [] r.credMsg d (SMap.get [] r.credMsg d ++ [g]) }) r

/-- Whether a share of link input d's seam queue is full. -/
def Router.shareFull (r : Router) (d : Nat) : Bool :=
  (List.range 8).any fun g => 0 < r.shareOf d g && r.shareOf d g ≤ (SMap.get [] r.seamQ (8 * d + g)).length

/-- Count the cycles in which a share of a seam queue is full (R194). -/
def Router.countFull (r : Router) (t : Nat) : Router :=
  { r with rxFull := (List.range 4).foldl (fun m d =>
      if seamDir t d && r.shareFull d
      then SMap.put 0 m d (satInc (SMap.get 0 m d)) else m) r.rxFull }

/-- One cycle of router t with slot c. noise: what disturbs link inputs; bad: link outputs whose reverse wire's copies
disagree. -/
def routerStep (s0 : State) (c t : Nat) (noise : List LinkNoise) (bad : List Nat) : RStep :=
  let r0 := s0.router t
  -- The wires carry what was driven in the last cycle; a shim link has a second stage (R176, R185).
  let stage {α : Type} (m : SMap α) : SMap α := (m.filter fun (p : Nat × α) => p.1 < 4 && (tileNeighbour t p.1).any (s0.shimLink t)).map fun (p : Nat × α) => (p.1 + 4, p.2)
  let x : RStep := { t := t, r := { r0.countFull t with link := stage r0.link, rev := stage r0.rev } }
  let w0 := r0.credWait
  let x := x.purgeHeads
  if r0.tblCause t ≠ 0 then x.shut s0 noise bad c
  else
    let x := (x.flits s0 noise c).credits s0 c bad
    { x with r := (x.r.transmit t).credMsgs w0 }

/-! ### One cycle of a canton -/

/-- Routers of canton c that have anything to do: those with state, those whose tile has, and their neighbours. -/
def State.busyRouters (s : State) (c : Nat) : List Nat :=
  let own := ((s.routers.map (·.1)) ++ s.tiles.map (·.1)).filter fun t => cantonOf t = c
  let near := own.flatMap fun t => (List.range 4).filterMap fun d => tileNeighbour t d
  ((own ++ near.filter fun t => cantonOf t = c).eraseDups)

/-- Replace a spilling queue's entry. -/
def Cluster.setSpill (x : Cluster) (y : SpillQ) : Cluster :=
  { x with spillQs := x.spillQs.map fun z => if z.tile = y.tile && z.queue = y.queue then y else z }

/-- End a spill whose pool holds none of its flits (R247 item 5): no arrival waits to be moved, or the tile has popped every
flit that stood ahead of the arrivals, so that they need no moving (DEDUCED, log entry 34). -/
def State.spillEnd (s : State) (t q : Nat) : State :=
  let k := clusterOf t
  let x := s.cluster k
  match x.spillOf t q with
  | none => s
  | some z =>
    if z.slots.isEmpty && (z.kept = 0 || ((s.tile t).queue q).length = z.kept) then
      s.setCluster k { x with spillQs := x.spillQs.filter fun w => !(w.tile.val = t && w.queue.val = q) }
    else s

/-- The controller of canton c answers with a QUIESCE_ACK (R243). -/
def State.answer (s : State) (c : Nat) (a : QAck) : State :=
  (s.cantonEvent c 0x08 1).sendPennant (controllerNode c) ensignNode 2 a.arg

/-- Count flits that canton c discards after a PURGE switch (R255 step 4). -/
def State.countPurged (s : State) (c n : Nat) : State :=
  let x := s.canton c
  if x.watch = .purging then s.setCanton c { x with purged := x.purged + n } else s

/-- Whether router and tile t hold a flit of another epoch than the router's, or the router has not switched yet. -/
def State.holdsOld (s : State) (t : Nat) : Bool :=
  let r := s.router t
  let old (f : Flit) : Bool := f.epoch ≠ r.epoch
  let any (m : SMap (List Flit)) : Bool := m.any fun (p : Nat × List Flit) => p.2.any old
  r.stage.isSome || any r.oq || any r.seamQ || any r.tx || any (s.tile t).iq ||
  r.wire.any (fun (p : Nat × List Wire) => p.2.any fun w => w.flit.any old) || r.link.any fun (p : Nat × Wire) => p.2.flit.any old

/-- A canton whose buffers hold no flit of the old epoch sets PURGE = 0 and answers with its discard count (R255 step 4). -/
def State.purgeDone (s : State) (c : Nat) : State :=
  let x := s.canton c
  let ts := (tilesOf c).filter s.isPresent
  if x.watch = .purging && !(ts.any s.holdsOld) then
    let s := s.mapRouters ts fun _ r => { r with purge := false }
    (s.setCanton c { s.canton c with watch := .none, purged := 0 }).answer c ⟨x.watchSlice.toNat, 5, 0, min x.purged (2 ^ 32 - 1)⟩
  else s

/-- Flits on the seam wires that router r drives. -/
def Router.onSeams (r : Router) (t : Nat) : Nat := (((List.range 4).filter (seamDir t)).map fun d => (SMap.get [] r.wire d).length).sum

/-- Replace router t after its cycle; its canton counts the flits that it put on seams (R466). -/
def State.seamEvent (s : State) (t : Nat) (r : Router) : State :=
  (s.cantonEvent (cantonOf t) 0x04 (r.onSeams t - (s.router t).onSeams t)).setRouter t r

/-- Put a router's cycle into effect: the router, the tile's queues and credits, the records, the stops. -/
def State.apply (s : State) (x : RStep) : State :=
  let t := x.t
  let c := cantonOf t
  let y := s.tile t
  let y := { y with iq := x.toIq.foldl (fun m (p : Nat × Flit) => SMap.put [] m p.1 (SMap.get [] m p.1 ++ [p.2])) y.iq }
  let above := x.cred.filter fun n => 32 ≤ y.credit n
  let y := { y with cred := x.cred.foldl (fun m n =>
    if 32 ≤ (SMap.get 0 m n).toNat then m else SMap.put 0 m n (SMap.get 0 m n + 1)) y.cred }
  let s := ((s.seamEvent t x.r).setTile t y).reports (cantonSrc c) (x.recs.map fun r => s.onTile t r)
  let s := if x.ovf then s.stopAt c else s
  let s := match above with
    | [] => s
    | n :: _ =>
      let r := { cls := 0xE, block := 6, index := BitVec.ofNat 8 (9 + n), stopCause := 0x0C, action := 2
                 detail0 := BitVec.ofNat 64 (9 + n + 256), detail1 := x.r.errcnt : Rec }
      ((s.setTile t ((s.tile t).stopWith 0x0C 0)).report (cantonSrc c) (s.onTile t r)).tileStopped t 0x0C
  (List.range x.purged).foldl (fun s _ => s.epochError c (s.onTile t { cls := 0x17, block := 6 }))
    (if x.purged = 0 then s else s.countPurged c x.purged)

/-- One more pending credit of receiver k, a flit of tag g having left port `port` (R184, R191, R193). -/
def State.pendMore (s : State) (t k port g : Nat) : State :=
  let x : RStep := { t := t, r := s.router t }
  let n := SMap.get 0 x.r.pend k
  s.apply (if 32 ≤ n then x.overflow port g 3 else { x with r := { x.r with pend := SMap.put 0 x.r.pend k (n + 1) } })

/-- The end of the cycle for tile t: popped flits become pending credits, or ask the pool for a flit of a spilling queue
(R247); sent flits enter the output queues (R172). -/
def State.endCycle (s : State) (t : Nat) : State :=
  let x := s.tile t
  let k := clusterOf t
  let step (s : State) (q : Nat) : State :=
    let n := SMap.get 0 x.pops q
    match (s.cluster k).spillOf t q with
    | some y =>
      let ask := min n (y.slots.length - y.owed)
      let s := if n = 0 then s
        else (s.setCluster k ((s.cluster k).setSpill { y with owed := y.owed + ask, kept := y.kept - n })).spillEnd t q
      (List.range (n - ask)).foldl (fun s _ => s.pendMore t q (4 + q) 0) s
    | none => (List.range n).foldl (fun s _ => s.pendMore t q (4 + q) 0) s
  let s := (List.range 5).foldl step (s.setTile t { x with pops := [], outbox := [] })
  let r := s.router t
  s.setRouter t ((List.range 4).foldl (fun (r : Router) n =>
    { r with oq := SMap.put [] r.oq n (SMap.get [] r.oq n ++ SMap.get [] x.outbox n) }) r)

/-- The seam inputs of canton c's routers that have a full share (R194). -/
def State.fullSeams (s : State) (c : Nat) : Nat :=
  (((s.routers.map (·.1)).filter fun t => cantonOf t = c).map fun t =>
    (List.range 4).countP fun d => seamDir t d && (s.router t).shareFull d).sum

/-- One core cycle of canton c, as its counters and its clusters' see it (R465, R466): the cycle; below ratio 0 the cycle
again, and once more where a thermal or cap request governs the ratio; and the seams with a full share. -/
def State.coreCycle (s : State) (c : Nat) : State :=
  let slow := s.fget fCanClkStatRatio c ≠ 0
  let hot := 2 ≤ s.fget fCanClkStatCause c
  let s := (((s.cantonEvent c 0x01 1).cantonEvent c 0x03 (b2n slow)).cantonEvent c 0x0F (b2n hot)).cantonEvent c 0x06 (s.fullSeams c)
  (clustersOf c).foldl (fun s k => s.clusterEvent k 0x01 1) s

/-- ROUTER_SLOT_CYCLE (R176): one core cycle of canton c: every router's row of the current slot, the credits, and the
end of the tiles' cycle. noise says what disturbs flits on the links (R174), rev names the routers and link outputs whose
reverse wire's copies disagree (R185). -/
def execRouterSlotCycle (c : CantonIx) (noise : List LinkNoise) (rev : List (TileIx × Fin 4))
    (s : State) : Host.Outcome State Fault Refusal :=
  if !(s.online c) then .next s
  else
    let s := s.coreCycle c
    let slot := (s.canton c).slot.toNat
    let of (l : List (TileIx × Fin 4)) (t : Nat) : List Nat := (l.filter fun p => p.1.val = t).map (·.2.val)
    let ts := s.busyRouters c
    let xs := ts.map fun t => routerStep s slot t noise (of rev t)
    let s := xs.foldl State.apply s
    let s := ts.foldl State.endCycle s
    .next ((s.setCanton c { s.canton c with slot := (s.canton c).slot + 1 }).purgeDone c)

/-! ### Seams (R189, R191, R195) -/

/-- A flit that came over a seam enters the share of its tag (R189, R193); with TBL_ERR it is lost (R180). -/
def RStep.shareIn (x : RStep) (d : Nat) (f : Flit) : RStep :=
  let k := 8 * d + f.tag.toNat
  let q := SMap.get [] x.r.seamQ k
  if x.r.tblCause x.t ≠ 0 then x.misroute d f
  else if x.r.shareOf d f.tag.toNat ≤ q.length then x.overflow d f.tag.toNat 0
  else { x with r := { x.r with seamQ := SMap.put [] x.r.seamQ k (q ++ [f]) } }

/-- SEAM_FLIT_ARRIVE (R189): the two halves of the next flit on link input d, disturbed by lo and hi, are checked (R174);
where PURGE discards it (R198) nothing else happens, and else it enters its share. -/
def execSeamFlitArrive (t : TileIx) (d : Fin 4) (lo hi : HalfNoise) (s : State) : Host.Outcome State Fault Refusal :=
  match tileNeighbour t d with
  | none => .next s
  | some j =>
    match SMap.get [] (s.router j).wire (opp d) with
    | [] => .next s
    | w :: ws =>
      if !(seamDir t d) then .next s
      else
        let u := s.router j
        let s := s.setRouter j { u with wire := SMap.put [] u.wire (opp d) ws }
        let a := ({ t := t, r := s.router t } : RStep).receive d (w.disturb lo hi)
        .next ((s.cantonEvent (cantonOf t) 0x05 1).apply (match a.1 with
          | none => a.2
          | some f => a.2.shareIn d f))

/-- SEAM_CREDIT_MESSAGE (R191): the next credit message reaches the upstream router at its seam output d. -/
def execSeamCreditMessage (t : TileIx) (d : Fin 4) (s : State) : Host.Outcome State Fault Refusal :=
  match tileNeighbour t d with
  | none => .next s
  | some j =>
    match SMap.get [] (s.router j).credMsg (opp d) with
    | [] => .next s
    | g :: gs =>
      let u := s.router j
      let s := s.setRouter j { u with credMsg := SMap.put [] u.credMsg (opp d) gs }
      .next (s.pendMore t (5 + 8 * d.val + g) d g)

/-- The seam tiles of canton c in direction d. -/
def seamTiles (c d : Nat) : List Nat := (tilesOf c).filter fun t => seamDir t d && (tileNeighbour t d).any fun j =>
  cantonNeighbour c d = some (cantonOf j)

/-- Set or clear LINK_FAIL on both sides of the seam of canton c in direction d. The first half of a flit that was leaving
is lost with the link: its transmitter keeps the flit whole (R195). -/
def State.seamFail (s : State) (c d : Nat) (b : Bool) : State :=
  let one (s : State) (c d : Nat) : State :=
    s.mapRouters (seamTiles c d) fun _ r => { r with linkFail := setBit r.linkFail d b, half := SMap.del d r.half }
  match cantonNeighbour c d with
  | none => s
  | some e => one (one s c d) e (opp d)

/-- SEAM_NEIGHBOUR_LOST (R195): the neighbour of canton c in direction d is off or not joined. -/
def execSeamNeighbourLost (c : CantonIx) (d : Fin 4) (s : State) : Host.Outcome State Fault Refusal :=
  match cantonNeighbour c d with
  | none => .next s
  | some e => if s.online e then .next s else .next (s.seamFail c d true)

/-! ### Table switches (R199) -/

/-- The switch of one router: the staged table, shares, credits and epoch. -/
def Router.switch (t : Nat) (r : Router) : Router :=
  match r.stage with
  | some g =>
    if g.released then
      ({ r with slots := g.slots, oqInit := g.oqInit, share := g.share, shareInit := g.shareInit, epoch := g.epoch
                purge := g.purge, stage := none } : Router).loadCredits t
    else r
  | none => r

/-- TABLE_SWITCH (R199): at slot 0 every router of the canton whose switch is released takes its staged table;
a controller that waits for this answers (R253 step 5). -/
def execTableSwitch (c : CantonIx) (s : State) : Host.Outcome State Fault Refusal :=
  if (s.canton c).slot = 0 then
    let s := s.mapRouters (tilesOf c) Router.switch
    match (s.canton c).watch with
    | .switching => .next ((s.setCanton c { s.canton c with watch := .none }).answer c ⟨(s.canton c).watchSlice.toNat, 4, 0, 0⟩)
    | _ => .next (s.purgeDone c)
  else .next s

end Sys2Proof.Machine
end

