-- ==== Sys2Proof/Machine/Space.lean ====
section
/-! DEFINITION. The spaces of a tile as indirect access, images and checkpoints see them (R123, R202, R234, R359). -/
namespace Sys2Proof.Machine

/-- The bytes of a space (R123); 0 for a reserved one. -/
def spaceSize (space : Nat) : Nat :=
  match space with
  | 0 => 65536
  | 1 => 4096
  | 2 => 2048
  | 3 => 2048
  | 4 => 512
  | 5 => 1024
  | 6 => 512
  | 7 => 512
  | 8 => 256
  | 9 => 512
  | _ => 0

/-! ### Registers of space 0x08 (R123) -/

/-- Sixteen-bit fields, lowest first. -/
def sixteens (xs : List Nat) : Nat := xs.foldr (fun x n => x % 65536 + 65536 * n) 0

/-- Five-bit fields, lowest first. -/
def fives (xs : List Nat) : Nat := xs.foldr (fun x n => x % 32 + 32 * n) 0

/-- TILE_STATUS. -/
def Tile.statusWord (t : Tile) : Nat :=
  let s := t.status
  s.stopCause.toNat * 2 ^ 48 + s.stopIndex.toNat * 2 ^ 39 + b2n s.probe * 2 ^ 11 + b2n s.corrected * 2 ^ 10 +
  b2n s.epochDrop * 2 ^ 9 + b2n s.poison * 2 ^ 8 + b2n s.fShd * 2 ^ 7 + b2n s.fNanZero * 2 ^ 6 + b2n s.fNan * 2 ^ 5 +
  b2n s.fOvf * 2 ^ 4 + b2n s.vInvalid * 2 ^ 3 + b2n s.stopped * 2 + b2n (t.ctrl.run && !s.stopped)

/-- The register of space 0x08 at a byte offset (R123). -/
def Tile.readReg (t : Tile) (off : Nat) : W64 :=
  BitVec.ofNat 64 (
    if off = 0 then b2n t.ctrl.run + 2 * b2n t.ctrl.step + 4 * b2n t.ctrl.zskip + 8 * b2n t.ctrl.probeEn + 16 * b2n t.ctrl.evtFreeze
    else if off = 0x08 then t.statusWord
    else if off = 0x10 then t.epoch.cur.toNat + 16 * t.epoch.next.toNat + 256 * b2n t.epoch.nextValid
    else if off = 0x18 then t.split.toNat
    else if off = 0x20 then leNat ((List.range 4).map fun i => SMap.get 0 t.evtSel i)
    else if off ≤ 0x40 then (SMap.get 0 t.evtCnt ((off - 0x28) / 8)).toNat
    else if off = 0x48 then sixteens ((List.range 4).map fun i => (SMap.get 0 t.stall i).toNat)
    else if off = 0x50 then sixteens ((List.range 4).map fun i => (SMap.get 0 t.stall (4 + i)).toNat)
    else if off = 0x58 then (SMap.get 0 t.stall 8).toNat
    else if off = 0x60 then
      fives ((List.range 5).map fun i => (t.queue i).length) + 2 ^ 25 * sixes ((List.range 4).map t.credit)
    else if off = 0x68 then sixteens ((List.range 4).map fun i => (SMap.get 0 t.lc i).toNat)
    else if off = 0x70 then t.pred.toNat / 2 * 2 + 1
    else if off = 0x78 then t.gTag.toNat
    else if off = 0x80 then
      t.vTag.toNat * 2 ^ 32 + (List.range 32).foldl (fun n i => n + b2n (SMap.get {} t.lanes i).poison * 2 ^ i) 0
    else if off = 0x88 then t.bTag.toNat * 2 ^ 32 + t.aTag.toNat
    else 0)

/-- Write SEL0 to SEL3, or stall counters, from the fields of a word. -/
def putFields {n : Nat} (m : SMap (BitVec n)) (base cnt : Nat) (v : W64) : SMap (BitVec n) :=
  (List.range cnt).foldl (fun m i => SMap.put 0 m (base + i) (BitVec.ofNat n (v.toNat / 2 ^ (n * i)))) m

/-- Clearing STOPPED clears STOP_CAUSE; the W1C flags of TILE_STATUS (R123). -/
def Tile.clearFlags (t : Tile) (v : W64) : Tile :=
  let keep (b : Bool) (i : Nat) : Bool := b && !(v.getLsbD i)
  let s := t.status
  { t with status := { s with
      corrected := keep s.corrected 10, epochDrop := keep s.epochDrop 9, poison := keep s.poison 8
      fShd := keep s.fShd 7, fNanZero := keep s.fNanZero 6, fNan := keep s.fNan 5, fOvf := keep s.fOvf 4
      vInvalid := keep s.vInvalid 3 } }

/-- Write a register of space 0x08 (R123): the fields that software writes. STEP acts with RUN = 0 and STOPPED = 0. -/
def Tile.writeReg (t : Tile) (off : Nat) (v : W64) : Tile :=
  if off = 0 then
    { t with ctrl := { run := v.getLsbD 0, step := v.getLsbD 1 && !(v.getLsbD 0) && !t.status.stopped, zskip := v.getLsbD 2, probeEn := v.getLsbD 3, evtFreeze := v.getLsbD 4 } }
  else if off = 0x08 then t.clearFlags v
  else if off = 0x18 then { t with split := BitVec.ofNat 11 v.toNat }
  else if off = 0x20 then { t with evtSel := putFields t.evtSel 0 4 v }
  else if 0x28 ≤ off && off ≤ 0x40 then
    let i := (off - 0x28) / 8
    let o := SMap.get 0 t.evtCnt i
    { t with evtCnt := SMap.put 0 t.evtCnt i (BitVec.ofNat 33
        (v.toNat % 2 ^ 32 + (if o.getLsbD 32 && !(v.getLsbD 32) then 2 ^ 32 else 0))) }
  else if off = 0x48 then { t with stall := putFields t.stall 0 4 v }
  else if off = 0x50 then { t with stall := putFields t.stall 4 4 v }
  else if off = 0x58 then { t with stall := putFields t.stall 8 1 v }
  else if off = 0x68 then { t with lc := putFields t.lc 0 4 v }
  else if off = 0x70 then { t with pred := BitVec.ofNat 8 (v.toNat / 2 * 2 % 256) }
  else t

/-! ### Lanes and tables (R90, R52) -/

/-- Word w of the slot-lane space. -/
def Tile.laneWord (t : Tile) (w : Nat) : W64 :=
  let l := SMap.get {} t.lanes (w / 2)
  BitVec.ofNat 64 (if w % 2 = 0 then l.laneBits else l.stateBits + 2 ^ 16 * l.shed.toNat)

/-- Write word w of the slot-lane space; the poison tag stays. -/
def Tile.setLaneWord (t : Tile) (w : Nat) (v : W64) : Tile :=
  let l := SMap.get {} t.lanes (w / 2)
  let l' :=
    if w % 2 = 0 then Lane.ofBits v.toNat l.stateBits l.shed.toNat l.poison
    else Lane.ofBits l.laneBits (fld v.toNat 0 16) (fld v.toNat 16 16) l.poison
  { t with lanes := SMap.put {} t.lanes (w / 2) l' }

/-- The parity bit stored with a table entry: even over its 16 bits, and wrong where the entry is marked. -/
def tableParity (e : W16 × Bool) : Nat := (popcount 16 e.1.toNat + b2n e.2) % 2

/-- Word w of the decode tables: entries 2w and 2w + 1 with their parity bits. -/
def Tile.tableWord (t : Tile) (w : Nat) : W64 :=
  let a := tableEntry t.tables (2 * w)
  let b := tableEntry t.tables (2 * w + 1)
  BitVec.ofNat 64 (a.1.toNat + 2 ^ 16 * tableParity a + 2 ^ 32 * b.1.toNat + 2 ^ 48 * tableParity b)

/-- Write word w of the decode tables: the parity is computed. -/
def Tile.setTableWord (t : Tile) (w : Nat) (v : W64) : Tile :=
  let m := SMap.put (0, false) t.tables (2 * w) (BitVec.ofNat 16 v.toNat, false)
  { t with tables := SMap.put (0, false) m (2 * w + 1) (BitVec.ofNat 16 (v.toNat / 2 ^ 32), false) }

/-! ### Words of any space -/

/-- The 8 B word at word offset w of a space of tile t, as it is held. -/
def State.getSpace (s : State) (t space w : Nat) : W64 :=
  let x := s.tile t
  match space with
  | 0 => s.mem.word (tileBase t + 8 * w)
  | 6 => x.laneWord w
  | 7 => x.tableWord w
  | 8 => x.readReg (8 * w)
  | 9 => (s.router t).readReg t (8 * w)
  | _ => x.spaceWord space w

/-- Clear the poison tag of a register or of a buffer's row. -/
def Tile.clearTag (t : Tile) (space w : Nat) : Tile :=
  match space with
  | 2 => { t with aTag := setBit t.aTag (w / 8) false }
  | 3 => { t with bTag := setBit t.bTag (w / 8) false }
  | 4 => { t with gTag := setBit t.gTag w false }
  | 5 => { t with vTag := setBit t.vTag (w / 16) false }
  | _ => t

/-- Write the 8 B word at word offset w of a space of tile t with valid check bits. The poison tag of a register, a buffer
row or a lane stays: R117 speaks of instructions only (DESIGN CHOICE, log entry 86). -/
def State.putSpace (s : State) (t space w : Nat) (v : W64) : State :=
  let x := s.tile t
  match space with
  | 0 => s.updMem (·.putWord (tileBase t + 8 * w) v 0)
  | 6 => s.setTile t (x.setLaneWord w v)
  | 7 => s.setTile t (x.setTableWord w v)
  | 8 => if w = 3 then s.writeSplit t (BitVec.ofNat 11 v.toNat) else s.setTile t (x.writeReg (8 * w) v)
  | 9 => s.setRouter t ((s.router t).writeReg (8 * w) v)
  | _ => s.setTile t ((x.setSpaceWord space w v).clean space w 1)

/-- Write consecutive words. -/
def State.putWords (s : State) (t space w : Nat) : List W64 → State
  | [] => s
  | v :: vs => (s.putSpace t space w v).putWords t space (w + 1) vs

/-- The 64-bit words of a byte string. -/
def wordsOf (bs : List Byte) : List W64 :=
  (List.range (bs.length / 8)).map fun i => BitVec.ofNat 64 (leNat ((bs.drop (8 * i)).take 8))

/-- The words of a whole space. -/
def State.spaceWords (s : State) (t space : Nat) : List W64 :=
  (List.range (spaceSize space / 8)).map (s.getSpace t space)

/-- Words as bytes. -/
def bytesOf (ws : List W64) : List Byte := ws.flatMap fun w => leBytes 8 w.toNat

end Sys2Proof.Machine
end

