-- ==== Sys2Proof/Machine/Image.lean ====
section
/-! DEFINITION. Drios images: the container, its records and its validity (R230 to R237, R288, R289, R494, R495). -/
namespace Sys2Proof.Machine

/-! ### The container (R230 to R232) -/

/-- One entry of the section table (R231). -/
structure Sect where
  typ : Nat
  set : Nat
  config : Nat
  required : Bool
  off : Nat
  size : Nat
  count : Nat
  crc : Nat
  deriving DecidableEq, Repr

/-- The section-table entry at a byte offset. -/
def sectAt (img : List Byte) (o : Nat) : Sect :=
  { typ := leAt o 2 img, set := leAt (o + 2) 1 img, config := leAt (o + 3) 1 img, required := (leAt (o + 4) 2 img).testBit 0
    off := leAt (o + 8) 8 img, size := leAt (o + 16) 8 img, count := leAt (o + 24) 4 img, crc := leAt (o + 28) 4 img }

/-- The section table. -/
def sectsOf (img : List Byte) : List Sect :=
  (List.range (min 4096 (leAt 12 4 img))).map fun i => sectAt img (leAt 16 8 img + 32 * i)

/-- The bytes of a section. -/
def Sect.bytes (x : Sect) (img : List Byte) : List Byte := (img.drop x.off).take x.size

/-- The header's conditions (R230, R239 step 1, R495) on an image of `size` bytes. -/
def headerOk (img : List Byte) (size : Nat) : Bool :=
  let zeroed := spliceAt 60 (leBytes 4 0) (spliceAt 36 (leBytes 4 0) (img.take 64))
  img.length = size && 64 ≤ size && leAt 24 8 img = size &&
  img.take 4 = [0x57, 0x44, 0x52, 0x49] && leAt 4 2 img = 1 && leAt 60 4 img = 0x5EA10D1F &&
  leAt 36 4 img = (crc32 zeroed).toNat && leAt 8 4 img = 64 &&
  1 ≤ leAt 12 4 img && leAt 12 4 img ≤ 4096 && leAt 16 8 img % 8 = 0 && leAt 16 8 img + 32 * leAt 12 4 img ≤ size &&
  1 ≤ leAt 32 1 img && leAt 32 1 img ≤ 16

/-- Types whose sections carry CONFIG 0xFF (R232). -/
def perSet (t : Nat) : Bool := t = 1 || t = 3 || t = 5 || t = 6 || t = 7
/-- Types whose sections belong to a configuration: 0 to 15, or 0xFF for every one (R231, R232). -/
def perConfig (t : Nat) : Bool := t = 2 || t = 4 || t = 8

/-- The conditions on one section-table entry (R231, R232, R495). -/
def Sect.ok (x : Sect) (size sets : Nat) : Bool :=
  x.off % 8 = 0 && x.off + x.size ≤ size &&
  (if perSet x.typ then x.set < sets && x.config = 0xFF
   else if perConfig x.typ then x.set < sets && (x.config ≤ 15 || x.config = 0xFF)
   else if x.typ = 9 then decide (x.set < sets)
   else !x.required)

/-- Every slice set has exactly one SLICE section, of one record (R495). -/
def sliceSects (xs : List Sect) (sets : Nat) : Bool :=
  (List.range sets).all fun n => match xs.filter fun x => x.typ = 1 && x.set = n with
    | [x] => x.size = 64 && x.count = 1
    | _ => false

/-! ### Records -/

/-- A TILE or PATCH record (R234). -/
structure TileRec where
  tile : Nat
  space : Nat
  off : Nat
  data : List Byte
  deriving DecidableEq, Repr

/-- The records of a TILE or PATCH section: n of them, filling the section. -/
def tileRecs : Nat → List Byte → Option (List TileRec)
  | 0, bs => if bs.isEmpty then some [] else none
  | n + 1, bs =>
    let len := 8 * leAt 6 2 bs
    if bs.length < 16 + len || len = 0 || 65536 < len then none
    else
      match tileRecs n (bs.drop (16 + len)) with
      | some rs => some ({ tile := leAt 0 4 bs % 2 ^ 18, space := leAt 4 1 bs, off := leAt 8 2 bs, data := (bs.drop 16).take len } :: rs)
      | none => none

/-- The space, offset and extent of a record (R234, R495). -/
def TileRec.ok (r : TileRec) : Bool :=
  let ws := (List.range (r.data.length / 8)).map fun i => r.off + 8 * i
  (r.space ≤ 5 || r.space = 7 || r.space = 8 || r.space = 9) && r.off % 8 = 0 && r.off + r.data.length ≤ spaceSize r.space &&
  (r.space ≠ 8 || ws.all fun o => o = 0 || o = 0x18 || o = 0x20) && r.tile < 230400

/-- A stage (R235). -/
structure Stage where
  n : Nat
  x : Nat
  y : Nat
  w : Nat
  h : Nat
  deriving DecidableEq, Repr

/-- Whether a stage's rectangle holds a tile. -/
def Stage.has (g : Stage) (t : Nat) : Bool :=
  g.x ≤ t % 640 && t % 640 < g.x + g.w && g.y ≤ t / 640 && t / 640 < g.y + g.h

/-- The tiles of a stage's rectangle. -/
def Stage.tiles (g : Stage) : List Nat :=
  (List.range g.h).flatMap fun j => (List.range g.w).map fun i => (g.y + j) * 640 + g.x + i

/-- Whether two stages' rectangles overlap. -/
def Stage.meets (a b : Stage) : Bool := a.x < b.x + b.w && b.x < a.x + a.w && a.y < b.y + b.h && b.y < a.y + a.h

/-- Fixed-size records that fill a section; none where the section's size does not match COUNT (R231). -/
def fixedRecs (k : Nat) (x : Sect) (img : List Byte) : Option (List (List Byte)) :=
  if x.size = k * x.count then some ((List.range x.count).map fun i => sliceOf (k * i) k (x.bytes img)) else none

/-- A participation record (R236). -/
structure HalRec where
  flag : Nat
  count : Nat
  agent : Bool
  unit : Nat
  deriving DecidableEq, Repr

/-- A participation record's fields. -/
def halRecOf (b : List Byte) : HalRec :=
  let u := leAt 2 2 b
  { flag := leAt 0 1 b, count := leAt 1 1 b, agent := u.testBit 15, unit := if u.testBit 15 then u % 128 else u % 8192 }

/-- A relocation record (R237). -/
structure Reloc where
  stage : Nat
  alt : Nat
  kind : Nat
  dx : Int
  dy : Int
  first : Nat
  count : Nat
  tile : Nat
  space : Nat
  field : Nat
  off : Nat
  deriving DecidableEq, Repr

/-- A relocation record's fields. -/
def relocOf (b : List Byte) : Reloc :=
  { stage := leAt 0 2 b, alt := leAt 2 1 b, kind := leAt 3 1 b, dx := sext (leAt 4 2 b) 16, dy := sext (leAt 6 2 b) 16
    first := leAt 8 4 b, count := leAt 12 4 b, tile := leAt 4 4 b % 2 ^ 18, space := leAt 8 1 b, field := leAt 9 1 b
    off := leAt 10 2 b }

/-- A CLUSTER record (R288). -/
structure ClusterRec where
  kind : Nat
  pf : Nat
  stage : Nat
  cluster : Nat
  body : List Byte
  deriving DecidableEq, Repr

/-- The records of a CLUSTER section: n of them, filling it. -/
def clusterRecs : Nat → List Byte → Option (List ClusterRec)
  | 0, bs => if bs.isEmpty then some [] else none
  | n + 1, bs =>
    let kind := leAt 0 1 bs
    let len8 := leAt 8 4 bs
    let fits := (kind = 1 && len8 = 2) || (kind = 2 && len8 = 5 && leAt 1 1 bs ≤ 15) || (kind = 3 && 2 ≤ len8)
    if bs.length < 16 + 8 * len8 || !fits then none
    else match clusterRecs n (bs.drop (16 + 8 * len8)) with
      | some rs => some ({ kind := kind, pf := leAt 1 1 bs, stage := leAt 2 2 bs, cluster := leAt 4 4 bs % 8192,
                           body := (bs.drop 16).take (8 * len8) } :: rs)
      | none => none

/-- A BAYMAP record (R289). -/
structure BayRec where
  bay : Nat
  region : Nat
  count : Nat
  classW : Bool
  cache : Bool
  deriving DecidableEq, Repr

/-- A BAYMAP record's fields. -/
def bayRecOf (b : List Byte) : BayRec :=
  { bay := leAt 0 1 b, region := leAt 1 1 b, count := leAt 2 1 b, classW := (leAt 3 1 b).testBit 0, cache := (leAt 3 1 b).testBit 1 }

/-- The regions of a BAYMAP record: (bay, region). -/
def BayRec.regions (r : BayRec) : List (Nat × Nat) := (List.range r.count).map fun i => (r.bay, r.region + i)

/-- Join the results of a list, none where one fails. -/
def allOf {α β : Type} (f : α → Option (List β)) : List α → Option (List β)
  | [] => some []
  | x :: xs => match f x, allOf f xs with
    | some a, some b => some (a ++ b)
    | _, _ => none

/-! ### A slice set -/

/-- One slice set of an image: its SLICE record and its sections' records (R233 to R237, R288, R289). -/
structure Img where
  cx0 : Nat
  cy0 : Nat
  cw : Nat
  ch : Nat
  epoch : Nat
  endFlag : Nat
  endOp : Nat
  spillKib : Nat
  flags : Nat
  caps : List Nat
  build : Nat
  stages : List Stage
  relocs : List Reloc
  clusters : List ClusterRec
  bays : List BayRec
  /-- TILE, PATCH and participation records with the CONFIG of their section. -/
  tiles : List (Nat × TileRec)
  patches : List (Nat × TileRec)
  hal : List (Nat × HalRec)
  /-- Configurations that a section names, and 0. -/
  configs : List Nat
  deriving DecidableEq, Repr

/-- The sections of one type, each read by f. -/
def ofType {β : Type} (xs : List Sect) (t : Nat) (f : Sect → Option (List β)) : Option (List β) :=
  allOf f (xs.filter fun x => x.typ = t)

/-- Pair records with their section's CONFIG. -/
def tagged {β : Type} (x : Sect) (rs : Option (List β)) : Option (List (Nat × β)) := rs.map fun l => l.map fun r => (x.config, r)

/-- Read a slice set; none where its sections do not hold their records. -/
def imgOf (img : List Byte) (set : Nat) : Option Img :=
  let xs := (sectsOf img).filter fun x => x.set = set
  match xs.find? fun x => x.typ = 1 with
  | none => none
  | some sl =>
    let b := sl.bytes img
    let fixed {β : Type} (k : Nat) (f : List Byte → β) (x : Sect) : Option (List β) := (fixedRecs k x img).map fun l => l.map f
    let stage (r : List Byte) : Stage := ⟨leAt 0 2 r, leAt 2 2 r, leAt 4 2 r, leAt 6 2 r, leAt 8 2 r⟩
    match ofType xs 3 (fixed 16 stage), ofType xs 7 (fixed 32 relocOf), ofType xs 5 (fun x => clusterRecs x.count (x.bytes img)),
          ofType xs 6 (fixed 8 bayRecOf), ofType xs 2 (fun x => tagged x (tileRecs x.count (x.bytes img))),
          ofType xs 8 (fun x => tagged x (tileRecs x.count (x.bytes img))), ofType xs 4 (fun x => tagged x (fixed 8 halRecOf x)) with
    | some st, some rl, some cl, some bm, some ti, some pa, some ha =>
      some { cx0 := leAt 0 1 b, cy0 := leAt 1 1 b, cw := leAt 2 1 b, ch := leAt 3 1 b, epoch := leAt 4 1 b
             endFlag := leAt 5 1 b, endOp := leAt 6 1 b, spillKib := if leAt 8 2 b = 0 then 64 else leAt 8 2 b
             flags := leAt 10 2 b, caps := (List.range 4).map fun i => leAt (16 + 8 * i) 8 b, build := leAt 40 8 img
             stages := st, relocs := rl, clusters := cl, bays := bm, tiles := ti, patches := pa, hal := ha
             configs := (0 :: ((xs.filter fun x => perConfig x.typ && x.config ≤ 15).map (·.config))).eraseDups }
    | _, _, _, _, _, _, _ => none

/-- The records of configuration c, in section order. -/
def forConfig {β : Type} (c : Nat) (l : List (Nat × β)) : List β := (l.filter fun p => p.1 = c || p.1 = 0xFF).map (·.2)

/-- Whether canton c lies in the set's rectangle. -/
def Img.holds (m : Img) (c : Nat) : Bool :=
  c < 100 && m.cx0 ≤ c % 10 && c % 10 < m.cx0 + m.cw && m.cy0 ≤ c / 10 && c / 10 < m.cy0 + m.ch

/-- SPILL_OFF (R233). -/
def Img.spillOff (m : Img) : Bool := m.flags.testBit 1

/-- The first offset of the spill pool; the end of the window where no pool is reserved (R248, R259). -/
def Img.poolBase (m : Img) : Nat := if m.spillOff then 0x180000 else 0x180000 - m.spillKib * 1024

/-- CLASS_W and CACHE_BANKS of a cluster: those of its last CONFIG record, or 0 (R288). -/
def cfgOf (rs : List ClusterRec) (k : Nat) : Nat × Nat :=
  rs.foldl (fun a r => if r.kind = 1 && r.cluster = k then (leAt 0 4 r.body % 2 ^ 24, leAt 4 1 r.body) else a) (0, 0)

/-- The stage that holds a tile. -/
def Img.stageOf (m : Img) (t : Nat) : Option Stage := m.stages.find? fun g => g.has t

/-- No two elements of a list are related. -/
def pairwise {α : Type} (p : α → α → Bool) : List α → Bool
  | [] => true
  | x :: xs => xs.all (fun y => !(p x y)) && pairwise p xs

/-- The conditions on the SLICE record (R227, R233, R495). -/
def Img.sliceOk (m : Img) : Bool :=
  1 ≤ m.cw && 1 ≤ m.ch && m.cx0 + m.cw ≤ 10 && m.cy0 + m.ch ≤ 10 && m.epoch ≤ 15 &&
  (m.endFlag ≤ 63 || m.endFlag = 0xFF) && m.endOp ≤ 4 && m.spillKib % 4 = 0 && m.spillKib ≤ 512 &&
  (!(m.flags.testBit 0) || m.cw * m.ch ≤ 16)

/-- The conditions on the stages (R235, R495). -/
def Img.stagesOk (m : Img) : Bool :=
  (m.stages.all fun g => 1 ≤ g.w && 1 ≤ g.h && 64 * m.cx0 ≤ g.x && g.x + g.w ≤ 64 * (m.cx0 + m.cw) &&
    36 * m.cy0 ≤ g.y && g.y + g.h ≤ 36 * (m.cy0 + m.ch)) && pairwise (fun a b => a.n = b.n || a.meets b) m.stages

/-- The conditions on TILE and PATCH records (R234, R235, R495). -/
def Img.tilesOk (m : Img) : Bool :=
  (m.tiles.all fun p => p.2.ok && m.holds (cantonOf p.2.tile) && (m.stageOf p.2.tile).isSome) &&
  m.patches.all fun p => p.2.ok && m.holds (cantonOf p.2.tile)

/-- The conditions on participation records (R236, R495). -/
def Img.halOk (m : Img) : Bool :=
  (m.hal.all fun p => let r := p.2
    r.flag ≤ 63 && (if r.agent then m.holds r.unit && r.count ≤ 1
      else r.unit < 4800 && m.holds (cantonOfCluster r.unit) && r.count ≤ 48)) &&
  (m.endFlag = 0xFF || m.configs.all fun c => (forConfig c m.hal).any fun r => r.agent && r.flag = m.endFlag && r.count = 1)

/-- The conditions on CLUSTER records (R263, R288, R495). -/
def Img.clustersOk (m : Img) : Bool :=
  m.clusters.all fun r =>
    r.cluster < 4800 && m.holds (cantonOfCluster r.cluster) &&
    (match r.kind with
      | 1 => leAt 4 1 r.body ≤ 16 && leAt 0 4 r.body % 2 ^ 24 / 2 ^ (m.poolBase / 65536) = 0
      | 2 => 0 < (cfgOf m.clusters r.cluster).2
      | _ =>
        let o := leAt 0 8 r.body
        o % 8 = 0 && (cfgOf m.clusters r.cluster).2 * 65536 ≤ o && o + (r.body.length - 8) ≤ m.poolBase)

/-- The conditions on BAYMAP records (R289). -/
def Img.baysOk (m : Img) : Bool :=
  (m.bays.all fun r => r.bay < 40 && 1 ≤ r.count && r.region + r.count ≤ 128) &&
  pairwise (fun a b => a.bay = b.bay && a.region < b.region + b.count && b.region < a.region + a.count) m.bays

/-- The shift of an alternative of a stage. -/
def Img.shiftOf (m : Img) (stage alt : Nat) : Option Reloc :=
  m.relocs.find? fun r => r.kind = 1 && r.stage = stage && r.alt = alt

/-- The conditions on relocation records (R237, R495). -/
def Img.relocsOk (m : Img) : Bool :=
  m.relocs.all fun r =>
    (m.stages.any fun g => g.n = r.stage) && 1 ≤ r.alt && r.alt ≤ 4 &&
    (r.kind = 1 || (r.kind = 2 && (r.space = 0 || r.space = 4) && r.field ≤ 1 && r.off % 8 = 0 && r.off < spaceSize r.space &&
      r.tile < 230400 && (r.field = 0 || (m.shiftOf r.stage r.alt).all fun q => q.dx % 8 = 0 && q.dy % 6 = 0)))

/-- Every condition on a slice set. -/
def Img.ok (m : Img) : Bool :=
  m.sliceOk && m.stagesOk && m.tilesOk && m.halOk && m.clustersOk && m.baysOk && m.relocsOk

/-- Step 1 of R239 (R495): the slice set of a valid image. A condition that any set of the image breaks makes the whole image
invalid. -/
def checkImage (img : List Byte) (size set : Nat) : Option Img :=
  if !(headerOk img size) then none
  else
    let xs := sectsOf img
    let sets := leAt 32 1 img
    if (xs.all fun x => x.ok size sets) && sliceSects xs sets && set < sets &&
       (xs.all fun x => x.set ≠ set || (crc32 (x.bytes img)).toNat = x.crc) then
      if (List.range sets).all fun i => (imgOf img i).any Img.ok then imgOf img set else none
    else none

/-- The CAP_ registers in the order of R233: CAP_COUNTS, CAP_TILE_MEM, CAP_CLUSTER_MEM, CAP_BAY (R34). -/
def capValues : List Nat := [0x1014280268680A0A, 0x0000020404000840, 0x0000101020181040, 0x0100200013240080]

/-! ### Shifts (R237) -/

/-- The alternative chosen for each stage that moves: (stage, alternative). -/
abbrev Shifts := List (Nat × Nat)

/-- The shift in force for a stage: its record, where it moves. -/
def Img.moved (m : Img) (a : Shifts) (stage : Nat) : Option Reloc :=
  match a.find? fun p => p.1 = stage with
  | some p => m.shiftOf stage p.2
  | none => none

/-- Move a natural number by an integer. -/
def addInt (n : Nat) (d : Int) : Nat := ((n : Int) + d).toNat

/-- A stage's rectangle under the shifts. -/
def Img.placed (m : Img) (a : Shifts) (g : Stage) : Stage :=
  match m.moved a g.n with
  | some r => { g with x := addInt g.x r.dx, y := addInt g.y r.dy }
  | none => g

/-- A tile's position under the shift of its stage. -/
def Img.tileAt (m : Img) (a : Shifts) (t : Nat) : Nat :=
  match m.stageOf t with
  | some g => match m.moved a g.n with
    | some r => addInt (t / 640) r.dy * 640 + addInt (t % 640) r.dx
    | none => t
  | none => t

/-- The TILE records of a configuration with their shifts, and the PATCH records of the alternatives chosen. -/
def Img.records (m : Img) (a : Shifts) (c : Nat) : List TileRec :=
  let ps := forConfig c m.patches
  (forConfig c m.tiles).map (fun r => { r with tile := m.tileAt a r.tile }) ++
  a.flatMap fun p => match m.shiftOf p.1 p.2 with
    | some r => (ps.drop r.first).take r.count
    | none => []

/-- The ADDR records of the alternatives chosen: (tile, space, offset, delta). -/
def Img.addrs (m : Img) (a : Shifts) : List (Nat × Nat × Nat × Int) :=
  (m.relocs.filter fun r => r.kind = 2 && a.contains (r.stage, r.alt)).filterMap fun r =>
    (m.shiftOf r.stage r.alt).map fun q =>
      (m.tileAt a r.tile, r.space, r.off,
       if r.field = 0 then (q.dy * 640 + q.dx) * 0x10000 else (q.dy / 6 * 80 + q.dx / 8) * 0x200000)

/-- The CLUSTER records with the cluster indices under the shifts (R288). -/
def Img.clusterRecsAt (m : Img) (a : Shifts) : List ClusterRec :=
  m.clusters.map fun r => match m.moved a r.stage with
    | some q => { r with cluster := addInt r.cluster (q.dy / 6 * 80 + q.dx / 8) }
    | none => r

end Sys2Proof.Machine
end

