-- ==== Sys2Proof/Machine/Load.lean ====
section
/-! DEFINITION. LOAD_IMAGE: placement, rotation, writing, and the steps of R239 (R96, R197, R220, R221, R237, R239, R242,
R257, R261, R284, R285). -/
namespace Sys2Proof.Machine

/-! ### Release of a slice (R285, R293, R356) -/

/-- The bay regions that slice n owns: (bay, region). -/
def State.ownedRegions (s : State) (n : Nat) : List (Nat × Nat) :=
  s.bays.flatMap fun (p : Nat × Bay) =>
    (p.2.regions.filter fun (q : Nat × Region) => q.2.owned && q.2.owner.toNat = n).map fun q => (p.1, q.1)

/-- The clusters that slice n owns. -/
def State.ownedClusters (s : State) (n : Nat) : List Nat :=
  (s.clusters.filter fun (p : Nat × Cluster) => p.2.owned && p.2.owner.toNat = n).map (·.1)

/-- End the ownership of slice n; DIRTY and LAST_JOB stay (R285). -/
def State.release (s : State) (n : Nat) : State :=
  let rs := s.ownedRegions n
  let s := s.mapClusters (s.ownedClusters n) fun x => { x with owned := false, owner := 0, spillQs := [], spillOn := false }
  let s := rs.foldl (fun s (p : Nat × Nat) => s.setRegion p.1 p.2 { s.region p.1 p.2 with owned := false, owner := 0 }) s
  if rs.isEmpty then s else s.ueRelease n

/-- Forget slice n's rounds and participation (R221). -/
def State.clearHal (s : State) (n : Nat) : State :=
  let x := s.slice n
  let cl := x.clusters
  let ca := x.cantons
  { s with rounds := SMap.clear s.rounds (64 * n) (64 * n + 64)
           halPart := s.halPart.filter fun (p : Nat × Nat) => !(cl.contains (p.1 / 64))
           halAgents := s.halAgents.filter fun (p : Nat × Bool) => !(ca.contains (p.1 / 64)) }

/-- Stop the tiles of slice n as QUIESCE STOP does (R255 step 2): issue ends, and no BULK operation stays outstanding. -/
def State.quiesce (s : State) (n : Nat) : State :=
  let ks := (s.slice n).clusters
  let gone (t : Nat) : Bool := ks.contains (clusterOf t)
  { s.mapTiles (s.sliceTiles n) (Tile.setRun false) with
    requests := s.requests.filter fun q => !(ks.contains q.cluster.val)
    bulkOps := s.bulkOps.filter fun b => !(gone b.tile.val) }

/-- Stop and unload slice n (R356): its cantons' tree, ownership and image go. -/
def State.unload (s : State) (n : Nat) : State :=
  let x := s.slice n
  let s := (s.quiesce n).clearHal n
  let s := x.cantons.foldl (fun s c => (s.setReg (0x408100 + c * 0x10000) (regReset 0x408100)).setCanton c
    { s.canton c with watch := .none, purged := 0 }) s
  (s.release n).setSlice n { deadlockSeen := x.deadlockSeen, epochErr := x.epochErr }

/-! ### Tables of an image (R180, R197, R202, R228) -/

/-- A router before an image's tables: no table, no flit, no credit; its links and counts stay (R96, R239 step 6). -/
def Router.bare (r : Router) : Router :=
  { linkFail := r.linkFail, shim := r.shim, rxFull := r.rxFull, txEmpty := r.txEmpty, ovfSeen := r.ovfSeen
    misrouteSeen := r.misrouteSeen, crcSeen := r.crcSeen, tagSeen := r.tagSeen, purgeCnt := r.purgeCnt
    errCrc := r.errCrc, errTag := r.errTag, errMis := r.errMis, errOvf := r.errOvf }

/-- A router's tables from the records of space 0x09 for tile t. -/
def tableOf (rs : List TileRec) (t : Nat) (r : Router) : Router :=
  rs.foldl (fun r q => if q.space = 9 && q.tile = t then
      (((List.range (q.data.length / 8)).zip (wordsOf q.data)).foldl (fun r (p : Nat × W64) => r.writeReg (q.off + 8 * p.1) p.2) r)
    else r) r.bare

/-- The tables of a configuration for tiles ts. -/
def State.tablesOf (s : State) (rs : List TileRec) (ts : List Nat) : SMap Router :=
  ts.map fun t => (t, tableOf rs t (s.router t))

/-- One entry on a circuit: its router, row and output, and the shim links crossed since its sender. -/
structure Hop where
  t : Nat
  row : Nat
  o : Nat
  shims : Nat
  deriving DecidableEq, Repr

/-- The links that a rotation is about (R197): those that pass a shim which the tables do not know yet, and those whose
shim they were rotated for before. -/
structure Shims where
  isNew : Nat → Nat → Bool
  isOld : Nat → Nat → Bool

/-- The entries that a router's entry feeds over its link (R177, R178): one row later, two over a shim link that the tables
have been rotated for. -/
def Shims.feeds (z : Shims) (tabs : SMap Router) (h : Hop) : List Hop :=
  if 4 ≤ h.o || seamDir h.t h.o then []
  else match tileNeighbour h.t h.o with
    | none => []
    | some j =>
      let row := (h.row + 1 + b2n (z.isOld h.t j)) % 16
      let k := h.shims + b2n (z.isNew h.t j)
      ((SMap.get {} tabs j).fork row (opp h.o + 1)).map fun o => ⟨j, row, o, k⟩

/-- Follow circuits from a worklist: every entry met, once. -/
def Shims.follow (z : Shims) (tabs : SMap Router) : Nat → List Hop → List Hop → List Hop
  | 0, _, seen => seen
  | _ + 1, [], seen => seen
  | m + 1, h :: work, seen =>
    if seen.any fun x => x.t = h.t && x.row = h.row && x.o = h.o then z.follow tabs m work seen
    else z.follow tabs m (z.feeds tabs h ++ work) (h :: seen)

/-- The entries of a router that a sender of its own feeds: an output queue or a seam share. -/
def sendersOf (t : Nat) (r : Router) : List Hop :=
  (List.range 16).flatMap fun row => ((List.range 9).filter fun o =>
    let src := entSrc (r.entry row o)
    (5 ≤ src && src ≤ 8) || (1 ≤ src && src ≤ 4 && seamDir t (src - 1))).map fun o => ⟨t, row, o, 0⟩

/-- Rotate one router's table (R197): none where two entries of one output meet in a row. -/
def rotateOne (hops : List Hop) (t : Nat) (r : Router) : Option Router :=
  let put (m : Option (SMap Byte)) (p : Nat × Byte) : Option (SMap Byte) :=
    match m with
    | none => none
    | some m =>
      let row := p.1 / 9
      let o := p.1 % 9
      let k := match hops.find? fun h => h.t = t && h.row = row && h.o = o with
        | some h => 9 * ((row + h.shims) % 16) + o
        | none => p.1
      if entSrc p.2.toNat = 0 then some m else if (optGet m k).isSome then none else some (SMap.ins k p.2 m)
  (r.slots.foldl put (some [])).map fun m => { r with slots := m }

/-- Rotate the tables of tiles for new shim links (R197): the tables, and the first tile whose rotation fails. -/
def Shims.rotate (z : Shims) (tabs : SMap Router) : SMap Router × Option Nat :=
  if !(tabs.any fun (p : Nat × Router) => (List.range 4).any fun d => (tileNeighbour p.1 d).any fun j => z.isNew p.1 j)
  then (tabs, none)
  else
    let hops := z.follow tabs (16 * 9 * 10 * (tabs.length + 1)) (tabs.flatMap fun p => sendersOf p.1 p.2) []
    tabs.foldl (fun acc (p : Nat × Router) => match rotateOne hops p.1 p.2 with
      | some r =>
        let bad := p.2.tblCause p.1 = 0 && r.tblCause p.1 ≠ 0
        (acc.1 ++ [(p.1, r)], if bad && acc.2.isNone then some p.1 else acc.2)
      | none => (acc.1 ++ [p], if acc.2.isNone then some p.1 else acc.2)) ([], none)

/-- Rotate an image's tables for the spares in service (R197). -/
def State.rotate (s : State) (tabs : SMap Router) : SMap Router × Option Nat :=
  Shims.rotate ⟨s.shimLink, fun _ _ => false⟩ tabs

/-- Whether a table drives or takes a link across the boundary of a rectangle (R228). -/
def crosses (holds : Nat → Bool) (t : Nat) (r : Router) : Bool :=
  let out (d : Nat) : Bool := match tileNeighbour t d with
    | some j => !(holds (cantonOf j))
    | none => false
  r.slots.any fun (p : Nat × Byte) =>
    let src := entSrc p.2.toNat
    src ≠ 0 && ((p.1 % 9 < 4 && out (p.1 % 9)) || (1 ≤ src && src ≤ 4 && out (src - 1)))

/-- Step 7 of R239 for a set of tables (R180, R228). -/
def tablesOk (holds : Nat → Bool) (tabs : SMap Router) : Bool :=
  tabs.all fun (p : Nat × Router) => p.2.tblCause p.1 = 0 && !(crosses holds p.1 p.2)

/-! ### Placement (R237, R261, R239 step 4) -/

/-- Whether a cluster's cache, spill pool or DATA records would use a failed bank (R261). -/
def State.badCluster (s : State) (m : Img) (rs : List ClusterRec) (k : Nat) : Bool :=
  let fail := (s.cluster k).bankFail
  let cache := (cfgOf rs k).2
  let uses (b : Nat) : Bool := b < cache || m.poolBase < 65536 * (b + 1) ||
    rs.any fun r => r.kind = 3 && r.cluster = k && (let o := leAt 0 8 r.body
                                                    o < 65536 * (b + 1) && 65536 * b < o + (r.body.length - 8))
  (List.range 24).any fun b => fail.getLsbD b && uses b

/-- The clusters that a stage's rectangle touches. -/
def Stage.clusters (g : Stage) : List Nat :=
  let ny := (g.y + g.h - 1) / 6 - g.y / 6 + 1
  let nx := (g.x + g.w - 1) / 8 - g.x / 8 + 1
  (List.range ny).flatMap fun j => (List.range nx).map fun i => (g.y / 6 + j) * 80 + g.x / 8 + i

/-- Whether a stage may stand where the shifts put it: no failed bank in use; unshifted, its used positions present; moved,
every position of its rectangle present and inside the slice, and its CLUSTER records movable (R237, R288). -/
def State.stageOk (s : State) (m : Img) (a : Shifts) (g : Stage) : Bool :=
  let p := m.placed a g
  (p.clusters.all fun k => !(s.badCluster m (m.clusterRecsAt a) k)) &&
  match m.moved a g.n with
  | none => m.tiles.all fun q => !(g.has q.2.tile) || s.isPresent q.2.tile
  | some r =>
    0 ≤ (g.x : Int) + r.dx && 0 ≤ (g.y : Int) + r.dy && 64 * m.cx0 ≤ p.x && p.x + p.w ≤ 64 * (m.cx0 + m.cw) &&
    36 * m.cy0 ≤ p.y && p.y + p.h ≤ 36 * (m.cy0 + m.ch) && (p.tiles.all s.isPresent) &&
    ((r.dx % 8 = 0 && r.dy % 6 = 0) || m.clusters.all fun q => q.stage ≠ g.n)

/-- Every choice of one alternative for each of some stages, in ascending order. -/
def choices (m : Img) : List Nat → List Shifts
  | [] => [[]]
  | g :: gs => (([1, 2, 3, 4].filter fun i => (m.shiftOf g i).isSome).flatMap fun i => (choices m gs).map fun a => (g, i) :: a)

/-- The present tiles of the set's rectangle. -/
def State.tilesIn (s : State) (m : Img) : List Nat := (((List.range 100).filter m.holds).flatMap tilesOf).filter s.isPresent

/-- Whether a choice of alternatives works (R239): its stages stand, none overlaps another, and its tables pass step 7. -/
def State.choiceOk (s : State) (m : Img) (a : Shifts) (moved : List Nat) : Bool :=
  (m.stages.all fun g => !(moved.contains g.n) || s.stageOk m a g) &&
  pairwise Stage.meets (m.stages.map (m.placed a)) &&
  tablesOk m.holds (s.tablesOf (m.records a 0) (s.tilesIn m))

/-- Step 4 of R239: the alternatives chosen, or the stage that fails. -/
def State.place (s : State) (m : Img) : Option Shifts × Nat :=
  match (m.stages.filter fun g => !(s.stageOk m [] g)).map (·.n) with
  | [] => (some [], 0)
  | g :: gs =>
    match (choices m (g :: gs)).find? fun a => s.choiceOk m a (g :: gs) with
    | some a => (some a, 0)
    | none => (none, g)

/-! ### Writing (R239 step 6) -/

/-- A tile reset by a load (R96): its epoch and its initial credits. -/
def Tile.loadReset (epoch : BitVec 4) (r : Router) (t : Tile) : Tile :=
  ({ t with
    istore := [], g := [], v := [], bufA := [], bufB := [], pred := 0, lc := [], lanes := [], tables := [], syn := []
    gTag := 0, vTag := 0, aTag := 0, bTag := 0, iq := [], outbox := [], pops := [], ctrl := {}, blocked := 0
    cred := (List.range 4).foldl (fun m n => SMap.put 0 m n (BitVec.ofNat 6 (r.oqCred n))) []
    status := { t.status with probe := false }, epoch := { cur := epoch }, flags := [], bulk := [], inflight := []
    board := {} } : Tile).clearStop

/-- SPLIT of the image for a tile, or its reset value (R96). -/
def splitOf (rs : List TileRec) (t : Nat) : BitVec 11 :=
  rs.foldl (fun v r => if r.space = 8 && r.tile = t then
      (((List.range (r.data.length / 8)).zip (wordsOf r.data)).foldl (fun v (p : Nat × W64) =>
        if r.off + 8 * p.1 = 0x18 then BitVec.ofNat 11 p.2.toNat else v) v)
    else v) 0x400

/-- Write one word of a TILE record: tables go with the router, SPLIT with its class change; of TILE_CTRL only ZSKIP and
PROBE_EN (R96, R234). -/
def State.putRec (s : State) (t space w : Nat) (v : W64) : State :=
  if space = 9 then s
  else if space = 8 then
    let x := s.tile t
    if w = 0 then s.setTile t { x with ctrl := { x.ctrl with zskip := v.getLsbD 2, probeEn := v.getLsbD 3 } }
    else if w = 4 then s.putSpace t 8 4 v
    else s
  else s.putSpace t space w v

/-- Write one TILE record. -/
def State.writeRec (s : State) (r : TileRec) : State :=
  if s.isPresent r.tile then
    ((List.range (r.data.length / 8)).zip (wordsOf r.data)).foldl (fun s (p : Nat × W64) => s.putRec r.tile r.space (r.off / 8 + p.1) p.2) s
  else s

/-- Write words from an engine address with valid check bits. -/
def State.putMem (s : State) (a : Nat) : List W64 → State
  | [] => s
  | w :: ws => (s.updMem (·.putWord a w 0)).putMem (a + 8) ws

/-- A prefetcher from the body of its record (R288, R290). -/
def prefetcherOf (b : List Byte) (evict : W16) : Prefetcher :=
  let w (i : Nat) : Nat := leAt (8 * i) 8 b
  { base := BitVec.ofNat 42 (fld (w 0) 6 42), outerM1 := BitVec.ofNat 16 (fld (w 1) 48 16), innerM1 := BitVec.ofNat 16 (fld (w 1) 32 16)
    rowsM1 := BitVec.ofNat 6 (w 1), outerStride := BitVec.ofNat 32 (fld (w 2) 32 32), innerStride := BitVec.ofNat 32 (w 2)
    depth := BitVec.ofNat 11 (fld (w 3) 16 11), wrap := (w 3).testBit 2, trigger := (w 3).testBit 1, enable := (w 3).testBit 0
    evict := evict }

/-- Change the class map and the cache of a cluster: banks that change their class are re-encoded (R267). -/
def State.setBanks (s : State) (k : Nat) (cw : BitVec 24) (cache : BitVec 5) : State :=
  let old := (s.cluster k).classW
  let s := (List.range 24).foldl (fun s b =>
    if old.getLsbD b = cw.getLsbD b then s
    else s.reencode (clusterBase k + 65536 * b) (clusterBase k + 65536 * (b + 1)) (cw.getLsbD b)) s
  s.setCluster k { s.cluster k with classW := cw, cacheBanks := cache }

/-- Claim a cluster for slice n and lay it out (R285, R288). -/
def State.claimCluster (s : State) (n : Nat) (m : Img) (rs : List ClusterRec) (job : W16) (k : Nat) : State :=
  let c := cfgOf rs k
  let s := s.setBanks k (BitVec.ofNat 24 c.1) (BitVec.ofNat 5 c.2)
  let x := s.cluster k
  let base := (x.pf.map fun (p : Nat × Prefetcher) => (p.1, ({ evict := p.2.evict } : Prefetcher))).filter fun p => p.2 ≠ {}
  let pf := rs.foldl (fun m r => if r.kind = 2 && r.cluster = k then SMap.put {} m r.pf (prefetcherOf r.body (SMap.get {} x.pf r.pf).evict) else m) base
  let s := s.setCluster k { x with owned := true, owner := BitVec.ofNat 4 n, dirty := true, lastJob := job, cache := [], plru := []
                                   pf := pf, spillQs := [], spillKib := BitVec.ofNat 16 m.spillKib, spillOn := !m.spillOff }
  rs.foldl (fun s r => if r.kind = 3 && r.cluster = k then s.putMem (clusterBase k + leAt 0 8 r.body) (wordsOf (r.body.drop 8)) else s) s

/-- Claim a bay region for slice n (R285, R289). -/
def State.claimRegion (s : State) (n : Nat) (job : W16) (r : BayRec) (p : Nat × Nat) : State :=
  let old := s.region p.1 p.2
  let lo := bayBase p.1 + p.2 * 2 ^ 30
  let s := if old.classW = r.classW then s else s.reencode lo (lo + 2 ^ 30) r.classW
  s.setRegion p.1 p.2 { old with classW := r.classW, cache := r.cache, owned := true, owner := BitVec.ofNat 4 n, dirty := true, lastJob := job }

/-- Apply one ADDR record (R237). -/
def State.relocate (s : State) (p : Nat × Nat × Nat × Int) : State :=
  if s.isPresent p.1 then
    let w := s.getSpace p.1 p.2.1 (p.2.2.1 / 8)
    s.putSpace p.1 p.2.1 (p.2.2.1 / 8) (BitVec.ofInt 64 ((w.toNat : Int) + p.2.2.2))
  else s

/-- Step 6 of R239: claims, layouts, tile state, tables, records, relocations. -/
def State.writeImage (s : State) (n : Nat) (m : Img) (a : Shifts) (tabs : SMap Router) (job : W16) : State :=
  let rs := m.records a 0
  let cs := m.clusterRecsAt a
  let ks := (((List.range 100).filter m.holds).flatMap clustersOf)
  let ts := s.tilesIn m
  let s := ks.foldl (fun s k => s.claimCluster n m cs job k) s
  let s := m.bays.foldl (fun s r => r.regions.foldl (fun s p => s.claimRegion n job r p) s) s
  let s := ts.foldl (fun s t => (s.writeSplit t (splitOf rs t)).setRouter t (SMap.get {} tabs t)) s
  let s := ts.foldl (fun s t => s.setTile t ((s.tile t).loadReset (BitVec.ofNat 4 m.epoch) (s.router t))) s
  (m.addrs a).foldl State.relocate (rs.foldl State.writeRec s)

/-- Step 8 of R239: the participation counts of a configuration (R221, R236). -/
def State.writeHal (s : State) (m : Img) (c : Nat) : State :=
  (forConfig c m.hal).foldl (fun s r =>
    if r.agent then { s with halAgents := SMap.put false s.halAgents (64 * r.unit + r.flag) (r.count = 1) }
    else { s with halPart := SMap.put 0 s.halPart (64 * r.unit + r.flag) r.count }) s

/-! ### The command (R239, R242) -/

/-- RESULT0 and RESULT1 of a LOAD_IMAGE (R361). -/
def loadResult (status stage step shifted build : Nat) : Result :=
  { status := status, r0 := stage % 2 ^ 16 + step * 2 ^ 16 + shifted * 2 ^ 20, r1 := build }

/-- Whether slice n may claim a cluster or region with this ownership for a job (R285). -/
def Owned.claimable (o : Owned) (n : Nat) (job : W16) : Bool :=
  (!o.owned || o.owner = n) && (!o.dirty || o.lastJob = job || o.lastJob = 0xFFFF)

/-- Step 3 of R239: no canton, cluster or region of another loaded slice, none dirty from another job. -/
def State.claimsOk (s : State) (n : Nat) (m : Img) (job : W16) : Bool :=
  let cs := (List.range 100).filter m.holds
  (cs.all fun c => (s.sliceOf c).all fun o => o = n) &&
  ((cs.flatMap clustersOf).all fun k => (s.ownership (clusterBase k)).claimable n job) &&
  m.bays.all fun r => r.regions.all fun p => (s.ownership (bayBase p.1 + p.2 * 2 ^ 30)).claimable n job

/-- What is loaded: the slice, the job, the slice set, the image's source and LENGTH (R355, R356); again is a reload of
the slice's own image by a recovery (R443 step 5), which keeps its claims. -/
structure LoadReq where
  slice : Nat
  job : W16
  set : Nat
  srcKind : Byte
  srcSlot : Byte
  srcAddr : Nat
  size : Nat
  again : Bool := false
  deriving DecidableEq, Repr

/-- The request of a LOAD_IMAGE descriptor. -/
def Desc.loadReq (d : Desc) : LoadReq :=
  { slice := d.slice, job := BitVec.ofNat 16 (d.fld 12 2), set := d.byte 17, srcKind := BitVec.ofNat 8 (d.byte 16)
    srcSlot := BitVec.ofNat 8 (d.byte 18), srcAddr := d.fld 24 8, size := d.fld 32 8 }

/-- The old image goes: unloaded for a LOAD_IMAGE; for a reload only its stopped tiles and its halyard state. -/
def State.clearOld (s : State) (q : LoadReq) : State :=
  if q.again then (s.quiesce q.slice).clearHal q.slice
  else if (s.slice q.slice).loaded then s.unload q.slice else s

/-- Steps 6 to 9 of R239 for an image that has passed steps 1 to 5. -/
def State.install (s : State) (q : LoadReq) (img : List Byte) (m : Img) (a : Shifts) (tabs : SMap Router) : Result × State :=
  let n := q.slice
  let old := s.slice n
  let s := (s.clearOld q).writeImage n m a tabs q.job
  let x : Slice := { loaded := true, cx0 := BitVec.ofNat 4 m.cx0, cy0 := BitVec.ofNat 4 m.cy0, cw := BitVec.ofNat 4 m.cw
                     ch := BitVec.ofNat 4 m.ch, job := q.job, endFlag := BitVec.ofNat 8 m.endFlag, endOp := BitVec.ofNat 8 m.endOp
                     spillKib := BitVec.ofNat 16 m.spillKib, flags := BitVec.ofNat 16 m.flags, image := img, set := q.set
                     srcKind := q.srcKind, srcSlot := q.srcSlot, srcAddr := q.srcAddr
                     shifts := a.foldl (fun q p => SMap.put 0 q p.1 p.2) [], cur := BitVec.ofNat 4 m.epoch
                     clean := ~~~(BitVec.ofNat 16 (2 ^ m.epoch)), phase := 1, deadlockSeen := old.deadlockSeen, epochErr := old.epochErr }
  let undo (s : State) : State := (s.setSlice n { deadlockSeen := old.deadlockSeen, epochErr := old.epochErr }).release n
  if !(tablesOk m.holds tabs) then (loadResult 0x02 0 7 0 m.build, undo s)
  else
    match s.halTree x with
    | none => (loadResult 0x04 0 8 0 m.build, undo s)
    | some ps =>
      let s := ((s.setSlice n x).clearHal n).writeHal m 0
      let s := s.setHalTree n ps
      let s := (s.mapRouters (s.sliceTiles n) fun t r => { r.loadCredits t with epoch := BitVec.ofNat 4 m.epoch }).invalidate n
      (loadResult 0x00 0 9 a.length m.build, s)

/-- Load the image `img` (R239). A load over a loaded slice first stops its tiles (R242); one that fails before step 6
leaves the old image loaded and stopped. A reload leaves out steps 2 and 3. -/
def State.loadImage (s : State) (q : LoadReq) (img : List Byte) : Result × State :=
  let n := q.slice
  let x := s.slice n
  let s := if x.loaded then (s.quiesce n).setSlice n { x with phase := if x.phase = 6 then 6 else 1, mode := 0, run := none, reconf := none } else s
  match checkImage img q.size q.set with
  | none => (loadResult 0x02 0 1 0 (leAt 40 8 img), s)
  | some m =>
    if !q.again && m.caps ≠ capValues then (loadResult 0x02 0 2 0 m.build, s)
    else if !q.again && !(s.claimsOk n m q.job) then (loadResult 0x03 0 3 0 m.build, s)
    else match s.place m with
      | (none, g) => (loadResult 0x04 g 4 0 m.build, s)
      | (some a, _) =>
        let r := s.rotate (s.tablesOf (m.records a 0) (s.tilesIn m))
        match r.2 with
        | some t => (loadResult 0x04 (((m.stages.find? fun g => (m.placed a g).has t).map (·.n)).getD 0xFFFF) 5 0 m.build, s)
        | none => s.install q img m a r.1

/-- LOAD_IMAGE of the image `img`; fixed says that errors were corrected in the bytes (R360). -/
def State.load (s : State) (d : Desc) (img : List Byte) (fixed : Bool) : State :=
  let q := s.loadImage d.loadReq img
  let s := if q.1.status = 0 then q.2.ensignDone d.slice (q.2.slice d.slice).clusters else q.2
  s.complete d { q.1 with corrected := fixed }

/-- The completion status of rows that the ensign complex reads or writes (R358, R362). -/
def RowEnd.code (e : RowEnd) : Nat := if e.status = 1 then 0x0A else if e.status = 3 then 0x0B else 0

/-- The outcome of one more row, before the others: the first that fails decides. -/
def RowEnd.before (e : RowEnd) (r : RowOut) : RowEnd :=
  { status := if r.status = 1 || r.status = 3 then r.status else e.status
    corrected := r.corrected || e.corrected, isolation := r.isolation || e.isolation }

/-- Read whole rows of engine memory for the ensign complex: the bytes, and what became of the rows. -/
def State.readRows (s : State) (who : Who) (a : Nat) : Nat → List Byte × RowEnd × State
  | 0 => ([], {}, s)
  | m + 1 =>
    let r := s.readRow who a
    let q := r.2.readRows who (a + 64) m
    (r.1.data ++ q.1, q.2.1.before r.1, q.2.2)

end Sys2Proof.Machine
end

