-- ==== Sys2Proof/Machine/Mesh.lean ====
section
/-! DEFINITION. The bulk mesh: links, arbitration, waypoint tables (R203 to R215). -/
namespace Sys2Proof.Machine

/-! ### Failed links and routers (R210, R226) -/

/-- Whether the router of cluster k works. -/
def State.routerUp (s : State) (k : Nat) : Bool := s.online (cantonOfCluster k) && !(s.mrouter k).dead

/-- Whether the link of cluster k in direction d carries packets. -/
def State.linkUp (s : State) (k d : Nat) : Bool :=
  match clusterNeighbour k d with
  | some j => !((s.mrouter k).linkFail.getLsbD d) && s.routerUp j
  | none => false

/-- Show a failed link in CAN_MESH_LINK or CAN_MESH_RTR of cluster k's canton. -/
def State.showLinkFail (s : State) (k d : Nat) : State :=
  let c := cantonOfCluster k
  let col := k % 80 % 8
  let row := k / 80 % 6
  let set (f : Fld) (i : Nat) : State := s.fset f (s.fget f c ||| 2 ^ i) c
  match clusterNeighbour k d with
  | none => s
  | some j =>
    if cantonOfCluster j = c then s
    else match d with
      | 0 => set fCanMeshLinkFailN col
      | 1 => set fCanMeshLinkFailE row
      | 2 => set fCanMeshLinkFailS col
      | _ => set fCanMeshLinkFailW row

/-- The tail that closes a packet whose rest was lost. -/
def cutTail (x : Nat) : MFlit :=
  { vc := BitVec.ofNat 2 (x % 6 / 2), lane := x % 2 = 1, head := false, tail := true, data := 0, cut := true }

/-- Queue x of a link's receiving end after the link has failed: what was received of a packet without its tail is
discarded; where an output has begun to send that packet, a tail that no end takes closes it. -/
def MeshRouter.cutQueue (m : MeshRouter) (x : Nat) : List MFlit :=
  let fs := SMap.get [] m.q x
  let part := (fs.reverse.takeWhile fun f => !f.tail).reverse
  let whole := fs.take (fs.length - part.length)
  let begun : Bool := (m.prog.any fun p => p.2 ≠ 0 && (p.2 - 1) / 2 = x) && !(whole.any (·.tail)) && !(part.any (·.head))
  if begun then whole ++ [cutTail x] else whole

/-- A link's receiving end forgets the packets that were partly received over it. -/
def MeshRouter.cutInput (m : MeshRouter) (d : Nat) : MeshRouter :=
  { m with q := (List.range 6).foldl (fun q i => SMap.put [] q (6 * d + i) (m.cutQueue (6 * d + i))) m.q
           skip := m.skip.filter fun x => x / 6 ≠ d }

/-! ### Pennants and routes (R208, R216) -/

/-- DST, WPT, LEG and WPV of a head flit or a pennant. -/
structure RouteOf where
  dst : Nat
  wpt : Nat
  leg : Bool
  deriving DecidableEq, Repr

/-- The route fields of a head flit (R206) or a pennant (R216). -/
def routeOf (f : MFlit) : RouteOf :=
  let w := f.data.toNat
  if f.vc = 2 then ⟨fld w 32 16, fld w 48 13, w.testBit 8⟩ else ⟨fld w 48 16, fld w 64 13, w.testBit 8⟩

/-- The output X-then-Y takes from router k to a target cluster: none where it has arrived. -/
def xyStep (k target : Nat) : Option Nat :=
  if k % 80 < target % 80 then some 1
  else if target % 80 < k % 80 then some 3
  else if k / 80 < target / 80 then some 2
  else if target / 80 < k / 80 then some 0
  else none

/-- Whether a head flit leaves its waypoint at router k: LEG becomes 1 and its lane 1 (R208). -/
def turns (k : Nat) (f : MFlit) : Bool := !(routeOf f).leg && (routeOf f).wpt = k

/-- The output of router k that a head flit wants. -/
def outputOf (k : Nat) (f : MFlit) : Nat :=
  let r := routeOf f
  let target := if r.leg || r.wpt = k then r.dst % 2 ^ 13 else r.wpt
  match xyStep k target with
  | some o => o
  | none => if r.leg || turns k f then (if r.dst / 2 ^ 13 = 0 then 4 else 5) else 4

/-- A head flit as it leaves router k. -/
def leaving (k : Nat) (f : MFlit) : MFlit :=
  if turns k f then { f with lane := true, data := f.data ||| BitVec.ofNat 512 (2 ^ 8) } else f

/-! ### Arbitration (R212, R213) -/

/-- The queue of an input, VC and lane. -/
def qIx (i vc : Nat) (lane : Bool) : Nat := 6 * i + 2 * vc + b2n lane

/-- Flits of one queue of router k. -/
def MeshRouter.queue (m : MeshRouter) (i : Nat) : List MFlit := SMap.get [] m.q i

/-- The flits of a packet, by its head flit (R206). -/
def packetLen (h : MFlit) : Nat := if h.tail then 1 else 1 + fld h.data.toNat 16 8

/-- Flits a buffer holds: 18 for VC0 and VC1, 4 for VC2 (R212). -/
def bufSize (vc : Nat) : Nat := if vc = 2 then 4 else 18

/-- Whether the buffer behind output o has room for n flits of a VC and lane. -/
def State.room (s : State) (k o vc : Nat) (lane : Bool) (n : Nat) : Bool :=
  if 4 ≤ o then true
  else match clusterNeighbour k o with
    | none => false
    | some j =>
      let held := ((s.mrouter j).queue (qIx (opp o) vc lane)).length
      let way := ((SMap.get [] (s.mrouter k).wire o).filter fun (p : BitVec 6 × MFlit) =>
        p.2.vc.toNat = vc && p.2.lane == lane).length
      held + way + n ≤ bufSize vc

/-- Move packets and pennants of the sequencer and the attachment into their input buffers where these have room. -/
def MeshRouter.intake (m : MeshRouter) : MeshRouter :=
  [4, 5, 6, 7].foldl (fun m i => match SMap.get [] m.inject i with
    | [] => m
    | p :: ps =>
      let vc := (p.head?.map (·.vc.toNat)).getD 0
      let lane := (p.head?.map (·.lane)).getD true
      let x := qIx (if i < 6 then i else i - 2) vc lane
      if (m.queue x).length + p.length ≤ bufSize vc then
        { m with inject := SMap.put [] m.inject i ps, q := SMap.put [] m.q x (m.queue x ++ p) }
      else m) m

/-- Whether queue x has a head flit in front that wants output o and has room for its whole packet behind it (R212). -/
def State.ready (s : State) (k o x : Nat) : Bool :=
  match (s.mrouter k).queue x with
  | h :: _ => h.head && outputOf k h = o && s.room k o h.vc.toNat (leaving k h).lane (packetLen h)
  | [] => false

/-- Whether a bulk head in front wants output o and has no room behind it: such a cycle of the output is counted (source 0x0D of
R466). -/
def State.roomless (s : State) (k o : Nat) : Bool :=
  (List.range 36).any fun x => x % 6 < 4 && !(s.ready k o x) && (((s.mrouter k).queue x).head?.any fun h => h.head && outputOf k h = o)

/-- The first queue of a list that is ready, starting after the one served last. -/
def rrPick (ok : Nat → Bool) (qs : List Nat) (last : Nat) : Option Nat :=
  ((qs.filter fun x => decide (last < x)) ++ qs.filter fun x => decide (x ≤ last)).find? ok

/-- Put a flit on output o of router k: a link with its sequence number, or a local end. -/
def State.drive (s : State) (k o : Nat) (f : MFlit) : State :=
  let s := if 4 ≤ o then s else s.clusterEvent k (if f.vc = 2 then 0x0E else 0x0C) 1
  let m := s.mrouter k
  if o < 4 then
    let n := SMap.get 0 m.seq o
    let rep := SMap.get [] m.replay o ++ [(n, f)]
    s.setMrouter k { m with
      seq := SMap.put 0 m.seq o (n + 1)
      wire := SMap.put [] m.wire o (SMap.get [] m.wire o ++ [(n, f)])
      replay := SMap.put [] m.replay o (rep.drop (rep.length - 32)) }
  else
    let x := qIx o f.vc.toNat f.lane
    let fs := SMap.get [] m.asm x ++ [f]
    if f.tail then
      s.setMrouter k { m with
        asm := SMap.put [] m.asm x []
        arrived := if f.cut then m.arrived else SMap.put [] m.arrived o (SMap.get [] m.arrived o ++ [fs]) }
    else s.setMrouter k { m with asm := SMap.put [] m.asm x fs }

/-- Send the first flit of queue x on output o, on a lane. -/
def State.sendFlit (s : State) (k o x : Nat) (lane : Option Bool) : State :=
  let m := s.mrouter k
  match m.queue x with
  | [] => s
  | f :: fs =>
    let g := if f.head then leaving k f else { f with lane := lane.getD f.lane }
    (s.setMrouter k { m with q := SMap.put [] m.q x fs }).drive k o g

/-- Note whether a VC2 flit used an output's cycle (R213). -/
def MeshRouter.note (m : MeshRouter) (o : Nat) (vc2 : Bool) : MeshRouter :=
  { m with hist := SMap.put 0 m.hist o ((SMap.get 0 m.hist o <<< 1) ||| (if vc2 then 1 else 0)) }

/-- The response that ends a request for a failed path (R210): status 4 and no payload. -/
def endResponse (k : Nat) (p : Packet) : Packet :=
  { typ := if p.typ = 1 then 3 else 4, rows := if p.typ = 1 then p.rows else 0, status := 4, src := k, dst := p.src,
    tid := p.tid, slice := p.slice, addr := p.addr }

/-- End a packet whose next hop has failed, by its head flit (R210). -/
def State.endPacket (s : State) (k : Nat) (h : MFlit) : State :=
  let s := s.pathRec k h.data
  match (if h.vc = 2 then none else packetOf [h]) with
  | some p => if p.typ = 1 || p.typ = 2 then (s.send k 4 (endResponse k p)).2 else s
  | none => s

/-- The first packet of queue x is ended: what has arrived of it goes, and what is still to come. -/
def MeshRouter.dropFirst (m : MeshRouter) (x : Nat) : MeshRouter :=
  let fs := m.queue x
  let body := (fs.takeWhile fun f => !f.tail).length
  { m with q := SMap.put [] m.q x (fs.drop (body + 1)), skip := if body = fs.length then x :: m.skip else m.skip }

/-- The head flits of the packets that a list of flits, in the order in which a link sent them, has the tails of (R206); h is
the head of the bulk packet in progress. -/
def headsOf (h : Option MFlit) : List MFlit → List MFlit
  | [] => []
  | f :: fs =>
    if f.vc = 2 then f :: headsOf h fs
    else
      let g := if f.head then some f else h
      if f.tail then (if f.cut then [] else g.toList) ++ headsOf none fs else headsOf g fs

/-- The head of the bulk packet that a list of sent flits leaves in progress. -/
def openHead (h : Option MFlit) : List MFlit → Option MFlit
  | [] => h
  | f :: fs => if f.vc = 2 then openHead h fs else openHead (if f.tail then none else if f.head then some f else h) fs

/-- The flits that output o of a router has sent and that have been received, oldest first (R205). -/
def MeshRouter.received (m : MeshRouter) (o : Nat) : List MFlit :=
  let way := (SMap.get [] m.wire o).map (·.1)
  ((SMap.get [] m.replay o).filter fun p => !(way.contains p.1)).map (·.2)

/-- The packets whose tails output o has sent and that have not been received. -/
def MeshRouter.unreceived (m : MeshRouter) (o : Nat) : List MFlit :=
  headsOf (openHead none (m.received o)) ((SMap.get [] m.wire o).map (·.2))

/-- Output o's way on has failed: the packet in progress, else one packet that wants it, is ended. -/
def State.endAt (s : State) (k o : Nat) : State :=
  let m := s.mrouter k
  let pr := SMap.get 0 m.prog o
  if pr ≠ 0 then
    let closed : Bool := ((m.queue ((pr - 1) / 2)).find? (·.tail)).any (·.cut)
    let s := s.setMrouter k { m.dropFirst ((pr - 1) / 2) with prog := SMap.put 0 m.prog o 0 }
    if closed then s else match openHead none ((SMap.get [] m.replay o).map (·.2)) with
    | some f => s.endPacket k f
    | none => s
  else
    match (List.range 36).find? fun x => (m.queue x).head?.any fun h => h.head && outputOf k h = o with
    | none => s
    | some x => match m.queue x with
      | h :: _ => (s.setMrouter k (m.dropFirst x)).endPacket k h
      | [] => s

/-- The 24 bulk queues and the 12 VC2 queues of a router. -/
def bulkQueues : List Nat := (List.range 36).filter fun x => x % 6 < 4
/-- The VC2 queues. -/
def pennantQueues : List Nat := (List.range 36).filter fun x => 4 ≤ x % 6

/-- MESH_OUTPUT_ARBITRATE (R213): one cycle of output o of router k. -/
def execMeshOutputArbitrate (k : ClusterIx) (o : Fin 6) (s : State) : Host.Outcome State Fault Refusal :=
  if !(s.routerUp k) then .next s
  else
    let s := s.setMrouter k (s.mrouter k).intake
    let s := if s.roomless k o then s.clusterEvent k 0x0D 1 else s
    if o.val < 4 && !(s.linkUp k o) then .next (s.endAt k o)
    else
      let m := s.mrouter k
      let cap := popcount 16 (SMap.get 0 m.hist o).toNat < 8
      match (if cap then rrPick (s.ready k o) pennantQueues (SMap.get 0 m.rrP o) else none) with
      | some x =>
        .next ((s.setMrouter k ({ m with rrP := SMap.put 0 m.rrP o x }.note o true)).sendFlit k o x none)
      | none =>
        let pr := SMap.get 0 m.prog o
        if pr ≠ 0 then
          let x := (pr - 1) / 2
          -- The rest of the packet may not have arrived yet: the output waits for it.
          let last := ((m.queue x).head?.any (·.tail))
          .next ((s.setMrouter k ({ m with prog := SMap.put 0 m.prog o (if last then 0 else pr) }.note o false)).sendFlit
            k o x (some ((pr - 1) % 2 = 1)))
        else match rrPick (s.ready k o) bulkQueues (SMap.get 0 m.rr o) with
          | none => .next (s.setMrouter k (m.note o false))
          | some x => match m.queue x with
            | [] => .next s
            | h :: _ =>
              let pr' := if h.tail then 0 else 2 * x + b2n (leaving k h).lane + 1
              .next ((s.setMrouter k ({ m with rr := SMap.put 0 m.rr o x, prog := SMap.put 0 m.prog o pr' }.note o false)).sendFlit
                k o x none)

/-! ### Links (R205, R210) -/

/-- The link-CRC record of a mesh link (R205, R428). -/
def linkCrcRec (k d : Nat) : Rec :=
  let seam : Nat := match clusterNeighbour k d with
    | some j => if cantonOfCluster j = cantonOfCluster k then 0 else 16
    | none => 0
  { (onCluster k { cls := 0xB }) with disp := 0, action := 1, block := 9, index := BitVec.ofNat 8 d,
                                      detail0 := BitVec.ofNat 64 (d + seam) }

/-- MESH_FLIT_RECEIVE (R205): router k checks the next flit on its link d. A failed check discards it and every later
one, and the sender resends from it. -/
def execMeshFlitReceive (k : ClusterIx) (d : Fin 4) (ok : Bool) (s : State) : Host.Outcome State Fault Refusal :=
  match clusterNeighbour k d with
  | none => .next s
  | some j =>
    let o := opp d
    let u := s.mrouter j
    match SMap.get [] u.wire o with
    | [] => .next s
    | (n, f) :: ws =>
      let m := s.mrouter k
      if ok then
        let s := s.setMrouter j { u with wire := SMap.put [] u.wire o ws }
        let m := s.mrouter k
        if n ≠ SMap.get 0 m.expect d then .next s
        else
          let x := qIx d f.vc.toNat f.lane
          let m := { m with expect := SMap.put 0 m.expect d (n + 1), fails := SMap.put 0 m.fails d 0 }
          .next (s.setMrouter k (
            if m.skip.contains x then { m with skip := if f.tail then m.skip.filter (· ≠ x) else m.skip }
            else { m with q := SMap.put [] m.q x (m.queue x ++ [f]) }))
      else
        let again := (SMap.get [] u.replay o).dropWhile fun p => p.1 ≠ n
        let s := s.setMrouter j { u with wire := SMap.put [] u.wire o again }
        let s := s.setMrouter k { s.mrouter k with fails := SMap.put 0 m.fails d (SMap.get 0 m.fails d + 1) }
        let c := cantonOfCluster k
        .next (((s.cantonEvent c 0x0D 1).finc fCanMeshErrReplay c).report (cantonSrc c) (linkCrcRec k d))

/-- Fail one direction of a link: cluster k's router sends no more on d. It ends the packets that it had sent whole and that
were not received; those that it was receiving are discarded (R210). -/
def State.failSide (s : State) (k d : Nat) : State :=
  let m := s.mrouter k
  let lost := m.unreceived d
  let s := ((s.setMrouter k (({ m with linkFail := setBit m.linkFail d true, wire := SMap.put [] m.wire d [] } : MeshRouter).cutInput d)).showLinkFail
    k d).fset fCanMeshErrLinkFailed 1 (cantonOfCluster k)
  if s.routerUp k then lost.foldl (fun s h => s.endPacket k h) s else s

/-- Fail the link of cluster k in direction d in both directions (R210). -/
def State.failLink (s : State) (k d : Nat) : State :=
  match clusterNeighbour k d with
  | none => s
  | some j =>
    if (s.mrouter k).linkFail.getLsbD d then s
    else
      let s := (s.failSide k d).failSide j (opp d)
      if cantonOfCluster j = cantonOfCluster k then s.finc fCanMeshRtrInnerFail (cantonOfCluster k) else s

/-- MESH_LINK_FAIL (R205, R210): after 8 failed replays of one flit, or when the neighbour is lost. -/
def execMeshLinkFail (k : ClusterIx) (d : Fin 4) (s : State) : Host.Outcome State Fault Refusal :=
  match clusterNeighbour k d with
  | none => .next s
  | some j =>
    if 8 < SMap.get 0 (s.mrouter k).fails d || 8 < SMap.get 0 (s.mrouter j).fails (opp d) || !(s.routerUp j) then
      .next (s.failLink k d)
    else .next s

/-! ### Waypoint tables (R209) -/

/-- Whether the X-then-Y leg from k to a target avoids every failed link and router; n bounds the hops. -/
def State.legOk (s : State) (k target : Nat) : Nat → Bool
  | 0 => false
  | n + 1 =>
    s.routerUp k && match xyStep k target with
      | none => true
      | some d => s.linkUp k d && match clusterNeighbour k d with
        | some j => s.legOk j target n
        | none => false

/-- Whether a leg works: at most 79 + 59 hops. -/
def State.leg (s : State) (a b : Nat) : Bool := s.legOk a b 140

/-- The sources of canton c that send: its clusters with a working router. -/
def State.wptSources (s : State) (c : Nat) : List Nat := (clustersOf c).filter s.routerUp

/-- The entry of a canton's sources for destination k: no waypoint where the direct leg works for all, else the lowest
cluster that works for all, else unreachable. -/
def State.wptEntry (s : State) (srcs : List Nat) (k : Nat) : W16 :=
  if srcs.all fun a => s.leg a k then 0
  else match (List.range 4800).find? fun w => s.leg w k && srcs.all fun a => s.leg a w with
    | some w => BitVec.ofNat 16 (2 ^ 15 + w)
    | none => 0x4000

/-- Whether every router and link works: every entry then gives no waypoint. -/
def State.meshWhole (s : State) : Bool :=
  (List.range 100).all s.online && s.mesh.all fun p => !p.2.dead && p.2.linkFail = 0

/-- Recompute the waypoint table of canton c. -/
def State.wptUpdate (s : State) (c : Nat) : State :=
  let x := s.canton c
  let srcs := s.wptSources c
  let tab : SMap W16 :=
    if s.meshWhole then []
    else (List.range 4800).foldl (fun m k => SMap.put 0 m k (s.wptEntry srcs k)) []
  s.setCanton c { x with wpt := tab, wptGen := x.wptGen + 1 }

/-- WAYPOINT_TABLE_UPDATE (R209): every canton's table anew. -/
def execWaypointTableUpdate (s : State) : Host.Outcome State Fault Refusal :=
  .next (((List.range 100).filter s.online).foldl State.wptUpdate s)

end Sys2Proof.Machine
end

