-- ==== Sys2Proof/Machine/Dma.lean ====
section
/-! DEFINITION. The DMA queues of the cluster sequencers and host DMA (R204, R207, R282, R283, R358). -/
namespace Sys2Proof.Machine

/-! ### Rows of a host DMA (R358) -/

/-- The engine row that assigns row i of a DMA to its running cluster (R282). -/
def Desc.pieceRow (d : Desc) (i : Nat) : Nat := (if d.byte 36 = 0 then d.fld 24 8 else d.fld 16 8) + 64 * i
/-- The running cluster of row i. -/
def Desc.runner (d : Desc) (i : Nat) : Nat := Sys2Proof.Machine.runner (d.pieceRow i)
/-- The running clusters of a DMA. -/
def Desc.runners (d : Desc) : List Nat := ((List.range (d.fld 32 4 / 64)).map d.runner).eraseDups

/-- Where a row of a DMA stands: handled; to be read once its store lets it; to be written by a request, which waits on a
nearer path or goes over the mesh. -/
inductive DmaStep
  | done (e : RowEnd)
  | read
  | write (near : Bool) (data : BitVec 512) (e : RowEnd)
  deriving DecidableEq, Repr

/-- A row as it was written at an engine destination (R266, R358). -/
def writtenEnd (r q : RowOut) : RowEnd :=
  { status := q.status, written := q.status = 0, poison := r.poison, corrected := r.corrected, isolation := q.isolation }

/-- Write a row that was read at an engine destination by cluster k (R204, R266, R358, R493). A row that could not be read
is not written. -/
def State.dmaWrite (s : State) (k dst : Nat) (r : RowOut) : DmaStep × State :=
  let who := whoDma k
  let e : RowEnd := { status := r.status, written := false, poison := r.poison, corrected := r.corrected, isolation := r.isolation }
  if r.status = 1 || r.status = 3 then (.done e, s)
  else if s.localBar who dst = .unmapped then (.done { e with status := 1 }, s.refuse who dst false)
  else if !(nearPath k dst) || s.waits dst then (.write (nearPath k dst) (BitVec.ofNat 512 (leNat r.data)) e, s)
  else
    let q := s.writeRow who dst r.data r.poison
    (.done (writtenEnd r q.1), q.2)

/-- Move row i of a DMA descriptor by its running cluster (R358). bad says that the host did not answer the read of this
row (R346). An unmapped row is not written at all (R31); one that is refused or cannot be read reads as zeros to the host
(R286, R358). -/
def State.dmaRow (s : State) (d : Desc) (bad : Bool) (i : Nat) : DmaStep × State :=
  let k := d.runner i
  let src := d.fld 16 8 + 64 * i
  let dst := d.fld 24 8 + 64 * i
  match d.byte 36 with
  | 0 =>
    if bad then (.done { written := false, host := true }, s.fset fHifStatHostErrSeen 1)
    else s.dmaWrite k dst { data := s.hostRead src 64 }
  | 1 =>
    if s.mapped src && s.waits src then (.read, s)
    else
      let r := s.readRow (whoDma k) src
      let ok := r.1.status = 0 || r.1.status = 2
      let none_ := r.1.status = 1 && !r.1.isolation
      (.done { status := if ok then 0 else r.1.status, written := ok, poison := r.1.poison, corrected := r.1.corrected
               isolation := r.1.isolation },
       if none_ then r.2 else r.2.hostWrite dst (if ok then r.1.data else fillBytes 64 0))
  | _ =>
    if s.mapped src && s.waits src then (.read, s)
    else
      let r := s.readRow (whoDma k) src
      r.2.dmaWrite k dst r.1

/-- The completion status of a failing row (R358). -/
def rowStatus (e : RowEnd) : Byte := if e.host then 0x0C else if e.written then 0 else if e.status = 1 then 0x0A else 0x0B

/-- The status that a row gives its queue entry (CAN_DMAQ_STAT.LAST_ERR): 0 where nothing failed. -/
def entryStatus (e : RowEnd) : Byte := if e.status ≠ 0 then BitVec.ofNat 8 e.status else if e.poison then 2 else 0

/-- Whether row i has a lower index than a row noted before. -/
def lower (i : Nat) : Option Nat → Bool
  | some j => decide (i < j)
  | none => true

/-- Add row i's outcome to a DMA's completion (R358, R361): the status is that of the lowest row that failed. -/
def DmaJob.add (j : DmaJob) (i : Nat) (e : RowEnd) : DmaJob :=
  let fails := rowStatus e ≠ 0 && lower i j.failed
  { j with status := if fails then rowStatus e else j.status
           failed := if fails then some i else j.failed
           poison := j.poison || e.poison, corrected := j.corrected || e.corrected, isolation := j.isolation || e.isolation
           bytes := if e.written then j.bytes + 64 else j.bytes
           poisoned := if e.poison then j.poisoned + 1 else j.poisoned
           lowest := if (!e.written || e.poison) && lower i j.lowest then some i else j.lowest }

/-- Note the outcomes of rows from row i on in a descriptor's completion. -/
def State.dmaEnds (s : State) (ring : RingIx) (num : W32) (i : Nat) (es : List RowEnd) : State :=
  s.updHost fun h => { h with dma := h.dma.map fun j =>
    if j.ring = ring && j.num = num then ((List.range es.length).zip es).foldl (fun j q => j.add (i + q.1) q.2) j else j }

/-- The first status other than 0 of a list of rows. -/
def worstOf (es : List RowEnd) : Byte := ((es.map entryStatus).find? (· ≠ 0)).getD 0

/-! ### Requests of a host DMA (R204, R207) -/

/-- Issue the request of a group (R207): false where its destination is unreachable. -/
def State.dmaRequest (s : State) (ring : RingIx) (num : W32) (g : DmaGroup) : Bool × State :=
  let r : Request := { cluster := Fin.ofNat 4800 g.k, tid := 0, write := g.write, addr := deAperture g.addr, rows := g.rows
                       body := g.body, local_ := 0, for_ := .dma ring num g.row g.ends, op := 0, slice := 0 }
  if g.near then (true, s.await r) else s.issue r (destOf g.addr)

/-- A row whose path has failed or whose request has timed out is not written. -/
def RowEnd.unwritten (st : Nat) (e : RowEnd) : RowEnd := { e with status := st, written := false }

/-- Issue the requests of a DMA, oldest first, against the entries of its queue. -/
def State.dmaRequests (s : State) (ring : RingIx) (num : W32) : List DmaGroup → State
  | [] => s
  | g :: gs =>
    let q := s.dmaRequest ring num g
    let s := if q.1 then q.2 else
      let es := g.ends.map (RowEnd.unwritten 4)
      (q.2.dmaEnds ring num g.row es).dmaHandled g.k (ring.val % 16) (.host ring num) g.rows 4
    s.dmaRequests ring num gs

/-- What the rows of a DMA have come to. -/
structure DmaRun where
  pieces : List Piece := []
  job : DmaJob
  groups : List DmaGroup := []
  st : State

/-- Move the m rows of a DMA from row i on, in transfer order. -/
def DmaRun.rows (x : DmaRun) (d : Desc) (bad : Option Nat) (i : Nat) : Nat → DmaRun
  | 0 => x
  | m + 1 =>
    let k := d.runner i
    let r := (x.st.clusterEvent k 0x09 1).dmaRow d (bad = some i) i
    let y : DmaRun := match r.1 with
      | .done e => { x with pieces := addPiece x.pieces k 0 (entryStatus e), job := x.job.add i e, st := r.2 }
      | .read => { x with pieces := addPiece x.pieces k 1 0, st := r.2
                          groups := addDma x.groups { k := k, row := i, write := false, near := true, addr := d.fld 16 8 + 64 * i } }
      | .write near data e =>
        { x with pieces := addPiece x.pieces k 1 0, st := r.2
                 groups := addDma x.groups { k := k, row := i, write := true, near := near, addr := d.fld 24 8 + 64 * i
                                             body := [(data, e.poison)], ends := [e] } }
    y.rows d bad (i + 1) m

/-- Perform a started DMA: its rows are handled or requested, and each piece stands as an entry in queue r mod 16 of its
cluster. -/
def State.dma (s : State) (d : Desc) (bad : Option Nat) : State :=
  let j : DmaJob := { ring := d.ring, num := d.num, compAddr := d.fld 40 8, compValue := BitVec.ofNat 64 (d.fld 48 8) }
  let x := ({ job := j, st := s } : DmaRun).rows d bad 0 (d.fld 32 4 / 64)
  let s := x.st.updHost fun h => { h with dma := h.dma ++ [x.job] }
  let s := x.pieces.foldl (fun s p => s.pushDma p.k (d.ring.val % 16) ⟨.host d.ring d.num, p.left, p.status⟩) s
  s.dmaRequests d.ring d.num x.groups.reverse

/-- DMA (R282, R358): ring r's next descriptor starts where every queue that it needs has room; a transfer from the host
needs Bus Master Enable (R346). bad is the first row whose host read failed, where one did. -/
def execDma (r : RingIx) (bad : Option Nat) (s : State) : Host.Outcome State Fault Refusal :=
  .next (s.perform r (fun d => d.op = 0x05 && (d.byte 36 ≠ 0 || s.host.master) && d.runners.all fun k => s.dmaRoom k (r.val % 16))
    fun d s => s.dma d bad)

/-- What a DMA completes with (R361). -/
def DmaJob.result (j : DmaJob) : Result :=
  { status := j.status.toNat, poison := j.poison, corrected := j.corrected, isolation := j.isolation, r0 := j.bytes
    r1 := j.poisoned % 2 ^ 32 + (j.lowest.getD 0xFFFFFFFF) % 2 ^ 32 * 2 ^ 32 }

/-- A DMA completes (R358). -/
def State.dmaFinish (s : State) (ring : RingIx) (num : W32) : State :=
  match s.host.dma.find? fun j => j.ring = ring && j.num = num with
  | none => s
  | some j =>
    let s := s.updHost fun h => { h with dma := h.dma.filter fun i => !(i.ring = ring && i.num = num) }
    match s.host.descs.find? fun d => d.ring = ring && d.num = num with
    | some d => s.complete d j.result
    | none => s

/-- The last piece of a DMA has completed: its completion row is written by cluster k, by the path of R204, then its
completion follows whatever the outcome of that row (R282, R283). -/
def State.dmaEnd (s : State) (k : Nat) (j : DmaJob) : State :=
  let a := j.compAddr
  let bs := padTo 64 (leBytes 8 j.compValue.toNat)
  let r : Request := { cluster := Fin.ofNat 4800 k, tid := 0, write := true, addr := deAperture a, rows := 1
                       body := [(BitVec.ofNat 512 (leNat bs), false)], local_ := 0, for_ := .dmaEnd j.ring j.num, op := 0, slice := 0 }
  if a = 0 then s.dmaFinish j.ring j.num
  else if s.localBar (whoDma k) a = .unmapped || (nearPath k a && !(s.waits a)) then
    (s.writeRow (whoDma k) a bs false).2.dmaFinish j.ring j.num
  else if nearPath k a then s.await r
  else
    let q := s.issue r (destOf a)
    if q.1 then q.2 else q.2.dmaFinish j.ring j.num

/-- DMA_ENTRY_COMPLETE (R283): the oldest entry of a queue completes once its rows are handled. -/
def execDmaEntryComplete (k : ClusterIx) (q : Fin 32) (s : State) : Host.Outcome State Fault Refusal :=
  let x := s.dmaq k q
  match x.entries with
  | [] => .next s
  | e :: es =>
    if e.left ≠ 0 then .next s
    else
      let s := s.setDmaq k q { entries := es, doneCount := x.doneCount + 1, lastErr := if e.status = 0 then x.lastErr else e.status }
      match e.feeder with
      | .host ring num =>
        if s.dmaLeft e.feeder then .next s
        else match s.host.dma.find? fun j => j.ring = ring && j.num = num with
          | some j => .next (s.dmaEnd k j)
          | none => .next s
      | _ => .next s

/-- Rows of a DMA's write request have been answered (R358): with a path or time failure none is written; of a response with
fewer rows than asked, the first poisoned ones were refused (R266). -/
def dmaOutcome (st rows : Nat) (isolated : Bool) (es : List RowEnd) : List RowEnd :=
  if st = 0 then es.map fun e => { e with status := 0, written := true }
  else if st = 2 then
    let refused := es.length - rows
    (es.foldl (fun (a : List RowEnd × Nat) e =>
      if e.poison && 0 < a.2 then (a.1 ++ [{ e with status := 2, written := false }], a.2 - 1)
      else (a.1 ++ [{ e with status := 0, written := true }], a.2)) ([], refused)).1
  else es.map fun e => { e.unwritten st with isolation := e.isolation || isolated }

/-- A write request of a DMA has ended: its rows are noted, and its entry has fewer rows to handle. -/
def State.dmaAnswer (s : State) (r : Request) (ring : RingIx) (num : W32) (row : Nat) (es : List RowEnd) : State :=
  (s.dmaEnds ring num row es).dmaHandled r.cluster (ring.val % 16) (.host ring num) r.rows (worstOf es)

/-- The read that row i of a DMA waited for can go on (R268, R386). -/
def State.dmaResume (s : State) (r : Request) (ring : RingIx) (num : W32) (i : Nat) : State :=
  match s.host.descs.find? fun d => d.ring = ring && d.num = num with
  | none => s.dmaAnswer r ring num i []
  | some d =>
    let q := s.dmaRow d false i
    match q.1 with
    | .done e => q.2.dmaAnswer r ring num i [e]
    | .read => q.2.await r
    | .write near data e =>
      q.2.dmaRequests ring num [{ k := r.cluster, row := i, write := true, near := near, addr := d.fld 24 8 + 64 * i
                                  body := [(data, e.poison)], ends := [e] }]

end Sys2Proof.Machine
end

