-- ==== Sys2Proof/Machine/Ends.lean ====
section
/-! DEFINITION. Packets at their ends: served, answered, timed out (R206, R207, R210, R211, R265, R266, R273, R386). -/
namespace Sys2Proof.Machine

/-! ### Packets at their destinations (R206, R207) -/

/-- The attachment's or sequencer's code in an SRC or DST (R203). -/
def portCode (k : Nat) (port : Fin 2) : Nat :=
  let c := cantonOfCluster k
  let l := localCluster k
  if port = 0 then k
  else if l = 20 then 6 * 2 ^ 13 + k
  else if hasBay c && l = 19 then 1 * 2 ^ 13 + k
  else if hasBay c && l = 28 then 2 * 2 ^ 13 + k
  else if c = 40 && l = 16 then 3 * 2 ^ 13 + k
  else if c = 40 && l = 24 then 4 * 2 ^ 13 + k
  else 5 * 2 ^ 13 + k

/-- Take the oldest bulk packet that has arrived at an end of router k, where it has the TYPE asked for. A reserved
TYPE is discarded with a record (R206). -/
def State.takePacket (s : State) (k : Nat) (port : Fin 2) (typ : Nat) : Option Packet × State :=
  let m := s.mrouter k
  let o := 4 + port.val
  let ps := SMap.get [] m.arrived o
  match ps.findIdx? fun fs => fs.head?.any fun f => f.vc ≠ 2 with
  | none => (none, s)
  | some i =>
    match packetOf (ps.getD i []) with
    | none => (none, s)
    | some p =>
      let rest := s.setMrouter k { m with arrived := SMap.put [] m.arrived o (ps.eraseIdx i) }
      if p.typ = 0 || 4 < p.typ then (none, rest.protoRec k p.head)
      else if p.typ = typ then (some p, rest)
      else (none, s)

/-- The request that a packet carries, by its SRC and TID. -/
def State.requestOf (s : State) (src tid : Nat) : Option Request :=
  s.requests.find? fun r => !r.near && r.tid.toNat = tid && src = (if r.port then 5 * 2 ^ 13 + r.cluster.val else r.cluster.val)

/-- Who serves a packet's rows at router k: the serving end, for the requester in SRC. A host DMA is asked by no slice. -/
def State.servWho (s : State) (k : Nat) (p : Packet) : Who :=
  let kind : WhoKind := match (s.requestOf p.src p.tid).map Request.for_ with
    | some (.dma _ _ _ _) => .host
    | some (.dmaEnd _ _) => .host
    | _ => .slice p.slice
  { whoEngine k with src := p.src, kind := kind }

/-- The status of an access that the serving end refuses: a bay that has failed answers 3 (R270). -/
def State.refusedStatus (s : State) (a : Nat) : Nat :=
  match placeOf a with
  | .bay b _ => if s.fget fBayStatState (bayCanton b) = 3 then 3 else 1
  | _ => 1

/-- The rows of a read, in order: the packet's status and its payload. The first row that cannot be read decides. -/
def State.serveRead (s : State) (who : Who) (a : Nat) : Nat → Nat × List (BitVec 512 × Bool) × State
  | 0 => (0, [], s)
  | n + 1 =>
    let r := s.readRow who a
    if r.1.status = 1 then (s.refusedStatus a, [], r.2)
    else if r.1.status = 3 then (3, [], r.2)
    else
      let q := r.2.serveRead who (a + 64) n
      if q.1 = 1 || q.1 = 3 then q
      else (if r.1.poison then 2 else q.1, (BitVec.ofNat 512 (leNat r.1.data), r.1.poison) :: q.2.1, q.2.2)

/-- Whether a row of a packet waits at its store (R268, R386). -/
def State.packetWaits (s : State) (p : Packet) : Bool := (List.range p.rows).any fun i => s.mapped (p.addr + 64 * i) && s.waits (p.addr + 64 * i)

/-- READ_REQ (R206): a request at its destination is served and answered; one whose store lets it wait stays (R268, R386). -/
def execReadReq (k : ClusterIx) (port : Fin 2) (s : State) : Host.Outcome State Fault Refusal :=
  match s.takePacket k port 1 with
  | (none, s) => .next s
  | (some p, s1) => if s1.packetWaits p then .next s else
    let r := s1.serveRead (s1.servWho k p) p.addr p.rows
    let body := if r.1 = 0 || r.1 = 2 then r.2.1 else []
    let rsp : Packet := { typ := 3, rows := p.rows, status := r.1, src := portCode k port, dst := p.src, tid := p.tid,
                          slice := p.slice, addr := p.addr, body := body }
    .next (r.2.2.send k (4 + port.val) rsp).2

/-- The rows of a write, in order: the status, how many were written, and whether a class W row refused poison. -/
def State.serveWrite (s : State) (who : Who) (a : Nat) : List (BitVec 512 × Bool) → Nat × Nat × Bool × State
  | [] => (0, 0, false, s)
  | (d, psn) :: rs =>
    let r := s.writeRow who a (leBytes 64 d.toNat) psn
    let st := if r.1.status = 1 then s.refusedStatus a else r.1.status
    let ref := psn && st = 2 && s.rowIsW (deAperture a)
    let q := r.2.serveWrite who (a + 64) rs
    (if st = 1 || st = 3 then st else if q.1 = 1 || q.1 = 3 then q.1 else if st = 2 || q.1 = 2 then 2 else 0,
     q.2.1 + (if st = 0 || (st = 2 && !ref) then 1 else 0), ref || q.2.2.1, q.2.2.2)

/-- WRITE_REQ (R206, R266): the rows are written and acknowledged. -/
def execWriteReq (k : ClusterIx) (port : Fin 2) (s : State) : Host.Outcome State Fault Refusal :=
  match s.takePacket k port 2 with
  | (none, s) => .next s
  | (some p, s1) => if s1.packetWaits p then .next s else
    let r := s1.serveWrite (s1.servWho k p) p.addr (p.body.take p.rows)
    let ack : Packet := { typ := 4, rows := r.2.1, status := r.1, src := portCode k port, dst := p.src, tid := p.tid,
                          slice := p.slice, addr := p.addr }
    .next (r.2.2.2.send k (4 + port.val) ack).2

/-- One response of an operation has come: at the last, its tag counts down (R163, R207). -/
def State.opDone (s : State) (op : Nat) : State :=
  match s.bulkOps.find? fun b => b.id = op with
  | none => s
  | some b =>
    if b.left ≤ 1 then
      ({ s with bulkOps := s.bulkOps.filter fun x => x.id ≠ op }).tagDone b.tile b.tag.toNat
    else { s with bulkOps := s.bulkOps.map fun x => if x.id = op then { x with left := x.left - 1 } else x }

/-- Take the request of cluster k's sequencer, or of its attachment, that a response answers; a late response is discarded
and counted (R211). -/
def State.takeRequest (s : State) (k : Nat) (port : Bool) (tid : Nat) : Option Request × State :=
  let mine (r : Request) : Bool := !r.near && r.cluster.val = k && r.port == port && r.tid.toNat = tid
  match s.requests.find? mine with
  | some r => (some r, { s.clusterEvent k 0x12 1 with requests := s.requests.filter fun x => !(mine x) })
  | none => (none, s.finc fCanMeshErrLate (cantonOfCluster k))

/-- Write the rows of a READ_RSP at a tile (R207, R266): the worst status, and whether the slice stops. -/
def State.deliverAll (s : State) (n k t laddr a : Nat) : List (BitVec 512 × Bool) → Nat × Bool × State
  | [] => (0, false, s)
  | (d, psn) :: rs =>
    let bs := leBytes 64 d.toNat
    let s := s.cacheFill n k a bs psn none
    let r := s.deliver (whoSlice n k (some t)) t laddr bs psn
    let q := r.2.2.deliverAll n k t (laddr + 64) (a + 64) rs
    (max r.1 q.1, r.2.1 || q.2.1, q.2.2)

/-- A prefetched row has come: it stands in the cache under its prefetcher, or counts as consumed (R280, R281). -/
def State.prefetched (s : State) (n k a : Nat) (pf : Fin 16) (bs : List Byte) (ok : Bool) : State :=
  if ok && s.cacheable n k a && ((s.cluster k).way (deAperture a / 64)).isNone then s.cacheFill n k a bs false (some pf)
  else
    let x := s.cluster k
    let p := x.pfOf pf
    s.setCluster k (x.setPf pf { p with out := p.out - 1 })

/-- Fill the rows of a prefetch. -/
def State.prefetchedAll (s : State) (n k a : Nat) (pf : Fin 16) (body : List (BitVec 512 × Bool)) (rows : Nat) : State :=
  (List.range rows).foldl (fun s i => match body[i]? with
    | some (d, psn) => s.prefetched n k (a + 64 * i) pf (leBytes 64 d.toNat) (!psn)
    | none => s.prefetched n k (a + 64 * i) pf [] false) s

/-- Rows of a port's refresh have been answered: the entry of the destination cluster's queue has fewer to handle (R311). -/
def State.refreshAnswer (s : State) (r : Request) (p : PortIx) (entry : Nat) (dst : ClusterIx) (st : Nat) : State :=
  s.dmaHandled dst (28 + p.val % 4) (.port p entry) r.rows (BitVec.ofNat 8 st)

/-- Complete a request with a status and no row delivered (R207): w rows were written, where it asked for that. -/
def State.endRequest (s : State) (r : Request) (st w : Nat) : State :=
  match r.for_ with
  | .bulk t tag => (s.tagStatus t tag.toNat st).opDone r.op
  | .prefetch pf => s.prefetchedAll r.slice.toNat r.cluster r.addr pf [] r.rows
  | .dma ring num row ends =>
    let es := if r.write then dmaOutcome st w (s.bar (whoDma r.cluster) r.addr = .isolated) ends else [({} : RowEnd).unwritten st]
    s.dmaAnswer r ring num row es
  | .dmaEnd ring num => s.dmaFinish ring num
  | .refresh p i dst => s.refreshAnswer r p i dst st

/-- Whether a request's slice stops for its outcome (R265, R266): an uncorrectable row, or poison that a class W store
refused. -/
def Request.stops (r : Request) (st w : Nat) : Bool :=
  match r.for_ with
  | .bulk _ _ => st = 3 || (r.write && st = 2 && decide (w < r.rows))
  | _ => false

/-- The oldest request of cluster k on a nearer path, of a kind, whose store lets it wait no longer. -/
def State.nearDue (s : State) (k : Nat) (write : Bool) : Option Request :=
  s.requests.find? fun r => r.near && r.cluster.val = k && r.write = write && !(s.waits r.addr)

/-- A request on a nearer path is served (R204, R268): the row is read or written, and counts toward its transfer. -/
def State.serveNear (s : State) (r : Request) : State :=
  let k := r.cluster.val
  let n := r.slice.toNat
  let s := { s with requests := s.requests.filter fun x => !(x.near && x.cluster = r.cluster && x.tid = r.tid) }
  let row := r.body.head?.getD (0, false)
  let bs := leBytes 64 row.1.toNat
  match r.for_ with
  | .bulk t tag =>
    let q := if r.write then s.bulkWrite n k t r.addr bs row.2 else s.bulkRead n k t r.local_ r.addr
    let s := (q.2.2.tagStatus t tag.toNat q.1).opDone r.op
    if q.2.1 then s.stopSlice n none else s
  | .prefetch pf =>
    let q := (s.nearEvent k r.addr).readRow (whoSlice n k none) r.addr
    q.2.prefetched n k r.addr pf q.1.data (q.1.status = 0 && !q.1.poison)
  | .dma ring num i ends =>
    if r.write then
      let q := s.writeRow (whoDma k) r.addr bs row.2
      q.2.dmaAnswer r ring num i (ends.map fun e => { e with status := q.1.status, written := q.1.status = 0, isolation := e.isolation || q.1.isolation })
    else s.dmaResume r ring num i
  | .dmaEnd ring num => (s.writeRow (whoDma k) r.addr bs false).2.dmaFinish ring num
  | .refresh p i dst => s.refreshAnswer r p i dst 0

/-- READ_RSP (R207, R265, R266): rows are written at the requester, or not for a failing status; an uncorrectable row,
or poison at a class W row, stops the slice after the response. Where no response has come, a read on a nearer path that
its store no longer holds is served. -/
def execReadRsp (k : ClusterIx) (s : State) : Host.Outcome State Fault Refusal :=
  match s.takePacket k 0 3 with
  | (none, s) => .next (match s.nearDue k false with
    | some r => s.serveNear r
    | none => s)
  | (some p, s) => match s.takeRequest k false p.tid with
    | (none, s) => .next s
    | (some r, s) =>
      let n := r.slice.toNat
      if p.status = 0 || p.status = 2 then
        match r.for_ with
        | .bulk t tag =>
          let q := s.deliverAll n k t r.local_ r.addr p.body
          let s := (q.2.2.tagStatus t tag.toNat (max q.1 p.status)).opDone r.op
          .next (if q.2.1 then s.stopSlice n none else s)
        | .prefetch pf => .next (s.prefetchedAll n k r.addr pf p.body r.rows)
        | _ => .next (s.endRequest r p.status 0)
      else
        let s := s.endRequest r p.status 0
        .next (if r.stops p.status 0 then s.stopSlice n none else s)

/-- WRITE_ACK (R207, R266): the acknowledgement, at the sequencer or at a port's attachment, counts toward its transfer with
its status; rows that a class W store refused stop the slice. Where none has come, a write on a nearer path that its store no
longer holds is served. -/
def execWriteAck (k : ClusterIx) (port : Fin 2) (s : State) : Host.Outcome State Fault Refusal :=
  match s.takePacket k port 4 with
  | (none, s) => .next (match s.nearDue k true with
    | some r => if port = 0 then s.serveNear r else s
    | none => s)
  | (some p, s) => match s.takeRequest k (port = 1) p.tid with
    | (none, s) => .next s
    | (some r, s) =>
      let s := s.endRequest r p.status p.rows
      .next (if r.stops p.status p.rows then s.stopSlice r.slice.toNat none else s)

/-- The head flit of an outstanding request, for its record. -/
def requestHead (r : Request) : BitVec 512 :=
  Packet.head { typ := if r.write then 2 else 1, rows := r.rows, src := if r.port then 5 * 2 ^ 13 + r.cluster.val else r.cluster, dst := destOf r.addr, tid := r.tid.toNat,
                slice := r.slice.toNat, addr := r.addr }

/-- Whether the timers of requests to an address stand: its bay retrains a channel (R273). -/
def State.timersHeld (s : State) (a : Nat) : Bool :=
  match placeOf a with
  | .bay b _ => s.fget fBayStatRetrainAct (bayCanton b) ≠ 0
  | _ => false

/-- MESH_REQUEST_TIMEOUT (R211): the request completes with status 3 and a mesh-timeout record. -/
def execMeshRequestTimeout (k : ClusterIx) (tid : W16) (s : State) : Host.Outcome State Fault Refusal :=
  match s.requests.find? fun r => r.cluster = k && r.tid = tid with
  | none => .next s
  | some r =>
    if s.timersHeld r.addr then .next s
    else
      let c := cantonOfCluster k
      let s := { s with requests := s.requests.filter fun x => !(x.cluster = k && x.tid = tid) }
      let s := ((s.finc fCanMeshErrTimeout c).fset fCanMeshErrTimeoutSeen 1 c).report (cantonSrc c)
        { meshRec 0x11 k (requestHead r) with block := 8, slice := r.slice.zeroExtend 8 }
      .next (s.endRequest r 3 0)

end Sys2Proof.Machine
end

