-- ==== Sys2Proof/Machine/Stores.lean ====
section
/-! DEFINITION. Bays, classes, prefetchers and scrub (R267, R270 to R287). -/
namespace Sys2Proof.Machine

/-! ### Canton windows (R345) -/

/-- Whether the CAN window of canton c answers; where it does not, OFFLINE_SEEN is set (R345). -/
def State.ifOnline (s : State) (c : Nat) (f : State → State) : State :=
  if s.online c then f s else s.fset fHifStatOfflineSeen 1

/-! ### Retraining (R270, R273) -/

/-- Lanes of a channel. -/
def channelLanes : Nat := 264

/-- The bad lanes of a channel. -/
def Bay.bad (y : Bay) (ch : Nat) : Nat := popcount channelLanes (SMap.get 0 y.badLanes ch)

/-- A bay's channel fails, and the bay with it (R270). -/
def State.failBay (s : State) (b : Nat) : State :=
  let c := bayCanton b
  ((s.finc fBayStatFailedCh c).fset fBayStatState 3 c).putBit fCkmRestartBay b false

/-- Spare lanes in use over a bay's channels. -/
def Bay.spares (y : Bay) : Nat := ((List.range 32).map fun ch => min (y.bad ch) 8).sum

/-- Note lanes that a test found bad: steered to spares and recorded in the ledger (R273, R437). -/
def State.badLane (s : State) (b ch : Nat) (lanes : Nat) : State :=
  let y := s.bay b
  let old := SMap.get 0 y.badLanes ch
  let new := (List.range channelLanes).filter fun l => lanes.testBit l && !(old.testBit l)
  let s := s.setBay b { y with badLanes := SMap.put 0 y.badLanes ch (new.foldl (fun n l => n + 2 ^ l) old) }
  let s := new.foldl (fun s l => s.ledger { kind := 3, src := 3, canton := BitVec.ofNat 8 (bayCanton b), outcome := 6,
                                            word := BitVec.ofNat 32 (5 * 2 ^ 28 + ch * 2 ^ 23 + l * 2 ^ 14) }) s
  s.fset fBayStatSpareUsed (s.bay b).spares (bayCanton b)

/-- CHANNEL_RETRAIN (R273): the next waiting channel of a ready bay has retrained; lanes are those found bad, and late
says that it took more than 250 µs. Its request bit clears. -/
def execChannelRetrain (b : BayIx) (lanes : BitVec 264) (late : Bool) (s : State) : Host.Outcome State Fault Refusal :=
  let c := bayCanton b
  match s.nextChannel c with
  | none => .next s
  | some ch =>
    if s.fget fBayStatState c ≠ 2 then .next s
    else
      let clear (f : Fld) (s : State) : State := s.fset f (s.fget f c - (if (s.fget f c).testBit ch then 2 ^ ch else 0)) c
      let s := (clear fBayRetrainCh (clear fBayStatRetrainAct s)).badLane b ch lanes.toNat
      let s := if late then s else s.finc fBayErrcntRetrains c
      let s := if s.fget fBayStatRetrainAct c = 0 then s.putBit fCkmRestartBay b false else s
      .next (if late || 8 < (s.bay b).bad ch then s.failBay b else s)

/-- Request the retraining of channels (R273, R291). -/
def State.askRetrain (s : State) (c chs : Nat) : State := s.fset fBayStatRetrainAct (s.fget fBayStatRetrainAct c ||| chs) c

/-- BAY_RETRAIN (R291): a write of the register sets the bits written 1. -/
def execBayRetrain (b : BayIx) (v : W32) (s : State) : Host.Outcome State Fault Refusal :=
  let c := bayCanton b
  .next (s.ifOnline c fun s => (s.fset fBayRetrainCh (s.fget fBayRetrainCh c ||| v.toNat) c).askRetrain c v.toNat)

/-- AUTO_RETRAIN_THRESHOLD (R273): a second has passed at a bay; with AUTO = 1 the channels whose corrections in it
exceed AUTO_THRESH are to be retrained. -/
def execAutoRetrainThreshold (b : BayIx) (s : State) : Host.Outcome State Fault Refusal :=
  let c := bayCanton b
  let y := s.bay b
  let above := y.chanCorr.foldl (fun n (p : Nat × Nat) => if s.fget fBayCfgAutoThresh c < p.2 then n ||| 2 ^ p.1 else n) 0
  let s := s.setBay b { y with chanCorr := [] }
  .next (if s.fbit fBayCfgAuto c then s.askRetrain c above else s)

/-! ### Classes (R267, R290, R291) -/

/-- The cluster whose queue holds the entry of a store's scrub or re-encoding, and the queue (R282): a cluster's own, and for a
bay region that of its first row; one of queues 24 to 27. -/
def storeQueue : StoreRef → Nat × Nat
  | .cluster k => (k, 24)
  | .region b n => (runner (bayBase b + n.val * 2 ^ 30), 24 + n.val % 4)

/-- A scrub or re-encoding of a store stands as an entry in a DMA queue until it has ended (R282). -/
def State.storeEntry (s : State) (t : StoreRef) : State := s.pushDma (storeQueue t).1 (storeQueue t).2 ⟨.store t, 1, 0⟩

/-- The scrub or re-encoding of a store has ended. -/
def State.storeDone (s : State) (t : StoreRef) : State := s.dmaHandled (storeQueue t).1 (storeQueue t).2 (.store t) 1 0

/-- Change the class of a bay region (R267). -/
def State.setRegionClass (s : State) (b : BayIx) (n : Fin 128) (w : Bool) : State :=
  let r := s.region b n
  if r.owned || r.classW = w then s
  else
    let lo := bayBase b + n.val * 2 ^ 30
    let s := s.reencode lo (lo + 2 ^ 30) w
    (s.setRegion b n { s.region b n with classW := w, reencoding := true }).storeEntry (.region b n)

/-- BAY_REGION_CLASS_WRITE (R267, R291). -/
def execBayRegionClassWrite (b : BayIx) (n : Fin 128) (w : Bool) (s : State) : Host.Outcome State Fault Refusal :=
  .next (s.ifOnline (bayCanton b) fun s => s.setRegionClass b n w)

/-- A write of CAN_CLU_CFG (R267, R290): ignored while a loaded slice owns the cluster. -/
def State.setCluCfg (s : State) (k : ClusterIx) (classW : BitVec 24) (banks : BitVec 5) : State :=
  let x := s.cluster k
  if x.owned then s
  else
    let s := s.setBanks k classW banks
    if x.classW = classW then s else (s.setCluster k { s.cluster k with reencoding := true }).storeEntry (.cluster k)

/-- CLUSTER_CLASS_WRITE (R267, R290). -/
def execClusterClassWrite (k : ClusterIx) (classW : BitVec 24) (s : State) : Host.Outcome State Fault Refusal :=
  .next (s.ifOnline (cantonOfCluster k) fun s => s.setCluCfg k classW (s.cluster k).cacheBanks)

/-- The caches of the slice that owns a region are invalidated (R277). -/
def State.invalidateOwner (s : State) (r : Region) : State := if r.owned then s.invalidate r.owner.toNat else s

/-- REENCODE_COMPLETE (R267, R277). -/
def execReencodeComplete (st : StoreRef) (s : State) : Host.Outcome State Fault Refusal :=
  match st with
  | .cluster k =>
    let x := s.cluster k
    .next (if x.reencoding then (s.setCluster k { x with reencoding := false }).storeDone st else s)
  | .region b n =>
    let r := s.region b n
    .next (if r.reencoding then ((s.setRegion b n { r with reencoding := false }).invalidateOwner r).storeDone st else s)

/-! ### Prefetchers (R279 to R281) -/

/-- The row address of a prefetcher's cursor, in rows (R279). -/
def Prefetcher.row (p : Prefetcher) : Int :=
  (p.base.toNat : Int) + (p.ocur.toNat : Int) * p.outerStride.toInt + (p.icur.toNat : Int) * p.innerStride.toInt + (p.rcur.toNat : Int)

/-- The cursor after one row: rows, then elements, then outer steps; at the end WRAP or DONE (R279). -/
def Prefetcher.advance (p : Prefetcher) : Prefetcher :=
  if p.rcur ≠ p.rowsM1 then { p with rcur := p.rcur + 1 }
  else if p.icur ≠ p.innerM1 then { p with rcur := 0, icur := p.icur + 1 }
  else if p.ocur ≠ p.outerM1 then { p with rcur := 0, icur := 0, ocur := p.ocur + 1 }
  else if p.wrap then { p with rcur := 0, icur := 0, ocur := 0 }
  else { p with rcur := 0, icur := 0, ocur := 0, done := true, started := false }

/-- The most outstanding rows (R290). -/
def Prefetcher.limit (p : Prefetcher) : Nat := if p.depth = 0 then 1 else min p.depth.toNat 1024

/-- Whether a prefetcher issues its next row (R279, R280). -/
def Prefetcher.ready (p : Prefetcher) : Bool := p.enable && p.started && !p.done && !p.err && decide (p.out < p.limit)

/-- A prefetcher stops at a row that it may not fetch (R281); the record is marked isolation where the region belongs to
another owner (R284). -/
def State.prefetchErr (s : State) (n k : Nat) (pf : Fin 16) (row : Int) (isolated : Bool) : State :=
  let x := s.cluster k
  let s := s.setCluster k (x.setPf pf { x.pfOf pf with started := false, err := true })
  s.refuse (whoSlice n k none) ((BitVec.ofInt 48 (row * 64)).toNat) isolated

/-- What stands in the way of a row for cluster k of slice n (R281): nothing, no bay row, or another owner (R284). -/
def State.prefetchBar (s : State) (n k : Nat) (row : Int) : Bar :=
  let a := row.toNat * 64
  if row < 0 || 0x050000000000 ≤ a || !(s.mapped a) then .unmapped
  else
    let o := s.ownership a
    if !(o.owned && o.owner = n) then .isolated else if s.cacheable n k a then .free else .unmapped

/-- The rows of one packet (R207): the prefetcher moves on over rows that follow the one at a, none of which is cached, while
DEPTH allows; n bounds them. -/
def State.gather (s : State) (sl k : Nat) (p : Prefetcher) (a : Nat) : Nat → Nat × Prefetcher
  | 0 => (0, p)
  | n + 1 =>
    if p.ready && p.row = (a / 64 : Nat) && a % 4096 ≠ 0 && s.prefetchBar sl k p.row = .free && ((s.cluster k).way (a / 64)).isNone then
      let q := s.gather sl k { p.advance with out := p.out + 1 } (a + 64) n
      (q.1 + 1, q.2)
    else (0, p)

/-- Fetch the row at a for prefetcher pf of cluster k in slice n, by the path of R204; over the mesh with the rows that follow
it in one packet (R207). -/
def State.prefetchRow (s : State) (n k a : Nat) (pf : Fin 16) : State :=
  let x := s.cluster k
  let p := x.pfOf pf
  let first : Prefetcher := { p.advance with out := p.out + 1 }
  let r : Request := { cluster := Fin.ofNat 4800 k, tid := 0, write := false, addr := a, rows := 1, local_ := 0, for_ := .prefetch pf
                       op := s.nextOp, slice := BitVec.ofNat 4 n }
  if (x.way (a / 64)).isSome then s.setCluster k (x.setPf pf p.advance)
  else if nearPath k a then
    let s := (s.clusterEvent k 0x06 1).setCluster k (x.setPf pf first)
    if s.waits a then s.await r
    else
      let q := (s.nearEvent k a).readRow (whoSlice n k none) a
      q.2.prefetched n k a pf q.1.data (q.1.status = 0 && !q.1.poison)
  else
    let g := s.gather n k first (a + 64) 7
    let s := (s.clusterEvent k 0x06 (1 + g.1)).setCluster k (x.setPf pf g.2)
    let q := s.issue { r with rows := 1 + g.1 } (destOf a)
    if q.1 then q.2 else q.2.prefetchedAll n k a pf [] (1 + g.1)

/-- PREFETCH_ISSUE (R280, R281). -/
def execPrefetchIssue (k : ClusterIx) (pf : Fin 16) (s : State) : Host.Outcome State Fault Refusal :=
  let x := s.cluster k
  let p := x.pfOf pf
  let n := x.owner.toNat
  if !(x.owned && p.ready) then .next s
  else match s.prefetchBar n k p.row with
    | .free => .next (s.prefetchRow n k (p.row.toNat * 64) pf)
    | b => .next (s.prefetchErr n k pf p.row (b = .isolated))

/-! ### Scrub (R285, R287) -/

/-- The targets of a SCRUB descriptor (R357). -/
def Desc.targets (d : Desc) : List StoreRef :=
  (List.range (d.fld 18 2)).map fun i =>
    if d.byte 16 = 0 then .cluster (Fin.ofNat 4800 (d.fld 20 4 + i)) else .region (Fin.ofNat 40 (d.byte 17)) (Fin.ofNat 128 (d.fld 20 4 + i))

/-- Whether a loaded slice owns a target. -/
def State.targetOwned (s : State) : StoreRef → Bool
  | .cluster k => (s.cluster k).owned
  | .region b n => (s.region b n).owned

/-- Whether a target scrubs or re-encodes. -/
def State.targetBusy (s : State) : StoreRef → Bool
  | .cluster k => (s.cluster k).scrubbing || (s.cluster k).reencoding
  | .region b n => (s.region b n).scrubbing || (s.region b n).reencoding

/-- Whether a target can be scrubbed: its canton online, its bay ready. -/
def State.targetUp (s : State) : StoreRef → Bool
  | .cluster k => s.online (cantonOfCluster k)
  | .region b _ => s.fget fBayStatState (bayCanton b) = 2

/-- Reset the tiles of a cluster, its spare sites and the sites that they have replaced to their bring-up state (R96, R287). -/
def State.resetTiles (s : State) (k : Nat) : State :=
  let ts := tilesOfCluster k ++ [230400 + 2 * k, 230401 + 2 * k] ++ (List.range 48).map fun i => 240000 + 48 * k + i
  let s := ts.foldl (fun s t => (s.updMem (·.zero (tileBase t) (tileBase (t + 1)))).setTile t {}) s
  ts.foldl (fun s t => s.setRouter t (s.router t).bare) s

/-- Zero a target (R287); its SCRUBBING reads 1 until SCRUB_COMPLETE. -/
def State.scrub (s : State) (t : StoreRef) : State :=
  if !(s.targetUp t) then s
  else match t with
    | .cluster k =>
      let s := (s.resetTiles k).updMem (·.zero (clusterBase k) (clusterBase k + 0x180000))
      (s.setCluster k { (s.cluster k).invalidate with scrubbing := true, spillQs := [] }).storeEntry t
    | .region b n =>
      let lo := bayBase b + n.val * 2 ^ 30
      let s := s.updMem (·.zero lo (lo + 2 ^ 30))
      (s.setRegion b n { s.region b n with scrubbing := true }).storeEntry t

/-- Whether every target of a started SCRUB has ended. -/
def State.scrubbed (s : State) (d : Desc) : Bool :=
  d.targets.all fun t => match t with
    | .cluster k => !(s.cluster k).scrubbing
    | .region b n => !(s.region b n).scrubbing

/-- Complete the SCRUB descriptors whose targets have all ended. -/
def State.endScrubs (s : State) : State :=
  s.completeAll (s.host.descs.filter fun d => d.started && d.op = 0x06 && s.scrubbed d) {}

/-- Whether the queue that holds a target's entry has room (R282). -/
def State.storeRoom (s : State) (t : StoreRef) : Bool :=
  decide ((s.dmaq (storeQueue t).1 (storeQueue t).2).entries.length < 16)

/-- SCRUB (R287): ring r's next descriptor starts; a target that a loaded slice owns refuses the whole. -/
def execScrub (r : RingIx) (s : State) : Host.Outcome State Fault Refusal :=
  .next (s.perform r (fun d => d.op = 0x06 && !(d.targets.any s.targetBusy) && d.targets.all s.storeRoom) fun d s =>
    if d.targets.any s.targetOwned then s.complete d { status := 0x03 }
    else (d.targets.foldl State.scrub s).endScrubs)

/-- SCRUB_COMPLETE (R285, R287): the last zero row of a target is written. -/
def execScrubComplete (st : StoreRef) (s : State) : Host.Outcome State Fault Refusal :=
  match st with
  | .cluster k =>
    let x := s.cluster k
    if x.scrubbing then
      .next (((s.setCluster k { x with scrubbing := false, dirty := false, lastJob := 0xFFFF }).storeDone st).endScrubs)
    else .next s
  | .region b n =>
    let r := s.region b n
    if r.scrubbing then
      .next ((((s.setRegion b n { r with scrubbing := false, dirty := false, lastJob := 0xFFFF }).invalidateOwner r).storeDone st).endScrubs)
    else .next s

end Sys2Proof.Machine
end

