-- ==== Sys2Proof/Machine/Yield.lean ====
section
/-! DEFINITION. Defects, spares, seams, joining and losing a canton (R23 to R28, R112, R195, R196, R261, R371 to R375,
R392, R402 to R410). -/
namespace Sys2Proof.Machine

/-! ### Entry words (R405) -/

/-- Kind, local cluster, site, bank and row of an entry word. -/
def entKind (w : W32) : Nat := w.toNat / 2 ^ 28
/-- Bits [27:22]: the local cluster. -/
def entCluster (w : W32) : Nat := fld w.toNat 22 6
/-- Bits [21:16]: the physical site. -/
def entSite (w : W32) : Nat := fld w.toNat 16 6
/-- Bits [21:17]: the bank. -/
def entBank (w : W32) : Nat := fld w.toNat 17 5
/-- Bits [10:0]: the row. -/
def entRow (w : W32) : Nat := fld w.toNat 0 11
/-- Bits [27:26], [25:24], [23:17] and [16:7] of a SEAM_LANE entry: side, network, link, lane. -/
def laneSide (w : W32) : Nat := fld w.toNat 26 2
/-- The network of a SEAM_LANE entry. -/
def laneNet (w : W32) : Nat := fld w.toNat 24 2
/-- The link of a SEAM_LANE entry. -/
def laneLink (w : W32) : Nat := fld w.toNat 17 7
/-- The lane of a SEAM_LANE entry. -/
def laneNo (w : W32) : Nat := fld w.toNat 7 10

/-- Links of a network along a side (R189, R203, R219): one per tile, per cluster, per canton. -/
def sideLinks (net side : Nat) : Nat :=
  match net with
  | 0 => if side % 2 = 0 then 64 else 36
  | 1 => if side % 2 = 0 then 8 else 6
  | _ => 1

/-- Whether an entry has a defined kind, fields in range and zero reserved fields (R405). -/
def entryOk (c : Nat) (w : W32) : Bool :=
  let n := w.toNat
  match entKind w with
  | 1 => entCluster w < 48 && entSite w < 50 && n % 2 ^ 16 = 0
  | 2 => entCluster w < 48 && entSite w < 50 && fld n 11 5 = 0 && entRow w < 1032
  | 3 => entCluster w < 48 && entBank w < 24 && fld n 11 6 = 0 && entRow w < 1040
  | 4 =>
    laneNet w < 3 && laneLink w < sideLinks (laneNet w) (laneSide w) && n % 2 ^ 7 = 0 &&
    (match laneNet w with
      | 0 => laneNo w < 153
      | 1 => laneNo w < 594
      | _ => laneNo w = 0x3FF)
  | 5 => hasBay c && fld n 14 9 < 264 && n % 2 ^ 14 = 0
  | 6 => entCluster w < 48 && n % 2 ^ 22 = 0
  | 7 => entCluster w < 48 && entBank w < 24 && n % 2 ^ 17 = 0
  | _ => false

/-! ### Fuse blocks (R405, R406) -/

/-- The CRC of a block: CRC-32 over its bytes 0 to 1,019. -/
def blockCrc (ws : List W32) : W32 := crc32 ((ws.take 255).flatMap fun w => leBytes 4 w.toNat)

/-- The fuse block of a canton without defects: FORMAT, the canton's index, no entry, and the CRC. -/
def cleanBlock (c : Nat) : List W32 :=
  let ws := BitVec.ofNat 32 (2 ^ 24 + c * 2 ^ 16) :: List.replicate 254 0
  ws ++ [blockCrc ws]

/-- The fuse block of canton c. -/
def State.fuseBlock (s : State) (c : Nat) : List W32 :=
  match optGet s.mgmt.fuses c with
  | some ws => ws
  | none => cleanBlock c

/-- The entries of a block. -/
def blockEntries (ws : List W32) : List W32 := (ws.drop 2).take (fld (ws.getD 0 0).toNat 8 8)

/-- Whether a block is valid for canton c (R406). -/
def blockOk (c : Nat) (ws : List W32) : Bool :=
  let h := (ws.getD 0 0).toNat
  let n := fld h 8 8
  ws.length = 256 && ws.getD 255 0 = blockCrc ws && fld h 24 8 = 1 && fld h 16 8 = c && n ≤ 253 &&
  (blockEntries ws).all (entryOk c) && ((ws.drop (n + 2)).take (253 - n)).all fun w => w = 0

/-- Whether canton c has been retired in the ledger (R407, R447). -/
def State.ledgerRetired (s : State) (c : Nat) : Bool :=
  s.err.ledger.a.any fun e => e.kind = 4 && e.canton.toNat = c

/-- The ledger's entries for canton c (R407). -/
def State.ledgerDefects (s : State) (c : Nat) : List W32 :=
  (s.err.ledger.a.filter fun e => e.kind = 3 && e.canton.toNat = c).map (·.word)

/-! ### What is failed (R26, R112, R261, R405) -/

/-- Failed addressable rows, and failed spare rows, among rows: spares stand from row 1,024 on. -/
def rowsFailed (rows : List Nat) : Nat × Nat :=
  let rs := rows.eraseDups
  ((rs.filter fun r => decide (r < 1024)).length, (rs.filter fun r => decide (1024 ≤ r)).length)

/-- Failed rows of a site of local cluster l. -/
def siteRows (ds : List W32) (l site : Nat) : List Nat :=
  (ds.filter fun w => entKind w = 2 && entCluster w = l && entSite w = site).map entRow

/-- Whether a physical site is failed: it is listed, or its failed rows outnumber its good spare rows. -/
def siteBad (ds : List W32) (l site : Nat) : Bool :=
  ds.any (fun w => entKind w = 1 && entCluster w = l && entSite w = site) ||
  (let n := rowsFailed (siteRows ds l site)
   decide (8 < n.1 + n.2 && 0 < n.1))

/-- Failed rows of a bank of local cluster l. -/
def bankRows (ds : List W32) (l b : Nat) : List Nat :=
  (ds.filter fun w => entKind w = 3 && entCluster w = l && entBank w = b).map entRow

/-- Whether a bank is failed (R261). -/
def bankBad (ds : List W32) (l b : Nat) : Bool :=
  ds.any (fun w => entKind w = 7 && entCluster w = l && entBank w = b) ||
  (let n := rowsFailed (bankRows ds l b)
   decide (16 < n.1 + n.2 && 0 < n.1))

/-- Whether the bulk-mesh router of local cluster l is failed. -/
def routerBad (ds : List W32) (l : Nat) : Bool := ds.any fun w => entKind w = 6 && entCluster w = l

/-- The spares of a cluster (R23, R26): the local positions that SP0 and SP1 serve, 0xFF = free, 0xFE = failed. Failed
positions take them in ascending local tile number. -/
def assignSpares (ds : List W32) (l : Nat) : Byte × Byte :=
  let start : Byte × Byte := (if siteBad ds l 48 then 0xFE else 0xFF, if siteBad ds l 49 then 0xFE else 0xFF)
  ((List.range 48).filter (siteBad ds l)).foldl (fun (p : Byte × Byte) i =>
    if p.1 = 0xFF then (BitVec.ofNat 8 i, p.2) else if p.2 = 0xFF then (p.1, BitVec.ofNat 8 i) else p) start

/-- Whether local position i is absent: failed, and served by no spare. -/
def absentPos (ds : List W32) (l i : Nat) (sp : Byte × Byte) : Bool :=
  siteBad ds l i && sp.1.toNat ≠ i && sp.2.toNat ≠ i

/-- The bad-lane mask of a bay's channel from its entries. -/
def bayLaneMask (ds : List W32) (ch : Nat) : Nat :=
  ((ds.filter fun w => entKind w = 5 && fld w.toNat 23 5 = ch).map fun w => fld w.toNat 14 9).eraseDups.foldl (fun n l => n + 2 ^ l) 0

/-! ### TILE_PRESENT (R27) -/

/-- Absent positions in joined cantons, and positions in powered-off cantons (R27). -/
def State.absentCount (s : State) : Nat :=
  ((List.range 100).map fun c =>
    if (s.canton c).powered then (tilesOf c).countP fun t => !(s.isPresent t) else 2304).sum

/-- A change of the map: GEN rises before and after it, and ABSENT_COUNT follows (R27). -/
def State.mapChange (s : State) (f : State → State) : State :=
  let s := f s
  (s.fset fGlbTpGenGen (s.fget fGlbTpGenGen + 2)).fset fGlbTpGenAbsentCount s.absentCount

/-- Clear the TILE_PRESENT bits of canton c. -/
def State.clearPresent (s : State) (c : Nat) : State := (tilesOf c).foldl (fun s t => s.setPresent t false) s

/-! ### Sides of a canton (R195, R196, R203, R223, R371) -/

/-- The tile at link i of side d of canton c: columns or rows ascending. -/
def sideTile (c d i : Nat) : Nat :=
  let x := c % 10 * 64
  let y := c / 10 * 36
  match d with
  | 0 => y * 640 + x + i
  | 1 => (y + i) * 640 + x + 63
  | 2 => (y + 35) * 640 + x + i
  | _ => (y + i) * 640 + x

/-- The cluster at link i of side d of canton c. -/
def sideCluster (c d i : Nat) : Nat :=
  let x := c % 10 * 8
  let y := c / 10 * 6
  match d with
  | 0 => y * 80 + x + i
  | 1 => (y + i) * 80 + x + 7
  | 2 => (y + 5) * 80 + x + i
  | _ => (y + i) * 80 + x

/-- Set or clear LINK_FAIL of stream link i on side d of canton c. -/
def State.streamSide (s : State) (c d i : Nat) (b : Bool) : State :=
  let t := sideTile c d i
  let r := s.router t
  s.setRouter t { r with linkFail := setBit r.linkFail d b }

/-- The field of CAN_MESH_LINK for a side. -/
def meshSideFld (d : Nat) : Fld :=
  match d with
  | 0 => fCanMeshLinkFailN
  | 1 => fCanMeshLinkFailE
  | 2 => fCanMeshLinkFailS
  | _ => fCanMeshLinkFailW

/-- Bring bulk-mesh link i on side d of canton c up again: a packet in progress on it is ended, and both its ends count flits
and replays from 0 (R205, R210). -/
def State.meshSideUp (s : State) (c d i : Nat) : State :=
  let k := sideCluster c d i
  let s := if SMap.get 0 (s.mrouter k).prog d = 0 then s else s.endAt k d
  let m := s.mrouter k
  let s := s.setMrouter k { m with
    linkFail := setBit m.linkFail d false, wire := SMap.del d m.wire, replay := SMap.del d m.replay
    seq := SMap.del d m.seq, expect := SMap.del d m.expect, fails := SMap.del d m.fails }
  let f := meshSideFld d
  let v := s.fget f c
  s.fset f (if v.testBit i then v - 2 ^ i else v) c

/-- Set or clear the failed bit of the halyard link on side d of canton c. -/
def State.halSide (s : State) (c d : Nat) (b : Bool) : State :=
  s.setCanton c { s.canton c with halFail := setBit (s.canton c).halFail d b }

/-- Set or clear the open bit of the coupling switches on side d of canton c (CAN_CLK_STAT.COUPLE_OPEN). -/
def State.coupleSide (s : State) (c d : Nat) (open_ : Bool) : State :=
  let v := s.fget fCanClkStatCoupleOpen c
  let w := if v.testBit d then v - 2 ^ d else v
  s.fset fCanClkStatCoupleOpen (w + b2n open_ * 2 ^ d) c

/-- The cantons that closed coupling switches join to those of a list, through locked cantons (R375). -/
def State.steeredFrom (s : State) : Nat → List Nat → List Nat
  | 0, xs => xs
  | n + 1, xs =>
    let new := (List.range 100).filter fun c => !(xs.contains c) && s.fbit fCanClkStatLocked c &&
      (List.range 4).any fun d => match cantonNeighbour c d with
        | some e => xs.contains e && !((s.fget fCanClkStatCoupleOpen c).testBit d) && !((s.fget fCanClkStatCoupleOpen e).testBit (opp d))
        | none => false
    if new.isEmpty then xs else s.steeredFrom n (xs ++ new)

/-- CAN_CLK_STAT.STEERED of every canton (R375). -/
def State.steer (s : State) : State :=
  let on := if s.fbit fCanClkStatLocked 40 then s.steeredFrom 100 [40] else []
  (List.range 100).foldl (fun s c =>
    if s.fbit fCanClkStatSteered c = on.contains c then s else s.fset fCanClkStatSteered (b2n (on.contains c)) c) s

/-- Whether the trees of slices that hold both ends of a failed halyard link use it: those slices stop (R223). -/
def State.treesLost (s : State) (c d e : Nat) : State :=
  let ns := (List.range 16).filter fun n => (s.slice n).holds c && (s.slice n).holds e && s.treeUses c d
  ns.foldl (fun s n => s.stopSlice n none) s

/-- Close the boundary on side d of canton c: the seam in its safe state, the bulk-mesh and halyard links failed (R195,
R210, R223, R392). -/
def State.clamp (s : State) (c d : Nat) : State :=
  match cantonNeighbour c d with
  | none => s
  | some e =>
    let s := s.seamFail c d true
    let s := (List.range (sideLinks 1 d)).foldl (fun s i => s.failLink (sideCluster c d i) d) s
    (s.treesLost c d e).failHal c d

/-- Cut side d of canton c: the coupling switches open on its side, and the boundary closes. -/
def State.cut (s : State) (c d : Nat) : State :=
  if (cantonNeighbour c d).isNone then s else (s.coupleSide c d true).clamp c d

/-- Cut every side of canton c; its neighbours open their switches towards it. -/
def State.cutAll (s : State) (c : Nat) : State :=
  (List.range 4).foldl (fun s d => match cantonNeighbour c d with
    | none => s
    | some e => (s.cut c d).coupleSide e (opp d) true) s

/-- Close the boundary on every side of canton c, whose oscillators go on (R400). -/
def State.clampAll (s : State) (c : Nat) : State := (List.range 4).foldl (fun s d => s.clamp c d) s

/-! ### Seams at a join (R196, R203, R409) -/

/-- The lane group of a stream lane (64, 64 and 19 functional lanes with 2 spares each) and of a bulk-mesh lane (R196,
R203). -/
def laneGroup (net lane : Nat) : Nat := if net = 0 then min (lane / 66) 2 else lane / 66

/-- Whether link i of a network, as canton c receives it on side d, has too many bad lanes in a group. -/
def linkBad (ds : List W32) (net d i : Nat) : Bool :=
  let ls := (ds.filter fun w => entKind w = 4 && laneSide w = d && laneNet w = net && laneLink w = i).map laneNo
  if net = 2 then !ls.isEmpty
  else (List.range 9).any fun g => decide (2 < (ls.eraseDups.filter fun l => laneGroup net l = g).length)

/-- Bring up the seam of side d between canton c and its joined neighbour e: links left without enough spares are failed
in both directions. -/
def State.openSeam (s : State) (c d e : Nat) : State :=
  let dc := (s.canton c).defects
  let de := (s.canton e).defects
  let bad (net i : Nat) : Bool := linkBad dc net d i || linkBad de net (opp d) i
  let s := (List.range (sideLinks 0 d)).foldl (fun s i => (s.streamSide c d i (bad 0 i)).streamSide e (opp d) i (bad 0 i)) s
  let s := (List.range (sideLinks 1 d)).foldl (fun s i =>
    let s := (s.meshSideUp c d i).meshSideUp e (opp d) i
    if bad 1 i then s.failLink (sideCluster c d i) d else s) s
  let s := if bad 2 0 then s.failHal c d else (s.halSide c d false).halSide e (opp d) false
  (s.coupleSide c d false).coupleSide e (opp d) false

/-! ### Bringing a canton's stores to their bring-up state (R96, R404 steps e to g, R408) -/

/-- What outlasts a cluster's contents: its owner and its DIRTY bit (R284, R285). -/
def Cluster.kept (x : Cluster) : Cluster := { owner := x.owner, owned := x.owned, dirty := x.dirty, lastJob := x.lastJob }

/-- What outlasts a bay's contents. -/
def Region.kept (r : Region) : Region := { owner := r.owner, owned := r.owned, dirty := r.dirty, lastJob := r.lastJob }

/-- A bay that has lost its contents. -/
def Bay.kept (y : Bay) : Bay :=
  { regions := y.regions.foldl (fun (m : SMap Region) p => SMap.put {} m p.1 p.2.kept) [] }

/-- The host DMAs with a piece in a cluster of canton c. -/
def State.dmasAt (s : State) (c : Nat) : List (RingIx × W32) :=
  ((clustersOf c).flatMap fun k => (s.cluster k).dmaq.flatMap fun q => q.2.entries.filterMap fun e => match e.feeder with
    | .host r n => some (r, n)
    | _ => none).eraseDups

/-- The requests that canton c's clusters and attachments have sent end with status 3: nobody is left to take their answers. -/
def State.dropRequests (s : State) (c : Nat) : State :=
  let lost := s.requests.filter fun r => cantonOfCluster r.cluster.val = c
  lost.foldl (fun s r => s.endRequest r 3 0) { s with requests := s.requests.filter fun r => cantonOfCluster r.cluster.val ≠ c }

/-- Whether a host DMA has neither a piece nor its completion row left to do. -/
def State.dmaOver (s : State) (r : RingIx) (n : W32) : Bool :=
  !(s.dmaLeft (.host r n)) && !(s.requests.any fun q => q.for_ = .dmaEnd r n)

/-- The nodes of canton c number their pennants from 0 again (R216). -/
def State.renumber (s : State) (c : Nat) : State :=
  let keep (q : Nat × Nat) : Bool := cantonOfCluster (q.1 / 65536 % 8192) ≠ c && cantonOfCluster (q.1 % 8192) ≠ c
  { s with pennOut := s.pennOut.filter keep, pennIn := s.pennIn.filter keep }

/-- Forget every tile, router, cluster and mesh router of canton c, and zero its memories with valid check bits; owners and
DIRTY bits stay. Host DMAs that had no piece elsewhere end. -/
def State.wipe (s : State) (c : Nat) : State :=
  let moves := s.dmasAt c
  let s := s.dropRequests c
  let spare (t : Nat) : Bool :=
    230400 ≤ t && cantonOfCluster (if t < 240000 then (t - 230400) / 2 else (t - 240000) / 48) = c
  let mine (t : Nat) : Bool := (t < 230400 && cantonOf t = c) || spare t
  let s := { s with
    tiles := s.tiles.filter fun p => !(mine p.1)
    routers := s.routers.filter fun p => !(mine p.1)
    clusters := (clustersOf c).foldl (fun (m : SMap Cluster) k => SMap.put {} m k (Cluster.kept (SMap.get {} m k))) s.clusters
    mesh := s.mesh.filter fun p => cantonOfCluster p.1 ≠ c
    bulkOps := s.bulkOps.filter fun b => cantonOf b.tile.val ≠ c }
  let m := (clustersOf c).foldl (fun (m : Memory) k => m.zero (clusterBase k) (clusterBase (k + 1))) s.mem
  let s := { s with mem := (List.range 36).foldl (fun (m : Memory) y =>
      let t := sideTile c 3 y
      m.zero (tileBase t) (tileBase (t + 64))) m }
  moves.foldl (fun s d => if s.dmaOver d.1 d.2 then s.dmaFinish d.1 d.2 else s) s

/-- Lay out one cluster after its tests: spares, failed banks, failed router, shims. -/
def State.layCluster (s : State) (ds : List W32) (c l : Nat) : State :=
  let k := clusterAt c l
  let sp := assignSpares ds l
  let banks := (List.range 24).filter (bankBad ds l)
  let spares := ((List.range 24).map fun b =>
    min (rowsFailed (bankRows ds l b)).1 (16 - (rowsFailed (bankRows ds l b)).2)).foldl max 0
  let x := (s.cluster k).kept
  let s := s.setCluster k
    { x with sp0 := sp.1, sp1 := sp.2, bankFail := banks.foldl (fun m b => setBit m b true) 0, spareMax := BitVec.ofNat 5 spares }
  let s := if routerBad ds l then
      (s.setMrouter k { dead := true }).fset fCanMeshRtrRtrFail (s.fget fCanMeshRtrRtrFail c ||| 2 ^ l) c
    else s
  [sp.1.toNat, sp.2.toNat].foldl (fun s i =>
    if i < 48 then s.setRouter (tileAt k i) { s.router (tileAt k i) with shim := true } else s) s

/-- Steps e to g of R404: wipe the canton and lay out its clusters and its bay's lanes. -/
def State.layOut (s : State) (c : Nat) : State :=
  let ds := (s.canton c).defects
  let s := (List.range 48).foldl (fun s l => s.layCluster ds c l) (s.wipe c)
  if hasBay c then
    let lanes := (List.range 32).foldl (fun (m : SMap Nat) ch => SMap.put 0 m ch (bayLaneMask ds ch)) []
    s.setBay (bayOfCanton c) { (s.bay (bayOfCanton c)).kept with badLanes := lanes }
  else s

/-- Set the TILE_PRESENT bits of the served positions of canton c (R27, R409). -/
def State.setServed (s : State) (c : Nat) : State :=
  let ds := (s.canton c).defects
  (List.range 48).foldl (fun s l =>
    let sp := assignSpares ds l
    (List.range 48).foldl (fun s i => s.setPresent (tileAt (clusterAt c l) i) !(absentPos ds l i sp)) s) s

/-- Cantons joined (GLB_ENGINE_STATE.JOINED). -/
def State.countJoined (s : State) : State :=
  s.fset fGlbEngineStateJoined ((List.range 100).countP s.online)

/-- Mark every link of side d of canton c, whose neighbour has not joined, as failed (R195, R210, R392). -/
def State.closeSide (s : State) (c d : Nat) : State :=
  let s := (List.range (sideLinks 0 d)).foldl (fun s i => s.streamSide c d i true) s
  let s := (List.range (sideLinks 1 d)).foldl (fun s i => s.failLink (sideCluster c d i) d) s
  s.halSide c d true

/-- Join canton c (R409): its slot counter starts at 0, its seams and links to joined neighbours come up, its positions
become present, and the engine-wide tree is built again (R225). -/
def State.join (s : State) (c : Nat) : State :=
  let s := s.setCanton c { s.canton c with slot := 0, powered := true, joined := true, isolated := false, offByPlan := false, offHot := false }
  let s := (s.renumber c).updMgmt fun m => { m with joinOrder := m.joinOrder.filter (· ≠ c) ++ [c] }
  let s := s.mapRouters (tilesOf c) fun _ r => r.bare
  let s := s.mapTiles (tilesOf c) (Tile.setRun false)
  let s := (List.range 4).foldl (fun s d => match cantonNeighbour c d with
    | none => s
    | some e => if s.online e then s.openSeam c d e else s.closeSide c d) s
  let s := (s.fset fCanClkStatLocked 1 c).steer
  ((s.mapChange fun s => s.setServed c).countJoined).buildEtree

/-! ### ENGINE_STATE after a loss or a return (R385, R415, R447) -/

/-- The engine becomes DEGRADED: at once from READY, or after HALTED (R385). -/
def State.degrade (s : State) : State :=
  if s.engine = 5 then s.setEngine 6
  else if s.engine = 7 && s.host.beforeHalt = 5 then s.updHost fun h => { h with beforeHalt := 6 }
  else s

/-- Whether nothing is missing that a bring-up to READY had (R385, R415). -/
def State.restored (s : State) : Bool :=
  s.mgmt.cameReady && s.fget fCkmDomBayFail = 0 && s.mgmt.portInit = BitVec.allOnes 20 &&
  (List.range 100).all fun c => s.online c && (!(hasBay c) || decide (2 ≤ s.fget fBayStatState c))

/-- DEGRADED ends where everything is restored (R385). -/
def State.recheck (s : State) : State :=
  if s.engine = 6 && s.restored then s.setEngine 5
  else if s.engine = 7 && s.host.beforeHalt = 6 && s.restored then s.updHost fun h => { h with beforeHalt := 5 }
  else s

/-! ### Losing a canton (R392, R393, R410, R447) -/

/-- Forget the registers of canton c's window but those of the hoist island (R345), and those of its port's window. -/
def State.dropRegs (s : State) (c : Nat) : State :=
  let base := 0x400000 + c * 0x10000
  let p := if hasPort c then 0x100000 + portCantons.idxOf c * 0x10000 else 0
  { s with regs := s.regs.filter fun r =>
      let o := r.1 - base
      !(base ≤ r.1 && r.1 < base + 0x10000 && !(0x8500 ≤ o && o < 0x8700)) && !(0 < p && p ≤ r.1 && r.1 < p + 0x10000) }

/-- Microseconds below ratio 0 so far (CAN_CLK_STAT.DOWN_US). -/
def State.downUs (s : State) (c : Nat) : Nat :=
  match (s.canton c).downSince with
  | some t => satAdd 32 (s.fget fCanClkStatDownUs c) ((s.engineNs - t) / 1000)
  | none => s.fget fCanClkStatDownUs c

/-- The flits that canton c's mesh routers have sent are lost with it. -/
def State.dropWires (s : State) (c : Nat) : State :=
  { s with mesh := (clustersOf c).foldl (fun (m : SMap MeshRouter) k => SMap.put {} m k { (SMap.get {} m k) with wire := [] }) s.mesh }

/-- Canton c loses its power: its tiles, clusters, bay contents and port are lost; its neighbours have cut it off. Canton
40's oscillators and coupling switches, and p0's timing receiver, lie on the hoist-edge rail and go on (R393, R400). -/
def State.powerOff (s : State) (c : Nat) : State :=
  let x := s.canton c
  let s := s.dropWires c
  let s := ((if c = 40 then s.clampAll c else s.cutAll c).wipe c).fset fCanClkStatDownUs (s.downUs c) c
  let s := s.mapChange fun s => (s.clearPresent c).setCanton c
    { retired := x.retired, temp := x.temp, bayTemp := x.bayTemp, defects := x.defects, noPort := x.noPort, noBay := x.noBay }
  let s := (s.dropRegs c).updMgmt fun m => { m with joinOrder := m.joinOrder.filter (· ≠ c) }
  let s := if hasBay c then
      let b := bayOfCanton c
      (s.setBay b (s.bay b).kept).updMem (·.zero (bayBase b) (bayBase (b + 1)))
    else s
  let s := if hasPort c then
      let p := portCantons.idxOf c
      let s := { s with ports := s.ports.filter fun q => q.1 ≠ p
                        mgmt := { s.mgmt with portInit := setBit s.mgmt.portInit p false
                                              portTried := setBit s.mgmt.portTried p false } }
      let s := if p = 0 then s else s.tpLost p
      let en := s.fget fPrtClkEnEn
      if en.testBit p then s.fset fPrtClkEnEn (en - 2 ^ p) else s
    else s
  let s := (s.fset fCanClkStatRatio 0 c).fset fCanClkStatCause 0 c
  let s := if c = 40 then s else (s.fset fCanClkStatLocked 0 c).fset fCanClkStatCoupleOpen 0xF c
  (s.steer.countJoined).buildEtree

end Sys2Proof.Machine
end

