-- ==== Sys2Proof/Machine/Clocks.lean ====
section
/-! DEFINITION. Clocks: reference candidates, switches, failing domains, ratios (R371 to R396). -/
namespace Sys2Proof.Machine

/-! ### Records and HALTED -/

/-- The engine enters HALTED with a cause; the state before it is kept (R385, R450). -/
def State.halt (s : State) (cause : Nat) : State :=
  if s.engine = 8 then s
  else
    let s := if s.engine = 7 then s else s.updHost fun h => { h with beforeHalt := BitVec.ofNat 4 s.engine }
    s.setEngine 7 (some cause)

/-- HALTED ends where neither cause of it stands (R386, R450). -/
def State.unhalt (s : State) : State :=
  if s.engine = 7 && !s.host.pcieLost && !s.mgmt.restarting then s.setEngine s.host.beforeHalt.toNat else s

/-! ### The reference (R379 to R387) -/

/-- The changeover to a source (R381): the loop goes on from its trim word and has to lock again. -/
def State.changeover (s : State) (target : Nat) : State :=
  ((s.fset fCkmRefSelActive target).fset fCkmSteerHeld 0).fset fCkmSteerLocked 0

/-- A native switch to a source (R380, R381). -/
def State.native (s : State) (target : Nat) (e : SwitchEnd) : State :=
  if 2 ≤ target then s.fset fCkmRefSelResult 7 |>.fset fCkmRefSelGo 0
  else if s.fbit fCkmRefSelBusy then s.fset fCkmRefSelResult 3 |>.fset fCkmRefSelGo 0
  else if s.active = target then s.switchEnd 0
  else if !(s.fbit fCkmRefStatJudge) then s.switchEnd 2
  else if !(s.ready_ target) then s.switchEnd 1
  else match e with
    | .done => (s.changeover target).switchEnd 0
    | .targetFailed => (s.loseReady target).switchEnd 4
    | .activeFailed =>
      if s.active = 2 then (s.changeover target).switchEnd 0
      else ((s.loseReady s.active).refFail 1).switchEnd 5

/-- A request written to CKM_REF_SEL: TARGET and LEGACY. -/
def State.askSwitch (s : State) (target : Nat) (legacy : Bool) : State :=
  (s.fset fCkmRefSelTarget target).fset fCkmRefSelLegacy (b2n legacy)

/-- A legacy switch (R382): refused only while one is in progress or for a reserved target. With a running target 64
cycles are lost and added; without one the domain stays stopped, BUSY, until R383 ends it. -/
def State.legacy (s : State) (target : Nat) (edges : Bool) : State :=
  if 2 ≤ target then s.fset fCkmRefSelResult 7 |>.fset fCkmRefSelGo 0
  else if s.fbit fCkmRefSelBusy then s.fset fCkmRefSelResult 3 |>.fset fCkmRefSelGo 0
  else if edges then
    let s := { s with refcyc := s.refcyc + 64 }
    ((s.fset fCkmRefSelActive target).fset fCkmSteerHeld 0 |>.finc fCkmFailcntLegacySwitches).switchEnd 0
  else ((s.fset fCkmRefSelBusy 1).fset fCkmRefSelGo 1).fset fCkmSteerHeld 1

/-- NATIVE_SWITCH (R380, R381): a write of CKM_REF_SEL with LEGACY = 0 and GO = 1. -/
def execNativeSwitch (target : BitVec 2) (e : SwitchEnd) (s : State) : Host.Outcome State Fault Refusal :=
  .next ((s.askSwitch target.toNat false).native target.toNat e)

/-- LEGACY_SWITCH (R382): a write of CKM_REF_SEL with LEGACY = 1 and GO = 1; edges says that the target runs. -/
def execLegacySwitch (target : BitVec 2) (edges : Bool) (s : State) : Host.Outcome State Fault Refusal :=
  .next ((s.askSwitch target.toNat true).legacy target.toNat edges)

/-- Time passes on an empty queue (R384): one cycle of the reference domain, or in holdover four of the management
domain, for which REFCYC advances by 25. In a legacy stop REFCYC stands (R382). The unit is the model's (DESIGN CHOICE,
log entry 1). -/
def State.tick (s : State) : State :=
  if s.stopped then s else { s with refcyc := s.refcyc + if s.active = 2 then 25 else 1 }

/-- LEGACY_NO_CLOCK (R383). -/
def execLegacyNoClock (s : State) : Host.Outcome State Fault Refusal := .next (if s.stopped then s.noClock else s)

/-- STEER_LOCK (R374): after 16 ms the loop's trim and average error; it is locked below 1 ppm. -/
def execSteerLock (trim err : W16) (s : State) : Host.Outcome State Fault Refusal :=
  if s.active = 2 || s.stopped then .next s
  else
    let t := max (-25000) (min 25000 trim.toInt)
    let s := (s.fset fCkmSteerTrim (BitVec.ofInt 16 t).toNat).fset fCkmSteerErr err.toNat
    .next (s.fset fCkmSteerLocked (b2n (decide (-100 < err.toInt && err.toInt < 100))))

/-- Judge one candidate's window (R377): count against 156,250 ± 15. A failing window of the active source is a
reference failure (R385). -/
def State.judge (s : State) (src count : Nat) : State :=
  let dev := (BitVec.ofInt 16 ((count : Int) - 156250)).toNat
  let s := s.fset (if src = 0 then fCkmRefStatDevXtal else fCkmRefStatDevTp) dev
  if 156235 ≤ count && count ≤ 156265 then
    let f := if src = 0 then fCkmRefStatPassXtal else fCkmRefStatPassTp
    let n := min 16 (s.fget f + 1)
    let s := s.fset f n
    if n = 16 then s.fset (if src = 0 then fCkmRefStatReadyXtal else fCkmRefStatReadyTp) 1 else s
  else
    let s := s.loseReady src
    if s.active = src then s.refLost 2 else s

/-- Whether the timing port candidate can be judged (R377): CKM_TPORT names p0 with the hoist-edge rail up (R400), or a
clocked port. -/
def State.tpNamed (s : State) : Bool :=
  let p := s.fget fCkmTportPort
  if p = 0 then s.mgmt.pgood else p < 20 && (s.fget fPrtClkEnEn).testBit p

/-- Whether the boot configuration asks for the timing port, and asks for it as the first reference (R401). -/
def Mgmt.wantsTp (m : Mgmt) : Bool := m.bcfg.any fun b => b.refTp
/-- TPORT = 0 too. -/
def Mgmt.wantsP0 (m : Mgmt) : Bool := m.bcfg.any fun b => b.refTp && b.tport = 0

/-- FIRST_REFERENCE_SELECT, step 4 of R397 (R401): the timing port where the boot configuration asks for it with TPORT = 0
and it is ready; otherwise the crystal, and the timing port later. -/
def State.firstReference (s : State) : State :=
  let now := s.mgmt.wantsP0 && s.ready_ 1
  let s := s.updMgmt fun m => { m with firstWanted := false, tpWanted := m.wantsTp && !now }
  s.native (b2n now) .done

/-- While the first reference is still to be selected: whether the source it waits for is ready (R401). -/
def State.firstReady (s : State) : Bool := s.ready_ (b2n s.mgmt.wantsP0)

/-- The firmware selects the first reference once its source is ready, and later the timing port that its boot
configuration asks for (R401). -/
def State.laterTp (s : State) : State :=
  if s.mgmt.firstWanted then if s.firstReady then s.firstReference else s
  else if s.mgmt.tpWanted && s.fbit fCkmRefStatReadyTp && !(s.fbit fCkmRefSelBusy) then
    (s.updMgmt fun m => { m with tpWanted := false }).native 1 .done
  else s

/-- CANDIDATE_WINDOW (R377): the counts of both candidates over 1 ms; locked says that the named port's receive lanes
were locked. Nothing is judged while JUDGE is 0. -/
def execCandidateWindow (xtal tp : W32) (locked : Bool) (s : State) : Host.Outcome State Fault Refusal :=
  if !(s.fbit fCkmRefStatJudge) then .next s
  else
    let s := s.judge 0 xtal.toNat
    let s := if locked && s.tpNamed then s.judge 1 tp.toNat else s.loseReady 1
    .next s.laterTp

/-- CANDIDATE_NO_EDGE (R377): a candidate shows no edge for 100 ns; of the active source that is a reference failure. -/
def execCandidateNoEdge (tp : Bool) (s : State) : Host.Outcome State Fault Refusal :=
  let src := b2n tp
  let s := s.loseReady src
  .next (if s.active = src then s.refLost 1 else s)

/-- REF_FAIL (R385): no edge of the active source for 100 ns; in a legacy stop R383 applies (R387). -/
def execRefFail (s : State) : Host.Outcome State Fault Refusal :=
  if s.stopped then .next s.noClock
  else if s.active = 2 then .next s
  else .next ((s.loseReady s.active).refFail 1)

/-! ### The management domain (R378, R385) -/

/-- Whether the management domain runs on its RC oscillator. -/
def State.onRc (s : State) : Bool := s.fbit fCkmDomMgtOnRc

/-- The management crystal fails (R385): the domain runs on the RC oscillator, and nothing can be judged (R378). -/
def State.xtalFail (s : State) (cause : Nat) : State :=
  let s := s.updMgmt fun m => { m with xtalPass := 0, fellBack := true }
  let s := ((s.fset fCkmDomMgtOnRc 1).fset fCkmRefStatMgtXtalFail 1).fset fCkmRefStatJudge 0
  ((s.loseReady 0).loseReady 1).report 0x400 (clockRec 6 0 cause)

/-- MGT_XTAL_FAIL (R385): no crystal edge for 400 ns while it is in use. -/
def execMgtXtalFail (s : State) : Host.Outcome State Fault Refusal := .next (if s.onRc then s else s.xtalFail 1)

/-- The management domain runs on its crystal, which is judged good. -/
def State.toCrystal (s : State) : State :=
  ((s.updMgmt fun m => { m with fellBack := false }).fset fCkmDomMgtOnRc 0).fset fCkmRefStatJudge 1

/-- CRYSTAL_JUDGE_WINDOW (R378): a window of 25,000 RC cycles passes from 24,250 to 25,750. After 16 the crystal is good:
at power-on the domain takes it; after a failure it waits for MGT_CRYSTAL_RETURN. -/
def execCrystalJudgeWindow (count : W32) (s : State) : Host.Outcome State Fault Refusal :=
  if 24250 ≤ count.toNat && count.toNat ≤ 25750 then
    let n := min 16 (s.mgmt.xtalPass + 1)
    let s := s.updMgmt fun m => { m with xtalPass := n }
    .next (if n = 16 && !(s.mgmt.fellBack) then s.toCrystal else s)
  else if s.onRc then .next (s.updMgmt fun m => { m with xtalPass := 0 })
  else .next (s.xtalFail 2)

/-- MGT_CRYSTAL_RETURN (R385): management firmware asks for the crystal. -/
def execMgtCrystalReturn (s : State) : Host.Outcome State Fault Refusal :=
  .next (if s.onRc && s.mgmt.xtalPass = 16 then s.toCrystal else s)

/-! ### Ports, bays, PCI Express (R385, R386) -/

/-- A port's transmit clock has failed or returned. -/
def State.setPtx (s : State) (p : Nat) (b : Bool) : State := s.putBit fCkmDomPtxFail p b

/-- The link of port p is lost (R318): flows, registration and the update engine keep their state (R332); the timing port's
candidate is lost with it (R377, R386). -/
def State.linkLost (s : State) (p st : Nat) : State :=
  let s := ((s.linkDown p st).finc fPrtLinkStatDownCount p).fset fPrtLinkStatDownSeen 1 p
  (s.portRec p 1).tpLost p

/-- LINK_LOSS (R318, R385): the receive lanes of port p lose lock. -/
def execLinkLoss (p : PortIx) (s : State) : Host.Outcome State Fault Refusal :=
  if s.linkIsUp p then
    let s := s.linkLost p (if s.fbit fPrtLinkCtrlAutoRetrain p then 3 else 4)
    .next (s.report (portSrc p) (onCanton (portCanton p) (clockRec 2 p 3)))
  else .next s

/-- PORT_TX_CLOCK_FAIL (R385): the lanes go to electrical idle, and the link is down (R318). -/
def execPortTxClockFail (p : PortIx) (s : State) : Host.Outcome State Fault Refusal :=
  if (s.fget fCkmDomPtxFail).testBit p then .next s
  else
    let s := (s.setPtx p true).finc fCkmFailcntPtxFails
    let s := if s.linkIsUp p then s.linkLost p 4 else if s.fget fPrtLinkStatState p = 0 then s else s.linkDown p 4
    .next (s.report (portSrc p) (onCanton (portCanton p) (clockRec 3 p 3)))

/-- Restart a port's transmit synthesiser: after a re-lock the link retrains (R318, R385). -/
def State.ptxRestart (s : State) (p : Nat) (ok : Bool) : State :=
  let s := s.putBit fCkmRestartPtx p false
  if (s.fget fCkmDomPtxFail).testBit p && ok then
    let s := s.setPtx p false
    if s.fbit fPrtLinkCtrlLinkEn p then s.linkDown p 3 else s
  else s

/-- PTX_RESTART (R387, R395): the bit of CKM_RESTART clears when the attempt ends. -/
def execPtxRestart (p : PortIx) (ok : Bool) (s : State) : Host.Outcome State Fault Refusal := .next (s.ptxRestart p ok)

/-- A bay's interface clock has failed or returned. -/
def State.setBayFail (s : State) (b : Nat) (v : Bool) : State := s.putBit fCkmDomBayFail b v

/-- BAY_CLOCK_FAIL (R385): the stack keeps its contents in self-refresh; requests to it wait. -/
def execBayClockFail (b : BayIx) (s : State) : Host.Outcome State Fault Refusal :=
  if (s.fget fCkmDomBayFail).testBit b then .next s
  else
    let c := bayCanton b
    let s := s.putBit fCkmRestartBay b false
    .next (((s.setBayFail b true).finc fCkmFailcntBayFails).report (cantonSrc c) (onCanton c (clockRec 4 b 3))).degrade

/-- Restart a bay's synthesiser: after a re-lock its channels retrain one at a time (R273, R386). The bit of CKM_RESTART
reads 1 until the last of them ends, and clears where the attempt fails (R387). -/
def State.bayRestart (s : State) (b : Nat) (ok : Bool) : State :=
  if (s.fget fCkmDomBayFail).testBit b && ok then
    (((s.setBayFail b false).putBit fCkmRestartBay b true).fset fBayStatRetrainAct 0xFFFFFFFF (bayCanton b)).recheck
  else s.putBit fCkmRestartBay b false

/-- BAY_CLOCK_RESTART (R386, R387). -/
def execBayClockRestart (b : BayIx) (ok : Bool) (s : State) : Host.Outcome State Fault Refusal := .next (s.bayRestart b ok)

/-- PCIE_REFCLK_LOSS (R385, R386): no TLP is sent or accepted, and the engine is HALTED. -/
def execPcieRefclkLoss (s : State) : Host.Outcome State Fault Refusal :=
  if s.host.pcieLost || !s.mgmt.pgood then .next s
  else
    let s := s.updHost fun h => { h with linkUp := false, pcieLost := true }
    let s := (((s.fset fHifStatSpeed 0).fset fHifStatWidth 0).fset fHifStatFlit 0).fset fCkmDomPcieFailSeen 1
    .next ((s.report 0x500 (clockRec 5 0 1)).halt 0x10)

/-! ### Cantons (R385 to R393, R396) -/

/-- MESH_CLOCK_FAIL (R385, R386): the canton is cut off on every side and is no longer joined; its slice stops. -/
def execMeshClockFail (c : CantonIx) (window : Bool) (s : State) : Host.Outcome State Fault Refusal :=
  if !(s.online c) then .next s
  else
    let s := (s.stopAt c).dropWires c
    let s := (s.cutAll c).setCanton c { (s.cutAll c).canton c with joined := false, isolated := true }
    let s := ((s.fset fCanClkStatLocked 0 c).steer.countJoined).finc fCkmFailcntMeshUnlocks
    .next ((s.report (cantonSrc c) { onCanton c (clockRec 0 c (if window then 2 else 3)) with action := 8 }).degrade).buildEtree

/-- The ratio that the requests of R389 give, and the lowest cause that gives it. -/
def State.ratioOf (s : State) (c : Nat) : Nat × Nat :=
  let f := s.fget fCanClkCtrlFloor c
  let t := (s.canton c).thermReq.toNat
  let p := (s.canton c).capReq.toNat
  let r := max f (max t p)
  (r, if r = 0 then 0 else if f = r then 1 else if t = r then 2 else 3)

/-- CLOCK_RATIO_CHANGE (R5, R389, R390): the requests in force take effect at the boundary between slot 15 and slot 0 of
the canton, and at no other instant. -/
def execClockRatioChange (c : CantonIx) (s : State) : Host.Outcome State Fault Refusal :=
  if !(s.online c) || (s.canton c).slot ≠ 0 then .next s
  else
    let q := s.ratioOf c
    let s := s.fset fCanClkStatDownUs (s.downUs c) c
    let s := s.setCanton c { s.canton c with downSince := if q.1 = 0 then none else some s.engineNs }
    .next ((s.fset fCanClkStatRatio q.1 c).fset fCanClkStatCause q.2 c)

/-- COUPLING_LOST (R392): canton c opens its switches towards the canton in direction d, and its links there fail. -/
def execCouplingLost (c : CantonIx) (d : Fin 4) (s : State) : Host.Outcome State Fault Refusal :=
  .next (if s.online c then ((s.cut c d).steer).buildEtree else s)

/-- A thermal or power record about canton c, from the hoist island (R431, R469). -/
def hoistRec (cls : W16) (disp : BitVec 2) (c : Nat) (action : Byte) : Rec :=
  { onCanton c { cls := cls, disp := disp } with block := 0xD, action := action }

/-- THERM_EVENT is set (R469): a cause of ALERT_N (R461). -/
def State.thermEvent (s : State) : State := (s.updMgmt fun m => { m with alertOff := false }).fset fMgtStatThermEvent 1

end Sys2Proof.Machine
end

