-- ==== Sys2Proof/Machine/Rules.lean ====
section
/-! DEFINITION. Configuration transactions: each register's own rule, and what applying an entry does (R292, R293, R299,
R314, R316, R322, R336, R342, R366 to R370). -/
namespace Sys2Proof.Machine

/-! ### The values a commit would leave -/

/-- Write an entry's bits into a word. -/
def TxnEntry.onto (e : TxnEntry) (w : W64) : W64 := (w &&& ~~~e.mask) ||| (e.val &&& e.mask)

/-- A register as a list of entries would leave it. -/
def State.txnView (s : State) (es : List TxnEntry) (off : Nat) : W64 :=
  es.foldl (fun w e => if e.off = off then e.onto w else w) (s.reg off)

/-- A field of window i as a list of entries would leave it. -/
def State.txnFld (s : State) (es : List TxnEntry) (f : Fld) (i : Nat := 0) : Nat :=
  fld (s.txnView es (f.off + i * 0x10000)).toNat f.lo f.n

/-- Whether a list of entries changes a register. -/
def State.txnChanges (s : State) (es : List TxnEntry) (off : Nat) : Bool := s.txnView es off ≠ s.reg off

/-- Whether a list of entries changes the bits of a mask in a register. -/
def State.txnMoves (s : State) (es : List TxnEntry) (off mask : Nat) : Bool :=
  (s.txnView es off ^^^ s.reg off) &&& BitVec.ofNat 64 mask ≠ 0

/-- The port whose window holds a BAR0 offset. -/
def portAt (off : Nat) : Option Nat := if 0x100000 ≤ off && off < 0x240000 then some ((off - 0x100000) / 0x10000) else none

/-- The canton whose window holds a BAR0 offset. -/
def cantonAt (off : Nat) : Option Nat := if 0x400000 ≤ off && off < 0xA40000 then some ((off - 0x400000) / 0x10000) else none

/-- The canton that a register belongs to (R368): canton 40 for all that lies in no window. -/
def entryCanton (off : Nat) : Nat :=
  match portAt off, cantonAt off with
  | some p, _ => portCanton p
  | _, some c => c
  | _, _ => 40

/-! ### The registers' rules (cause 2 of R370) -/

/-- The limits of a shard (R292). -/
def shardOk (baseRow stripes : Nat) : Bool :=
  stripes % 8 = 0 && 8 ≤ stripes && decide (stripes ≤ 160559520) && decide (64 * baseRow + 856 * stripes ≤ 2 ^ 37)

/-- Whether slice n owns every region from a bay offset on for len bytes, in class W where asked (R293, R336). -/
def State.ownsRegions (s : State) (b n off len : Nat) (needW : Bool) : Bool :=
  (List.range 128).all fun i =>
    (i + 1) * 2 ^ 30 ≤ off || off + len ≤ i * 2 ^ 30 ||
      (let r := s.region b i
       r.owned && r.owner.toNat = n && (r.classW || !needW))

/-- Whether a list of entries turns a field of window p from 0 to 1. -/
def State.txnSets (s : State) (es : List TxnEntry) (f : Fld) (p : Nat) : Bool := s.fget f p = 0 && s.txnFld es f p ≠ 0

/-- PRT_UE_CTRL's rule (R293, R316). -/
def State.ueCtrlOk (s : State) (es : List TxnEntry) (p : Nat) : Bool :=
  let op := s.txnFld es fPrtUeCtrlFlagOp p
  let base := s.txnFld es fPrtUeShardBaseRow p
  let n := s.txnFld es fPrtUeShardStripes p
  s.txnFld es fPrtUeCtrlRefreshMode p ≠ 3 && (op = 0 || op = 2 || op = 3) &&
  (s.txnFld es fPrtUeCtrlEn p = 0 ||
    (shardOk base n && s.ownsRegions (homeBay p) (s.txnFld es fPrtUeCtrlSlice p) (64 * base) (856 * n) true))

/-- Zero or above, for an FP32 value that is no NaN. -/
def geZero32 (a : W32) : Bool := !(isNan32 a) && !(gt32 0 a)

/-- The limit of hyperparameter i for a rule (R299). -/
def hyperOk (rule i : Nat) (v : W32) : Bool :=
  match i with
  | 0 | 4 => isFin32 v
  | 1 => geZero32 v && !(gt32 v one32)
  | 2 => rule = 0 || (geZero32 v && !(gt32 v one32))
  | 3 => !(rule = 1 || rule = 2) || (isFin32 v && gt32 v 0)
  | 5 => rule = 1 || (isFin32 v && (rule ≠ 3 || geZero32 v))
  | _ => isFin32 v && v &&& 0x7FFFFFFF#32 ≠ 0

/-- Whether hyperparameters written now would enter the pending bank: the engine is and stays enabled (R299, R316). -/
def State.hpPends (s : State) (es : List TxnEntry) (p : Nat) : Bool :=
  s.fbit fPrtUeCtrlEn p && s.txnFld es fPrtUeCtrlEn p ≠ 0

/-- The rule of the hyperparameters (R299): no bank waits, and the step can still take them. -/
def State.hpOk (s : State) (es : List TxnEntry) (p : Nat) : Bool :=
  let act := s.txnFld es fPrtUeHpStepActStep p
  let c := s.cstep p
  let st := s.ueState p
  !(s.hpPends es p) ||
    ((s.port p).hpPend.isNone && decide (c < act) && !(act = c + 1 && (st = 2 || st = 3)))

/-- PRT_UE_CMD's rule (R314): its OP, its state, and a TARGET that fits. -/
def State.ueCmdOk (s : State) (es : List TxnEntry) (e : TxnEntry) (p : Nat) : Bool :=
  let op := s.txnFld es fPrtUeCmdOp p
  fld e.val.toNat 48 8 = 0 && op ≤ 5 &&
  (op = 0 || (s.ueState p ≠ 0 && s.txnFld es fPrtUeCtrlEn p ≠ 0 && (op ≠ 5 || s.ueState p = 5)))

/-- PRT_GX_CTRL's rule (R336). -/
def State.gxOk (s : State) (es : List TxnEntry) (p : Nat) : Bool :=
  let fmt := s.txnFld es fPrtGxCtrlFmt p
  let op := s.txnFld es fPrtGxCtrlGxOp p
  let n := s.txnFld es fPrtGxCtrlElems p
  let a := 64 * s.txnFld es fPrtGxBaseBase p
  let len := n * gxSize fmt
  let b := bayBase (homeBay p)
  fmt ≤ 2 && (op = 0 || op = 2 || op = 3) &&
  (!(s.txnSets es fPrtGxCtrlGxEn p) ||
    (s.txnFld es fPrtUeCtrlEn p ≠ 0 && n = 32 * s.txnFld es fPrtUeShardStripes p && decide (b ≤ a) &&
     decide (a + len ≤ b + 2 ^ 37) && s.ownsRegions (homeBay p) (s.txnFld es fPrtUeCtrlSlice p) (a - b) len false))

/-- The rule of a register of port p's window, at window offset o. -/
def State.portRule (s : State) (es : List TxnEntry) (e : TxnEntry) (p o : Nat) : Bool :=
  let wxtOn := s.fbit fPrtWxtCtrlEn p
  if o = 0 then !(s.fbit fPrtLinkCtrlLinkEn p) || s.txnFld es fPrtLinkCtrlMode p = s.fget fPrtLinkCtrlMode p
  else if o = 0x20 then
    s.txnFld es fPrtNetCfgBulkPrio p ≠ s.txnFld es fPrtNetCfgExpPrio p && !(wxtOn && s.txnChanges es e.off)
  else if 0x28 ≤ o && o ≤ 0x48 then !(wxtOn && s.txnChanges es e.off)
  else if o = 0x50 then decide (s.txnFld es fPrtPfcXonKib p < s.txnFld es fPrtPfcXoffKib p)
  else if o = 0x58 then !(wxtOn && s.txnMoves es e.off 0xFFFFFFFFFFFFFFFE)
  else if o = 0x78 then s.gxOk es p
  else if o = 0x8000 then s.ueCtrlOk es p
  else if o = 0x8008 then
    let n := s.txnFld es fPrtUeCfgDigestN p
    let f := s.txnFld es fPrtUeCfgDfmt p
    1 ≤ n && n ≤ 64 && 0x10 ≤ f && f ≤ 0x15 && (s.txnFld es fPrtUeCtrlEn p = 0 || !(s.txnChanges es e.off))
  else if o = 0x8010 then
    shardOk (s.txnFld es fPrtUeShardBaseRow p) (s.txnFld es fPrtUeShardStripes p) &&
    (s.txnFld es fPrtUeCtrlEn p = 0 || !(s.txnChanges es e.off))
  else if o = 0x8018 then s.hpOk es p
  else if 0x8020 ≤ o && o ≤ 0x8050 then
    s.hpOk es p && hyperOk (s.txnFld es fPrtUeCfgRule p) ((o - 0x8020) / 8) (BitVec.ofNat 32 (s.txnView es e.off).toNat)
  else if o = 0x8058 then s.ueCmdOk es e p
  else true

/-- Whether the block of a register drops writes for want of its clock (R320). -/
def State.gated (s : State) (off : Nat) : Bool :=
  match portAt off with
  | some p => !((s.fget fPrtClkEnEn).testBit p)
  | none => false

/-- Whether the canton of a port or canton window serves it (R345). -/
def State.windowUp (s : State) (off : Nat) : Bool :=
  match portAt off, cantonAt off with
  | some p, _ => s.online (portCanton p)
  | _, some c => s.online c || (0x8500 ≤ off % 0x10000 && off % 0x10000 < 0x8700)
  | _, _ => true

/-- Why a canton refuses an entry (R370): 0 where it does not. A port whose clock is gated refuses with cause 5 (R412). -/
def State.entryCause (s : State) (es : List TxnEntry) (e : TxnEntry) : Byte :=
  if (regSpec e.off).tx = 0 then 4
  else if !(s.reached (entryCanton e.off)) && (portAt e.off ≠ none || cantonAt e.off ≠ none) then 5
  else match portAt e.off with
    | some p => if s.gated e.off then 5 else if s.portRule es e p (e.off % 0x10000) then 0 else 2
    | none => 0

/-- The first entry of canton c that it refuses, in staging order: its index in the stage and its cause (R368 step 2).
A canton that is powered and joined sees its own entries alone. -/
def State.voteOf (s : State) (es : List TxnEntry) (c : Nat) : Option (Nat × Byte) :=
  let own := es.filter fun e => entryCanton e.off = c
  ((List.range es.length).zip es).findSome? fun (q : Nat × TxnEntry) =>
    if entryCanton q.2.off ≠ c then none
    else
      let k := s.entryCause own q.2
      if k = 0 then none else some (q.1, k)

/-! ### Applying a canton's entries (R299, R314, R316, R318, R328, R336, R368) -/

/-- The hyperparameters that a list of entries leaves, and their step. -/
def State.hpBank (s : State) (es : List TxnEntry) (p : Nat) : List W32 × Nat :=
  ((List.range 7).map fun i => BitVec.ofNat 32 (s.txnView es (0x108020 + 8 * i + 0x10000 * p)).toNat,
   s.txnFld es fPrtUeHpStepActStep p)

/-- Whether an offset is one of the hyperparameters of port p. -/
def hpOff (p off : Nat) : Bool := 0x108020 + 0x10000 * p ≤ off && off ≤ 0x108050 + 0x10000 * p

/-- The update engine leaves for DISABLED (R316): its step, its command and its pending bank go. -/
def State.ueDisable (s : State) (p : Nat) : State :=
  let s := ((s.ueStop p 0).stepReset p).fset fPrtUeStatHpPending 0 p
  s.setPort p { s.port p with hpPend := none }

/-- The update engine is enabled (R449): it scans its shard in BUSY first, and its digest starts at zero (R309). -/
def State.ueEnable (s : State) (p : Nat) : State :=
  let s := (((s.setUe p 8).stepReset p).fset fPrtUeDig0 0 p).fset fPrtUeDig1 0 p
  s.setPort p { s.port p with enabling := true, cmdEnd := none, was := 0 }

/-- What the new values of port p's registers do. before is the state before the transaction applied. A port without its
link recovers no clock, but for p0's timing receiver, which needs no link (R377, R400). -/
def State.portApplied (s before : State) (es : List TxnEntry) (p : Nat) : State :=
  let was (f : Fld) : Bool := before.fbit f p
  let is_ (f : Fld) : Bool := s.fbit f p
  let wrote (o : Nat) : Bool := es.any fun e => e.off = 0x100000 + o + 0x10000 * p
  let s := if was fPrtLinkCtrlLinkEn = is_ fPrtLinkCtrlLinkEn then s
    else if is_ fPrtLinkCtrlLinkEn then (s.fset fPrtLinkStatState 1 p).tpLost p
    else
      let s := (s.linkDown p 0).fset fPrtLinkCtrlRetrain 0 p
      if p = 0 then s else s.tpLost p
  let s := if was fPrtWxtCtrlEn = is_ fPrtWxtCtrlEn then s
    else if is_ fPrtWxtCtrlEn then (s.setPort p { s.port p with express := {}, bulk := {}, ctl := [] }).noteTxbuf p
    else s.setPort p { s.port p with helloSent := false, late := false }
  let s := if was fPrtUeCtrlEn && !(is_ fPrtUeCtrlEn) then s.ueDisable p
    else if !(was fPrtUeCtrlEn) && is_ fPrtUeCtrlEn then s.ueEnable p
    else s
  let s := if before.hpPends es p && (wrote 0x8018 || es.any fun e => hpOff p e.off) then
      (s.setPort p { s.port p with hpPend := some (before.hpBank es p) }).fset fPrtUeStatHpPending 1 p
    else s
  let s := if wrote 0x8058 && is_ fPrtUeCtrlEn then
      if s.fget fPrtUeCmdOp p ≠ 0 then s.ueBusy p
      -- OP 0 issues no command: one in progress goes on (R314, R316).
      else if s.ueState p = 8 then s.setReg (0x108058 + 0x10000 * p) (before.reg (0x108058 + 0x10000 * p)) else s
    else s
  let s := if was fPrtGxCtrlGxEn = is_ fPrtGxCtrlGxEn then s
    else if is_ fPrtGxCtrlGxEn then s.gxArrive p else s.gxEnd p false
  -- Held frames are examined again when the engine's state has changed (R335).
  if s.ueState p = before.ueState p then s else s.settle p

/-- Canton c applies its entries in staging order (R367, R368). Hyperparameters of an enabled engine go to the pending
bank and leave the registers as they are; a gated port's writes are dropped. -/
def State.applyCanton (s : State) (es : List TxnEntry) (c : Nat) : State :=
  let own := es.filter fun e => entryCanton e.off = c && !(s.gated e.off)
  let held (off : Nat) : Bool := (List.range 20).any fun p => hpOff p off && s.hpPends own p
  let t := (own.filter fun e => !(held e.off)).foldl (fun t e => t.setReg e.off (e.onto (t.reg e.off))) s
  ((List.range 20).filter fun p => portCanton p = c && own.any fun e => portAt e.off = some p).foldl
    (fun t p => t.portApplied s own p) t

end Sys2Proof.Machine
end

