-- ==== Sys2Proof/Machine/Bringup.lean ====
section
/-! DEFINITION. Power-on, the wave, bays, ports, the engine-wide check, and the return of a canton (R396 to R416). -/
namespace Sys2Proof.Machine

/-! ### Main power and the hoist island (R397 to R401, R413, R415, R474) -/

/-- The bring-up state, or in HALTED the state that HALTED will end in (R398: a lost host link stops no wave). -/
def State.stage_ (s : State) : Nat := if s.engine = 7 then s.host.beforeHalt.toNat else s.engine

/-- Enter a bring-up state; in HALTED it becomes the state that HALTED will end in. -/
def State.enter (s : State) (st : Nat) : State :=
  if s.engine = 7 then s.updHost fun h => { h with beforeHalt := BitVec.ofNat 4 st } else s.setEngine st

/-- The engine enters FAULT with a cause (R415, R450). -/
def State.fault (s : State) (cause : Nat) : State := s.setEngine 8 (some cause)

/-- Where the boot configuration lies (R456). -/
def bootBase : Nat := 0x08820000

/-- The boot configuration in flash (R413): none where its SEAL is not there (R451), some none where it is invalid. -/
def Mgmt.bootCfg (m : Mgmt) : Option (Option BootCfg) :=
  let h := m.bytes bootBase 32
  if leAt 28 4 h ≠ 0x5EA10D1F then none
  else
    let n := leAt 6 2 h
    if h.take 4 ≠ [0x57, 0x42, 0x43, 0x46] || leAt 4 2 h ≠ 1 || 1024 < n then some none
    else
      let es := m.bytes (bootBase + 32) (16 * n)
      let flags := leAt 8 4 h
      let crc := crc32 (h.take 12 ++ fillBytes 4 0 ++ (h.drop 16).take 12 ++ fillBytes 4 0 ++ es)
      if leAt 12 4 h ≠ crc.toNat || 20 ≤ fld flags 8 5 then some none
      else some (some { refTp := flags.testBit 0, tport := fld flags 8 5
                        entries := (List.range n).map fun i =>
                          (leAt (16 * i) 4 es, BitVec.ofNat 64 (leAt (16 * i + 8) 8 es)) })

/-- The record of a boot configuration that cannot be used (R412, R413). -/
def bootRec : Rec := { cls := 0x1E, disp := 2, block := 0x11 }

/-- CKM_TPORT takes the boot configuration's TPORT. -/
def State.bootTport (s : State) : State :=
  match s.mgmt.bcfg with
  | some b => s.fset fCkmTportPort b.tport
  | none => s

/-- Powered seconds of the last POWERED entry (R437). -/
def Ledger.lastPowered (l : Ledger) : Nat := l.a.foldl (fun n e => if e.kind = 6 then e.poweredS.toNat else n) 0

/-- What outlives every supply: the flash, the ledger, the fuses and fused values; and the host's memory. -/
def State.nonVolatile (s : State) (c : Condition) : State :=
  let m := s.mgmt
  { pending := s.pending
    host := { mem := s.host.mem, msgs := s.host.msgs, readBack := s.host.readBack }
    err := { ledger := s.err.ledger }
    mgmt := { flash := m.flash, serial := m.serial, stepping := m.stepping, macs := m.macs, maker := m.maker, key := m.key,
              fuses := m.fuses, fuseCopy := m.fuseCopy, cond := c } }

/-- The straps as the hoist island samples them (R458, R484). -/
def State.straps (s : State) (n : Nat) : State :=
  let s := (s.fset fMgtStatAddr (0x40 + n)).fset fMgtStatAddrSel n
  s.fset fMgtStatAddrBad (b2n (n = 0x21 || 0x38 ≤ n))

/-- Step 1 of R397 with valid firmware: the BOOT entry, then the boot configuration. -/
def State.hoistBoot (s : State) (p : PowerOn) : State :=
  let s := (s.fset fMgtStatFwVer p.fwVer.toNat).fset fPwrBootStatFwCopy (b2n (!p.hoistA))
  let s := s.ledger { kind := 7, aux := BitVec.ofNat 64 (s.err.ledger.boots + 1) }
  let s := match s.mgmt.bootCfg with
    | none => s
    | some none => s.report 0x400 bootRec
    | some (some b) => ((s.updMgmt fun m => { m with bcfg := some b }).fset fPwrBootStatBcfgValid 1).bootTport
  s.fset fPwrBootStatLastStep 2

/-- The hoist island leaves its power-on reset. A trip that the comparator has latched since the auxiliary supply is good
stays (R469, R483). -/
def State.hoistOn (s : State) (p : PowerOn) : State :=
  let trip := s.mgmt.thermtrip
  let s := s.nonVolatile .operating
  let s := if trip then (s.updMgmt fun m => { m with thermtrip := true }).fset fMgtStatThermtripSeen 1 else s
  let t := BitVec.ofNat 64 s.err.ledger.lastPowered
  let s := { s with err := { s.err with powered := t, poweredAt := t } }
  let s := s.updMgmt fun m => { m with hoistOk := p.hoistA || p.hoistB, ensignOk := p.ensignA || p.ensignB }
  let s := (s.straps p.addrSel.toNat).fset fPwrBootStatLastStep 1
  if s.mgmt.hoistOk then s.hoistBoot p else s.fault 1

/-- HOIST_POWER_ON (R397 step 1): the auxiliary supply becomes good. -/
def execHoistPowerOn (p : PowerOn) (s : State) : Host.Outcome State Fault Refusal :=
  .next (if s.mgmt.cond = .operating then s else s.hoistOn p)

/-- The register bits that outlive the loss of main power (R399): fields marked SR, the management block, the power cap,
what the hoist island found in step 1, and the judgement of the crystals, which the auxiliary supply feeds (R401). -/
def keptBits : List (Nat × Nat) :=
  [(0x10, 0xFFFFFFFF), (0x20008, 0x0000FFFFF03F0081), (0x20030, 0xC000000000000000), (0x30000, 0xB8000000),
   (0x30010, 0xFFFF), (0x30018, 0x3), (0x50018, 0x8), (0x70000, 0xFFFFFFFFFFFFFFFF), (0x70010, 0xF), (0x70018, 0x7F),
   (0x70038, 0x7FFFFFFFF), (0x70048, 0x1F0000FF04)]

/-- Main power goes (R399): nothing is kept from the run but the NV ledger, the SR fields and the hoist island. -/
def State.mainOff (s : State) : State :=
  let regs : SMap W64 := keptBits.foldl (fun (m : SMap W64) (q : Nat × Nat) =>
    let r := regReset q.1
    SMap.put r m q.1 ((r &&& ~~~(BitVec.ofNat 64 q.2)) ||| (s.reg q.1 &&& BitVec.ofNat 64 q.2))) []
  let m := s.mgmt
  let t : State :=
    { pending := s.pending, refcyc := s.refcyc, regs := regs
      host := { mem := s.host.mem, msgs := s.host.msgs, readBack := s.host.readBack }
      err := { ledger := s.err.ledger, bmc := s.err.bmc, nextNumber := s.err.nextNumber, powered := s.err.powered
               poweredAt := s.err.poweredAt }
      mgmt := { m with mainOn := false, pgood := false, enHigh := 0, enLow := 0, waveSlot := 0, retries := 0
                       lastRetry := none, joinOrder := [], portTried := 0, portInit := 0, bootPorts := 0
                       cameReady := false, waveNs := 0, enArmed := false, firstWanted := false, tpWanted := false, fuseLoaded := [], counters := [], freeze := false, restarting := false
                       restartNs := none, lowMs := 0, capWait := 0 } }
  ((t.setEngine 1).fset fPwrBootStatLastStep 2).bootTport

/-- Step 4 of R397: the ensign complex boots, and the first reference is selected at once where its source is ready
(R401). -/
def State.ensignBoot (s : State) : State :=
  let s := s.fset fPwrBootStatLastStep 4
  if s.mgmt.ensignOk then (s.updMgmt fun m => { m with firstWanted := true }).laterTp else s.fault 2

/-- Steps 2 to 4 of R397: the switch closes, the hoist-edge rail and canton 40's oscillators start, PGOOD is asserted,
the host link trains by itself, the ensign complex boots. -/
def State.mainClose (s : State) (rail osc : Bool) : State :=
  let s := (s.updMgmt fun m => { m with mainOn := true }).fset fPwrBootStatLastStep 3
  if !rail then s.fault 3
  else
    let s := (s.updMgmt fun m => { m with pgood := true }).updHost fun h => { h with linkUp := true }
    if !osc then s.fault 4 else ((s.fset fCanClkStatLocked 1 40).steer).ensignBoot

/-- Count a sample of PWR_EN that reads high (R399). Time 0 is the first in a row with the 54 V input in range (R397). -/
def State.enSample (s : State) (inputOk : Bool) : State :=
  s.updMgmt fun m => { m with
    startNs := if inputOk && !m.enReady then s.engineNs else m.startNs
    enReady := inputOk, enHigh := min 10 (m.enHigh + 1), enLow := 0 }

/-- PWR_EN_SAMPLE (R399): PWR_EN as sampled every 1 ms; inputOk says that the 54 V input reads from 48 V to 58 V; rail
and osc say that the hoist-edge rail and canton 40's oscillators come up when the switch closes. After an undervoltage the
switch stays open until PWR_EN has read low: a rising PWR_EN starts the sequence again. -/
def execPwrEnSample (high inputOk rail osc : Bool) (s : State) : Host.Outcome State Fault Refusal :=
  if s.mgmt.cond ≠ .operating then .next s
  else if high then
    let s := if s.mgmt.mainOn then s.updMgmt fun m => { m with enHigh := min 10 (m.enHigh + 1), enLow := 0 } else s.enSample inputOk
    let m := s.mgmt
    .next (if m.enHigh = 10 && inputOk && m.enArmed && !m.mainOn && m.hoistOk && !m.thermtrip then s.mainClose rail osc else s)
  else
    let low (s : State) : State := s.updMgmt fun m => { m with enArmed := true, enReady := false }
    let s := s.updMgmt fun m => { m with enLow := min 3 (m.enLow + 1), enHigh := 0 }
    .next (low (if s.mgmt.enLow = 3 && s.mgmt.mainOn then s.mainOff.fset fPwrBootStatPwrEnLowSeen 1 else s))

/-- UNDERVOLTAGE (R399): the 54 V input stays below 46 V for 1 ms. -/
def execUndervoltage (s : State) : Host.Outcome State Fault Refusal :=
  .next (if s.mgmt.mainOn then s.mainOff.fset fPwrBootStatUvSeen 1 else s)

/-- AUX_FAIL (R399): the 12 V auxiliary supply fails; the engine is OFF. -/
def execAuxFail (s : State) : Host.Outcome State Fault Refusal :=
  .next ((s.nonVolatile .unpowered).fset fGlbEngineStateState 0)

/-! ### The wave (R401 to R410) -/

/-- The rank of a row in its column's order (R402). -/
def rowRank (cy : Nat) : Nat := [7, 5, 3, 1, 0, 2, 4, 6, 8, 9].getD cy 0

/-- The start slot of canton c (R402). -/
def startSlot (c : Nat) : Nat := 10 * (c % 10) + rowRank (c / 10)

/-- The directions in which a canton looks for a locked neighbour (R403); in row 4 the column's N comes before its S. -/
def lockOrder (c : Nat) : List Nat := 3 :: (if c / 10 < 4 then [2, 0] else [0, 2]) ++ [1]

/-- The direction towards which canton c locks: the first with a locked neighbour and a successful attempt. Canton 40's
mesh runs from step 3 of R397 on, joined or not. -/
def State.lockDir (s : State) (c : Nat) (lock : BitVec 4) : Option Nat :=
  (lockOrder c).find? fun d => lock.getLsbD d && match cantonNeighbour c d with
    | some e => s.fbit fCanClkStatLocked e
    | none => false

/-- Write the RETIRE entry of a defect that bring-up found, and add it to its canton's defects (R407). -/
def State.found (s : State) (c : Nat) (src : Byte) (cls : W16) (act : Byte) (w : W32) : State :=
  let x := s.canton c
  (s.setCanton c { x with defects := x.defects ++ [w] }).ledger
    { kind := 3, src := src, canton := BitVec.ofNat 8 c, word := w, cls := cls, outcome := act }

/-- Step b of R404: the canton controller loads its fuse block, or the ledger's copy of it (R406). -/
def State.loadFuses (s : State) (c : Nat) : Bool × State :=
  let f := s.fuseBlock c
  let copy := SMap.get [] s.mgmt.fuseCopy c
  let put (m : SMap (List W32)) (ws : List W32) : SMap (List W32) := SMap.put [] m c ws
  if blockOk c f then
    (true, s.updMgmt fun m => { m with fuseLoaded := put m.fuseLoaded f
                                       fuseCopy := if copy.isEmpty then put m.fuseCopy f else m.fuseCopy })
  else if blockOk c copy then
    (true, (s.updMgmt fun m => { m with fuseLoaded := put m.fuseLoaded copy }).fset fCanBruStatFuseShadow 1 c)
  else (false, s.updMgmt fun m => { m with fuseLoaded := put m.fuseLoaded f })

/-- Steps b and c of R404: the canton's defects are those of its fuses and its ledger entries. -/
def State.takeDefects (s : State) (c : Nat) : State :=
  let ws := SMap.get [] s.mgmt.fuseLoaded c
  let k := (ws.getD 1 0).toNat
  let s := s.setCanton c { s.canton c with
    retired := k.testBit 0 || s.ledgerRetired c, noBay := k.testBit 1, noPort := k.testBit 2
    defects := blockEntries ws ++ s.ledgerDefects c }
  if hasBay c && k.testBit 1 then s.fset fBayStatState 3 c else s

/-- Step e of R404: bad lanes of the canton's own side, of its seams and of its bay's interface, go to the ledger (R407). -/
def State.repairLanes (s : State) (c : Nat) (ls : List (CantonIx × W32)) : State :=
  ls.foldl (fun s (q : CantonIx × W32) =>
    if q.1.val = c && (entKind q.2 = 4 || entKind q.2 = 5) && entryOk c q.2 && !((s.canton c).defects.contains q.2) then
      s.found c 3 (if entKind q.2 = 4 then 0xB else 0) 6 q.2
    else s) s

/-- Step f of R404: what the march test finds failed: rows of tile and cluster memory, and sites whose instruction store,
operand buffers, register files, queues or decode tables fail (R408). -/
def State.marchTest (s : State) (c : Nat) (ws : List W32) : State :=
  let new := ws.eraseDups.filter fun w =>
    (entKind w = 1 || entKind w = 2 || entKind w = 3) && entryOk c w && !((s.canton c).defects.contains w)
  let s := new.foldl (fun s w => s.found c 1 2 (if entKind w = 1 then 3 else 5) w) s
  s.fset fCanBruStatBistRows (min 63 (new.filter fun w => entKind w ≠ 1).length) c

/-- The known-answer record of a site of local cluster l (R408). -/
def katRec (c l site : Nat) : Rec :=
  { cls := 0x1D, disp := 1, phys := true, block := 1, canton := BitVec.ofNat 8 c, cluster := BitVec.ofNat 8 l
    tile := if site < 48 then BitVec.ofNat 8 site else 0xFF, site := BitVec.ofNat 8 site }

/-- KNOWN_ANSWER_TEST, step g of R404 (R408): sites not already failed that fail twice. -/
def State.katTest (s : State) (c : Nat) (sites : List (Fin 48 × Fin 50)) : State :=
  let ds := (s.canton c).defects
  let new := sites.eraseDups.filter fun (q : Fin 48 × Fin 50) => !(siteBad ds q.1 q.2)
  let s := new.foldl (fun s (q : Fin 48 × Fin 50) =>
    (s.found c 2 0x1D 3 (BitVec.ofNat 32 (2 ^ 28 + q.1.val * 2 ^ 22 + q.2.val * 2 ^ 16))).report (cantonSrc c)
      (katRec c q.1 q.2)) s
  s.fset fCanBruStatKatFail (min 63 new.length) c

/-- Spare sites assigned, and absent positions, over the clusters of canton c (CAN_BRU_STAT). -/
def spareCounts (ds : List W32) : Nat × Nat :=
  (List.range 48).foldl (fun (n : Nat × Nat) l =>
    let sp := assignSpares ds l
    (n.1 + b2n (sp.1.toNat < 48) + b2n (sp.2.toNat < 48), n.2 + (List.range 48).countP fun i => absentPos ds l i sp)) (0, 0)

/-- Bad lanes that the lane tests of a join find (R409): on seams between canton c and its joined neighbours. -/
def State.laneTest (s : State) (c : Nat) (ls : List (CantonIx × W32)) : State :=
  ls.foldl (fun s (q : CantonIx × W32) =>
    let e := q.1.val
    let other := cantonNeighbour e (laneSide q.2)
    let near : Bool := (e = c && (match other with
        | some n => s.online n
        | none => false)) || (s.online e && other = some c)
    if near && entKind q.2 = 4 && entryOk e q.2 && !((s.canton e).defects.contains q.2) then s.found e 3 0xB 6 q.2 else s) s

/-- Note the failing step of canton c, which stays or goes off (R410). -/
def State.failStep (s : State) (c step : Nat) : State :=
  ((s.fset fCanBruStatFailStep step c).fset fCanBruStatFailed 1 c).fset fCanBruStatJoined 0 c

/-- CANTON_JOIN: steps e to h of R404 once every test has passed. -/
def State.layAndJoin (s : State) (c : Nat) (w : WaveIn) : State :=
  let n := spareCounts (s.canton c).defects
  let s := (s.fset fCanBruStatSparesUsed n.1 c).fset fCanBruStatAbsent (min 255 n.2) c
  let s := ((s.layOut c).laneTest c w.lanes).join c
  ((s.fset fCanBruStatFailStep 0 c).fset fCanBruStatFailed 0 c).fset fCanBruStatJoined 1 c

/-- Steps e to h of R404. -/
def State.testAndJoin (s : State) (c : Nat) (w : WaveIn) : State :=
  if w.fail = 5 then s.failStep c 5
  else if w.fail = 6 then s.failStep c 6
  else
    let s := (s.repairLanes c w.lanes).marchTest c w.bist
    if w.fail = 7 then s.failStep c 7
    else
      let s := s.katTest c w.kat
      if w.fail = 8 then s.failStep c 8 else s.layAndJoin c w

/-- Step d of R404: canton 40 locks to none, and so cannot fail it (R403). -/
def State.lockAndJoin (s : State) (c : Nat) (w : WaveIn) : State :=
  if c = 40 then s.testAndJoin c w
  else if w.fail = 4 then s.failStep c 4
  else match s.lockDir c w.lock with
    | some d => (s.fset fCanBruStatLockDir d c).testAndJoin c w
    | none => s.failStep c 4

/-- The steps of R404 for canton c. -/
def State.bring (s : State) (c : Nat) (w : WaveIn) : State :=
  if w.fail = 1 then s.failStep c 1
  else
    let q := s.loadFuses c
    if w.fail = 2 || !q.1 then q.2.failStep c 2
    else
      let s := q.2.takeDefects c
      if (s.canton c).retired then s.failStep c 9
      else if w.fail = 3 then s.failStep c 3
      else s.lockAndJoin c w

/-- The cantons that the retry pass may still take (R403): they failed only at step d, have a locked neighbour now, and
come after the one retried last. -/
def State.retriable (s : State) (c : Nat) : Bool :=
  s.fget fCanBruStatFailStep c = 4 && (s.lockDir c 0xF).isSome && (match s.mgmt.lastRetry with
    | some k => decide (k < c)
    | none => true)

/-- The wave ends: TRAIN, or FAULT where no canton joined (R415). -/
def State.endWave (s : State) : State :=
  let n := s.fget fGlbEngineStateJoined
  let s := (s.fset fPwrBootStatNotJoined (100 - n)).fset fPwrBootTimeWaveMs ((s.engineNs - s.mgmt.waveNs) / 1000000)
  if n = 0 then s.fault 5 else (s.enter 3).fset fPwrBootStatLastStep 6

/-- Whether the wave's last slot and its retry pass have nothing left to do. -/
def State.waveOver (s : State) : Bool :=
  s.mgmt.waveSlot = 100 && (decide (10 ≤ s.mgmt.retries) || !((List.range 100).any s.retriable))

/-- Step 5 of R397 begins: WAVE. A first reference whose source did not come in time is the crystal (R401). -/
def State.startWave (s : State) : State :=
  let s := if s.mgmt.firstWanted then s.firstReference else s
  let s := (s.enter 2).fset fPwrBootStatLastStep 5
  s.updMgmt fun m => { m with waveNs := s.engineNs }

/-- WAVE_SLOT_START (R402 to R410): canton c runs its sequence, in the order of the start slots, and after slot 99 in the
retry pass. -/
def execWaveSlotStart (c : CantonIx) (w : WaveIn) (s : State) : Host.Outcome State Fault Refusal :=
  let st := s.stage_
  let n := s.mgmt.waveSlot
  if !s.mgmt.pgood then .next s
  else if n < 100 then
    if startSlot c = n && st = (if n = 0 then 1 else 2) then
      let s := if n = 0 then s.startWave else s
      let s := ((s.updMgmt fun m => { m with waveSlot := n + 1 }).fset fCanBruStatSlot n c).bring c w
      .next (if s.waveOver then s.endWave else s)
    else .next s
  else if st = 2 && !s.waveOver && (List.range 100).find? s.retriable = some c.val then
    let s := (s.updMgmt fun m => { m with retries := m.retries + 1, lastRetry := some c.val }).bring c w
    .next (if s.waveOver then s.endWave else s)
  else .next s

/-! ### Bays and ports (R411 to R413) -/

/-- Bays with STATE 2. -/
def State.baysReady (s : State) : Nat :=
  (List.range 40).countP fun b => s.online (bayCanton b) && s.fget fBayStatState (bayCanton b) = 2

/-- Ports initialised. -/
def State.portsReady (s : State) : Nat := (List.range 20).countP fun p => s.mgmt.portInit.getLsbD p

/-- Whether the bay of canton c waits for its training. -/
def State.bayUntrained (s : State) (c : Nat) : Bool :=
  hasBay c && s.online c && !(s.canton c).noBay && s.fget fBayStatState c = 0

/-- BAY_TRAIN (R411 steps 1 to 3): lanes are the lanes that training finds bad, by channel. The bay's scrub begins. Firmware
takes bays in the order in which their cantons joined. Every channel left with more than 8 bad lanes fails (R270). -/
def execBayTrain (b : BayIx) (lanes : List (Fin 32 × BitVec 264)) (s : State) : Host.Outcome State Fault Refusal :=
  let c := bayCanton b
  if s.mgmt.joinOrder.find? s.bayUntrained = some c then
    let s := lanes.foldl (fun s (q : Fin 32 × BitVec 264) => s.badLane b q.1 q.2.toNat) (s.fset fBayStatState 1 c)
    .next (((List.range 32).filter fun ch => decide (8 < (s.bay b).bad ch)).foldl (fun s _ => s.failBay b) s)
  else .next s

/-- The bring-up scrub of a bay has ended (R274, R285). -/
def Bay.scrubbed (y : Bay) : Bay :=
  { y with regions := y.regions.foldl (fun (m : SMap Region) p => SMap.put {} m p.1 { p.2 with dirty := false, lastJob := 0xFFFF }) [] }

/-- BAY_READY (R411 step 5): the bring-up scrub has ended. -/
def execBayReady (b : BayIx) (s : State) : Host.Outcome State Fault Refusal :=
  let c := bayCanton b
  if s.online c && s.fget fBayStatState c = 1 then
    let s := ((s.updMem (·.zero (bayBase b) (bayBase (b + 1)))).setBay b (s.bay b).scrubbed).fset fBayStatState 2 c
    .next (s.fset fPwrBootStatBaysReady s.baysReady).recheck
  else .next s

/-- Port p's boot entries, as writes of RW and TX fields, in record order (R413). -/
def State.bootEntries (s : State) (p : Nat) : List TxnEntry :=
  match s.mgmt.bcfg with
  | none => []
  | some b => (b.entries.filter fun (e : Nat × W64) =>
      let o := e.1 - (0x100000 + 0x10000 * p)
      decide (0x100000 + 0x10000 * p ≤ e.1) && (o = 0 || (decide (0x20 ≤ o) && decide (o ≤ 0x58) && o % 8 = 0))).map
    fun (e : Nat × W64) =>
      let q := regSpec e.1
      { off := e.1, mask := BitVec.ofNat 64 q.tx ||| BitVec.ofNat 64 q.rw, val := e.2 }

/-- The link of p0 comes up while p0 gives the reference (R401): a native switch to the crystal where it is ready, else
the reference fails; the timing port is wanted back. -/
def State.shieldRef (s : State) (p : Nat) : State :=
  if p = 0 && s.active = 1 && s.fget fCkmTportPort = 0 then
    let s := s.updMgmt fun m => { m with tpWanted := true }
    if s.ready_ 0 then (s.native 0 .done).loseReady 1 else (s.loseReady 1).refFail 3
  else s

/-- Write port p's boot values (R412, R413): all of them, or none with a record. -/
def State.bootPort (s : State) (p : Nat) : State :=
  let es := s.bootEntries p
  let ok := es.all fun e => s.portRule es e p (e.off % 0x10000)
  if !ok then s.report 0x400 { onCanton (portCanton p) bootRec with index := BitVec.ofNat 8 p }
  else
    let t := es.foldl (fun t e => t.setReg e.off (e.onto (t.reg e.off))) s
    let t := if t.fbit fPrtLinkCtrlLinkEn p && !(s.fbit fPrtLinkCtrlLinkEn p) then t.shieldRef p else t
    (t.portApplied s es p).updMgmt fun m => { m with bootPorts := setBit m.bootPorts p true }

/-- BCFG_APPLIED: every port's boot entries have applied. -/
def State.bootApplied (s : State) : State :=
  s.fset fPwrBootStatBcfgApplied (b2n (s.mgmt.bcfg.isSome &&
    (List.range 20).all fun p => s.mgmt.bootPorts.getLsbD p || (s.bootEntries p).isEmpty))

/-- Whether the port of canton c waits for its initialisation. -/
def State.portWaits (s : State) (c : Nat) : Bool :=
  hasPort c && s.online c && !(s.canton c).noPort && !(s.mgmt.portTried.getLsbD (portCantons.idxOf c))

/-- PORT_INIT (R412): ok says that the SerDes calibrates. Firmware takes ports in the order in which their cantons
joined. -/
def execPortInit (p : PortIx) (ok : Bool) (s : State) : Host.Outcome State Fault Refusal :=
  let c := portCanton p
  let next := s.mgmt.joinOrder.find? s.portWaits = some c
  let s := if next then s.updMgmt fun m => { m with portTried := setBit m.portTried p true } else s
  if !next then .next s
  else if !ok then
    .next (s.report (portSrc p) (onCanton c { cls := 0x1B, block := 0xC, index := BitVec.ofNat 8 p
                                              detail0 := BitVec.ofNat 64 (p + 256 * 5) }))
  else
    let s := s.bootPort p
    let s := s.updMgmt fun m => { m with portInit := setBit m.portInit p true }
    let s := s.fset fPrtClkEnEn (s.fget fPrtClkEnEn ||| 2 ^ p.val)
    .next ((s.fset fPwrBootStatPortsReady s.portsReady).bootApplied).recheck

/-! ### The engine-wide check (R414, R415) -/

/-- Registers whose counters part e of R414 clears, by window-0 offset: failure counts, mesh, halyard, deadlock, bay,
FEC, transport and update-engine counts. -/
def clearedCounts : List (Nat × Nat) :=
  [(0x20040, 0xFFFFFFFFFFFFFFFF), (0x408028, 0xFFFFFFFFFFFF0000), (0x408108, 0xFFFF000000000000), (0x408210, 0xFFFFFFFFFFFFFFFF),
   (0x408418, 0xFFFFFFFFFFFFFFFF), (0x408508, 0xFFFFFFFF00000000), (0x100008, 0xFFFFFFFF00000000), (0x100010, 0xFFFFFFFFFFFFFFFF),
   (0x100068, 0xFFFFFFFFFFFFFFFF), (0x100088, 0xFFFFFFFFFFFF0000), (0x108090, 0xFFFFFFFFFFFFFFFF)]

/-- Sticky flags that part e of R414 leaves: those marked SR. -/
def keptFlags (off : Nat) : Nat :=
  if off = 0x20008 then 0x80 else if off = 0x20030 then 0x8000000000000000 else if off = 0x30000 then 0x30000000
  else if off = 0x50018 then 0x8 else if off = 0x70000 then 0xC000000000 else 0

/-- Part e of R414: the counters and sticky flags of the bring-up are cleared; error records stay. -/
def State.clearCounts (s : State) : State :=
  let mask (off : Nat) : W64 :=
    BitVec.ofNat 64 (SMap.get 0 clearedCounts (baseOff off)) ||| BitVec.ofNat 64 ((regSpec off).w1c) &&& ~~~(BitVec.ofNat 64 (keptFlags off))
  let s := (s.regs.map (·.1)).foldl (fun s off => s.setReg off (s.reg off &&& ~~~(mask off))) s
  let s := s.mapClusters (s.clusters.map (·.1)) fun x =>
    { x with hits := 0, misses := 0, corr := 0, parity := 0, uncorr := 0, isolation := 0 }
  let s := s.mapRouters (s.routers.map (·.1)) fun _ r => { r with errCrc := 0, errTag := 0, errMis := 0, errOvf := 0 }
  s.updMgmt fun m => { m with
    counters := (m.counters.map fun q => (q.1, { q.2 with count := 0, wrapped := false })).filter fun (q : Nat × Counter) => q.2 ≠ {} }

/-- Whether step 6 of R397 has ended: firmware has trained every bay and taken every port of the joined cantons. -/
def State.trained (s : State) : Bool :=
  (List.range 100).all fun c => !(s.bayUntrained c) && !(s.portWaits c) &&
    !(hasBay c && s.online c && s.fget fBayStatState c = 1)

/-- Parts a to c of R414: the map's last change, the waypoint tables, the sweep, and the tables again where it failed a
path. -/
def State.meshSweep (s : State) (links : List (ClusterIx × Fin 4)) : State :=
  let up := (List.range 100).filter s.online
  let s := up.foldl State.wptUpdate (s.mapChange fun s => s)
  if links.isEmpty then s
  else up.foldl State.wptUpdate (links.foldl (fun s (q : ClusterIx × Fin 4) => s.failLink q.1 q.2) s)

/-- ENGINE_CHECK (R414, R415): step 7 of R397, once step 6 has ended, and the outcome. -/
def execEngineCheck (k : CheckIn) (s : State) : Host.Outcome State Fault Refusal :=
  if s.stage_ ≠ 3 || !s.trained then .next s
  else
    let s := ((s.enter 4).fset fPwrBootStatLastStep 7).meshSweep k.sweep
    let s := (s.engineRound k.fault).clearCounts
    let ready := s.fget fGlbEngineStateJoined = 100 && s.baysReady = 40 && s.portsReady = 20
    let s := s.updMgmt fun m => { m with cameReady := ready }
    let s := (s.fset fPwrBootStatBaysReady s.baysReady).fset fPwrBootStatPortsReady s.portsReady
    let s := s.fset fPwrBootTimeReadyMs ((s.engineNs - s.mgmt.startNs) / 1000000)
    .next ((s.bootApplied.fset fPwrBootStatLastStep 8).enter (if ready then 5 else 6))

/-! ### Return of a canton (R386, R396, R469) -/

/-- Whether a rejoin finds its canton joined. -/
def State.rejoinEnd (s : State) (c : Nat) : State :=
  let s := s.fset fCanClkCtrlRejoin 0 c
  if s.online c then s.recheck else (s.powerOff c).fset fCanClkStatRejoinFail 1 c

/-- Canton c belongs to no slice until a LOAD_IMAGE claims it (R396). -/
def State.disown (s : State) (c : Nat) : State :=
  let s := s.mapClusters (clustersOf c) fun x => { x with owned := false, owner := 0 }
  match s.sliceOf c with
  | some n => s.setSlice n { s.slice n with left := (s.slice n).left ++ [c] }
  | none => s

/-- REJOIN (R396): CAN_CLK_CTRL.REJOIN is written. A canton whose mesh has failed locks and joins; one that was powered
off in service runs steps a to h, once it is below 80 °C where the thermal policy had it off; another is refused. A
rejoined canton owns no slice. -/
def execRejoin (c : CantonIx) (w : WaveIn) (s : State) : Host.Outcome State Fault Refusal :=
  let x := s.canton c
  let refuse := s.fset fCanClkStatRejoinFail 1 c
  if !s.host.decodes || s.online c then .next s
  else if x.retired || s.ledgerRetired c || s.fbit fCanBruStatFailed c then .next refuse
  else if x.powered && x.isolated then
    let s := s.disown c
    .next (if w.fail ≠ 0 then (s.failStep c w.fail.toNat).rejoinEnd c
      else if c.val = 40 then ((s.laneTest c w.lanes).join c).rejoinEnd c
      else match s.lockDir c w.lock with
        | some d => (((s.fset fCanBruStatLockDir d c).laneTest c w.lanes).join c).rejoinEnd c
        | none => (s.failStep c 4).rejoinEnd c)
  else if x.offByPlan && !(x.offHot && decide (80 * 16 ≤ x.temp.toInt)) then .next (((s.disown c).bring c w).rejoinEnd c)
  else .next refuse

end Sys2Proof.Machine
end

