-- ==== Sys2Proof/Machine/Slices.lean ====
section
/-! DEFINITION. Handshakes, runs, reconfigurations and the end of slices (R240 to R243, R252 to R257, R356, R363). -/
namespace Sys2Proof.Machine

/-! ### The pennants of a handshake (R243) -/

/-- The controller of canton c takes a QUIESCE pennant with an OP, or a RESUME where op is 0. -/
def State.hear (s : State) (c op : Nat) : Option QMsg × State :=
  let q := s.takePennant ensignNode (controllerNode c) fun p => p.code = (if op = 0 then 3 else 1) && p.msg.op = op
  (q.1.map Pennant.msg, q.2)

/-- The controller of canton c takes such a pennant and obeys it by f. -/
def State.receive (s : State) (c op : Nat) (f : QMsg → State → State) : State :=
  match s.hear c op with
  | (some m, q) => f m q
  | (none, q) => q

/-- The ensign complex takes the QUIESCE_ACK pennant of canton c's controller. -/
def State.hearAck (s : State) (c : Nat) : Option QAck × State :=
  let q := s.takePennant (controllerNode c) ensignNode fun p => p.code = 2
  (q.1.map Pennant.ack, q.2)

/-- The cantons of a slice that are on the networks. -/
def State.sliceUp (s : State) (n : Nat) : List Nat := (s.slice n).cantons.filter s.online

/-- The ensign complex sends a pennant to every canton of slice n. -/
def State.tell (s : State) (n : Nat) (m : QMsg) : State :=
  (s.sliceUp n).foldl (fun s c => s.sendPennant ensignNode (controllerNode c) m.code m.arg) s

/-- The present tiles of canton c. -/
def State.cantonTiles (s : State) (c : Nat) : List Nat := (tilesOf c).filter s.isPresent

/-! ### Runs (R240 to R242, R363) -/

/-- Start the prefetchers of a cluster that TRIGGER does not hold back: one that had ended its stream begins it anew (R279). -/
def Cluster.startPf (x : Cluster) : Cluster :=
  { x with pf := x.pf.map fun (p : Nat × Prefetcher) =>
      (p.1, if p.2.enable && !p.2.trigger then { p.2 with started := true, done := false } else p.2) }

/-- RUN (R240, R242): the caches are invalidated (R277), the prefetchers start, and RESUME goes to every canton. -/
def State.runSlice (s : State) (d : Desc) : State :=
  let n := d.slice
  let x := s.slice n
  if !x.loaded || x.phase ≠ 1 then s.complete d { status := 0x03 }
  else
    let s := s.invalidate n
    let s := s.mapClusters x.clusters Cluster.startPf
    (s.setSlice n { x with phase := 2, run := some { desc := d } }).tell n ⟨n, 0, 0⟩

/-- RUN command. -/
def execRun (r : RingIx) (s : State) : Host.Outcome State Fault Refusal :=
  .next (s.perform r (fun d => d.op = 0x02) fun d s => s.runSlice d)

/-- Complete slice n's RUN (R241, R363): the slice stays loaded with its state. -/
def State.endRun (s : State) (n : Nat) (d : Desc) (q : Result) : State :=
  let s := s.mapTiles (s.sliceTiles n) (Tile.setRun false)
  let s := s.setSlice n { s.slice n with phase := 1, run := none }
  s.complete d { q with r1 := s.engineNs }

/-- A RUN completed with SUCCESS ends the history of R444. -/
def State.runSucceeded (s : State) (n : Nat) : State :=
  { s with err := { s.err with lastStop := SMap.put none s.err.lastStop n none } }

/-- A canton of slice n has started: with END_FLAG 0xFF the RUN completes once every one has (R241). -/
def State.started (s : State) (n c : Nat) : State :=
  let x := s.slice n
  match x.run with
  | none => s
  | some r =>
    let done := (c :: r.resumed).eraseDups
    if x.endFlag = 0xFF && x.cantons.all done.contains then
      ((s.setSlice n { x with run := none }).runSucceeded n).complete r.desc { r1 := s.engineNs }
    else s.setSlice n { x with run := some { r with resumed := done } }

/-- RESUME (R240, R254): the controller leaves the handshake and sets RUN in its tiles of the slice, where the slice runs: a
loaded slice does not run until RUN. One whose DRAIN is abandoned replies that it has failed. -/
def execResume (c : CantonIx) (s : State) : Host.Outcome State Fault Refusal :=
  .next (s.receive c 0 fun m s =>
    if !((s.slice m.slice).holds c) then s
    else
      let w := (s.canton c).watch
      let s := s.setCanton c { s.canton c with watch := .none, purged := 0 }
      let s := if w = .draining || w = .drained then s.answer c ⟨m.slice, 2, 2, 0⟩ else s
      if (s.slice m.slice).phase = 2 then (s.mapTiles (s.cantonTiles c) (Tile.setRun true)).started m.slice c else s)

/-- END_FLAG_DONE (R241): END_FLAG's round has completed at the agents. -/
def execEndFlagDone (n : SliceIx) (s : State) : Host.Outcome State Fault Refusal :=
  let x := s.slice n
  let f := x.endFlag.toNat
  let r := s.round n f
  match x.run with
  | none => .next s
  | some q =>
    if x.endFlag = 0xFF || r.toTake.isEmpty then .next s
    else
      let s := s.setRound n f { r with toTake := [] }
      .next ((s.endRun n q.desc { r0 := r.result.toNat + 2 ^ 16 }).runSucceeded n)

/-- RUN_TIMEOUT (R363). -/
def execRunTimeout (n : SliceIx) (s : State) : Host.Outcome State Fault Refusal :=
  match (s.slice n).run with
  | some q => if q.desc.fld 8 4 = 0 then .next s else .next (s.endRun n q.desc { status := 0x0D })
  | none => .next s

/-! ### LOAD_IMAGE and UNLOAD (R239, R356) -/

/-- A started descriptor that reads host memory without an answer (R346). -/
def State.hostFail (s : State) (d : Desc) : State := (s.fset fHifStatHostErrSeen 1).complete d { status := 0x0C }

/-- The first flash address of an image slot (R456). -/
def slotBase (k : Nat) : Nat := 0x010000000 + k * 0xF0000000

/-- A handshake with the cantons of slice n begins: the ensign complex tells them to stop, or to drain. -/
def State.handshake (s : State) (n : Nat) (rc : ReconfSt) : State :=
  let x := s.slice n
  let s := s.setSlice n { x with phase := 3, mode := if rc.goal ≠ .switch then 0 else if rc.purge then 2 else 1, reconf := some rc }
  s.tell n ⟨n, if rc.purge then 1 else 2, 0⟩

/-- The slice's tiles have stopped: it is loaded anew, or unloaded (R242, R356). A load whose descriptor a restart of the ensign
complex has aborted (R450) leaves it loaded and stopped. -/
def State.sliceStopped (s : State) (n : Nat) (rc : ReconfSt) : State :=
  let x := s.slice n
  match rc.goal, rc.desc with
  | .load img fixed, d =>
    let s := s.setSlice n { x with phase := if rc.was = 6 then 6 else 1, mode := 0, reconf := none }
    match d with
    | some d => s.load d img fixed
    | none => s
  | _, some d => (s.unload n).complete d {}
  | _, none => s.unload n

/-- Stop slice n as QUIESCE STOP does (R255 step 2), for a goal; where no canton of it is left, at once. -/
def State.stopFor (s : State) (n : Nat) (goal : Goal) (d : Option Desc) : State :=
  let x := s.slice n
  let rc : ReconfSt := { desc := d, purge := true, config := 0, epoch := x.cur, step := 2, was := x.phase, goal := goal }
  if (s.sliceUp n).isEmpty then s.sliceStopped n rc else s.handshake n rc

/-- The image that a LOAD_IMAGE descriptor names, as its source holds it. -/
def State.imageBytes (s : State) (d : Desc) : List Byte :=
  let size := d.fld 32 8
  match d.byte 16 with
  | 0 => s.hostRead (d.fld 24 8) size
  | 1 => s.mem.bytes (deAperture (d.fld 24 8)) size
  | _ => s.mgmt.bytes (slotBase (d.byte 18)) (min size 0xF0000000)

/-- Whether rows from an engine address wait at their stores (R268, R386). -/
def State.rowsWait (s : State) (a n : Nat) : Bool := (List.range n).any fun i => s.mapped (a + 64 * i) && s.waits (a + 64 * i)

/-- Whether a LOAD_IMAGE waits: for Bus Master Enable (R346), for the rows of its source unless the timers of R211 have run
out, for a handshake with its slice, or for a store that it claims and that scrubs or re-encodes (R267, R287). -/
def State.loadWaits (s : State) (d : Desc) (late : Bool) : Bool :=
  (d.byte 16 = 0 && !s.host.master) ||
  (d.byte 16 = 1 && !late && s.rowsWait (d.fld 24 8) ((d.fld 32 8 + 63) / 64)) ||
  (s.slice d.slice).reconf.isSome ||
  match imgOf (s.imageBytes d) (d.byte 17) with
  | none => false
  | some m =>
    (((List.range 100).filter m.holds).flatMap clustersOf).any (fun k => s.waits (clusterBase k)) ||
    m.bays.any fun r => r.regions.any fun p => (s.region p.1 p.2).scrubbing || (s.region p.1 p.2).reencoding

/-- A LOAD_IMAGE has read its image, with errors corrected or none: a loaded slice is stopped first (R242). -/
def State.loadOver (s : State) (d : Desc) (img : List Byte) (fixed : Bool) : State :=
  if (s.slice d.slice).loaded then s.stopFor d.slice (.load img fixed) (some d) else s.load d img fixed

/-- LOAD_IMAGE (R239, R242, R357); ok says that the host answered the reads, late that the timers of rows that wait have run
out (R211). -/
def execLoadImage (r : RingIx) (ok late : Bool) (s : State) : Host.Outcome State Fault Refusal :=
  .next (s.perform r (fun d => d.op = 0x01 && !(s.loadWaits d late)) fun d s =>
    let size := d.fld 32 8
    match d.byte 16 with
    | 0 => if ok then s.loadOver d (s.imageBytes d) false else s.hostFail d
    | 1 =>
      let q := s.readRows whoHost (d.fld 24 8) ((size + 63) / 64)
      if q.2.1.status = 0 then q.2.2.loadOver d (q.1.take size) q.2.1.corrected
      else q.2.2.complete d { status := q.2.1.code, isolation := q.2.1.isolation, corrected := q.2.1.corrected }
    | _ => s.loadOver d (s.imageBytes d) false)

/-- UNLOAD (R356): the slice is stopped, then its ownership ends. -/
def execUnload (r : RingIx) (s : State) : Host.Outcome State Fault Refusal :=
  .next (s.perform r (fun d => d.op = 0x04 && (s.slice d.slice).reconf.isNone) fun d s =>
    if (s.slice d.slice).loaded then s.stopFor d.slice .unload (some d) else s.complete d { status := 0x03 })

/-! ### Reconfiguration: the host's side (R252 to R257) -/

/-- The set of a loaded slice's image. -/
def Slice.img (x : Slice) : Option Img := imgOf x.image x.set

/-- The shifts in force in a loaded slice. -/
def Slice.moves (x : Slice) : Shifts := x.shifts

/-- Mark an epoch clean or not (R257). -/
def Slice.mark (x : Slice) (e : BitVec 4) (clean : Bool) : Slice := { x with clean := setBit x.clean e.toNat clean }

/-- Stage a table in a router (R199). -/
def Router.stageTable (epoch : BitVec 4) (purge : Bool) (tab r : Router) : Router :=
  { r with stage := some { slots := tab.slots, oqInit := tab.oqInit, share := tab.share, shareInit := tab.shareInit
                           epoch := epoch, purge := purge } }

/-- RECONFIGURE (R252 to R255): its refusals in order, then step 1 and the first QUIESCE. -/
def State.reconfigure (s : State) (d : Desc) : State :=
  let n := d.slice
  let x := s.slice n
  let e := BitVec.ofNat 4 (d.byte 18)
  let purge := d.byte 17 = 2
  if !x.loaded || x.reconf.isSome then s.complete d { status := 0x03 }
  else if e = x.cur || !(x.clean.getLsbD e.toNat) then s.complete d { status := 0x05 }
  else match x.img with
    | none => s.complete d { status := 0x02 }
    | some m =>
      let ts := s.sliceTiles n
      let q := s.rotate (s.tablesOf (m.records x.moves (d.byte 16)) ts)
      if !(m.configs.contains (d.byte 16)) || q.2.isSome || !(tablesOk x.holds q.1) then s.complete d { status := 0x02 }
      else
        let s := s.mapRouters ts fun t r => r.stageTable e purge (SMap.get {} q.1 t)
        let s := if purge then s
          else s.mapTiles ts fun t => { t with epoch := { t.epoch with next := e, nextValid := true } }
        let rc : ReconfSt := { desc := some d, purge := purge, config := d.byte 16, epoch := e, step := if purge then 2 else 3, was := x.phase }
        (s.setSlice n { x.mark e false with next := e }).handshake n rc

/-- RECONFIGURE_DRAIN (R253). -/
def execReconfigureDrain (r : RingIx) (s : State) : Host.Outcome State Fault Refusal :=
  .next (s.perform r (fun d => d.op = 0x03 && d.byte 17 = 1) fun d s => s.reconfigure d)

/-- RECONFIGURE_PURGE (R255). -/
def execReconfigurePurge (r : RingIx) (s : State) : Host.Outcome State Fault Refusal :=
  .next (s.perform r (fun d => d.op = 0x03 && d.byte 17 = 2) fun d s => s.reconfigure d)

/-- Load the new instruction stores and decode tables, rewrite the participation counts, invalidate the caches, and send the
switch (R96, R221, R253 step 5, R255 step 3, R277). -/
def State.switchSlice (s : State) (n : Nat) (rc : ReconfSt) : State :=
  let x := s.slice n
  match x.img with
  | none => s
  | some m =>
    let s := s.mapTiles (s.sliceTiles n) fun t => { t with istore := [], syn := SMap.clear t.syn (synKey 1 0) (synKey 2 0) }
    let s := ((m.records x.moves rc.config).filter fun r => r.space = 1 || r.space = 7).foldl State.writeRec s
    let s := (((s.clearHal n).writeHal m rc.config).setHalAgents n).invalidate n
    let s := s.setSlice n { x with phase := 4, reconf := some { rc with step := if rc.purge then 4 else 5, replies := [] } }
    s.tell n ⟨n, if rc.purge then 5 else 4, rc.epoch⟩

/-- The last step (R253 step 6, R255 step 5): RESUME to every canton, the clean epochs, the completion. A slice that was only
loaded stays so (R240). -/
def State.finishReconf (s : State) (n : Nat) (rc : ReconfSt) : State :=
  let x := s.slice n
  let runs := rc.was ≠ 1
  let y := if rc.purge then { x with clean := ~~~(BitVec.ofNat 16 (2 ^ rc.epoch.toNat)) } else x.mark x.cur true
  let s := s.setSlice n { y with cur := rc.epoch, next := 0, phase := if runs then 2 else 1, mode := 0, reconf := none }
  let s := s.tell n ⟨n, 0, 0⟩
  match rc.desc with
  | some d => s.complete d { r0 := if rc.purge then rc.discards else 0 }
  | none => s

/-! ### Re-placement and the planned power-off of a canton (R393, R441) -/

/-- A loaded slice is left for the host's placement (R441, R444): PHASE 6. -/
def State.leave (s : State) (n : Nat) : State :=
  if (s.slice n).loaded then s.setSlice n { s.slice n with phase := 6 } else s

/-- The request that reloads slice n from its image. -/
def Slice.again (x : Slice) (n : Nat) : LoadReq :=
  { slice := n, job := x.job, set := x.set, srcKind := x.srcKind, srcSlot := x.srcSlot, srcAddr := x.srcAddr
    size := x.image.length, again := true }

/-- The slice of canton c shifts its stages past absent positions and failed banks (R441): the ACTION taken. -/
def State.shift (s : State) (c : Nat) : Byte × State :=
  match s.sliceOf c with
  | none => (4, s)
  | some n =>
    let x := s.slice n
    match x.img.map s.place with
    | some (some a, _) =>
      if a.foldl (fun q p => SMap.put 0 q p.1 p.2) [] = x.shifts then (4, s)
      else
        let q := s.loadImage (x.again n) x.image
        if q.1.status = 0 then (4, q.2.setSlice n { q.2.slice n with phase := x.phase }) else (11, q.2.leave n)
    | _ => (11, s.leave n)

/-- Steps 2 and 3 of R393: canton c opens its switches and loses its supply. -/
def State.planOff (s : State) (c : Nat) (thermal : Bool) : State :=
  let s := s.powerOff c
  let s := (s.setCanton c { s.canton c with offByPlan := true, offHot := thermal }).degrade
  if thermal then s.thermEvent.report 0x400 (hoistRec 0x20 2 c 8) else s

/-- The work of canton c is re-placed (R393 step 1, R441): its positions leave the map, and the stages that they served take
their alternatives; the ACTION taken. -/
def State.vacate (s : State) (c : Nat) : Byte × State := (s.mapChange fun s => s.clearPresent c).shift c

/-- Step 1 of R393 has ended for a slice that was running: its work is re-placed, the canton goes off, and the slice runs on;
without a place it stops for the host. -/
def State.planDrained (s : State) (n c : Nat) (thermal : Bool) : State :=
  let x := s.slice n
  let q := (s.setSlice n { x with phase := 1, mode := 0, reconf := none }).vacate c
  let s := q.2.planOff c thermal
  if q.1 = 11 then (s.setSlice n { s.slice n with run := x.run }).stopSlice n none
  else
    let s := if (s.slice n).shifts = x.shifts then s else s.mapClusters x.clusters Cluster.startPf
    (s.setSlice n { s.slice n with phase := 2, run := x.run }).tell n ⟨n, 0, 0⟩

/-- The second begins in which a planned power-off of canton c must end that the thermal policy asks for (R469). -/
def State.planNote (s : State) (c : Nat) : State :=
  let x := s.canton c
  s.setCanton c { x with planNs := x.planNs <|> some s.engineNs }

/-- The planned power-off of a canton (R393). The slice that owns it drains first: a running one by a QUIESCE of its cantons,
in the steps of R253, after which the rest follows; one that is being reconfigured is waited for. -/
def State.plannedOff (s : State) (c : Nat) (thermal : Bool) : State :=
  let s := if thermal then s.planNote c else s
  match s.sliceOf c with
  | none => s.planOff c thermal
  | some n =>
    let x := s.slice n
    if x.phase = 1 || x.phase = 6 then (s.vacate c).2.planOff c thermal
    else if x.phase = 2 then
      s.handshake n { desc := none, purge := false, config := 0, epoch := x.cur, step := 3, was := 2, goal := .off c thermal }
    else s

/-- PLANNED_POWER_OFF (R393): never canton 40. thermal says that the thermal policy asks for it (R469). -/
def execPlannedPowerOff (c : CantonIx) (thermal : Bool) (s : State) : Host.Outcome State Fault Refusal :=
  .next (if c.val ≠ 40 && s.online c then s.plannedOff c thermal else s)

/-- Where every canton of slice n has replied STATE 0, the handshake goes on with its next step (R253, R255). A canton that is
no longer on the networks is not waited for. -/
def State.proceed (s : State) (n : Nat) (rc : ReconfSt) : State :=
  if !((s.sliceUp n).all fun c => SMap.get 0 rc.replies c = 1) then s
  else if rc.purge && rc.step = 2 then
    if rc.goal = .switch then s.switchSlice n rc else s.sliceStopped n rc
  else if !rc.purge && rc.step = 3 then
    (s.setSlice n { s.slice n with reconf := some { rc with step := 4, replies := [] } }).tell n ⟨n, 3, 0⟩
  else if !rc.purge && rc.step = 4 then
    match rc.goal with
    | .off u thermal => s.planDrained n u thermal
    | _ => s.switchSlice n rc
  else s.finishReconf n rc

/-- The OP whose acknowledgement a handshake waits for. -/
def ReconfSt.wants (rc : ReconfSt) : Nat :=
  if rc.purge then (if rc.step = 2 then 1 else 5) else if rc.step = 5 then 4 else if rc.step = 4 then 3 else 2

/-- An abandoned epoch that canton c has not replied for (R254). -/
def Slice.owesReply (x : Slice) (c : Nat) : Bool := x.gone.any fun q => q.2.contains c

/-- Canton c has replied to the end of an abandoned DRAIN: the epoch is clean once every canton has (R254). -/
def Slice.replied (x : Slice) (c : Nat) : Slice :=
  match x.gone with
  | [] => x
  | q :: qs =>
    let left := q.2.filter (· ≠ c)
    if left.isEmpty then { x.mark q.1 true with gone := qs } else { x with gone := (q.1, left) :: qs }

/-- A QUIESCE_ACK reaches the ensign complex (R253 to R255). -/
def State.advance (s : State) (c : Nat) (a : QAck) : State :=
  let n := a.slice
  let x := s.slice n
  if a.op = 2 && x.owesReply c then (if a.state = 2 then s.setSlice n (x.replied c) else s)
  else match x.reconf with
    | none => s
    | some rc =>
      if !rc.purge && (rc.step = 3 || rc.step = 4) && a.state = 1 then
        -- STATE 1 returns to step 3.
        let last : SMap Nat := if rc.step = 4 then x.cantons.map fun c => (c, 1) else rc.replies
        s.setSlice n { x with reconf := some { rc with step := 3, replies := SMap.put 0 last c 2 } }
      else if a.op ≠ rc.wants then s
      else
        let rc := { rc with replies := SMap.put 0 rc.replies c (a.state + 1), discards := rc.discards + a.discards }
        (s.setSlice n { x with reconf := some rc }).proceed n rc

/-- The handshake of the slice that owns canton c, looked at again: a canton that went off is waited for no longer. -/
def State.lookAgain (s : State) (c : Nat) : State :=
  match s.sliceOf c with
  | some n => match (s.slice n).reconf with
    | some rc => if rc.replies.isEmpty then s else s.proceed n rc
    | none => s
  | none => s

/-- QUIESCE_ACK (R243): canton c's acknowledgement; where none has come, the ensign complex looks at its handshake again. -/
def execQuiesceAck (c : CantonIx) (s : State) : Host.Outcome State Fault Refusal :=
  match s.hearAck c with
  | (some a, q) => .next (q.advance c a)
  | (none, q) => .next (q.lookAgain c)

/-- DRAIN_TIMEOUT (R254): the RECONFIGURE is abandoned before step 5, and the slice goes on in its old epoch. E' stays not clean
until every canton has replied. -/
def execDrainTimeout (n : SliceIx) (s : State) : Host.Outcome State Fault Refusal :=
  let x := s.slice n
  match x.reconf with
  | none => .next s
  | some rc =>
    match rc.desc with
    | none => .next s
    | some d =>
      if rc.purge || 5 ≤ rc.step || d.fld 8 4 = 0 then .next s
      else
        let ts := s.sliceTiles n
        let s := s.mapTiles ts fun t => { t with epoch := { t.epoch with next := 0, nextValid := false } }
        let s := s.mapRouters ts fun _ r => { r with stage := none }
        let s := s.setSlice n { x with next := 0, phase := rc.was, mode := 0, reconf := none, gone := x.gone ++ [(rc.epoch, s.sliceUp n)] }
        .next ((s.tell n ⟨n, 0, 0⟩).complete d { status := 0x06 })

/-! ### Reconfiguration: the cantons' side (R253, R255) -/

/-- Whether canton c has come to rest after STOP (R135, R255 step 2): no BULK operation is outstanding, and no instruction that
has issued can go on; one that waits for a flit, a credit or a row waits on. -/
def State.atRest (s : State) (c : Nat) : Bool :=
  (s.cantonTiles c).all fun t =>
    let x := s.tile t
    (x.bulk.all fun (p : Nat × BulkTag) => p.2.out = 0) &&
    (x.inflight.isEmpty || ((s.tx t 0 0).cycle false false []).tile.inflight = x.inflight)

/-- A canton that has been told to stop replies once it is at rest. -/
def State.restReply (s : State) (c : Nat) : State :=
  let x := s.canton c
  if x.watch = .stopping && s.atRest c then
    (s.setCanton c { x with watch := .stopped }).answer c ⟨x.watchSlice.toNat, 1, 0, 0⟩
  else s

/-- QUIESCE_STOP (R255 step 2): RUN is cleared and the spill pools come to rest; issued instructions and BULK operations
complete, and then, at this command or at a later one, the canton replies. -/
def execQuiesceStop (c : CantonIx) (s : State) : Host.Outcome State Fault Refusal :=
  .next ((s.receive c 1 fun m s =>
    if (s.slice m.slice).holds c then
      (s.mapTiles (s.cantonTiles c) (Tile.setRun false)).setCanton c
        { s.canton c with watch := .stopping, watchSlice := BitVec.ofNat 4 m.slice }
    else s).restReply c)

/-- QUIESCE_DRAIN (R253 step 2): the canton watches for a drained condition. -/
def execQuiesceDrain (c : CantonIx) (s : State) : Host.Outcome State Fault Refusal :=
  .next (s.receive c 2 fun m s => s.setCanton c { s.canton c with watch := .draining, watchSlice := BitVec.ofNat 4 m.slice })

/-- Whether every buffer of canton c is empty, no BULK outstanding and no halyard node holds part of a round (R253). -/
def State.drainedNow (s : State) (c n : Nat) : Bool :=
  (s.cantonTiles c).all (fun t =>
    let x := s.tile t
    let r := s.router t
    x.iq.isEmpty && x.outbox.isEmpty && x.inflight.isEmpty && (x.bulk.all fun (p : Nat × BulkTag) => p.2.out = 0) &&
    r.oq.isEmpty && r.seamQ.isEmpty && r.tx.isEmpty && r.half.isEmpty && r.link.isEmpty && r.wire.isEmpty) &&
  (clustersOf c).all (fun k => (s.cluster k).spillQs.all fun q => q.slots.isEmpty) &&
  (List.range 64).all fun f =>
    let r := s.round n f
    !(r.agents.contains c) && r.arrivals.all fun (p : Nat × Nat) => cantonOfCluster p.1 ≠ c

/-- CANTON_DRAINED (R253 step 3). -/
def execCantonDrained (c : CantonIx) (s : State) : Host.Outcome State Fault Refusal :=
  let x := s.canton c
  let n := x.watchSlice.toNat
  if x.watch = .draining && s.drainedNow c n then
    let s := s.mapTiles (s.cantonTiles c) (Tile.setRun false)
    .next ((s.setCanton c { s.canton c with watch := .drained }).answer c ⟨n, 2, 0, 0⟩)
  else .next s

/-- DRAIN_ARRIVAL (R253 step 3): a flit has arrived at a drained canton. -/
def execDrainArrival (c : CantonIx) (s : State) : Host.Outcome State Fault Refusal :=
  let x := s.canton c
  let n := x.watchSlice.toNat
  if x.watch = .drained && !(s.drainedNow c n) then
    let s := s.mapTiles (s.cantonTiles c) (Tile.setRun true)
    .next ((s.setCanton c { s.canton c with watch := .draining }).answer c ⟨n, 2, 1, 0⟩)
  else .next s

/-- QUIESCE_CONFIRM (R253 step 4): STATE 0 only where the canton has reported drained and no flit has arrived since. -/
def execQuiesceConfirm (c : CantonIx) (s : State) : Host.Outcome State Fault Refusal :=
  .next (s.receive c 3 fun m s =>
    s.answer c ⟨m.slice, 3, b2n !((s.canton c).watch = .drained && s.drainedNow c m.slice), 0⟩)

/-- A tile takes the new epoch (R96, R253 step 5): credits of the staged table; lanes, predicates, loop counters, tags,
flags and any stop cleared. -/
def Tile.switch (epoch : BitVec 4) (r : Router) (t : Tile) : Tile :=
  ({ t with
    ctrl := { t.ctrl with run := false }, epoch := { cur := epoch }, pred := 0, lc := [], lanes := []
    gTag := 0, vTag := 0, aTag := 0, bTag := 0, flags := [], blocked := 0, inflight := [], board := {}
    status := { t.status with probe := false }
    cred := match r.stage with
      | some g => (List.range 4).foldl (fun m n => SMap.put 0 m n (BitVec.ofNat 6 (min 32 (fld g.oqInit.toNat (6 * n) 6)))) []
      | none => t.cred } : Tile).clearStop

/-- Release the staged tables of canton c and switch its tiles; a raised probe is cleared with its pennant (R244). -/
def State.switchCanton (s : State) (c : Nat) (epoch : BitVec 4) (w : Watch) : State :=
  let ts := s.cantonTiles c
  let probed := ts.filter fun t => (s.tile t).status.probe
  let s := { s with tiles := ts.foldl (fun m t => SMap.put ({} : Tile) m t ((SMap.get ({} : Tile) m t).switch epoch (s.router t))) s.tiles }
  let s := probed.foldl (fun s t => s.tellProbe t true) s
  let s := s.mapRouters ts fun _ r => { r with stage := r.stage.map fun g => { g with released := true } }
  s.setCanton c { s.canton c with watch := w, purged := 0 }

/-- QUIESCE_SWITCH (R253 step 5): the routers switch at the next slot 0 (TABLE_SWITCH), and then the canton answers. -/
def execQuiesceSwitch (c : CantonIx) (s : State) : Host.Outcome State Fault Refusal :=
  .next (s.receive c 4 fun m s =>
    let s := s.setCanton c { s.canton c with watchSlice := BitVec.ofNat 4 m.slice }
    s.switchCanton c m.epoch .switching)

/-- Discard the flits of other epochs at the heads of a tile's queues (R115, R255 step 4): the tile and their number. -/
def Tile.purge (t : Tile) : Tile × Nat :=
  let gone := ((List.range 5).map fun q => ((t.queue q).filter fun f => f.epoch ≠ t.epoch.cur).length).sum
  if gone = 0 then (t, 0)
  else
    (({ t with iq := (List.range 5).foldl (fun m q => SMap.put [] m q ((t.queue q).filter fun f => f.epoch = t.epoch.cur)) []
               status := { t.status with epochDrop := true } } : Tile).count 0x0D gone, gone)

/-- QUIESCE_SWITCH_PURGE (R255 steps 3 and 4): the switch with PURGE = 1; the tiles discard flits of the old epoch, the
sequencers free the pool entries and end every spill. The routers discard theirs in their own cycles. -/
def execQuiesceSwitchPurge (c : CantonIx) (s : State) : Host.Outcome State Fault Refusal :=
  .next (s.receive c 5 fun m s =>
    let s := s.setCanton c { s.canton c with watchSlice := BitVec.ofNat 4 m.slice }
    let s := s.switchCanton c m.epoch .purging
    let ts := s.cantonTiles c
    let a := ts.foldl (fun (a : State × Nat) t =>
      let q := (a.1.tile t).purge
      (a.1.setTile t q.1, a.2 + q.2)) (s, 0)
    let held := ((clustersOf c).map fun k => (((s.cluster k).spillQs.map fun q => q.slots.length).sum)).sum
    let s := a.1.mapClusters (clustersOf c) fun x => { x with spillQs := [] }
    let x := s.slice m.slice
    (s.setSlice m.slice { x with phase := 5 }).setCanton c { s.canton c with purged := a.2 + held })

end Sys2Proof.Machine
end

