-- ==== Sys2Proof/Machine/Spill.lean ====
section
/-! DEFINITION. Deadlock and spill: the wait graph, its cycles, the spill pools (R244 to R249). -/
namespace Sys2Proof.Machine

/-! ### The wait graph (R245) -/

/-- The entries that an entry feeds on its circuit, one row later, two over a shim link, across seams by the tag (R177, R178,
R189). -/
def State.onward (s : State) (t row o : Nat) : List (Nat × Nat × Nat) :=
  if 4 ≤ o then []
  else match tileNeighbour t o with
    | none => []
    | some j =>
      let r := s.router j
      let src := opp o + 1
      let next := (row + 1 + b2n (s.shimLink t j)) % 16
      if seamDir t o then
        let g := entTag ((s.router t).entry row o)
        rows16.flatMap fun q => ((r.fork q src).filter fun p => entTag (r.entry q p) = g).map fun p => (j, q, p)
      else (r.fork next src).map fun p => (j, next, p)

/-- The receivers at the ends of circuits, from a worklist of entries: (tile, queue). -/
def State.ends (s : State) : Nat → List (Nat × Nat × Nat) → List (Nat × Nat × Nat) → List (Nat × Nat)
  | 0, _, _ => []
  | _ + 1, [], _ => []
  | m + 1, e :: work, seen =>
    if seen.contains e then s.ends m work seen
    else
      let rest := s.ends m (s.onward e.1 e.2.1 e.2.2 ++ work) (e :: seen)
      if 4 ≤ e.2.2 && e.2.2 < 9 then (e.1, e.2.2 - 4) :: rest else rest

/-- The input queues at the ends of the circuits of output n of tile t. -/
def State.receivers (s : State) (t n : Nat) : List (Nat × Nat) :=
  let r := s.router t
  (s.ends (1500 * (s.routers.length + 1)) (rows16.flatMap fun row => (r.fork row (n + 5)).map fun o => (t, row, o)) []).eraseDups

/-- One edge of the wait graph: the tile that waits, the tile it waits for, and for a credit edge the full queue. -/
structure WaitEdge where
  waits : Nat
  for_ : Nat
  queue : Option Nat
  deriving DecidableEq, Repr

/-- Whether an instruction with a true predicate names IQq in its QMASK. -/
def Tile.wantsQueue (t : Tile) (q : Nat) : Bool :=
  t.istore.any fun p => decodeWord p.2 != .void && (headOf p.2).qmask.getLsbD q && t.getP (headOf p.2).psel.toNat

/-- The edges of slice n's wait graph. -/
def State.waitEdges (s : State) (n : Nat) : List WaitEdge :=
  let ts := s.sliceTiles n
  let sends := ts.flatMap fun t => (List.range 4).map fun o => (t, o, s.receivers t o)
  sends.flatMap fun e =>
    (if (s.tile e.1).credit e.2.1 = 0 then
      (e.2.2.filter fun (p : Nat × Nat) => ((s.tile p.1).queue p.2).length = 16).map fun p => ⟨e.1, p.1, some p.2⟩
     else []) ++
    ((e.2.2.filter fun (p : Nat × Nat) => ((s.tile p.1).queue p.2).isEmpty && (s.tile p.1).wantsQueue p.2).map fun p => ⟨p.1, e.1, none⟩)

/-- Whether a tile may stand on a deadlock's cycle: its probe raised and told, or no flit in any input queue. -/
def State.waitNode (s : State) (n t : Nat) : Bool :=
  (((s.slice n).probes.contains t) && (s.tile t).status.probe) || (s.tile t).iq.isEmpty

/-- A path along edges from tile a to tile b, searched breadth first over paths (newest tile first). -/
def findPath (es : List WaitEdge) (b : Nat) : Nat → List (List Nat) → List Nat → Option (List Nat)
  | 0, _, _ => none
  | _ + 1, [], _ => none
  | m + 1, p :: ps, seen =>
    match p with
    | [] => findPath es b m ps seen
    | t :: _ =>
      if t = b then some p.reverse
      else
        let next := ((es.filter fun e => e.waits = t && !(seen.contains e.for_)).map (·.for_)).eraseDups
        findPath es b m (ps ++ next.map fun u => u :: p) (seen ++ next)

/-- The credit edges that lie on a cycle of the wait graph, each with its cycle from the full queue's tile on (R245). -/
def State.deadlocks (s : State) (n : Nat) : List (WaitEdge × List Nat) :=
  let es := (s.waitEdges n).filter fun e => s.waitNode n e.waits && s.waitNode n e.for_
  (es.filter fun e => e.queue.isSome).filterMap fun e =>
    (findPath es e.waits (es.length + 2) [[e.for_]] [e.for_]).map fun p => (e, p)

/-! ### Probes (R244) -/

/-- PROBE (R244): the ensign complex takes the PROBE pennant that tells of tile t. -/
def execProbe (t : TileIx) (s : State) : Host.Outcome State Fault Refusal :=
  match s.takePennant (clusterOf t) ensignNode fun p => p.code = 6 && p.byte 0 % 64 = localTile t with
  | (none, q) => .next q
  | (some p, q) => match q.sliceOf (cantonOf t) with
    | none => .next q
    | some n =>
      let x := q.slice n
      let others := x.probes.filter fun u => u ≠ t.val
      .next (q.setSlice n { x with probes := if p.byte 0 < 128 then others else others ++ [t.val] })

/-! ### The pool (R247, R248) -/

/-- The entries of a cluster's pool. -/
def Cluster.poolSize (x : Cluster) : Nat := x.spillKib.toNat * 16
/-- The entries in use. -/
def Cluster.poolUsed (x : Cluster) : Nat := (x.spillQs.map fun q => q.slots.length).sum
/-- The lowest free entry. -/
def Cluster.poolFree (x : Cluster) : Option Nat :=
  (List.range x.poolSize).find? fun i => !(x.spillQs.any fun q => q.slots.contains i)
/-- The address of an entry of cluster k's pool. -/
def Cluster.poolAddr (x : Cluster) (k i : Nat) : Nat := clusterBase k + 0x180000 - x.spillKib.toNat * 1024 + 64 * i

/-- A pool entry's 64 bytes (R248). -/
def poolEntry (f : Flit) (l q : Nat) (seq : W32) : List Byte :=
  padTo 64 (f.bytes ++ leBytes 2 f.sideband.toNat ++ [BitVec.ofNat 8 l, BitVec.ofNat 8 q] ++ leBytes 4 seq.toNat)

/-- The flit of a pool entry. -/
def poolFlit (b : List Byte) : Flit :=
  let w := leAt 32 2 b
  { payload := payloadOf (b.take 32), kind := BitVec.ofNat 2 (w / 512), eot := w.testBit 8, epoch := BitVec.ofNat 4 (w / 16)
    poison := w.testBit 3, tag := BitVec.ofNat 3 w }

/-- The diagnosis of R249. -/
def State.diagnosis (s : State) (n kind k : Nat) : List Byte :=
  let x := s.cluster k
  let ts := (s.slice n).cycle.take 30
  let mask (p : Nat → Bool) (m : Nat) : Nat := (List.range m).foldl (fun a i => a + b2n (p i) * 2 ^ i) 0
  padTo 256 ([BitVec.ofNat 8 kind, BitVec.ofNat 8 ts.length] ++ leBytes 2 k ++ leBytes 2 x.poolUsed ++ leBytes 2 x.poolSize ++
    [BitVec.ofNat 8 x.spillQs.length, (s.slice n).cur.zeroExtend 8] ++ leBytes 6 0 ++
    ts.flatMap fun t =>
      let y := s.tile t
      leBytes 4 t ++ [BitVec.ofNat 8 (mask (fun q => (y.queue q).length = 16) 5), BitVec.ofNat 8 (mask (fun q => (y.queue q).isEmpty) 5),
        BitVec.ofNat 8 (mask (fun o => y.credit o = 0) 4), BitVec.ofNat 8 (mask (fun q => ((s.cluster (clusterOf t)).spillOf t q).isSome) 5)])

/-- A spill error or an unresolvable deadlock stops slice n (R246, R248, R249, R492): its record with the diagnosis, and the
status that the RUN completion carries. -/
def State.spillStop (s : State) (n k kind : Nat) (cls : W16) (status : Byte) (r : Rec) : State :=
  let r := stopRec { r with cls := cls, block := 8, slice := BitVec.ofNat 8 n, capture := some (s.diagnosis n kind k) }
  let s := s.setSlice n { s.slice n with stopStatus := status }
  (s.report (cantonSrc (cantonOfCluster k)) (onCluster k r)).stopSlice n none

/-- Whether the sequencers of canton c move flits into and out of pools: QUIESCE STOP has not stopped them (R255 step 2). -/
def State.spillMoves (s : State) (c : Nat) : Bool := !((s.canton c).watch = .stopping || (s.canton c).watch = .stopped)

/-- SPILL_TO_POOL (R247 item 2): the oldest flit delivered into a spilling queue moves to a free entry, and its hop credit
returns upstream. With no free entry the move waits (R249). -/
def execSpillToPool (t : TileIx) (q : Fin 5) (s : State) : Host.Outcome State Fault Refusal :=
  let k := clusterOf t
  let x := s.cluster k
  let y := s.tile t
  match x.spillOf t q with
  | none => .next s
  | some z =>
    match (if s.spillMoves (cantonOf t) then (y.queue q).drop z.kept else []), x.poolFree with
    | f :: fs, some i =>
      let s := s.updMem (·.putRow (x.poolAddr k i) (poolEntry f (localTile t) q z.seqIn) 0)
      let s := s.setTile t { y with iq := SMap.put [] y.iq q ((y.queue q).take z.kept ++ fs) }
      let x := x.setSpill { z with slots := z.slots ++ [i], seqIn := z.seqIn + 1 }
      let s := s.setCluster k { x with spillPeak := BitVec.ofNat 14 (max x.spillPeak.toNat x.poolUsed) }
      let s := s.pendMore t q (4 + q) 0
      .next ((s.clusterEvent k 0x0A 1).finc fCanDlCntSpilled (cantonOf t))
    | _, _ => .next s

/-- SPILL_REINJECT (R247 items 3 to 5, R248): for a pop of the tile, the oldest pool flit of the queue stands ahead of every
flit that arrived during the spill. A wrong identity stops the slice; a parity error poisons the flit. -/
def execSpillReinject (t : TileIx) (q : Fin 5) (s : State) : Host.Outcome State Fault Refusal :=
  let k := clusterOf t
  let x := s.cluster k
  match x.spillOf t q with
  | none => .next s
  | some z =>
    match z.slots with
    | [] => .next s
    | i :: is =>
      if z.owed = 0 || !(s.spillMoves (cantonOf t)) then .next s
      else
        let a := x.poolAddr k i
        let r := s.parityWords (whoEngine k) a (List.range 8)
        let s := r.2
        let b := s.mem.bytes a 64
        if leAt 34 1 b ≠ localTile t || leAt 35 1 b ≠ q.val || leAt 36 4 b ≠ z.seqOut.toNat then
          let s := s.setCluster k { s.cluster k with spillInteg := true }
          match s.sliceOf (cantonOf t) with
          | some n => .next (s.spillStop n k 2 0x14 0 (s.onTile t { cls := 0x14 }))
          | none => .next s
        else
          let f := poolFlit b
          let f := if r.1 then { f with poison := true } else f
          let y := s.tile t
          let s := s.setTile t { y with iq := SMap.put [] y.iq q ((y.queue q).take z.kept ++ f :: (y.queue q).drop z.kept) }
          let s := s.setCluster k ((s.cluster k).setSpill { z with slots := is, seqOut := z.seqOut + 1, owed := z.owed - 1, kept := z.kept + 1 })
          .next ((s.clusterEvent k 0x0B 1).spillEnd t q)

/-- SPILL_EXHAUSTED (R249): a flit waits for an entry and none has been freed for 65,536 cycles. -/
def execSpillExhausted (k : ClusterIx) (s : State) : Host.Outcome State Fault Refusal :=
  let x := s.cluster k
  let waits := x.spillQs.any fun z => decide (z.kept < ((s.tile z.tile).queue z.queue).length)
  match s.sliceOf (cantonOfCluster k) with
  | none => .next s
  | some n =>
    if !waits || x.poolFree.isSome then .next s
    else
      let s := s.setCluster k { x with spillExh := true }
      let s := s.setSlice n { s.slice n with spillExh := true }
      .next (s.spillStop n k 1 0x15 0x08 { cls := 0x15 })

/-! ### Confirmation (R245, R246) -/

/-- The credit edge whose full queue is chosen: lowest tile, then lowest queue, a spilling queue passed over (R246). -/
def State.chooseSpill (s : State) (ds : List (WaitEdge × List Nat)) : Option (Nat × Nat × List Nat) :=
  let cands := ds.filterMap fun d => d.1.queue.map fun q => (d.1.for_, q, d.2)
  let free := cands.filter fun c => ((s.cluster (clusterOf c.1)).spillOf c.1 c.2.1).isNone
  free.foldl (fun best c => match best with
    | none => some c
    | some b => if c.1 < b.1 || (c.1 = b.1 && c.2.1 < b.2.1) then some c else best) none

/-- DEADLOCK_CONFIRM (R245, R246): the ensign complex reads the tiles of slice n's cycles again; a confirmed deadlock spills
one queue, or stops the slice. -/
def execDeadlockConfirm (n : SliceIx) (s : State) : Host.Outcome State Fault Refusal :=
  let x := s.slice n
  let ds := s.deadlocks n
  match ds with
  | [] => .next s
  | d :: _ =>
    if !x.loaded || x.phase = 6 then .next s
    else
      let s := s.setSlice n { x with deadlockSeen := true, cycle := d.2 }
      let stop (s : State) : State := s.spillStop n (clusterOf (d.2.headD 0)) 3 0x16 0x07 { cls := 0x16 }
      if x.flags.getLsbD 1 then .next (stop s)
      else match s.chooseSpill ds with
        | none => .next (stop s)
        | some (t, q, path) =>
          let k := clusterOf t
          let c := s.cluster k
          let s := s.setSlice n { s.slice n with cycle := path }
          if 16 ≤ c.spillQs.length then .next (s.spillStop n k 3 0x16 0x07 { cls := 0x16 })
          else
            let z : SpillQ := { tile := Fin.ofNat 230400 t, queue := Fin.ofNat 5 q, kept := ((s.tile t).queue q).length }
            let s := s.setCluster k { c with spillQs := c.spillQs ++ [z] }
            let s := s.setSlice n { s.slice n with spills := satInc (s.slice n).spills }
            .next (s.finc fCanDlCntSpillAct (cantonOf t))

end Sys2Proof.Machine
end

