-- ==== Sys2Proof/Machine/Registers.lean ====
section
/-! DEFINITION. Reads and writes of the BAR0 registers (R9, R10, R35, R257, R259, R290, R291, R320, R342, R345, R352,
R365, R394 to R396, R418, R454, R471 to R473). -/
namespace Sys2Proof.Machine

/-- A word of fields given as (lowest bit, value). -/
def packW (fs : List (Nat × Nat)) : W64 := BitVec.ofNat 64 (fs.foldl (fun n (p : Nat × Nat) => n + p.2 * 2 ^ p.1) 0)

/-- The bits of a mask. -/
def maskOf (n : Nat) : W64 := BitVec.ofNat 64 n

/-- Replace the bits of a mask in a word. -/
def mergeW (old mask v : W64) : W64 := (old &&& ~~~mask) ||| (v &&& mask)

/-! ### Reads -/

/-- GLB_SLICE_GEOMn. -/
def Slice.geomWord (x : Slice) : W64 :=
  packW [(28, x.ch.toNat), (24, x.cw.toNat), (20, x.cy0.toNat), (16, x.cx0.toNat), (8, x.cw.toNat * x.ch.toNat),
         (0, b2n x.loaded)]

/-- GLB_SLICE_STATn. -/
def Slice.statWord (x : Slice) : W64 :=
  packW [(48, x.clean.toNat), (32, x.spills.toNat), (20, x.next.toNat), (16, x.cur.toNat), (8, x.phase.toNat),
         (4, x.mode.toNat), (3, b2n x.spillExh), (2, b2n x.deadlockSeen), (1, b2n x.epochErr)]

/-- The GLB registers that are composed (R25, R35, R257, R344). -/
def State.readGlb (s : State) (off : Nat) : W64 :=
  if off = 0 then s.reg 0 ||| packW [(40, s.mgmt.stepping.toNat)]
  else if off = 0x08 then s.mgmt.serial
  else if off = 0x100 then 0x0000020404000840#64
  else if off = 0x108 then 0x0000101020181040#64
  else if off = 0x110 then 0x0100200013240080#64
  else if off = 0x118 then 0x1014280268680A0A#64
  else if off = 0x208 then
    let w := s.fget fGlbTpSelWord
    if w < 3600 then SMap.get 0 s.present w else 0
  else if 0x400 ≤ off && off < 0x500 then
    let x := s.slice ((off - 0x400) / 16)
    if off % 16 = 0 then x.geomWord else x.statWord
  else s.reg off

/-- HIF_RING_CFG of a ring. -/
def Ring.cfgWord (x : Ring) : W64 :=
  packW [(48, x.irqTime.toNat), (40, x.irqCount.toNat), (24, x.vector.toNat), (16, x.weight.toNat), (8, x.log2.toNat),
         (1, b2n x.reset), (0, b2n x.enable)]

/-- The HIF registers that are composed (R351, R365). -/
def State.readHif (s : State) (off : Nat) : W64 :=
  let x := s.ring (s.fget fHifRingSelRing)
  if off = 0x10028 then packW [(6, x.sqb.toNat)]
  else if off = 0x10030 then packW [(6, x.cqb.toNat)]
  else if off = 0x10038 then x.cfgWord
  else if off = 0x10040 then packW [(8, x.cause.toNat), (0, x.state.toNat)]
  else if off = 0x10048 then packW [(32, x.sqTail.toNat), (0, x.sqFetch.toNat)]
  else if off = 0x10050 then packW [(32, x.cqHead.toNat), (0, x.cqProd.toNat)]
  else if 0x14000 ≤ off && off < 0x14100 then
    packW ((List.range 64).map fun i => (i, b2n (SMap.get false s.host.pba ((off - 0x14000) * 8 + i))))
  else if 0x18000 ≤ off && off < 0x20000 then
    let i := (off - 0x18000) / 4
    s.host.msixWord (i + 1) ++ s.host.msixWord i
  else s.reg off

/-- The selected cluster of canton c, where the selection names one (R290). -/
def State.cluSel (s : State) (c : Nat) : Option Nat :=
  let l := s.fget fCanCluSelCluster c
  if l < 48 then some (clusterAt c l) else none

/-- CAN_CLU_CFG to CAN_DMAQ_STAT for the selected units, at window offset o (R290). -/
def State.readClu (s : State) (c o : Nat) : W64 :=
  match s.cluSel c with
  | none => 0
  | some k =>
    let x := s.cluster k
    let p := SMap.get {} x.pf (s.fget fCanCluSelPf c)
    let q := SMap.get {} x.dmaq (s.fget fCanCluSelDmaq c)
    if o = 0x8308 then packW [(16, x.classW.toNat), (8, x.cacheBanks.toNat)]
    else if o = 0x8310 then
      packW [(48, x.lastJob.toNat), (44, x.owner.toNat), (43, b2n x.owned), (42, b2n x.dirty), (41, b2n x.scrubbing),
             (40, b2n x.reencoding), (24, x.spareMax.toNat), (0, x.bankFail.toNat)]
    else if o = 0x8318 then packW [(32, x.hits.toNat), (0, x.misses.toNat)]
    else if o = 0x8320 then packW [(48, x.corr.toNat), (32, x.parity.toNat), (16, x.uncorr.toNat), (0, x.isolation.toNat)]
    else if o = 0x8328 then packW [(6, p.base.toNat)]
    else if o = 0x8330 then packW [(48, p.outerM1.toNat), (32, p.innerM1.toNat), (0, p.rowsM1.toNat)]
    else if o = 0x8338 then packW [(32, p.outerStride.toNat), (0, p.innerStride.toNat)]
    else if o = 0x8340 then packW [(16, p.depth.toNat), (2, b2n p.wrap), (1, b2n p.trigger), (0, b2n p.enable)]
    else if o = 0x8348 then
      packW [(53, p.out), (49, b2n p.done), (48, b2n p.err), (32, p.evict.toNat), (16, p.ocur.toNat), (0, p.icur.toNat)]
    else if o = 0x8350 then
      packW [(32, q.doneCount.toNat), (16, min q.entries.length 16), (8, q.lastErr.toNat), (0, b2n (!q.entries.isEmpty))]
    else 0

/-- CAN_SPILL_STAT (R259). -/
def State.readSpill (s : State) (c : Nat) : W64 :=
  let l := s.fget fCanSpillSelCluster c
  if l < 48 then
    let x := s.cluster (clusterAt c l)
    packW [(36, x.spillKib.toNat * 16), (22, x.spillPeak.toNat), (8, x.poolUsed), (3, x.spillQs.length),
           (2, b2n x.spillInteg), (1, b2n x.spillExh), (0, b2n x.spillOn)]
  else 0

/-- BAY_REGION of the selected region (R291). -/
def Region.word (r : Region) : W64 :=
  packW [(48, r.lastJob.toNat), (44, r.owner.toNat), (43, b2n r.owned), (42, b2n r.dirty), (41, b2n r.scrubbing),
         (40, b2n r.reencoding), (1, b2n r.cache), (0, b2n r.classW)]

/-- The registers of canton c's window (R209, R259, R290, R291, R396). -/
def State.readCan (s : State) (c off : Nat) : W64 :=
  let o := off % 0x10000
  if o = 0x8018 then
    let d := s.fget fCanMeshWptAddrDst c
    if d < 4800 then packW [(32, (s.canton c).wptGen.toNat), (0, (SMap.get 0 (s.canton c).wpt d).toNat)] else 0
  else if o = 0x8208 then s.readSpill c
  else if 0x8308 ≤ o && o < 0x8360 then s.readClu c o
  else if 0x8400 ≤ o && o < 0x8430 && !(hasBay c) then 0
  else if o = 0x8428 then (s.region (bayOfCanton c) (s.fget fBayRegionSelRegion c)).word
  else if o = 0x8508 then mergeW (s.reg off) (maskOf 0xFFFFFFFF00000000) (packW [(32, s.downUs c)])
  else s.reg off

/-- The key of the counter that CNT_SEL names, where there is one (R473). -/
def State.cntKey (s : State) : Option Nat :=
  let i := s.fget fCntSelInstance
  let k := s.fget fCntSelCtr
  match s.fget fCntSelLevel with
  | 0 => if i < 4800 && k < 8 && s.online (cantonOfCluster i) then some (8 * i + k) else none
  | 1 => if i < 100 && k < 8 && s.online i then some (40000 + 8 * i + k) else none
  | 2 => if i < 20 && s.portOn i then some (50000 + 16 * i + k) else none
  | _ => none

/-- Counter k of R465. -/
def State.counter (s : State) (k : Nat) : Counter := SMap.get {} s.mgmt.counters k
/-- Replace a counter. -/
def State.setCounter (s : State) (k : Nat) (x : Counter) : State :=
  s.updMgmt fun m => { m with counters := SMap.put {} m.counters k x }

/-- Generation of the ledger half in use (R438). -/
def Ledger.gen (l : Ledger) : Nat := l.a.foldl (fun n e => if e.kind = 8 then max n e.aux.toNat else n) 0

/-- MGT_SENS_DATA for canton c (R468). -/
def Canton.sensWord (x : Canton) : W64 :=
  packW [(48, x.temp.toNat), (32, x.bayTemp.toNat), (16, x.vcore.toNat), (0, x.icore.toNat)]

/-- MGT_MOD_SENS (R468). -/
def ModSens.word (x : ModSens) : W64 :=
  packW [(48, x.vin.toNat), (32, x.iin.toNat), (16, x.inlet.toNat), (0, x.outlet.toNat)]

/-- The control-plane registers that are composed. -/
def State.readPlane (s : State) (off : Nat) : W64 :=
  let l := s.err.ledger
  if off = 0x20020 then BitVec.ofNat 64 s.engineNs
  else if off = 0x20028 then s.refcyc
  else if off = 0x40008 then
    let c := s.fget fFusSelCanton
    let ws := SMap.get [] (if s.fbit fFusSelSrc then s.mgmt.fuseCopy else s.mgmt.fuseLoaded) c
    if c < 100 then packW [(32, b2n (blockOk c ws)), (0, (ws.getD (s.fget fFusSelWord) 0).toNat)] else 0
  else if off = 0x50030 then
    packW [(48, l.boots % 2 ^ 16), (40, l.gen % 256), (32, l.a.length * 100 / 131072), (0, l.a.length)]
  else if off = 0x50038 then s.err.powered
  else if off = 0x60010 then packW [(24, s.host.txn.failCanton.toNat), (0, s.host.txn.failOff.toNat)]
  else if off = 0x70020 then
    let c := s.fget fMgtSensSelCanton
    if c < 100 then (s.canton c).sensWord else 0
  else if off = 0x70028 then s.mgmt.sens.word
  else if off = 0x70040 then SMap.get 0 s.mgmt.page (s.fget fMgtFlashCmdBufIdx)
  else if off = 0x80008 then
    match s.cntKey with
    | some k => packW [(8, b2n (s.counter k).wrapped), (0, (s.counter k).source.toNat)]
    | none => 0
  else if off = 0x80010 then
    match s.cntKey with
    | some k => (s.counter k).count.zeroExtend 64
    | none => 0
  else if off = 0x80018 then packW [(0, b2n s.mgmt.freeze)]
  else s.reg off

/-- Whether the flash interface's clock is stopped for a register of it (R394): a bit cleared while a command runs takes
effect when the command ends. -/
def State.flashGated (s : State) (off : Nat) : Bool :=
  0x70038 ≤ off && off < 0x70050 && !(s.fbit fMgtClkEnFlash) && !(s.fbit fMgtFlashCmdBusy)

/-- A 64-bit register as a read returns it, at an offset that is a multiple of 8 (R9, R345, R394). -/
def State.readReg (s : State) (off : Nat) : W64 :=
  if s.gated off || !(s.windowUp off) || s.flashGated off then 0
  else match portAt off, cantonAt off with
    | some p, _ => if off % 0x10000 = 0x18 then (SMap.get 0 s.mgmt.macs p).zeroExtend 64 else s.reg off
    | _, some c => s.readCan c off
    | _, _ => if off < 0x10000 then s.readGlb off else if off < 0x20000 then s.readHif off else s.readPlane off

/-- An access to word BUF_IDX of the page buffer is over: BUF_IDX advances (R471). -/
def State.bufStep (s : State) : State := s.fset fMgtFlashCmdBufIdx ((s.fget fMgtFlashCmdBufIdx + 1) % 32)

/-! ### Rings (R351, R352, R366) -/

/-- A ring stops (R351): it leaves its state, descriptors not started complete with ABORTED, and it is disabled once no
started one is left. rst: RESET is written, and reads 1 until then. -/
def State.ringStop (s : State) (r : Nat) (rst : Bool) : State :=
  let x := s.ring r
  if x.state = 0 then s.setRing r { x with enable := false }
  else
    let s := s.setRing r { x with enable := false, state := 2, cause := 0, reset := x.reset || rst }
    let s := if x.state = 1 then s.ringLeaves r else s
    let s := s.completeAll (s.host.descs.filter fun d => d.ring.val = r && !d.started) { status := 0x11 }
    if s.host.descs.any fun d => d.ring.val = r then s else s.setRing r { s.ring r with state := 0, reset := false }

/-- A ring is enabled (R351): its counters become 0, and a bad LOG2_ENTRIES puts it in ERROR. -/
def State.ringStart (s : State) (r : Nat) : State :=
  let x := { s.ring r with enable := true, sqTail := 0, sqFetch := 0, cqProd := 0, cqHead := 0, unsignalled := 0, cause := 0 }
  if 4 ≤ x.log2.toNat && x.log2.toNat ≤ 16 then s.setRing r { x with state := 1 }
  else (s.setRing r { x with state := 1 }).ringError r 4

/-- The fields of HIF_RING_CFG other than ENABLE and RESET, which a disabled ring takes. -/
def Ring.withCfg (x : Ring) (v : W64) : Ring :=
  let w := v.toNat
  { x with irqTime := BitVec.ofNat 16 (fld w 48 16), irqCount := BitVec.ofNat 8 (fld w 40 8),
           vector := BitVec.ofNat 11 (fld w 24 11), weight := BitVec.ofNat 4 (fld w 16 4), log2 := BitVec.ofNat 5 (fld w 8 5) }

/-- A write of HIF_RING_CFG of ring r. -/
def State.ringCfg (s : State) (r : Nat) (mask v : W64) : State :=
  let x := s.ring r
  let w := mergeW x.cfgWord mask v
  let s := if x.state = 0 then s.setRing r (x.withCfg w) else s
  if v.getLsbD 1 && mask.getLsbD 1 then s.ringStop r true
  else if x.enable && !(w.getLsbD 0) then s.ringStop r false
  else if !x.enable && w.getLsbD 0 then s.ringStart r
  else s

/-! ### The error ring (R435, R454) -/

/-- Disable the error ring with RING_ERR. -/
def State.errRingOff (s : State) : State := (s.fset fErrRingCfgEnable 0).fset fErrStatRingErr 1

/-- A write of ERR_RING_CFG: ENABLE from 0 to 1 zeroes the counters, or sets RING_ERR for a bad LOG2_ENTRIES. -/
def State.errRingCfg (s : State) (mask v : W64) : State :=
  let was := s.fbit fErrRingCfgEnable
  let s := s.setReg 0x50008 (mergeW (s.reg 0x50008) (mask &&& maskOf 0x7FF010F01) v)
  if was || !(s.fbit fErrRingCfgEnable) then s
  else
    let k := s.fget fErrRingCfgLog2Entries
    if 4 ≤ k && k ≤ 12 then { s.setReg 0x50010 0 with err := { s.err with unsignalled := 0 } }
    else s.errRingOff

/-- A write of ERR_RING_PTR.HEAD (R435): the host consumes records up to it. A head in range lies from HEAD to PROD. -/
def State.errRingHead (s : State) (h : Nat) : State :=
  let prod := s.fget fErrRingPtrProd
  if 2 ^ s.fget fErrRingCfgLog2Entries < modSub 32 prod h then (if s.fbit fErrRingCfgEnable then s.errRingOff else s)
  else s.fset fErrRingPtrHead h

/-! ### Writes -/

/-- Write the RW, W1C and WS bits of a mask in a register that is held as a word (R10). -/
def State.putBits (s : State) (off : Nat) (mask v : W64) : State :=
  let q := regSpec off
  let w := mergeW (s.reg off) (mask &&& maskOf q.rw) v
  s.setReg off ((w &&& ~~~(v &&& mask &&& maskOf q.w1c)) ||| (v &&& mask &&& maskOf q.ws))

/-- A write of the ring registers and the MSI-X table (R351, R365). -/
def State.writeHif (s : State) (off : Nat) (mask v : W64) : State :=
  let r := s.fget fHifRingSelRing
  let x := s.ring r
  if off = 0x10028 then
    if x.state = 0 then s.setRing r { x with sqb := BitVec.ofNat 58 ((mergeW (packW [(6, x.sqb.toNat)]) mask v).toNat / 64) } else s
  else if off = 0x10030 then
    if x.state = 0 then s.setRing r { x with cqb := BitVec.ofNat 58 ((mergeW (packW [(6, x.cqb.toNat)]) mask v).toNat / 64) } else s
  else if off = 0x10038 then s.ringCfg r mask v
  else if 0x18000 ≤ off && off < 0x20000 then
    let i := (off - 0x18000) / 4
    let put (h : HostIf) (j : Nat) (w : W32) : HostIf :=
      { h with msix := SMap.put (if j % 4 = 3 then 1 else 0) h.msix j w }
    let w := mergeW (s.host.msixWord (i + 1) ++ s.host.msixWord i) mask v
    s.updHost fun h => (put (put h i (BitVec.ofNat 32 w.toNat)) (i + 1) (BitVec.ofNat 32 (w.toNat / 2 ^ 32))).unmask
  else s.putBits off mask v

/-- The prefetcher's descriptor registers (R279, R290). -/
def Prefetcher.write (p : Prefetcher) (o : Nat) (w : Nat) : Prefetcher :=
  if o = 0x8328 then { p with base := BitVec.ofNat 42 (w / 64) }
  else if o = 0x8330 then
    { p with outerM1 := BitVec.ofNat 16 (fld w 48 16), innerM1 := BitVec.ofNat 16 (fld w 32 16), rowsM1 := BitVec.ofNat 6 w }
  else if o = 0x8338 then { p with outerStride := BitVec.ofNat 32 (fld w 32 32), innerStride := BitVec.ofNat 32 w }
  else { p with depth := BitVec.ofNat 11 (fld w 16 11), wrap := w.testBit 2, trigger := w.testBit 1, enable := w.testBit 0, err := false }

/-- A write of the CAN_CLU group for the selected units (R290). -/
def State.writeClu (s : State) (c o : Nat) (mask v : W64) : State :=
  match s.cluSel c with
  | none => s
  | some k =>
    let x := s.cluster k
    let w := (mergeW (s.readClu c o) mask v).toNat
    let i := s.fget fCanCluSelPf c
    let p := SMap.get {} x.pf i
    let n := s.fget fCanCluSelDmaq c
    let q := SMap.get {} x.dmaq n
    let f16 (lo : Nat) : W16 := BitVec.ofNat 16 (fld w lo 16)
    if o = 0x8308 then s.setCluCfg (Fin.ofNat 4800 k) (BitVec.ofNat 24 (fld w 16 24)) (BitVec.ofNat 5 (fld w 8 5))
    else if o = 0x8318 then s.setCluster k { x with hits := BitVec.ofNat 32 (fld w 32 32), misses := BitVec.ofNat 32 w }
    else if o = 0x8320 then s.setCluster k { x with corr := f16 48, parity := f16 32, uncorr := f16 16, isolation := f16 0 }
    else if 0x8328 ≤ o && o ≤ 0x8340 then
      if x.owned || (o = 0x8340 && !(mask.getLsbD 0)) then s else s.setCluster k (x.setPf i (p.write o w))
    else if o = 0x8348 then s.setCluster k (x.setPf i { p with evict := f16 32 })
    else if o = 0x8350 then
      s.setCluster k { x with dmaq := SMap.put {} x.dmaq n { q with doneCount := BitVec.ofNat 32 (fld w 32 32) } }
    else s

/-- A write of CAN_SPILL_STAT (R259). -/
def State.writeSpill (s : State) (c : Nat) (mask v : W64) : State :=
  let l := s.fget fCanSpillSelCluster c
  if 48 ≤ l then s
  else
    let k := clusterAt c l
    let x := s.cluster k
    let w := (mergeW (s.readSpill c) mask v).toNat
    let clears (i : Nat) : Bool := mask.getLsbD i && v.getLsbD i
    s.setCluster k { x with spillPeak := BitVec.ofNat 14 (fld w 22 14), spillInteg := x.spillInteg && !(clears 2),
                            spillExh := x.spillExh && !(clears 1) }

/-- A write of canton c's window. CAN_CLK_CTRL.REJOIN starts the command REJOIN. -/
def State.writeCan (s : State) (c off : Nat) (mask v : W64) : State :=
  let o := off % 0x10000
  if o = 0x8208 then s.writeSpill c mask v
  else if 0x8308 ≤ o && o < 0x8360 then s.writeClu c o mask v
  else if 0x8400 ≤ o && o < 0x8430 && !(hasBay c) then s
  else if o = 0x8410 then (s.putBits off mask v).askRetrain c (v &&& mask &&& maskOf 0xFFFFFFFF).toNat
  else if o = 0x8428 then
    let b := bayOfCanton c
    let n := s.fget fBayRegionSelRegion c
    if !(mask.getLsbD 0) then s
    else
      let s := s.setRegionClass (Fin.ofNat 40 b) (Fin.ofNat 128 n) (v.getLsbD 0)
      s.setRegion b n { s.region b n with cache := v.getLsbD 1 }
  else if o = 0x8500 then s.putBits off (mask &&& maskOf 3) v
  else if o = 0x8508 then
    let w := s.putBits off mask v
    if mask.getLsbD 32 then w.setCanton c { w.canton c with downSince := (s.canton c).downSince.map fun _ => s.engineNs } else w
  else s.putBits off mask v

/-- A write of port p's window: its RW, W1C and WS fields. -/
def State.writePort (s : State) (p off : Nat) (mask v : W64) : State :=
  if off % 0x10000 = 0 then
    let t := s.putBits off (mask &&& maskOf 4) v
    if mask.getLsbD 1 && v.getLsbD 1 then t.retrain p else t
  else s.putBits off mask v

/-- PRT_CLK_EN (R320): a port with LINK_EN or an enabled update engine keeps its clock. The timing port candidate of a
port that loses its clock is lost, but for p0 (R377). -/
def State.writeClkEn (s : State) (mask v : W64) : State :=
  let keep := (List.range 20).foldl (fun n p => if s.fbit fPrtLinkCtrlLinkEn p || s.fbit fPrtUeCtrlEn p then n + 2 ^ p else n) 0
  let t := s.setReg 0x3F0000 (mergeW (s.reg 0x3F0000) (mask &&& maskOf 0xFFFFF) (v ||| (maskOf keep &&& s.reg 0x3F0000)))
  let p := s.fget fCkmTportPort
  if p ≠ 0 && (s.fget fPrtClkEnEn).testBit p && !((t.fget fPrtClkEnEn).testBit p) then t.tpLost p else t

/-- A write of PWR_CAP (R470): the cap in effect, and who wrote it. -/
def State.writeCap (s : State) (mask v : W64) (src : Nat) : State :=
  if mask.getLsbD 0 then (s.putBits 0x30010 mask v).fset fPwrStatCapSrc src else s

/-- A write of the selected counter (R465, R473): CNT_CFG or CNT_VAL. -/
def State.writeCnt (s : State) (off : Nat) (mask v : W64) : State :=
  match s.cntKey with
  | none => s
  | some k =>
    let x := s.counter k
    if off = 0x80008 then
      if mask.getLsbD 0 then s.setCounter k { x with source := BitVec.ofNat 8 v.toNat, wrapped := x.wrapped && !(v.getLsbD 8) } else s
    else s.setCounter k { x with count := BitVec.ofNat 48 (mergeW (x.count.zeroExtend 64) mask v).toNat }

/-- A write of the other control-plane registers. GO of CKM_REF_SEL, TXN_CTRL, MGT_FLASH_DATA,
MGT_FLASH_CMD.OP and CNT_CTRL.CLEAR start commands of their own. -/
def State.writePlane (s : State) (off : Nat) (mask v : W64) (src : Nat) : State :=
  if off = 0x20000 then s.putBits off (mask &&& maskOf 0x830) v
  else if off = 0x20010 then
    if s.active = 1 || s.fbit fCkmRefSelBusy then s
    else
      let t := s.putBits off mask v
      if t.reg off = s.reg off then t else t.loseReady 1
  else if off = 0x60000 || off = 0x70040 then s
  else if off = 0x30010 then s.writeCap mask v src
  else if off = 0x50000 then if s.fbit fErrRingCfgEnable then s else s.putBits off mask v
  else if off = 0x50008 then s.errRingCfg mask v
  else if off = 0x50010 then if mask.getLsbD 32 then s.errRingHead (v.toNat / 2 ^ 32) else s
  else if off = 0x70010 then s.putBits off (if src = 2 then mask else mask &&& maskOf 0xD) v
  else if off = 0x70048 then s.putBits off (mask &&& maskOf 0x1F00000000) v
  else if off = 0x80008 || off = 0x80010 then s.writeCnt off mask v
  else if off = 0x80018 then if mask.getLsbD 0 then s.updMgmt fun m => { m with freeze := v.getLsbD 0 } else s
  else if off = 0x3F0000 then s.writeClkEn mask v
  else s.putBits off mask v

/-- A write of GLB_SLICE_STATn: its W1C bits. -/
def State.writeSliceStat (s : State) (n : Nat) (mask v : W64) : State :=
  let x := s.slice n
  let clears (i : Nat) : Bool := mask.getLsbD i && v.getLsbD i
  s.setSlice n { x with deadlockSeen := x.deadlockSeen && !(clears 2), epochErr := x.epochErr && !(clears 1) }

/-- Write the fields of a register that act at once (R10), under a mask of the bits written; src is the writer as
CAP_SRC codes it. -/
def State.writeReg (s : State) (off : Nat) (mask v : W64) (src : Nat := 1) : State :=
  if s.gated off || !(s.windowUp off) || s.flashGated off then s
  else match portAt off, cantonAt off with
    | some p, _ => s.writePort p off mask v
    | _, some c => s.writeCan c off mask v
    | _, _ =>
      if 0x400 ≤ off && off < 0x500 then if off % 16 = 8 then s.writeSliceStat ((off - 0x400) / 16) mask v else s
      else if 0x10000 ≤ off && off < 0x20000 then s.writeHif off mask v
      else if off < 0x10000 then s.putBits off mask v
      else s.writePlane off mask v src

/-! ### Staging (R367) -/

/-- Stage one entry in the open transaction, or note that the stage is full. -/
def State.stage (s : State) (off : Nat) (mask v : W64) : State :=
  let t := s.host.txn
  let n := t.stage.length
  if n < 4096 then
    (s.updHost fun h => { h with txn := { t with stage := t.stage ++ [⟨off, mask, v⟩] } }).fset fTxnStatCount (n + 1)
  else s.fset fTxnStatOverflow 1

/-- A write to TX fields from BAR0: staged in the transaction that TXN_CTRL opened, else dropped (R367). A gated port drops
the write without a flag (R320); a transaction that names its registers holds the entry, and rolls back (R412). -/
def State.stageBar (s : State) (off : Nat) (mask v : W64) : State :=
  if mask = 0 then s
  else if s.txnState = 1 && !(s.fbit fTxnStatOwnerRing) then s.stage off mask v
  else if s.gated off then s
  else s.fset fTxnStatUnstagedSeen 1

/-- A write of n bytes at a BAR0 offset (R345, R367): what acts at once and what is staged. -/
def State.barWrite (s : State) (off n : Nat) (v : W64) : State :=
  if !s.host.decodes then s
  else if !((n = 4 || n = 8) && off % n = 0) then s.fset fHifStatSizeSeen 1
  else
    let o := off / 8 * 8
    let mask := if n = 8 then maskOf (2 ^ 64 - 1) else if off % 8 = 4 then maskOf 0xFFFFFFFF00000000 else maskOf 0xFFFFFFFF
    let w := if n = 8 || off % 8 = 0 then v else v <<< 32
    if s.gated o then s.stageBar o (maskOf (regSpec o).tx &&& mask) w
    else if !(s.windowUp o) then s.fset fHifStatOfflineSeen 1
    else
      let s := s.writeReg o mask w
      s.stageBar o (maskOf (regSpec o).tx &&& mask) w

/-- REGISTER_WRITE (R10, R345): a write of n bytes at a BAR0 offset. -/
def execRegisterWrite (off : BitVec 24) (n : Byte) (v : W64) (s : State) : Host.Outcome State Fault Refusal :=
  .next (s.barWrite off.toNat n.toNat v)

/-- STAGED_REG_WRITE (R367): a write of n bytes at the BAR0 offset of a register with TX fields. -/
def execStagedRegWrite (off : BitVec 24) (n : Byte) (v : W64) (s : State) : Host.Outcome State Fault Refusal :=
  .next (s.barWrite off.toNat n.toNat v)

/-- RING_ENABLE (R351): a write of HIF_RING_CFG with ENABLE = 1 for the selected ring. -/
def execRingEnable (v : W64) (s : State) : Host.Outcome State Fault Refusal :=
  .next (if s.host.decodes then s.ringCfg (s.fget fHifRingSelRing) (maskOf (2 ^ 64 - 1)) ((v ||| 1#64) &&& ~~~2#64) else s)

/-- RING_DISABLE (R351): ENABLE = 0 is written for the selected ring. -/
def execRingDisable (s : State) : Host.Outcome State Fault Refusal :=
  .next (if s.host.decodes then s.ringCfg (s.fget fHifRingSelRing) 3#64 0#64 else s)

/-- RING_RESET (R351): RESET is written for the selected ring. -/
def execRingReset (s : State) : Host.Outcome State Fault Refusal :=
  .next (if s.host.decodes then s.ringStop (s.fget fHifRingSelRing) true else s)

/-- ERR_RING_ENABLE (R454): a write of ERR_RING_CFG with ENABLE = 1. -/
def execErrRingEnable (v : W64) (s : State) : Host.Outcome State Fault Refusal :=
  .next (if s.host.decodes then s.errRingCfg (maskOf (2 ^ 64 - 1)) (v ||| 1#64) else s)

/-- ERR_RING_HEAD (R435): a write of ERR_RING_PTR.HEAD. -/
def execErrRingHead (v : W32) (s : State) : Host.Outcome State Fault Refusal :=
  .next (if s.host.decodes then s.errRingHead v.toNat else s)

end Sys2Proof.Machine
end

