-- ==== Sys2Proof/Machine/Host.lean ====
section
/-! DEFINITION. The host interface: transactions, descriptors without a unit of their own, the readback window, indirect
access, resets (R122, R123, R343, R347, R350, R354 to R370, R467). -/
namespace Sys2Proof.Machine

/-- Change the transaction. -/
def State.updTxn (s : State) (f : Txn → Txn) : State := s.updHost fun h => { h with txn := f h.txn }

/-! ### Opening, staging, aborting (R348, R366, R367) -/

/-- Whether a path owns the open transaction: TXN_CTRL (none) or a ring. -/
def State.ownsTxn (s : State) (r : Option RingIx) : Bool :=
  s.txnState = 1 &&
  (match r with
    | none => !(s.fbit fTxnStatOwnerRing)
    | some r => s.txnOwnedBy r.val)

/-- A path is refused (R366): FOREIGN_SEEN for TXN_CTRL where another path's transaction stands in its way. -/
def State.foreign (s : State) : State := if s.txnState = 1 || s.txnState = 2 then s.fset fTxnStatForeignSeen 1 else s

/-- Open the transaction for a path. -/
def State.txnOpen (s : State) (r : Option RingIx) : State :=
  let s := s.updTxn fun _ => {}
  let s := ((s.fset fTxnStatState 1).fset fTxnStatTxnId (s.fget fTxnStatTxnId + 1)).fset fTxnStatCount 0
  let s := ((s.fset fTxnStatCause 0).fset fTxnStatOverflow 0).fset fTxnStatCantonLost 0
  match r with
  | none => s.fset fTxnStatOwnerRing 0
  | some r => (s.fset fTxnStatOwnerRing 1).fset fTxnStatRing r.val

/-- BEGIN by a path, with its answer: whether the transaction was opened. In FAULT it is refused with cause 6 (R348). -/
def State.txnBegin (s : State) (r : Option RingIx) : Bool × State :=
  if s.txnState = 1 || s.txnState = 2 then (false, s)
  else if s.engine = 8 then (false, s.fset fTxnStatCause 6)
  else (true, s.txnOpen r)

/-- The result of a TXN descriptor that was performed or refused. -/
def txnResult (ok : Bool) : Result := if ok then {} else { status := 0x0F }

/-- TXN_BEGIN (R366): by TXN_CTRL, or by the next descriptor of a ring. -/
def execTxnBegin (r : Option RingIx) (s : State) : Host.Outcome State Fault Refusal :=
  match r with
  | none =>
    if s.host.decodes then
      let q := s.txnBegin none
      .next (if q.1 then q.2 else q.2.foreign)
    else .next s
  | some i => .next (s.perform i.val (fun d => d.op = 0x10) fun d s =>
      let q := s.txnBegin r
      q.2.complete d (txnResult q.1))

/-- Stage one write of a TXN_WRITE (R367): the fields that act at once act, but not those of a gated port (R320), whose
entry makes the commit roll back (R412). -/
def State.txnStage (s : State) (off : Nat) (v : W64) : State :=
  (s.writeReg off (maskOf (2 ^ 64 - 1)) v).stage off (maskOf (regSpec off).tx) v

/-- TXN_WRITE (R357, R367). -/
def execTxnWrite (r : RingIx) (s : State) : Host.Outcome State Fault Refusal :=
  .next (s.perform r (fun d => d.op = 0x11) fun d s =>
    if s.ownsTxn (some r) then
      let s := (List.range (d.byte 3)).foldl (fun s i =>
        s.txnStage (d.fld (16 + 16 * i) 4) (BitVec.ofNat 64 (d.fld (24 + 16 * i) 8))) s
      s.complete d {}
    else s.complete d (txnResult false))

/-- TXN_ABORT (R366). -/
def execTxnAbort (r : Option RingIx) (s : State) : Host.Outcome State Fault Refusal :=
  match r with
  | none =>
    if !s.host.decodes then .next s
    else .next (if s.ownsTxn none then s.txnDrop else s.foreign)
  | some i => .next (s.perform i.val (fun d => d.op = 0x13) fun d s =>
      if s.ownsTxn r then s.txnDrop.complete d {} else s.complete d (txnResult false))

/-! ### Committing (R368 to R370) -/

/-- The outcome of a commit: STATE, the signal, and the commit's descriptor. -/
def State.txnEnd (s : State) (st status : Nat) : State :=
  let d := s.host.txn.desc
  let s := (s.fset fTxnStatState st).updTxn fun t => { t with stage := [], desc := none, asked := [], votes := [], apply := [], lost := [] }
  let s := s.txnSignal
  match d with
  | some d => s.complete d { status := status, r0 := (s.readReg 0x60008).toNat, r1 := (s.readReg 0x60010).toNat }
  | none => s

/-- Every canton discards its shadow entries. -/
def State.txnForget (s : State) : State :=
  s.host.txn.asked.foldl (fun s c => s.setCanton c { s.canton c with shadow := [] }) s

/-- The commit rolls back (R368 step 3b): CAUSE and TXN_FAIL. -/
def State.txnRollback (s : State) (cause canton off : Nat) : State :=
  let s := (s.txnForget.fset fTxnStatCause cause).updTxn fun t =>
    { t with failCanton := BitVec.ofNat 8 canton, failOff := BitVec.ofNat 24 off }
  s.txnEnd 4 0x10

/-- The first refused entry among the votes (R369): its canton, cause and index, lowest index first. -/
def Txn.refusedBy (t : Txn) : Option (Nat × Byte × W16) :=
  t.votes.foldl (fun b (p : Nat × Option (Bool × Byte × W16)) =>
    match p.2, b with
    | some (true, k, i), some (c, k', i') => if i < i' then some (p.1, k, i) else some (c, k', i')
    | some (true, k, i), none => some (p.1, k, i)
    | _, b => b) none

/-- Decide a commit once every canton asked has voted (R368 step 3): apply, or roll back for the first refused entry. -/
def State.txnDecide (s : State) : State :=
  let t := s.host.txn
  if !(t.asked.all fun c => (SMap.get none t.votes c).isSome) then s
  else match t.refusedBy with
    | some (c, k, i) => s.txnRollback k.toNat c ((t.stage.getD i.toNat ⟨0, 0, 0⟩).off)
    | none =>
      if t.asked.isEmpty then s.txnEnd 3 0
      else s.updTxn fun t => { t with apply := t.asked }

/-- The index in the stage of the first entry of canton c. -/
def Txn.firstOf (t : Txn) (c : Nat) : Nat := (t.stage.findIdx? fun e => entryCanton e.off = c).getD 0

/-- The low 8 bits of TXN_ID. -/
def State.txnTag (s : State) : Nat := s.fget fTxnStatTxnId % 256

/-- ARG of a TXN_STAGE pennant for canton c (R369). -/
def State.stageArg (s : State) (c : Nat) : Nat :=
  let t := s.host.txn
  s.txnTag + 2 ^ 8 * t.firstOf c + 2 ^ 24 * (t.stage.countP fun e => entryCanton e.off = c)

/-- ARG of a TXN_VOTE pennant (R369): of the first refused entry with its cause, or of a vote of 0. -/
def voteArg (tag : Nat) (refused : Option (Nat × Byte)) : Nat :=
  match refused with
  | none => tag + 2 ^ 8 * 0xFFFF
  | some (i, k) => tag + 2 ^ 8 * i + 2 ^ 40 + 2 ^ 48 * k.toNat

/-- Start a commit (R368 step 1): each canton of its entries is sent a TXN_STAGE pennant; one that is not joined, is powered
off, or is lost to the engine-wide tree (R225) can only refuse (cause 5). -/
def State.txnStart (s : State) (d : Option Desc) : State :=
  let t := s.host.txn
  let asked := (t.stage.foldl (fun m e => SMap.ins (entryCanton e.off) () m) []).map (·.1)
  let votes := (asked.filter fun c => !(s.reached c)).map fun c => (c, some (true, (5 : Byte), BitVec.ofNat 16 (t.firstOf c)))
  let s := (s.fset fTxnStatState 2).updTxn fun t => { t with desc := d, asked := asked, votes := votes }
  if s.engine = 8 then s.txnRollback 6 0xFF 0
  else if s.fbit fTxnStatOverflow then s.txnRollback 1 0xFF 0
  else
    ((asked.filter s.reached).foldl (fun s c => s.sendPennant ensignNode (controllerNode c) 4 (s.stageArg c)) s).txnDecide

/-- TXN_COMMIT (R366, R368). -/
def execTxnCommit (r : Option RingIx) (s : State) : Host.Outcome State Fault Refusal :=
  match r with
  | none =>
    if !s.host.decodes then .next s
    else .next (if s.ownsTxn none then s.txnStart none else s.foreign)
  | some i => .next (s.perform i.val (fun d => d.op = 0x12) fun d s =>
      if s.ownsTxn r then s.txnStart (some d) else s.complete d (txnResult false))

/-- The entries that a TXN_STAGE pennant gives canton c (R369): so many of its own, from an index of the stage on. -/
def Pennant.entries (p : Pennant) (es : List TxnEntry) (c : Nat) : List TxnEntry :=
  ((es.drop (fld p.arg 8 16)).filter fun e => entryCanton e.off = c).take (fld p.arg 24 16)

/-- TXN_STAGE (R368 step 2, R369): the oldest pennant that has arrived at canton c's controller. It takes its entries into
its shadows and votes; of a commit that is over it takes nothing. -/
def execTxnStage (c : CantonIx) (s : State) : Host.Outcome State Fault Refusal :=
  let q := s.takePennant ensignNode (controllerNode c) fun p => p.code = 4
  let s := q.2
  .next (match q.1 with
    | none => s
    | some p =>
      if s.txnState = 2 && p.byte 0 = s.txnTag && s.host.txn.apply.isEmpty then
        let es := s.host.txn.stage
        (s.setCanton c { s.canton c with
          shadow := (p.entries es c).map fun e => (e.off, e.mask.toNat, e.val.toNat) }).sendPennant
            (controllerNode c) ensignNode 5 (voteArg (p.byte 0) (s.voteOf es c))
      else s)

/-- The vote that a TXN_VOTE pennant carries (R369). -/
def Pennant.vote (p : Pennant) : Bool × Byte × W16 := (p.byte 5 = 1, BitVec.ofNat 8 (p.byte 6), BitVec.ofNat 16 (fld p.arg 8 16))

/-- TXN_VOTE (R369): canton c's vote reaches the ensign complex. -/
def execTxnVote (c : CantonIx) (s : State) : Host.Outcome State Fault Refusal :=
  let q := s.takePennant (controllerNode c) ensignNode fun p => p.code = 5
  let s := q.2
  .next (match q.1 with
    | none => s
    | some p =>
      let t := s.host.txn
      if s.txnState = 2 && p.byte 0 = s.txnTag && t.apply.isEmpty && t.asked.contains c.val then
        (s.updTxn fun t => { t with votes := SMap.put none t.votes c (some p.vote) }).txnDecide
      else s)

/-- TXN_VOTE_TIMEOUT (R368): a canton asked has not voted within 1 ms. -/
def execTxnVoteTimeout (s : State) : Host.Outcome State Fault Refusal :=
  let t := s.host.txn
  if s.txnState = 2 && t.apply.isEmpty then
    match t.refusedBy with
    | some (c, k, i) => .next (s.txnRollback k.toNat c ((t.stage.getD i.toNat ⟨0, 0, 0⟩).off))
    | none => .next (s.txnRollback 3 0xFF 0)
  else .next s

/-- TXN_APPLY (R5, R368 step 4): canton c applies its entries at the boundary between its slot 15 and its slot 0, and at no
other instant; a canton that the engine-wide tree does not reach is lost (R225). After the last canton STATE becomes
COMMITTED. -/
def execTxnApply (c : CantonIx) (s : State) : Host.Outcome State Fault Refusal :=
  let t := s.host.txn
  let up := s.reached c && !(t.lost.contains c.val)
  if !(t.apply.contains c.val) || (up && (s.canton c).slot ≠ 0) then .next s
  else
    let s := if up then s.applyCanton t.stage c else s.fset fTxnStatCantonLost 1
    let s := (s.setCanton c { s.canton c with shadow := [] }).updTxn fun t => { t with apply := t.apply.filter (· ≠ c.val) }
    .next (if s.host.txn.apply.isEmpty then s.txnEnd 3 0 else s)

/-! ### NOP, FENCE, QUERY (R356, R357) -/

/-- DESC_NOP (R356). -/
def execDescNop (r : RingIx) (s : State) : Host.Outcome State Fault Refusal :=
  .next (s.perform r (fun d => d.op = 0x00) fun d s => s.complete d {})

/-- FENCE (R356, R357): it starts, and completes once every earlier descriptor of its scope has. -/
def execFence (r : RingIx) (s : State) : Host.Outcome State Fault Refusal :=
  .next (s.perform r (fun d => d.op = 0x07) fun _ s => s.fences)

/-- The table of a QUERY (R357). -/
def State.queryTable (s : State) (what : Nat) : List Byte :=
  match what with
  | 0 => bytesOf ((List.range 3600).map fun w => SMap.get 0 s.present w)
  | 1 => bytesOf ((List.range 16).flatMap fun n => [(s.slice n).geomWord, (s.slice n).statWord])
  | _ => bytesOf ([0x0, 0x8, 0x100, 0x108, 0x110, 0x118, 0x10].map s.readReg ++ [0])

/-- QUERY (R357, R361). -/
def execQuery (r : RingIx) (s : State) : Host.Outcome State Fault Refusal :=
  .next (s.perform r (fun d => d.op = 0x0A) fun d s =>
    let what := d.byte 16
    let r1 := if what = 0 then s.fget fGlbTpGenGen + 2 ^ 32 * s.fget fGlbTpGenAbsentCount else 0
    (s.hostWrite (d.fld 24 8) (s.queryTable what)).complete d { r0 := querySize what, r1 := r1 })

/-! ### COUNTER_SWEEP (R467) -/

/-- Numbers of n bytes each. -/
def packN (n : Nat) (xs : List Nat) : List Byte := xs.flatMap (leBytes n)

/-- A tile's record of 64 B. -/
def State.sweepTile (s : State) (t : Nat) : List Byte :=
  let x := s.tile t
  if s.isPresent t then
    let c (i : Nat) : Nat := (SMap.get 0 x.evtCnt i).toNat
    padTo 64 (leBytes 4 (t + 2 ^ 31) ++ packN 1 ((List.range 4).map fun i => (SMap.get 0 x.evtSel i).toNat) ++
      packN 4 ((List.range 4).map c) ++ leBytes 1 ((List.range 4).foldl (fun n i => n + b2n ((c i).testBit 32) * 2 ^ i) 0) ++
      leBytes 1 0 ++ packN 2 ((List.range 9).map fun i => (SMap.get 0 x.stall i).toNat))
  else padTo 64 (leBytes 4 t)

/-- A record of n counters from a key on, for unit i, in size bytes; live units carry bit 31. -/
def State.sweepUnit (s : State) (i key n size : Nat) (live : Bool) : List Byte :=
  if live then
    let xs := (List.range n).map fun j => s.counter (key + j)
    let wr := ((List.range n).zip xs).foldl (fun m (p : Nat × Counter) => m + b2n p.2.wrapped * 2 ^ p.1) 0
    let head := leBytes 4 (i + 2 ^ 31) ++ packN 1 (xs.map fun x => x.source.toNat) ++ leBytes (n / 8) wr
    padTo size (padTo (if n = 8 then 16 else 24) head ++ packN 8 (xs.map fun x => x.count.toNat))
  else padTo size (leBytes 4 i)

/-- The stream of a COUNTER_SWEEP. -/
def State.sweep (s : State) (scope : Nat) (only : Bool) (n : Nat) : List Byte :=
  let x := s.slice n
  let holds (c : Nat) : Bool := !only || x.holds c
  let ts := if scope.testBit 0 then (List.range 230400).filter fun t => holds (cantonOf t) else []
  let ks := if scope.testBit 1 then (List.range 4800).filter fun k => holds (cantonOfCluster k) else []
  let cs := if scope.testBit 2 then (List.range 100).filter holds else []
  let ps := if scope.testBit 3 then (List.range 20).filter fun p => !only || s.boundUe n p else []
  let recs := ts.flatMap s.sweepTile ++
    ks.flatMap (fun k => s.sweepUnit k (8 * k) 8 80 (s.online (cantonOfCluster k))) ++
    cs.flatMap (fun c => s.sweepUnit c (40000 + 8 * c) 8 80 (s.online c)) ++
    ps.flatMap (fun p => s.sweepUnit p (50000 + 16 * p) 16 160 (s.portOn p))
  let head := packN 1 [0x57, 0x43, 0x53, 0x57, scope, b2n only, n, 0] ++ leBytes 8 s.engineNs ++
    packN 4 [ts.length, ks.length, cs.length, ps.length] ++ leBytes 8 (64 + recs.length)
  padTo 64 head ++ recs

/-- COUNTER_SWEEP (R467). -/
def execCounterSweep (r : RingIx) (s : State) : Host.Outcome State Fault Refusal :=
  .next (s.perform r (fun d => d.op = 0x09) fun d s =>
    let bs := s.sweep (d.byte 16) (d.byte 17 = 1) d.slice
    if d.fld 32 8 < bs.length then s.complete d { status := 0x01, r0 := bs.length }
    else (s.hostWrite (d.fld 24 8) bs).complete d { r0 := bs.length, r1 := s.engineNs })

/-! ### CHECKPOINT (R359) -/

/-- The tiles of a slice in ascending order of their index. -/
def State.ascTiles (s : State) (n : Nat) : List Nat :=
  ((s.sliceTiles n).foldl (fun (m : SMap Unit) t => SMap.ins t () m) []).map (·.1)

/-- The clusters of a slice in ascending order. -/
def State.ascClusters (s : State) (n : Nat) : List Nat :=
  ((s.slice n).clusters.foldl (fun (m : SMap Unit) k => SMap.ins k () m) []).map (·.1)

/-- The rows of bank b of cluster k's window that lie in the scratchpad: below the spill pool (R248, R262). -/
def State.scratchRows (s : State) (k b : Nat) : Nat :=
  let x := s.cluster k
  let top := if x.spillOn then 0x180000 - x.spillKib.toNat * 1024 else 0x180000
  min 1024 ((top - 65536 * b) / 64)

/-- Scratchpad banks of cluster k that answer (R261, R262). -/
def State.scratchBanks (s : State) (k : Nat) : List Nat :=
  (List.range 24).filter fun b =>
    (s.cluster k).banks ≤ b && !((s.cluster k).bankFail.getLsbD b) && decide (0 < s.scratchRows k b)

/-- What a SAVE has gathered: the bytes, whether a row was poisoned, corrected or unreadable, and the state. -/
structure Saved where
  bytes : List Byte
  poison : Bool
  corrected : Bool
  bad : Bool
  st : State

/-- Gather n rows of engine memory from an address. -/
def Saved.rows (v : Saved) (a : Nat) : Nat → Saved
  | 0 => v
  | n + 1 =>
    let r := v.st.fetchRow whoHost a
    let v' : Saved := ⟨v.bytes ++ padTo 64 r.1.data, v.poison || r.1.poison, v.corrected || r.1.corrected, v.bad || r.1.status = 3, r.2⟩
    v'.rows (a + 64) n

/-- Append bytes. -/
def Saved.add (v : Saved) (bs : List Byte) : Saved := { v with bytes := v.bytes ++ bs }

/-- The seven records of a tile (R234, R359). -/
def Saved.tile (v : Saved) (t : Nat) : Saved :=
  [0, 1, 2, 3, 4, 5, 7].foldl (fun v sp =>
    let size := spaceSize sp
    let v := v.add (leBytes 4 t ++ packN 1 [sp, 0] ++ leBytes 2 (size / 8) ++ leBytes 8 0)
    if sp = 0 then v.rows (tileBase t) 1024 else v.add (bytesOf (v.st.spaceWords t sp))) v

/-- The DATA records of a cluster (R288, R359). -/
def Saved.cluster (v : Saved) (k : Nat) : Saved :=
  (v.st.scratchBanks k).foldl (fun v b =>
    let n := v.st.scratchRows k b
    let v := v.add (packN 1 [3, 0] ++ leBytes 2 0xFFFF ++ leBytes 4 k ++ leBytes 4 (1 + 8 * n) ++ leBytes 4 0 ++ leBytes 8 (b * 65536))
    v.rows (clusterBase k + b * 65536) n) v

/-- SLICE_GEOM of a checkpoint. -/
def Slice.geomBytes (x : Slice) : List Byte := packN 1 [x.cx0.toNat, x.cy0.toNat, x.cw.toNat, x.ch.toNat]

/-- BUILD_ID of the image that a slice holds. -/
def Slice.build (x : Slice) : Nat := (x.img.map (·.build)).getD 0

/-- Write n rows of a byte string at an engine address for the host, up to the first that is refused or fails: the outcome,
and the bytes written. -/
def State.writeRows (s : State) (a : Nat) (bs : List Byte) : Nat → RowEnd × Nat × State
  | 0 => ({}, 0, s)
  | n + 1 =>
    let r := s.writeRow whoHost a (padTo 64 bs) false
    if r.1.status = 1 || r.1.status = 3 then (({} : RowEnd).before r.1, 0, r.2)
    else
      let q := r.2.writeRows (a + 64) (bs.drop 64) n
      (q.1, 64 + q.2.1, q.2.2)

/-- SAVE (R359): the stream, its first row, which carries SEAL, last. -/
def State.save (s : State) (d : Desc) : State :=
  let x := s.slice d.slice
  let ts := s.ascTiles d.slice
  let v := (s.ascClusters d.slice).foldl Saved.cluster (ts.foldl Saved.tile ⟨[], false, false, false, s⟩)
  let size := 64 + v.bytes.length
  let head := packN 1 [0x57, 0x43, 0x4B, 0x50] ++ x.geomBytes ++ leBytes 8 x.build ++ leBytes 8 size ++
    leBytes 4 ts.length ++ leBytes 4 (crc32 v.bytes).toNat ++ leBytes 1 x.cur.toNat ++ leBytes 27 0 ++ leBytes 4 0x5EA10D1F
  let a := d.fld 24 8
  let done (s : State) : State :=
    (s.ensignDone d.slice (s.ascClusters d.slice)).complete d { poison := v.poison, corrected := v.corrected, r0 := size }
  if d.fld 32 8 < size then s.complete d { status := 0x01, r0 := size }
  else if v.bad then v.st.complete d { status := 0x0B, corrected := v.corrected }
  else if d.byte 17 = 1 then done ((v.st.hostWrite (a + 64) v.bytes).hostWrite a head)
  else
    let failed (e : RowEnd) (n : Nat) (s : State) : State :=
      s.complete d { status := e.code, isolation := e.isolation, poison := v.poison, corrected := v.corrected, r0 := n }
    let q := v.st.writeRows (a + 64) v.bytes ((v.bytes.length + 63) / 64)
    if q.1.status ≠ 0 then failed q.1 q.2.1 q.2.2
    else
      let z := q.2.2.writeRows a head 1
      if z.1.status ≠ 0 then failed z.1 q.2.1 z.2.2 else done z.2.2

/-- The bytes of a slice's checkpoint stream (R359). -/
def State.streamSize (s : State) (n : Nat) : Nat :=
  64 + 75888 * (s.ascTiles n).length +
    ((s.ascClusters n).map fun k => ((s.scratchBanks k).map fun b => 24 + 64 * s.scratchRows k b).sum).sum

/-- Whether a CHECKPOINT that is performed waits, unless the timers of R211 have run out: for the rows of its buffer in engine
memory (R268, R386). -/
def State.ckptWaits (s : State) (d : Desc) (len : Nat) : Bool :=
  (s.slice d.slice).phase = 1 && d.byte 17 = 0 && s.rowsWait (d.fld 24 8) ((len + 63) / 64)

/-- CHECKPOINT_SAVE (R359); late says that the timers of rows that wait have run out (R211). -/
def execCheckpointSave (r : RingIx) (late : Bool) (s : State) : Host.Outcome State Fault Refusal :=
  .next (s.perform r (fun d => d.op = 0x08 && d.byte 16 = 0 &&
      (late || !(s.ckptWaits d (min (d.fld 32 8) (s.streamSize d.slice))))) fun d s =>
    if (s.slice d.slice).phase = 1 then s.save d else s.complete d { status := 0x03 })

/-- Read n tile records: them and the bytes that follow. -/
def readTileRecs : Nat → List Byte → Option (List TileRec × List Byte)
  | 0, bs => some ([], bs)
  | n + 1, bs =>
    let len := 8 * leAt 6 2 bs
    if bs.length < 16 + len then none
    else match tileRecs 1 (bs.take (16 + len)), readTileRecs n (bs.drop (16 + len)) with
      | some rs, some (qs, rest) => some (rs ++ qs, rest)
      | _, _ => none

/-- Read the cluster records that fill a byte string, at most n. -/
def readClusterRecs : Nat → List Byte → Option (List ClusterRec)
  | 0, bs => if bs.isEmpty then some [] else none
  | n + 1, bs =>
    if bs.isEmpty then some []
    else
      let len := 16 + 8 * leAt 8 4 bs
      match clusterRecs 1 (bs.take len), readClusterRecs n (bs.drop len) with
      | some rs, some qs => some (rs ++ qs)
      | _, _ => none

/-- The records of a checkpoint stream that passes the checks of R359 for slice n. -/
def State.ckpt (s : State) (n : Nat) (bs : List Byte) : Option (List TileRec × List ClusterRec) :=
  let x := s.slice n
  let size := leAt 16 8 bs
  let body := (bs.take size).drop 64
  if leAt 0 4 bs ≠ 0x504B4357 || leAt 60 4 bs ≠ 0x5EA10D1F || size < 64 || bs.length < size ||
     leAt 28 4 bs ≠ (crc32 body).toNat || (bs.drop 4).take 4 ≠ x.geomBytes || leAt 8 8 bs ≠ x.build then none
  else match readTileRecs (7 * leAt 24 4 bs) body with
    | none => none
    | some (ts, rest) =>
      match readClusterRecs (24 * 4800) rest with
      | none => none
      | some ks =>
        if ts.all (fun r => x.holds (cantonOf r.tile)) && ks.all (fun r => r.kind = 3 && x.holds (cantonOfCluster r.cluster))
        then some (ts, ks) else none

/-- RESTORE of a stream's bytes (R359); fixed says that errors were corrected in them (R360). -/
def State.restore (s : State) (d : Desc) (bs : List Byte) (fixed : Bool) : State :=
  match s.ckpt d.slice bs with
  | none => s.complete d { status := 0x02, corrected := fixed }
  | some (ts, ks) =>
    let s := ts.foldl State.writeRec s
    let s := ks.foldl (fun s r => s.putMem (clusterBase r.cluster + leAt 0 8 r.body) (wordsOf (r.body.drop 8))) s
    (s.ensignDone d.slice (s.ascClusters d.slice)).complete d { r0 := leAt 16 8 bs, corrected := fixed }

/-- CHECKPOINT_RESTORE (R346, R359): ok says that the host answered every read, late that the timers of rows that wait have
run out (R211). From the host it waits for Bus Master Enable. -/
def execCheckpointRestore (r : RingIx) (ok late : Bool) (s : State) : Host.Outcome State Fault Refusal :=
  .next (s.perform r (fun d => d.op = 0x08 && d.byte 16 = 1 && (late || !(s.ckptWaits d (d.fld 32 8))) &&
      ((s.slice d.slice).phase ≠ 1 || d.byte 17 = 0 || s.host.master)) fun d s =>
    if (s.slice d.slice).phase ≠ 1 then s.complete d { status := 0x03 }
    else
      let len := d.fld 32 8
      if d.byte 17 = 1 then
        if ok then s.restore d (s.hostRead (d.fld 24 8) len) false else s.hostFail d
      else
        let q := s.readRows whoHost (d.fld 24 8) (len / 64)
        if q.2.1.status = 0 then q.2.2.restore d q.1 q.2.1.corrected
        else q.2.2.complete d { status := q.2.1.code, isolation := q.2.1.isolation, corrected := q.2.1.corrected })

/-! ### Interrupts (R365) -/

/-- IRQ_TIME_EXPIRY (R365): IRQ_TIME_US after the first completion not yet signalled. -/
def execIrqTimeExpiry (r : RingIx) (s : State) : Host.Outcome State Fault Refusal :=
  let x := s.ring r
  .next (if x.irqTime ≠ 0 && x.unsignalled ≠ 0 then s.ringSignal r else s)

/-! ### The readback window (R350) -/

/-- The rows of a BAR4 read: zeros for a row that is unmapped, refused or cannot be read. -/
def State.bar4Rows (s : State) (a : Nat) : Nat → List Byte × State
  | 0 => ([], s)
  | n + 1 =>
    let r := s.readRow whoHost a
    let q := r.2.bar4Rows (a + 64) n
    ((if r.1.status = 1 || r.1.status = 3 then fillBytes 64 0 else padTo 64 r.1.data) ++ q.1, q.2)

/-- BAR4_WRITE (R350): discarded. -/
def execBar4Write (s : State) : Host.Outcome State Fault Refusal :=
  .next (if s.host.decodes then s.fset fHifStatBar4WrSeen 1 else s)

/-! ### Indirect access (R122, R123, R285, R286) -/

/-- The cluster of an indirect access, and the key of the tile it reaches: TILE itself, or with PHYS the logical tile that
the site serves; a spare site that serves none is held at 230,400 + 2 × cluster + spare, and a site whose position a
spare serves at 240,000 + 48 × cluster + site. None where no such position exists. -/
def State.accTile (s : State) (phys : Bool) (tile : Nat) : Option (Nat × Nat) :=
  if !phys then if tile < 230400 then some (clusterOf tile, tile) else none
  else
    let k := tile / 64
    let i := tile % 64
    let x := s.cluster k
    if 4800 ≤ k || 50 ≤ i then none
    else if i = 48 then some (k, if x.sp0.toNat < 48 then tileAt k x.sp0.toNat else 230400 + 2 * k)
    else if i = 49 then some (k, if x.sp1.toNat < 48 then tileAt k x.sp1.toNat else 230401 + 2 * k)
    else if x.sp0.toNat = i || x.sp1.toNat = i then some (k, 240000 + 48 * k + i)
    else some (k, tileAt k i)

/-- Registers of space 0x08 and spaces that a write may reach while RUN = 1 (R123). -/
def accRunning (space w : Nat) : Bool :=
  space = 0 || space = 7 || (space = 8 && (w = 1 || (4 ≤ w && w ≤ 11)))

/-- Slot lanes, TILE_CTRL, TILE_PRED and TILE_LC: written only while the owning slice is not running (R123). -/
def accSliceHeld (space w : Nat) : Bool := space = 6 || (space = 8 && (w = 0 || w = 13 || w = 14))

/-- What the tile answers to an access (R122, R123, R285, R286): ERR, and whether it is an isolation refusal. -/
def State.accCheck (s : State) (phys : Bool) (tile space w : Nat) (write : Bool) : Nat × Bool :=
  match s.accTile phys tile with
  | none => (1, false)
  | some (k, t) =>
    let c := cantonOfCluster k
    let run := (s.tile t).ctrl.run
    let busy := s.sliceRuns c
    if !(s.online c) then (5, false)
    else if t < 230400 && !(s.isPresent t) then (1, false)
    else if (s.ownership (clusterBase k)).sealed && !(s.fbit fMgtStatDebug) then (1, true)
    else if spaceSize space ≤ 8 * w then (1, false)
    else if !write then (0, false)
    else if accSliceHeld space w then (if busy then 2 else 0, false)
    else if run && !(accRunning space w) then (2, false)
    else (0, false)

/-- An access ends with its ERR (R122). -/
def State.accEnd (s : State) (err off : Nat) : State :=
  let s := s.fset fTileAccStatErr err
  if err = 0 then s else (s.fset fTileAccStatErrSeen 1).fset fTileAccStatFailOffset off

/-- The address-fault record of an access with ERR = 1 (R122). -/
def State.accFault (s : State) (tile w : Nat) (isolated : Bool) : State :=
  s.refuse whoHost (tileBase tile + 8 * w) isolated

/-- OFFSET moves on after an access that left the register (R122). -/
def State.accStep (s : State) : State :=
  if s.fbit fTileAccCtrlAutoinc then
    let w := s.fget fTileAccAddrOffset + 1
    s.fset fTileAccAddrOffset (if spaceSize (s.fget fTileAccAddrSpace) ≤ 8 * w then 0 else w)
  else s

/-- Why the register refuses an access before it leaves: reserved space, PHYS without debug. -/
def State.accRefused (s : State) : Nat :=
  if 10 ≤ s.fget fTileAccAddrSpace then 8
  else if s.fbit fTileAccAddrPhys && !(s.fbit fMgtStatDebug) then 3
  else 0

/-- Perform one posted write at its tile. -/
def State.accDo (s : State) (q : AccWrite) : State :=
  let w := q.offset.toNat
  let e := s.accCheck q.phys q.tile.toNat q.space.toNat w true
  let s := if e.1 = 1 then s.accFault q.tile.toNat w e.2 else s
  let s := match s.accTile q.phys q.tile.toNat with
    | some (k, t) => if e.1 = 0 then (s.putSpace t q.space.toNat w q.data).hostDirty (clusterBase k) else s
    | none => s
  s.accEnd e.1 w

/-- BUSY. -/
def State.accBusy (s : State) : State := s.fset fTileAccStatBusy (b2n (!s.host.accWrites.isEmpty))

/-- The oldest posted write ends: done at its tile, or abandoned. -/
def State.accPop (s : State) (ok : Bool) : State :=
  match s.host.accWrites with
  | [] => s
  | q :: qs =>
    let s := s.updHost fun h => { h with accWrites := qs }
    (if ok then s.accDo q else s.accEnd 6 q.offset.toNat).accBusy

/-- TILE_ACC_WRITE (R122): a write of TILE_ACC_DATA is posted. -/
def execTileAccWrite (v : W64) (s : State) : Host.Outcome State Fault Refusal :=
  let off := s.fget fTileAccAddrOffset
  let e := if s.accRefused ≠ 0 then s.accRefused else if 16 ≤ s.host.accWrites.length then 7 else 0
  if !s.host.decodes then .next s
  else if e ≠ 0 then .next (s.accEnd e off)
  else
    let q : AccWrite := { space := BitVec.ofNat 5 (s.fget fTileAccAddrSpace), phys := s.fbit fTileAccAddrPhys,
                          tile := BitVec.ofNat 19 (s.fget fTileAccAddrTile), offset := BitVec.ofNat 13 off, data := v }
    .next (((s.updHost fun h => { h with accWrites := h.accWrites ++ [q] }).accStep).accBusy)

/-- TILE_ACC_WRITE_DONE (R122): the oldest posted write completes, or with ok = false is abandoned after 10 µs. -/
def execTileAccWriteDone (ok : Bool) (s : State) : Host.Outcome State Fault Refusal := .next (s.accPop ok)

/-- Check the word that a read addresses (R122): a correctable error is written back, an uncorrectable one or a poison
pattern gives ERR = 4. -/
def State.accRead (s : State) (t space w : Nat) : Nat × State :=
  let x := s.tile t
  if space = 0 then
    let a := tileBase t + 8 * w
    let k := s.mem.mark a
    if k = 0 then (0, s)
    else if x.rowW (w / 8) then
      match eccFix k (s.mem.word a) with
      | some v => (0, ((s.updMem (·.putWord a v 0)).rowReport whoHost (a / 64 * 64) (w % 8) k true true 0).countRow a 0 true)
      | none => (4, s.rowReport whoHost (a / 64 * 64) (w % 8) k true false 1)
    else if k = 0xFF then (4, s)
    else (4, (s.rowReport whoHost (a / 64 * 64) (w % 8) k false false 1).countRow a 1 false)
  else
    let k := SMap.get 0 x.syn (synKey space w)
    let rec_ (fixed : Bool) : Rec :=
      s.onTile t { cls := 2, disp := if fixed then 0 else 1, block := if space = 1 then 3 else 5
                   index := if space = 1 then 0xFF else BitVec.ofNat 8 space, action := b2n fixed
                   detail0 := BitVec.ofNat 64 (space + 256 * w)
                   detail1 := BitVec.ofNat 64 (w % 8 + 256 * k.toNat + (if fixed then 2 ^ 17 else 0)) }
    if k = 0 || space = 0 || 6 ≤ space then (0, s)
    else match eccFix k (s.getSpace t space w) with
      | some v => (0, ((s.putSpace t space w v).countRow (tileBase t) 0 true).report (cantonSrc (cantonOf t)) (rec_ true))
      | none => (4, s.report (cantonSrc (cantonOf t)) (rec_ false))

/-- What a read of the host returns. -/
def State.readsBack (s : State) (bs : List Byte) : State := s.updHost fun h => { h with readBack := bs }

/-- A read of TILE_ACC_DATA (R122): it completes after every earlier write; late says that it does not return within 10 µs. -/
def State.tileAccRead (s : State) (late : Bool) : W64 × State :=
  let off := s.fget fTileAccAddrOffset
  if s.accRefused ≠ 0 then (0, s.accEnd s.accRefused off)
  else
    let s := (List.range s.host.accWrites.length).foldl (fun s _ => s.accPop true) s
    let space := s.fget fTileAccAddrSpace
    let phys := s.fbit fTileAccAddrPhys
    let tile := s.fget fTileAccAddrTile
    let s' := s.accStep
    if late then (0, s'.accEnd 6 off)
    else
      let e := s.accCheck phys tile space off false
      match e.1, s.accTile phys tile with
      | 0, some (_, t) =>
        let q := s'.accRead t space off
        (if q.1 = 0 then q.2.getSpace t space off else 0, q.2.accEnd q.1 off)
      | 1, _ => (0, (s'.accFault tile off e.2).accEnd 1 off)
      | k, _ => (0, s'.accEnd k off)

/-- TILE_ACC_READ (R122): a read of TILE_ACC_DATA's 8 bytes. -/
def execTileAccRead (late : Bool) (s : State) : Host.Outcome State Fault Refusal :=
  if !s.host.decodes then .next s
  else
    let q := s.tileAccRead late
    .next (q.2.readsBack (leBytes 8 q.1.toNat))

/-! ### Reads of the host (R343 to R345, R350, R352) -/

/-- A 4 B word of configuration space (R343, R344): the header, then AER and the Device Serial Number capability. -/
def State.configWord (s : State) (i : Nat) : W32 :=
  let a := s.host.aer
  match i with
  | 0x00 => 0x01021E57#32
  | 0x01 => BitVec.ofNat 32 (0x00100000 + 2 * b2n s.host.mse + 4 * b2n s.host.bme)
  | 0x02 => BitVec.ofNat 32 (0x12000000 + s.mgmt.stepping.toNat)
  | 0x40 => 0x14820001#32
  | 0x41 => a.uncorr
  | 0x44 => a.corr
  | 0x46 => BitVec.ofNat 32 (0xA0 + 64 * b2n a.gen + 256 * b2n a.chk)
  | 0x52 => 0x00010003#32
  | 0x53 => BitVec.ofNat 32 s.mgmt.serial.toNat
  | 0x54 => BitVec.ofNat 32 (s.mgmt.serial.toNat / 2 ^ 32)
  | _ => Config.configWord i

/-- A read of 8 aligned bytes of BAR0, of which n are asked for (R122, R320, R345, R471); late is TILE_ACC_DATA's. -/
def State.bar0Read (s : State) (o : Nat) (late : Bool) : W64 × State :=
  if o = 0x308 then s.tileAccRead late
  else if o = 0x70040 && !(s.flashGated o) then (s.readReg o, s.bufStep)
  else if s.gated o || s.windowUp o then (s.readReg o, s)
  else (0, s.fset fHifStatOfflineSeen 1)

/-- 8 aligned bytes of BAR2 (R352). -/
def State.bar2Word (s : State) (o : Nat) : W64 :=
  let x := s.ring (o / 64)
  let v : W32 := match o % 64 with
    | 0x00 => x.sqTail
    | 0x08 => x.cqHead
    | 0x10 => x.sqFetch
    | 0x18 => x.cqProd
    | _ => 0
  v.zeroExtend 64

/-- BAR4 (R350): n bytes at offset o. -/
def State.bar4 (s : State) (o n : Nat) : List Byte × State :=
  let a := s.fget fHifWinBaseBase * 2 ^ 38 + o
  let q := s.bar4Rows (a / 64 * 64) ((a % 64 + n + 63) / 64)
  ((q.1.drop (a % 64)).take n, q.2)

/-- Whether a BAR4 read waits for its rows (R268, R386). -/
def State.bar4Waits (s : State) (o n : Nat) : Bool :=
  let a := s.fget fHifWinBaseBase * 2 ^ 38 + o
  s.rowsWait (a / 64 * 64) ((a % 64 + n + 63) / 64)

/-- BAR4_READ (R344, R345, R350, R352): the host reads n bytes at offset o. late says that the rows of a BAR4 read that waits,
or the indirect access of TILE_ACC_DATA, have run out of their time. -/
def execBar4Read (sp : HostSpace) (o : BitVec 38) (n : BitVec 13) (late : Bool) (s : State) : Host.Outcome State Fault Refusal :=
  let a := o.toNat
  let m := n.toNat
  let part (w : W64) : List Byte := ((leBytes 8 w.toNat).drop (a % 8)).take m
  let sized : Bool := (m = 4 || m = 8) && a % m = 0
  match sp with
  | .config =>
    .next (if s.host.linkUp then
      s.readsBack ((((List.range ((a % 4 + m + 3) / 4)).flatMap fun i => leBytes 4 (s.configWord (a / 4 + i)).toNat).drop (a % 4)).take m)
    else s)
  | .bar0 =>
    if !s.host.decodes then .next s
    else if !sized then .next ((s.fset fHifStatSizeSeen 1).readsBack (fillBytes m 0))
    else
      let q := s.bar0Read (a / 8 * 8) late
      .next (q.2.readsBack (part q.1))
  | .bar2 =>
    if !s.host.decodes then .next s
    else if !sized then .next ((s.fset fHifStatSizeSeen 1).readsBack (fillBytes m 0))
    else .next (s.readsBack (part (s.bar2Word (a / 8 * 8))))
  | .bar4 =>
    if !s.host.decodes || (s.bar4Waits a m && !late) then .next s
    else
      let q := s.bar4 a m
      .next (q.2.readsBack q.1)

/-! ### Resets and power states (R343, R346, R347, R386) -/

/-- Reset a register to its value at reset. -/
def State.clearReg (s : State) (off : Nat) : State := s.setReg off (regReset off)

/-- Stop and unload every loaded slice as UNLOAD does, with no descriptor to complete (R347). -/
def State.unloadAll (s : State) : State :=
  (List.range 16).foldl (fun s n =>
    let x := s.slice n
    if x.loaded then (s.setSlice n { x with run := none, reconf := none }).stopFor n .unload none else s) s

/-- The entries that host descriptors feed. -/
def Feeder.ofHost : Feeder → Bool
  | .host _ _ => true
  | _ => false

/-- A cluster's DMA queues forget the entries of abandoned descriptors. -/
def Cluster.dropDma (x : Cluster) : Cluster :=
  { x with dmaq := (x.dmaq.map fun p =>
      (p.1, { p.2 with entries := p.2.entries.filter fun e => !(e.feeder.ofHost) })).filter fun (p : Nat × DmaQueue) => p.2 ≠ {} }

/-- Whether a request serves a host DMA. -/
def ReqFor.ofHost : ReqFor → Bool
  | .dma _ _ _ _ => true
  | .dmaEnd _ _ => true
  | _ => false

/-- WARM_RESET (R347): perst says that PERST_N asks for it, which alone restores a lost PCI Express reference (R386). -/
def execWarmReset (perst : Bool) (s : State) : Host.Outcome State Fault Refusal :=
  if !s.mgmt.pgood || (s.host.pcieLost && !perst) then .next s
  else
    let open_ := s.txnState = 1
    let s := s.updHost fun h =>
      { ({} : HostIf) with mem := h.mem, msgs := h.msgs, txn := { h.txn with desc := none }, accWrites := h.accWrites,
                           beforeHalt := h.beforeHalt, linkUp := true, readBack := h.readBack,
                           aer := if perst then {} else { h.aer with gen := false, chk := false } }
    let s := [0x10000, 0x10008, 0x10010, 0x10020, 0x50000, 0x50008, 0x50010].foldl State.clearReg s
    let s := ((s.fset fErrStatDropped 0).fset fErrStatRingErr 0).fset fErrStatOverrun 0
    let s := (s.fset fErrStatUncorrSeen 0).fset fErrStatCorrSeen 0
    let s := { s with err := { s.err with unsignalled := 0 } }
    let s := if open_ then s.txnDrop else s
    let s := s.mapClusters (s.clusters.map (·.1)) Cluster.dropDma
    let s := { s with requests := s.requests.filter fun q => !(q.for_.ofHost) }
    .next s.unloadAll.unhalt

/-- PCIE_POWER_STATE (R343, R346): the function's power state and enables, its errors, and the link as it has trained. -/
def State.setPcie (s : State) (q : PcieState) : State :=
  let s := s.updHost fun h => { h with d3 := q.d3, mse := q.mse, bme := q.bme, msixEn := q.msixEn, msixMask := q.msixMask,
                                       aer := q.aer }
  let s := ((s.fset fHifStatSpeed q.speed.toNat).fset fHifStatWidth q.width.toNat).fset fHifStatFlit (b2n q.flit)
  s.updHost fun h => h.flush.unmask

/-- PCIE_POWER_STATE. -/
def execPciePowerState (q : PcieState) (s : State) : Host.Outcome State Fault Refusal :=
  .next (if s.host.linkUp then s.setPcie q else s)

end Sys2Proof.Machine
end

