-- ==== Sys2Proof/Machine/Errors.lean ====
section
/-! DEFINITION. The error-record path, classification, retirement, recovery, the loss of a canton, the ensign complex's
watchdog and the NV ledger's upkeep (R431 to R450). -/
namespace Sys2Proof.Machine

/-! ### Classification (R439, R440) -/

/-- Classes that R439 counts for a tile site. -/
def siteCls (c : W16) : Bool := c = 3 || c = 4 || c = 5 || c = 7 || c = 9

/-- Detections of a unit within 24 h of powered time (R439): those of a tile site together with its units. -/
def State.unitCount (s : State) (u : RecUnit) : Nat :=
  let same (d : Detection) : Bool :=
    if siteCls u.cls then siteCls d.unit.cls && d.unit.canton = u.canton && d.unit.cluster = u.cluster && d.unit.site = u.site
    else d.unit = u
  ((s.err.detections.filter fun d => same d && decide (s.err.powered.toNat < d.at_ + day)).map (·.weight)).sum

/-- Whether R439 classifies the unit of a record here: tile sites, rows and words of tiles and clusters, stream links. The
bay, the bulk mesh and the halyard have rules of their own. -/
def Rec.classified (r : Rec) : Bool :=
  siteCls r.cls || (r.cls = 2 && (r.block = 3 || r.block = 4 || r.block = 5 || r.block = 8)) ||
  (r.cls = 0xB && (r.block = 6 || r.block = 7))

/-- Whether the unit of a record is permanent (R439): 3 detections within 24 h, or an uncorrectable error in a class W row
or in a word of the instruction store, the operand buffers, G or V. -/
def State.permanent (s : State) (r : Rec) : Bool :=
  r.classified && (decide (3 ≤ s.unitCount r.unitOf) ||
    (r.cls = 2 && r.disp ≠ 0 && (r.block = 3 || r.block = 5 || r.detail1.getLsbD 16)))

/-- The follow-up record of R440, R441 and R443: it names the unit of the record r and carries its RecordID. -/
def State.followUp (s : State) (r : Rec) (replay classify action : Byte) : State :=
  s.report 0x300 { cls := 0x22, disp := 2, phys := r.phys, block := r.block, canton := r.canton, cluster := r.cluster
                   tile := r.tile, site := r.site, index := r.index, slice := r.slice, replay := replay
                   classify := classify, action := action, related := r.id }

/-- SUB of a ledger entry (R437). -/
def Rec.sub (r : Rec) : Byte := if r.block = 1 then r.index else 0xFF

/-- Whether the unit of a record waits for its retirement or has been retired. -/
def State.retiring (s : State) (r : Rec) : Bool :=
  s.err.retire.any (fun q => ledgerWord q.record = ledgerWord r && q.record.canton = r.canton) ||
  (s.canton r.canton.toNat).defects.contains (ledgerWord r)

/-- CLASSIFY (R439, R440): the CLASSIFY entry and the classification record; a permanent unit waits for its retirement. -/
def State.classify (s : State) (r : Rec) (replay outcome : Byte) : State :=
  let s := s.ledger { kind := 2, canton := r.canton, sub := r.sub, word := ledgerWord r, cls := r.cls, outcome := outcome, aux := r.id }
  let s := s.followUp r replay outcome 0
  if outcome = 2 && !(s.retiring r) then
    { s with err := { s.err with retire := s.err.retire ++ [⟨r.unitOf, r, s.err.powered.toNat⟩] } }
  else s

/-- Classify a fetched record by its unit's detections, where no replay decides (R439). -/
def State.classifyFetched (s : State) (r : Rec) : State :=
  if r.replay ≠ 1 && s.permanent r && !(s.retiring r) then s.classify r r.replay 2 else s

/-- The ensign complex fetches the records of a source, and classifies their units (R434, R439). -/
def State.fetch (s : State) (src : Nat) : State :=
  let n := (s.source src).held.length
  let s := s.fetchRecs src
  (s.err.bmc.drop (s.err.bmc.length - n)).foldl State.classifyFetched s

/-- The node that sends a source's notes, and the source's code (R431, R434). -/
def recNode : RecFrom → Nat
  | .canton c => controllerNode c
  | .port p => portNode p

/-- The source's code. -/
def recCode : RecFrom → Nat
  | .canton c => cantonSrc c
  | .port p => portSrc p

/-- ARG of an ERR_NOTE pennant (R434): of the records that wait, the newest one's SEQ, their number, and the highest DISP. -/
def noteArg (rs : List Rec) : Nat :=
  (rs.foldl (fun _ r => r.seq.toNat) 0) + 2 ^ 32 * min rs.length 64 + 2 ^ 40 * rs.foldl (fun n r => max n r.disp.toNat) 0

/-- ERR_NOTE (R216, R434): a pennant that has arrived at the ensign complex makes it fetch; else the source, where records
wait in it, sends one. -/
def execErrNote (f : RecFrom) (s : State) : Host.Outcome State Fault Refusal :=
  let q := s.takePennant (recNode f) ensignNode fun p => p.code = 7
  let rs := (s.source (recCode f)).held
  .next (if q.1.isSome then q.2.fetch (recCode f)
    else if rs.isEmpty then q.2 else q.2.sendPennant (recNode f) ensignNode 7 (noteArg rs))

/-! ### The error ring (R435) -/

/-- Signal the ring's vector: the message covers every record written before it. -/
def State.errSignal (s : State) : State :=
  { s.msi (s.fget fErrRingCfgVector) with err := { s.err with unsignalled := 0 } }

/-- Write a record to slot PROD mod N, SEQ_PH last. -/
def State.writeErr (s : State) (r : Rec) : State :=
  let n := s.fget fErrRingPtrProd
  let size := 2 ^ s.fget fErrRingCfgLog2Entries
  let a := 64 * s.fget fErrRingBaseBase + 640 * (n % size)
  let s := (s.hostWrite a (padTo 632 (r.cper s.mgmt.serial.toNat))).hostWrite (a + 632) (seqPh n size)
  let s := s.fset fErrRingPtrProd (n + 1)
  if !(s.fbit fErrRingCfgIrqEn) then s
  else if r.disp ≠ 0 then s.errSignal
  else
    let s := { s with err := { s.err with unsignalled := s.err.unsignalled + 1 } }
    if s.err.unsignalled = 16 then s.errSignal else s

/-- ERR_RING_WRITE (R435): the oldest waiting record is written where the ring has room. -/
def execErrRingWrite (s : State) : Host.Outcome State Fault Refusal :=
  let room : Bool := decide (modSub 32 (s.fget fErrRingPtrProd) (s.fget fErrRingPtrHead) < 2 ^ s.fget fErrRingCfgLog2Entries)
  match s.err.ensign with
  | r :: rs =>
    if s.fbit fErrRingCfgEnable && room then
      .next (({ s with err := { s.err with ensign := rs } } : State).fset fErrStatQueued rs.length |>.writeErr r)
    else .next s
  | [] => .next s

/-- ERR_IRQ_TIMER (R435): 1 ms after the first DISP 0 record not yet signalled. -/
def execErrIrqTimer (s : State) : Host.Outcome State Fault Refusal :=
  .next (if s.fbit fErrRingCfgEnable && s.fbit fErrRingCfgIrqEn && s.err.unsignalled ≠ 0 then s.errSignal else s)

/-! ### Replay (R440) -/

/-- The logical tile of a unit. -/
def RecUnit.logical (u : RecUnit) : Option Nat :=
  if u.canton.toNat < 100 && u.cluster.toNat < 48 && u.tile.toNat < 48 then
    some (tileAt (clusterAt u.canton.toNat u.cluster.toNat) u.tile.toNat)
  else none

/-- Whether canton c is in an idle window (R440): it belongs to no loaded slice, or its slice's PHASE is 1 or 6. -/
def State.idle (s : State) (c : Nat) : Bool :=
  match s.sliceOf c with
  | some n => (s.slice n).phase = 1 || (s.slice n).phase = 6
  | none => true

/-- A pending replay ends: 2 = reproduced, 3 = not reproduced, 4 = not possible. -/
def State.replayEnd (s : State) (q : PendingUnit) (replay : Byte) : State :=
  let s := { s with err := { s.err with replays := s.err.replays.filter fun (x : PendingUnit) => x ≠ q } }
  let hard := replay = 2 || s.permanent q.record
  s.classify q.record replay (if hard then 2 else if replay = 3 then 1 else 0)

/-- The oldest pending replay of a tile. -/
def State.replayOf (s : State) (t : Nat) : Option PendingUnit := s.err.replays.find? fun q => q.unit.logical = some t

/-- REPLAY (R440): in an idle window of tile t its canton controller replays its oldest captured group; reproduced says what
the runs showed. -/
def execReplay (t : TileIx) (reproduced : Bool) (s : State) : Host.Outcome State Fault Refusal :=
  let c := cantonOf t
  if !(s.online c && s.idle c) then .next s
  else
    let s := s.fetch (cantonSrc c)
    .next (match s.replayOf t with
      | some q => s.replayEnd q (if reproduced then 2 else 3)
      | none => s)

/-- REPLAY_NOT_POSSIBLE (R440): no idle window of tile t came within 24 h. -/
def execReplayNotPossible (t : TileIx) (s : State) : Host.Outcome State Fault Refusal :=
  .next (match s.replayOf t with
    | some q => s.replayEnd q 4
    | none => s)

/-! ### Retirement (R25, R26, R197, R441, R442) -/

/-- Rotate the tables in force for a spare that takes over position t of a loaded slice (R197): the tables, or none. -/
def State.rotateFor (s : State) (n t : Nat) : Option (SMap Router) :=
  let q := Shims.rotate ⟨fun u j => (u = t || j = t) && !(s.shimLink u j), s.shimLink⟩ ((s.sliceTiles n).map fun u => (u, s.router u))
  if q.2.isSome then none else some q.1

/-- The spare i of a cluster takes over the position of local tile l (R25): its tile, its memory and its router are zero but
for the state of the links; the failed site keeps the old state. -/
def State.substitute (s : State) (k l site i : Nat) : State :=
  let t := tileAt k l
  let old := s.tile t
  let key := if site = 48 then 230400 + 2 * k else if site = 49 then 230401 + 2 * k else 240000 + 48 * k + site
  let x := s.cluster k
  let lb := BitVec.ofNat 8 l
  let r := s.router t
  let s := ((s.setTile key old).setRouter key r).setTile t {}
  let s := { s with tiles := SMap.del (230400 + 2 * k + i) s.tiles, routers := SMap.del (230400 + 2 * k + i) s.routers }
  let s := s.setCluster k (if i = 0 then { x with sp0 := lb } else { x with sp1 := lb })
  let s := s.setRouter t { linkFail := r.linkFail, shim := true }
  s.updMem (·.zero (tileBase t) (tileBase (t + 1)))

/-- The ensign complex writes the rotated tables of slice n (R197): at the position t that a spare took over, the whole
table with its credit limits and its epoch. -/
def State.writeTables (s : State) (n t : Nat) (tabs : SMap Router) : State :=
  s.mapRouters (s.sliceTiles n) fun u r =>
    let g := SMap.get {} tabs u
    if u = t then { r with slots := g.slots, oqInit := g.oqInit, share := g.share, shareInit := g.shareInit, epoch := g.epoch }
    else { r with slots := g.slots }

/-- A failed spare serves no position any more. -/
def Cluster.dropSpare (x : Cluster) (site : Nat) : Cluster :=
  if site = 48 then { x with sp0 := 0xFE } else if site = 49 then { x with sp1 := 0xFE } else x

/-- A free spare of a cluster. -/
def Cluster.freeSpare (x : Cluster) : Option Nat := if x.sp0 = 0xFF then some 0 else if x.sp1 = 0xFF then some 1 else none

/-- The position of local tile l becomes absent (R26), and its stage shifts. -/
def State.hole (s : State) (c k l : Nat) : Byte × State := (s.mapChange fun s => s.setPresent (tileAt k l) false).shift c

/-- Retire the site that serves local tile l of canton c's local cluster (R441): by a spare whose tables rotate, else by a
hole. -/
def State.retireSite (s : State) (c cl l site : Nat) : Byte × State :=
  let k := clusterAt c cl
  let s := s.setCluster k ((s.cluster k).dropSpare site)
  match (s.cluster k).freeSpare with
  | none => s.hole c k l
  | some i =>
    match s.sliceOf c with
    | none => (3, s.substitute k l site i)
    | some n =>
      match s.rotateFor n (tileAt k l) with
      | some tabs => (3, (s.substitute k l site i).writeTables n (tileAt k l) tabs)
      | none => s.hole c k l

/-- Copy a row into its spare row (R442): class W corrected; a class A word with a parity error becomes poison. -/
def State.copyRow (s : State) (a : Nat) : State :=
  if s.rowIsW a then (s.fixWords (whoEngine 0) a true (List.range 8)).2.2
  else (List.range 8).foldl (fun s i => if s.mem.mark (a + 8 * i) = 0 then s else s.updMem (·.setMark (a + 8 * i) 0xFF)) s

/-- ROW_REMAP of a tile-memory row (R442): a free spare row, else the site is retired. -/
def State.remapTileRow (s : State) (c : Nat) (u : RecUnit) : Byte × State :=
  let n := rowsFailed (siteRows (s.canton c).defects u.cluster.toNat u.site.toNat)
  if n.1 + n.2 < 8 then (5, s.copyRow (u.row.toNat / 64 * 64))
  else s.retireSite c u.cluster.toNat u.tile.toNat u.site.toNat

/-- ROW_REMAP of a cluster-memory row (R442): a free spare row, else the bank is failed (R261). -/
def State.remapBankRow (s : State) (c : Nat) (u : RecUnit) : Byte × State :=
  let b := u.index.toNat
  let k := clusterAt c u.cluster.toNat
  let n := rowsFailed (bankRows (s.canton c).defects u.cluster.toNat b)
  let x := s.cluster k
  if n.1 + n.2 < 16 then (5, (s.copyRow (u.row.toNat / 64 * 64)).setCluster k { x with spareMax := BitVec.ofNat 5 (max x.spareMax.toNat (n.1 + 1)) })
  else
    let s := s.setCluster k { x with bankFail := setBit x.bankFail b true }
    if x.owned then (11, s.leave x.owner.toNat) else (0, s)

/-- Steer a seam after its lane test (R196): stream links left without enough spares are failed. -/
def State.steerSeam (s : State) (c d : Nat) (ls : List (CantonIx × W32)) : Byte × State :=
  let s := s.laneTest c ls
  match cantonNeighbour c d with
  | none => (6, s)
  | some e =>
    let bad (i : Nat) : Bool := linkBad (s.canton c).defects 0 d i || linkBad (s.canton e).defects 0 (opp d) i
    (6, (List.range (sideLinks 0 d)).foldl (fun s i => if bad i then (s.streamSide c d i true).streamSide e (opp d) i true else s) s)

/-- Retire one permanent unit (R441): its ACTION, its RETIRE entry and its record. -/
def State.retireUnit (s : State) (q : PendingUnit) (ls : List (CantonIx × W32)) : Byte × State :=
  let u := q.unit
  let r := q.record
  let c := u.canton.toNat
  let s := { s with err := { s.err with retire := s.err.retire.filter fun (x : PendingUnit) => x ≠ q } }
  let a : Byte × State :=
    if u.cls = 0xB && u.block = 7 then s.steerSeam c (u.index.toNat % 4) ls
    else if u.cls = 2 && u.block = 4 then s.remapTileRow c u
    else if u.cls = 2 && u.block = 8 then s.remapBankRow c u
    else s.retireSite c u.cluster.toNat u.tile.toNat u.site.toNat
  let s := if u.block = 7 then a.2 else
    (a.2.setCanton c { a.2.canton c with defects := (a.2.canton c).defects ++ [ledgerWord r] }).ledger
      { kind := 3, canton := r.canton, sub := r.sub, word := ledgerWord r, cls := r.cls, outcome := a.1, aux := r.id }
  (a.1, (s.fset fErrRecovStatAction a.1.toNat).followUp r r.replay 2 a.1)

/-- Whether a permanent unit may be retired now (R441): its slice is not running, and its canton is joined. -/
def State.mayRetire (s : State) (q : PendingUnit) : Bool := s.online q.unit.canton.toNat && s.idle q.unit.canton.toNat

/-- RETIRE (R441): the oldest permanent unit that may be retired; ls are the bad lanes that a seam's lane test finds. -/
def execRetire (ls : List (CantonIx × W32)) (s : State) : Host.Outcome State Fault Refusal :=
  .next (match s.err.retire.find? s.mayRetire with
    | some q => (s.retireUnit q ls).2
    | none => s)

/-! ### Recovery of a slice (R443 to R446, R453) -/

/-- Step 2 and 3 of R443 for the record of the stop. -/
def State.recoverClassify (s : State) (r : Rec) (reproduced : Bool) : State :=
  match s.err.replays.find? fun q => q.record.source = r.source && q.record.seq = r.seq with
  | some q => s.replayEnd q (if reproduced then 2 else 3)
  | none => s

/-- Step 4 of R443: every permanent unit of the slice is retired, oldest first; the last ACTION. -/
def State.recoverRetire (s : State) (n : Nat) (ls : List (CantonIx × W32)) : Byte × State :=
  (s.err.retire.filter fun q => (s.slice n).holds q.unit.canton.toNat).foldl
    (fun (acc : Byte × State) q => if acc.2.mayRetire q then acc.2.retireUnit q ls else acc) (0, s)

/-- Step 5 of R443: the image where it came from, unchanged; none where it came from the host or reads otherwise. -/
def State.reread (s : State) (n : Nat) : Bool × State :=
  let x := s.slice n
  let len := x.image.length
  if x.srcKind = 1 then
    let q := s.readRows whoHost x.srcAddr ((len + 63) / 64)
    (q.2.1.status = 0 && q.1.take len = x.image, q.2.2)
  else if x.srcKind = 2 then (s.mgmt.bytes (slotBase x.srcSlot.toNat) len = x.image, s)
  else (false, s)

/-- Step 6 of R443 for the update engine of port p (R445): ROLLBACK to CSTEP from FAULT; false where that fails. -/
def State.recoverUe (s : State) (p : Nat) : Bool × State :=
  if s.ueState p ≠ 5 then (true, s)
  else if !(s.bayUp p) then (false, s)
  else
    let s := ((s.ueBusy p).rollback p (s.cstep p)).ueEnd p
    (s.ueState p ≠ 5, s)

/-- Step 7 of R443 for port p: a mode 1 update engine that holds a committed step refreshes from its committed slot; at the end it
arrives on its flag (R312). -/
def State.recoverRefresh (s : State) (p : Nat) : State :=
  let st := s.ueState p
  if s.fget fPrtUeCtrlRefreshMode p = 1 && (st = 1 || st = 2 || st = 3 || st = 6) then s.refreshStart p else s

/-- Note the end of a recovery in ERR_RECOV_STAT (R454): its PHASE, ACTION and duration. -/
def State.recovered (s : State) (n phase : Nat) (act : Byte) (ms : W32) : State :=
  let s := ((s.fset fErrRecovStatPhase phase).fset fErrRecovStatSlice n).fset fErrRecovStatAction act.toNat
  let s := s.fset fErrRecovStatLastMs ms.toNat
  if phase = 6 then s.finc fErrRecovStatCount else s

/-- A recovery that ends with ACTION 11: the slice stays in PHASE 6. -/
def State.needsHost (s : State) (n : Nat) (r : Rec) (ms : W32) : State :=
  ((s.leave n).followUp r 0 0 11).recovered n 7 11 ms

/-- Steps 5 to 8 of R443. act is the ACTION of step 4. -/
def State.recoverReload (s : State) (n : Nat) (r : Rec) (act : Byte) (ms : W32) : State :=
  let x := s.slice n
  let q := s.reread n
  if !q.1 then q.2.needsHost n r ms
  else
    let l := q.2.loadImage (x.again n) x.image
    if l.1.status ≠ 0 then l.2.needsHost n r ms
    else
      let ps := (List.range 20).filter (l.2.boundUe n)
      let faulty := ps.any fun p => l.2.ueState p = 5
      let u := ps.foldl (fun (acc : Bool × State) p =>
        let e := acc.2.recoverUe p
        (acc.1 && e.1, e.2)) (true, l.2)
      if !u.1 then u.2.needsHost n r ms
      else
        let s := ps.foldl State.recoverRefresh u.2
        let act := if faulty then 10 else act
        let s := (s.followUp r 0 0 act).recovered n 6 act ms
        ps.foldl (fun s p => if s.helloOk p then s.sendHello p else s) s

/-- Whether a stop is one that R444 leaves to the host: of a class that R439 does not count, or of the same class at the
same tile as the stop before, with no successful RUN in between. -/
def State.repeats (s : State) (n : Nat) (r : Rec) : Bool :=
  !(countedCls r.cls) || match SMap.get none s.err.lastStop n with
    | some u => u.cls = r.cls && u.canton = r.canton && u.cluster = r.cluster && u.tile = r.tile
    | none => false

/-- SLICE_RECOVERY (R443): of a slice that a fault has stopped. reproduced is the outcome of its replay, ls the bad lanes
that a lane test finds, ms the time the recovery takes. -/
def execSliceRecovery (n : SliceIx) (reproduced : Bool) (ls : List (CantonIx × W32)) (ms : W32) (s : State) :
    Host.Outcome State Fault Refusal :=
  let x := s.slice n
  -- A refresh in progress runs to its end first (R445).
  if !x.loaded || x.phase ≠ 6 || (List.range 20).any (fun p => s.boundUe n p && s.ueState p = 4) then .next s
  else
    let s := (x.cantons.map cantonSrc ++ ((List.range 20).filter (s.boundUe n)).map portSrc).foldl State.fetch s
    match SMap.get none s.err.stopRec n with
    | none => .next s
    | some r =>
      let again := s.repeats n r
      let s := { s with err := { s.err with lastStop := SMap.put none s.err.lastStop n (some r.unitOf) } }
      let q := (s.recoverClassify r reproduced).recoverRetire n ls
      let auto := (s.fget fErrRecovCtrlAuto).testBit n
      .next (if q.1 = (11 : Byte) || (auto && again) then q.2.needsHost n r ms
        else if auto then q.2.recoverReload n r q.1 ms
        else q.2.recovered n 6 q.1 ms)

/-! ### Loss of a canton (R447) -/

/-- The steps of R447 for canton c: its slice stops, it goes off, the record is raised; retire says whether CANTON_RETIRE
is written. -/
def State.supplyLoss (s : State) (c : Nat) (retire : Bool) : State :=
  let s := ((s.stopAt c).powerOff c).report 0x400 (hoistRec 0x1F 1 c 8)
  let s := if retire then
      ((s.setCanton c { s.canton c with retired := true }).ledger { kind := 4, canton := BitVec.ofNat 8 c, cls := 0x1F }).fset
        fCanBruStatFailStep 9 c
    else s
  s.degrade

/-- CANTON_SUPPLY_LOSS (R447): over says that the canton's current exceeded its regulator's limit. -/
def execCantonSupplyLoss (c : CantonIx) (lost : Bool) (s : State) : Host.Outcome State Fault Refusal :=
  .next (if (s.canton c).powered then s.supplyLoss c lost else s)

/-! ### The ensign complex's watchdog (R450) -/

/-- The descriptors that the ensign complex had started complete with ABORTED; runs, transfers and transactions go on
without them. -/
def State.abortStarted (s : State) : State :=
  let ds := s.host.descs.filter (·.started)
  let s := (List.range 16).foldl (fun s n =>
    let x := s.slice n
    if x.run.isSome || x.reconf.isSome then
      s.setSlice n { x with run := none, reconf := x.reconf.map fun q => { q with desc := none } }
    else s) s
  let s := s.updHost fun h => { h with dma := [], txn := { h.txn with desc := none } }
  s.completeAll ds { status := 0x11 }

/-- The firmware-class record of a restart (R427, R450). -/
def firmwareRec (disp : BitVec 2) : Rec := { cls := 0x21, disp := disp, block := 0x10 }

/-- ENSIGN_WATCHDOG (R450): a first expiry halts and restarts; a second within one hour is FAULT. -/
def execEnsignWatchdog (s : State) : Host.Outcome State Fault Refusal :=
  if !s.mgmt.pgood || s.engine = 8 then .next s
  else
    let now := s.engineNs
    let again := s.mgmt.restartNs.any fun t => decide (now < t + 3600000000000)
    let s := s.abortStarted
    if again then .next ((s.fault 6).report 0x400 (firmwareRec 3))
    else
      let s := s.updMgmt fun m => { m with restarting := true, restartNs := some now }
      .next ((s.halt 0x11).report 0x400 (firmwareRec 1))

/-- ENSIGN_RESTART_DONE (R450). -/
def execEnsignRestartDone (s : State) : Host.Outcome State Fault Refusal :=
  .next (if s.mgmt.restarting then (s.updMgmt fun m => { m with restarting := false }).unhalt else s)

/-! ### Upkeep of the NV ledger (R437, R438) -/

/-- LEDGER_POWERED (R437): 3,600 s of powered time have passed. -/
def execLedgerPowered (s : State) : Host.Outcome State Fault Refusal :=
  if s.mgmt.cond = .operating && s.mgmt.hoistOk then
    let t := s.err.powered + 3600
    .next (({ s with err := { s.err with powered := t, poweredAt := t } } : State).ledger { kind := 6 })
  else .next s

/-- The entries that a rotation keeps (R438): retirements, the last POWERED and BOOT, and DETECT and CLASSIFY of 24 h. -/
def Ledger.kept (l : Ledger) (now : Nat) : List LedgerEntry :=
  let last (k : Byte) : Option LedgerEntry := l.a.foldl (fun b e => if e.kind = k then some e else b) none
  l.a.filter fun e => e.kind = 3 || e.kind = 4 || some e = last 6 && e.kind = 6 || some e = last 7 && e.kind = 7 ||
    ((e.kind = 1 || e.kind = 2) && decide (now < e.poweredS.toNat + day))

/-- LEDGER_ROTATE (R438): the half in use is 90% full. -/
def execLedgerRotate (s : State) : Host.Outcome State Fault Refusal :=
  let l := s.err.ledger
  if 131072 * 9 ≤ l.a.length * 10 then
    let mark : LedgerEntry := { kind := 8, poweredS := BitVec.ofNat 32 s.err.powered.toNat
                                aux := BitVec.ofNat 64 (1 + l.a.foldl (fun n e => if e.kind = 8 then max n e.aux.toNat else n) 0) }
    .next { s with err := { s.err with ledger := { a := l.kept s.err.powered.toNat ++ [mark], b := l.a, second := !l.second } } }
  else .next s

end Sys2Proof.Machine
end

