-- ==== Sys2Proof/Machine/Sha.lean ====
section
/-! DEFINITION. SHA-256 and HMAC-SHA-256 (FIPS 180-4, RFC 2104), which R464 names. -/
namespace Sys2Proof.Machine

/-- The integer k-th root of n, found bit by bit from bit i - 1 down, added to r. -/
def rootFrom (k n : Nat) : Nat → Nat → Nat
  | 0, r => r
  | i + 1, r => rootFrom k n i (if (r + 2 ^ i) ^ k ≤ n then r + 2 ^ i else r)

/-- The first 32 bits of the fractional part of the k-th root of a prime: how FIPS 180-4 defines its constants. -/
def rootBits (k p : Nat) : W32 := BitVec.ofNat 32 (rootFrom k (p * 2 ^ (32 * k)) 37 0)

/-- The primes below 312, which are the first 64. -/
def shaPrimes : List Nat :=
  (List.range 312).filter fun n => 2 ≤ n && (List.range 18).all fun d => d < 2 || n ≤ d || n % d ≠ 0

/-- The words of a block that rounds still need, oldest first, and the eight working variables, a first. -/
structure ShaLoop where
  window : List W32
  v : List W32

/-- The linear mix of a schedule or state word: rotated right by a and b, and by c once more (shifted where cut). -/
def mix3 (x : W32) (a b c : Nat) (cut : Bool := false) : W32 :=
  x.rotateRight a ^^^ x.rotateRight b ^^^ (if cut then x >>> c else x.rotateRight c)

/-- One round with its constant: the oldest word enters, and the word sixteen rounds on takes its place. -/
def ShaLoop.round (l : ShaLoop) (k : W32) : ShaLoop :=
  let at' (i : Nat) : W32 := l.v.getD i 0
  let word (i : Nat) : W32 := l.window.getD i 0
  let choice := (at' 4 &&& at' 5) ||| (~~~(at' 4) &&& at' 6)
  let most := (at' 0 &&& (at' 1 ||| at' 2)) ||| (at' 1 &&& at' 2)
  let enter := at' 7 + mix3 (at' 4) 6 11 25 + choice + k + word 0
  let next := word 0 + mix3 (word 1) 7 18 3 true + word 9 + mix3 (word 14) 17 19 10 true
  { window := l.window.drop 1 ++ [next],
    v := (enter + mix3 (at' 0) 2 13 22 + most) :: l.v.take 3 ++ (at' 3 + enter) :: (l.v.drop 4).take 3 }

/-- The n 32-bit words of a byte string, most significant byte first. -/
def beWords : Nat → List Byte → List W32
  | 0, _ => []
  | n + 1, bs => BitVec.ofNat 32 (leNat (bs.take 4).reverse) :: beWords n (bs.drop 4)

/-- The hash value after one 64 B block. -/
def shaBlock (h : List W32) (b : List Byte) : List W32 :=
  let l := (shaPrimes.map (rootBits 3)).foldl ShaLoop.round { window := beWords 16 b, v := h }
  (List.range 8).map fun i => h.getD i 0 + l.v.getD i 0

/-- Compress n blocks. -/
def shaBlocks : Nat → List W32 → List Byte → List W32
  | 0, h, _ => h
  | n + 1, h, bs => shaBlocks n (shaBlock h (bs.take 64)) (bs.drop 64)

/-- SHA-256. -/
def sha256 (bs : List Byte) : List Byte :=
  let n := bs.length
  let m := bs ++ [0x80] ++ fillBytes ((119 - n % 64) % 64) 0 ++ beBytes 8 (8 * n)
  (shaBlocks (m.length / 64) ((shaPrimes.take 8).map (rootBits 2)) m).flatMap fun w => beBytes 4 w.toNat

/-- HMAC-SHA-256 with a key of at most 64 bytes. -/
def hmac256 (key msg : List Byte) : List Byte :=
  let k := padTo 64 key
  sha256 ((k.map (· ^^^ 0x5C)) ++ sha256 ((k.map (· ^^^ 0x36)) ++ msg))

end Sys2Proof.Machine
end

