-- ==== Sys2Proof/Machine/Management.lean ====
section
/-! DEFINITION. The management plane: flash, mailbox, UART, test access port, debug, sensors, thermal policy, power cap,
counters (R455 to R473). -/
namespace Sys2Proof.Machine

/-! ### Module flash (R437, R438, R456, R457) -/

/-- A ledger entry's 32 bytes (R437). -/
def LedgerEntry.bytes (e : LedgerEntry) : List Byte :=
  let b := [e.kind, e.src, e.canton, e.sub] ++ leBytes 4 e.word.toNat ++ leBytes 4 e.poweredS.toNat ++ leBytes 2 e.cls.toNat ++
    [e.outcome, 0xFF] ++ leBytes 8 e.aux.toNat ++ fillBytes 4 0xFF
  b ++ leBytes 2 (crc16 b).toNat ++ [0xFF, 0x5A]

/-- A byte of a half of the ledger. -/
def halfByte (es : List LedgerEntry) (o : Nat) : Byte :=
  match es[o / 32]? with
  | some e => e.bytes.getD (o % 32) 0xFF
  | none => 0xFF

/-- One byte of flash as the engine reads it (R456): the ledger and the fuse copies as the hoist firmware keeps them, 0xFF
in reserved areas. -/
def State.flashByte (s : State) (a : Nat) : Byte :=
  let l := s.err.ledger
  if a < 0x08000000 then SMap.get 0xFF s.mgmt.flash a
  else if a < 0x08400000 then halfByte (if l.second then l.b else l.a) (a - 0x08000000)
  else if a < 0x08800000 then halfByte (if l.second then l.a else l.b) (a - 0x08400000)
  else if a < 0x08820000 then
    let o := a - 0x08800000
    match (SMap.get [] s.mgmt.fuseCopy (o / 1024))[o % 1024 / 4]? with
    | some w => BitVec.ofNat 8 (w.toNat / 2 ^ (8 * (o % 4)))
    | none => 0xFF
  else if a < 0x08830000 || (0x10000000 ≤ a && a < 0x3D0000000) then SMap.get 0xFF s.mgmt.flash a
  else 0xFF

/-- n bytes of flash as the engine reads them. -/
def State.flashBytes (s : State) (a n : Nat) : List Byte := (List.range n).map fun i => s.flashByte (a + i)

/-- Whether flash may be written at an address (R456): 0 = yes, 2 = never, 3 = only while debug is unlocked. -/
def State.flashBar (s : State) (a : Nat) : Nat :=
  if a < 0x08000000 then if s.fbit fMgtStatDebug then 0 else 3
  else if (0x08820000 ≤ a && a < 0x08830000) || (0x10000000 ≤ a && a < 0x3D0000000) then 0 else 2

/-- Write bytes of flash. -/
def putFlash (m : List Host.Cell) (a : Nat) : List Byte → List Host.Cell
  | [] => m
  | b :: bs => putFlash (SMap.put 0xFF m a b) (a + 1) bs

/-- The page buffer as bytes, and from bytes. -/
def pageBytes (p : SMap W64) : List Byte := (List.range 32).flatMap fun i => leBytes 8 (SMap.get 0 p i).toNat
/-- The page buffer that holds a byte string. -/
def pageOf (bs : List Byte) : SMap W64 := (List.range 32).foldl (fun m i => SMap.put 0 m i (BitVec.ofNat 64 (leAt (8 * i) 8 bs))) []

/-- Queue a flash command. -/
def State.flashQueue (s : State) (q : FlashCmd) : State := s.updMgmt fun m => { m with flashQ := m.flashQ ++ [q] }

/-! ### Answers (R459, R462, R463) -/

/-- The ASCII digits of a byte in hexadecimal. -/
def hexByte (b : Byte) : List Byte :=
  let d (n : Nat) : Byte := BitVec.ofNat 8 (if n < 10 then 48 + n else 55 + n)
  [d (b.toNat / 16), d (b.toNat % 16)]

/-- Answer a request of R460: STATUS, its OP and data, on the path it came by. -/
def State.respond (s : State) (via : Via) (op status : Byte) (data : List Byte) : State :=
  s.updMgmt fun m => match via with
    | .smbus tag => { m with busy := false, rspReady := true, rsp := [status, tag, op] ++ data }
    | .uart => { m with uartOut := m.uartOut ++ [(status :: data).flatMap fun b => hexByte b ++ [32]] }
    | .tap => { m with tapOut := status :: data }

/-- Whether the target answers its address (R394, R458): a clock stopped while a request is in progress stops at its end.
It answers without valid hoist firmware too, whose FAULT only the management plane can read (R415). -/
def State.smbusOn (s : State) : Bool :=
  s.mgmt.cond = .operating && (s.fbit fMgtClkEnSmbus || s.mgmt.busy) && !(s.fbit fMgtStatAddrBad)

/-- Whether the UART runs (R394, R415). -/
def State.uartOn (s : State) : Bool := s.mgmt.cond = .operating && s.fbit fMgtClkEnUart

/-- What the BMC's last SMBus read returned; none where the target does not acknowledge. -/
def State.smbReturn (s : State) (bs : List Byte) : State := s.updMgmt fun m => { m with smbOut := if s.smbusOn then bs else [] }

/-! ### The operations of R460 and R464 -/

/-- Whether a register may be read by REG_READ. -/
def regReadable (off : Nat) : Bool :=
  off % 8 = 0 && (off < 0x20 || (0x20000 ≤ off && off < 0x60000) || (0x70000 ≤ off && off < 0x90000))

/-- The bytes of the response that R464 expects to a NONCE. -/
def Mgmt.expected (m : Mgmt) (nonce : W64) : List Byte :=
  (hmac256 (leBytes 32 m.key.toNat) (leBytes 8 nonce.toNat ++ leBytes 8 m.serial.toNat)).take 8

/-- REG_READ (R460). -/
def State.opRegRead (s : State) (via : Via) (off : Nat) : State :=
  if !(regReadable off) then s.respond via 6 2 []
  else if s.flashGated off then s.respond via 6 5 []
  else
    let v := s.readReg off
    (if off = 0x70040 then s.bufStep else s).respond via 6 0 (leBytes 8 v.toNat)

/-- Who writes a register by a path. -/
def viaCode : Via → Nat
  | .uart => 3
  | _ => 2

/-- REG_WRITE (R460): only PWR_CAP and MGT_CLK_EN. -/
def State.opRegWrite (s : State) (via : Via) (off : Nat) (v : W64) : State :=
  if off = 0x30010 || off = 0x70010 then (s.writeReg off (maskOf (2 ^ 64 - 1)) v (viaCode via)).respond via 7 0 []
  else s.respond via 7 2 []

/-- SENSOR (R460). -/
def State.opSensor (s : State) (via : Via) (unit : Nat) : State :=
  if unit < 100 then s.respond via 2 0 (leBytes 8 (s.canton unit).sensWord.toNat)
  else if unit = 100 then s.respond via 2 0 (leBytes 8 s.mgmt.sens.word.toNat)
  else s.respond via 2 2 []

/-- REC_INFO (R460): zeros after the count where no record is queued. -/
def State.opRecInfo (s : State) (via : Via) : State :=
  let r := s.err.bmc.head?
  let id : Nat := match r with
    | some r => r.id.toNat
    | none => 0
  let len : Nat := match r with
    | some r => if r.capture.isSome then 584 else 328
    | none => 0
  s.respond via 3 0 (leBytes 2 s.err.bmc.length ++ leBytes 8 id ++ leBytes 2 len)

/-- REC_READ (R460). -/
def State.opRecRead (s : State) (via : Via) (off : Nat) : State :=
  match s.err.bmc with
  | [] => s.respond via 4 0 []
  | r :: _ => s.respond via 4 0 (((r.cper s.mgmt.serial.toNat).drop off).take 240)

/-- REC_NEXT (R460). -/
def State.opRecNext (s : State) (via : Via) : State :=
  ({ s with err := { s.err with bmc := s.err.bmc.drop 1 } } : State).respond via 5 0 []

/-- A flash request goes to the flash engine, or is refused (R456, R460). -/
def State.opFlash (s : State) (via : Via) (code : Byte) (a : Nat) (ok write : Bool) (op : FlashOp) : State :=
  let bar := if write then s.flashBar a else 0
  if !(s.fbit fMgtClkEnFlash) then s.respond via code 5 []
  else if !ok then s.respond via code 2 []
  else if bar = 3 then s.respond via code 3 []
  else if bar = 2 then s.respond via code 4 []
  else s.flashQueue { path := some via, op := op, code := code }

/-- FLASH_PROG (R460). -/
def State.opFlashProg (s : State) (via : Via) (a : Nat) (data : List Byte) : State :=
  s.opFlash via 8 a (a % 16 = 0 && 1 ≤ data.length && data.length ≤ 240 && a % 256 + data.length ≤ 256) true (.program a data)

/-- FLASH_ERASE (R460). -/
def State.opFlashErase (s : State) (via : Via) (a : Nat) : State := s.opFlash via 9 a (a % 65536 = 0) true (.erase a)

/-- FLASH_READ (R460). -/
def State.opFlashRead (s : State) (via : Via) (a n : Nat) : State :=
  s.opFlash via 0x0A a (1 ≤ n && n ≤ 240) false (.read a n)

/-- DBG_CHALLENGE (R464): nonce is the value that the hoist island's random source gives. -/
def State.opChallenge (s : State) (via : Via) (nonce : W64) : State :=
  (s.updMgmt fun m => { m with nonce := some (nonce, s.engineNs) }).respond via 0x10 0 (leBytes 8 nonce.toNat)

/-- Whether a response is the right one to the NONCE in force, within its 60 s. -/
def State.unlocks (s : State) (resp : List Byte) : Bool :=
  match s.mgmt.nonce with
  | some (n, t) => decide (s.engineNs ≤ t + 60000000000) && resp = s.mgmt.expected n
  | none => false

/-- DBG_UNLOCK (R464): a NONCE serves once; after 3 wrong responses every attempt is refused. -/
def State.opUnlock (s : State) (via : Via) (resp : List Byte) : State :=
  if s.fbit fMgtStatLockout then s.respond via 0x11 6 []
  else
    let ok := s.unlocks resp
    let s := s.updMgmt fun m => { m with nonce := none }
    if ok then ((s.fset fMgtStatDebug 1).fset fMgtStatDebugSeen 1).respond via 0x11 0 []
    else
      let s := s.finc fMgtStatDbgFails
      (if 3 ≤ s.fget fMgtStatDbgFails then s.fset fMgtStatLockout 1 else s).respond via 0x11 6 []

/-- DBG_LOCK (R464). -/
def State.opLock (s : State) (via : Via) : State := (s.fset fMgtStatDebug 0).respond via 0x12 0 []

/-- IDENT (R460). -/
def State.opIdent (s : State) (via : Via) : State :=
  s.respond via 1 0 (leBytes 8 (s.readReg 0).toNat ++ leBytes 8 (s.readReg 8).toNat ++ leBytes 8 (s.readReg 0x10).toNat)

/-- Perform an operation by its OP and argument bytes (R460): STATUS 1 for an unknown OP, 2 for arguments of a wrong
length. nonce is what the random source would give. -/
def State.operate (s : State) (via : Via) (op : Byte) (xs : List Byte) (nonce : W64) : State :=
  let n := xs.length
  let bad := s.respond via op 2 []
  match op.toNat with
  | 0x01 => if n = 0 then s.opIdent via else bad
  | 0x02 => if n = 1 then s.opSensor via (leAt 0 1 xs) else bad
  | 0x03 => if n = 0 then s.opRecInfo via else bad
  | 0x04 => if n = 2 then s.opRecRead via (leAt 0 2 xs) else bad
  | 0x05 => if n = 0 then s.opRecNext via else bad
  | 0x06 => if n = 4 then s.opRegRead via (leAt 0 4 xs) else bad
  | 0x07 => if n = 12 then s.opRegWrite via (leAt 0 4 xs) (BitVec.ofNat 64 (leAt 4 8 xs)) else bad
  | 0x08 => if 5 ≤ n then s.opFlashProg via (leAt 0 4 xs) (xs.drop 4) else bad
  | 0x09 => if n = 4 then s.opFlashErase via (leAt 0 4 xs) else bad
  | 0x0A => if n = 5 then s.opFlashRead via (leAt 0 4 xs) (leAt 4 1 xs) else bad
  | 0x10 => if n = 0 then s.opChallenge via nonce else bad
  | 0x11 => if n = 8 then s.opUnlock via xs else bad
  | 0x12 => if n = 0 then s.opLock via else bad
  | _ => s.respond via op 1 []

/-- A request reaches the hoist island by a path (R459, R462, R463): the mailbox takes one at a time; TAP reaches the
debug functions alone. -/
def State.mgmtRequest (s : State) (via : Via) (f : State → State) : State :=
  match via with
  | .smbus _ =>
    if !s.smbusOn then s
    else if s.mgmt.busy then s.updMgmt fun m => { m with overrun := true }
    else f (s.updMgmt fun m => { m with busy := true, rspReady := false, overrun := false })
  | .uart => if s.uartOn then f s else s
  | .tap => s

/-- SMB_REQ (R459): a Block Write of command 0x10 with its bytes; pec says that its PEC is right; nonce is what the
random source gives to a DBG_CHALLENGE. -/
def execSmbReq (bs : List Byte) (pec : Bool) (nonce : W64) (s : State) : Host.Outcome State Fault Refusal :=
  match bs with
  | op :: tag :: xs =>
    if !s.smbusOn || 255 < bs.length then .next s
    else if !pec then .next (s.fset fMgtStatMbxPecErr 1)
    else .next (s.mgmtRequest (.smbus tag) fun s => s.operate (.smbus tag) op xs nonce)
  | _ => .next s

/-- SMB_RSP (R459): STATUS 0xFF while no response is ready. -/
def execSmbRsp (s : State) : Host.Outcome State Fault Refusal :=
  .next (s.smbReturn (if s.mgmt.rspReady then s.mgmt.rsp else [0xFF]))

/-- SMB_MSTAT (R459). -/
def execSmbMstat (s : State) : Host.Outcome State Fault Refusal :=
  let m := s.mgmt
  .next (s.smbReturn [BitVec.ofNat 8 (b2n m.busy + 2 * b2n m.rspReady + 4 * b2n (!s.err.bmc.isEmpty) +
    8 * b2n (s.fbit fMgtStatThermEvent) + 16 * b2n m.overrun)])

/-- Whether the module drives ALERT_N low (R461). -/
def State.alertLow (s : State) : Bool :=
  s.mgmt.cond = .operating && !s.mgmt.alertOff &&
  (s.err.bmc.any (fun r => r.disp ≠ 0) || s.fbit fMgtStatThermEvent || s.mgmt.thermtrip)

/-- ALERT_RESPONSE (R461): a read of the Alert Response Address that returns the module's address releases ALERT_N. -/
def execAlertResponse (s : State) : Host.Outcome State Fault Refusal :=
  if s.smbusOn && s.alertLow then
    .next ((s.smbReturn [BitVec.ofNat 8 (2 * s.fget fMgtStatAddr)]).updMgmt fun m => { m with alertOff := true })
  else .next (s.updMgmt fun m => { m with smbOut := [] })

/-- IDENT (R460). -/
def execIdent (via : Via) (s : State) : Host.Outcome State Fault Refusal := .next (s.mgmtRequest via fun s => s.opIdent via)
/-- SENSOR (R460). -/
def execSensor (via : Via) (unit : Byte) (s : State) : Host.Outcome State Fault Refusal :=
  .next (s.mgmtRequest via fun s => s.opSensor via unit.toNat)
/-- REC_INFO (R460). -/
def execRecInfo (via : Via) (s : State) : Host.Outcome State Fault Refusal := .next (s.mgmtRequest via fun s => s.opRecInfo via)
/-- REC_READ (R460). -/
def execRecRead (via : Via) (off : W16) (s : State) : Host.Outcome State Fault Refusal :=
  .next (s.mgmtRequest via fun s => s.opRecRead via off.toNat)
/-- REC_NEXT (R460). -/
def execRecNext (via : Via) (s : State) : Host.Outcome State Fault Refusal := .next (s.mgmtRequest via fun s => s.opRecNext via)
/-- REG_READ (R460). -/
def execRegRead (via : Via) (off : W32) (s : State) : Host.Outcome State Fault Refusal :=
  .next (s.mgmtRequest via fun s => s.opRegRead via off.toNat)
/-- REG_WRITE (R460). -/
def execRegWrite (via : Via) (off : W32) (v : W64) (s : State) : Host.Outcome State Fault Refusal :=
  .next (s.mgmtRequest via fun s => s.opRegWrite via off.toNat v)
/-- FLASH_PROG (R460). -/
def execFlashProg (via : Via) (a : W32) (data : List Byte) (s : State) : Host.Outcome State Fault Refusal :=
  .next (s.mgmtRequest via fun s => s.opFlashProg via a.toNat data)
/-- FLASH_ERASE (R460). -/
def execFlashErase (via : Via) (a : W32) (s : State) : Host.Outcome State Fault Refusal :=
  .next (s.mgmtRequest via fun s => s.opFlashErase via a.toNat)
/-- FLASH_READ (R460). -/
def execFlashRead (via : Via) (a : W32) (n : Byte) (s : State) : Host.Outcome State Fault Refusal :=
  .next (s.mgmtRequest via fun s => s.opFlashRead via a.toNat n.toNat)

/-- The TAP takes an instruction of its own while the hoist island runs (R463). -/
def State.tapTake (s : State) (i : TapInstr) : State :=
  if s.mgmt.cond = .operating then s.updMgmt fun m => { m with tap := i } else s

/-- A debug request by a path; TAP takes the debug instruction i (R463, R464). -/
def State.debugRequest (s : State) (via : Via) (i : TapInstr) (f : State → State) : State :=
  match via with
  | .tap => if s.mgmt.cond = .operating then f (s.tapTake i) else s
  | v => s.mgmtRequest v f

/-- DBG_CHALLENGE, or DBGCHAL of the TAP (R463, R464). -/
def execDbgChallenge (via : Via) (nonce : W64) (s : State) : Host.Outcome State Fault Refusal :=
  .next (s.debugRequest via .dbgchal fun s => s.opChallenge via nonce)
/-- DBG_UNLOCK, or DBGUNLOCK of the TAP (R463, R464). -/
def execDbgUnlock (via : Via) (resp : W64) (s : State) : Host.Outcome State Fault Refusal :=
  .next (s.debugRequest via .dbgunlock fun s => s.opUnlock via (leBytes 8 resp.toNat))
/-- DBG_LOCK (R464). -/
def execDbgLock (via : Via) (s : State) : Host.Outcome State Fault Refusal := .next (s.mgmtRequest via fun s => s.opLock via)

/-! ### The UART (R462) -/

/-- The value of an ASCII hexadecimal digit. -/
def hexDigit (b : Byte) : Option Nat :=
  let n := b.toNat
  if 48 ≤ n && n ≤ 57 then some (n - 48)
  else if 65 ≤ n && n ≤ 70 then some (n - 55)
  else if 97 ≤ n && n ≤ 102 then some (n - 87)
  else none

/-- The words of a line: runs of characters between spaces. -/
def wordsOfLine (bs : List Byte) : List (List Byte) :=
  let q := bs.foldl (fun (acc : List (List Byte) × List Byte) b =>
    if b = 32 then (if acc.2.isEmpty then acc else (acc.1 ++ [acc.2], [])) else (acc.1, acc.2 ++ [b])) ([], [])
  if q.2.isEmpty then q.1 else q.1 ++ [q.2]

/-- A word as a hexadecimal number. -/
def hexWord (w : List Byte) : Option Nat :=
  w.foldl (fun n b => match n, hexDigit b with
    | some n, some d => some (16 * n + d)
    | _, _ => none) (some 0)

/-- The widths in bytes of an operation's arguments (R460); what follows them is single bytes. -/
def argWidths (op : Nat) : List Nat :=
  match op with
  | 0x02 => [1]
  | 0x04 => [2]
  | 0x06 => [4]
  | 0x07 => [4, 8]
  | 0x08 => [4]
  | 0x09 => [4]
  | 0x0A => [4, 1]
  | 0x11 => [8]
  | _ => []

/-- Arguments as bytes; none where one does not fit its width. -/
def argBytes : List Nat → List Nat → Option (List Byte)
  | _, [] => some []
  | ws, v :: vs =>
    let w := ws.headD 1
    if v < 256 ^ w then (argBytes ws.tail vs).map fun r => leBytes w v ++ r else none

/-- UART_LINE (R462): a line of text; nonce is what the random source gives to a DBG_CHALLENGE. -/
def execUartLine (line : List Byte) (nonce : W64) (s : State) : Host.Outcome State Fault Refusal :=
  match wordsOfLine line with
  | [] => .next s
  | w :: ws =>
    .next (s.mgmtRequest .uart fun s =>
      match hexWord w, allOf (fun x => (hexWord x).map fun n => [n]) ws with
      | some op, some vs =>
        if 256 ≤ op then s.respond .uart 0 1 []
        else match argBytes (argWidths op) vs with
          | some xs => s.operate .uart (BitVec.ofNat 8 op) xs nonce
          | none => s.respond .uart (BitVec.ofNat 8 op) 2 []
      | _, _ => s.respond .uart 0 2 [])

/-! ### The test access port (R463) -/

/-- EXTEST (R463): accepted while the main switch is open or debug is unlocked; otherwise BYPASS takes its place. -/
def execExtest (s : State) : Host.Outcome State Fault Refusal :=
  .next (s.tapTake (if !s.mgmt.mainOn || s.fbit fMgtStatDebug then .extest else .bypass))

/-- DBGACC (R463): the instruction is taken; it reaches the debug access port while debugReached holds. -/
def execDbgacc (s : State) : Host.Outcome State Fault Refusal := .next (s.tapTake .dbgacc)

/-- Whether DBGACC reaches the debug access port (R463). -/
def State.debugReached (s : State) : Bool := s.mgmt.tap = .dbgacc && s.fbit fMgtStatDebug && s.fbit fMgtClkEnDebug

/-- IDCODE (R463). -/
def State.idcode (s : State) : W32 :=
  BitVec.ofNat 32 (s.mgmt.stepping.toNat % 16 * 2 ^ 28 + 0x0102 * 2 ^ 12 + s.mgmt.maker.toNat * 2 + 1)

/-! ### The BAR0 flash registers (R457, R471) -/

/-- A write of MGT_FLASH_CMD.OP: ignored while BUSY; refused at once where the area may not be written. -/
def State.flashCmd (s : State) (write : Bool) (op : FlashOp) (a : Nat) : State :=
  let bar := if write then s.flashBar a else 0
  if !s.host.decodes || !(s.fbit fMgtClkEnFlash) || s.fbit fMgtFlashCmdBusy then s
  else if bar ≠ 0 then s.fset fMgtFlashCmdStatus bar
  else (s.flashQueue { path := none, op := op }).fset fMgtFlashCmdBusy 1

/-- FLASH_CMD_PROGRAM (R457). -/
def execFlashCmdProgram (s : State) : Host.Outcome State Fault Refusal :=
  let a := s.fget fMgtFlashAddrAddr / 256 * 256
  .next (s.flashCmd true (.program a (pageBytes s.mgmt.page)) a)
/-- FLASH_CMD_ERASE (R457). -/
def execFlashCmdErase (s : State) : Host.Outcome State Fault Refusal :=
  let a := s.fget fMgtFlashAddrAddr / 65536 * 65536
  .next (s.flashCmd true (.erase a) a)
/-- FLASH_CMD_READ (R457). -/
def execFlashCmdRead (s : State) : Host.Outcome State Fault Refusal :=
  let a := s.fget fMgtFlashAddrAddr / 256 * 256
  .next (s.flashCmd false (.read a 256) a)

/-- A flash command of the BAR0 path ends. -/
def State.flashBarEnd (s : State) (status : Nat) (data : List Byte) (read : Bool) : State :=
  let s := (s.fset fMgtFlashCmdStatus status).fset fMgtFlashCmdBusy 0
  if read then s.updMgmt fun m => { m with page := pageOf data } else s

/-- The flash engine's oldest command ends with STATUS and data on its path. -/
def State.flashEnd (s : State) (q : FlashCmd) (status : Byte) (data : List Byte) (read : Bool) : State :=
  match q.path with
  | none => s.flashBarEnd status.toNat data read
  | some via => s.respond via q.code status data

/-- FLASH_COMMAND_END (R457): a program leaves every bit that is 0 at 0; fails are bits, by byte of the data, that the
cells do not take although the program clears them. The read-back gives STATUS 4 where it differs. -/
def execFlashCommandEnd (fails : List Byte) (s : State) : Host.Outcome State Fault Refusal :=
  match s.mgmt.flashQ with
  | [] => .next s
  | q :: qs =>
    let s := s.updMgmt fun m => { m with flashQ := qs }
    .next (match q.op with
      | .read a n => s.flashEnd q 0 (s.flashBytes a n) true
      | .erase a => (s.updMgmt fun m => { m with flash := SMap.clear m.flash a (a + 65536) }).flashEnd q 0 [] false
      | .program a bs =>
        let old := s.flashBytes a bs.length
        let new := (List.range bs.length).map fun i => old.getD i 0xFF &&& (bs.getD i 0xFF ||| fails.getD i 0)
        let s := s.updMgmt fun m => { m with flash := putFlash m.flash a new }
        s.flashEnd q (if new = bs then 0 else 4) [] false)

/-- FLASH_DATA_ACCESS (R471): a read, or a write of a value, of word BUF_IDX. -/
def execFlashDataAccess (v : Option W64) (s : State) : Host.Outcome State Fault Refusal :=
  let i := s.fget fMgtFlashCmdBufIdx
  if !s.host.decodes then .next s
  else if s.flashGated 0x70040 then
    .next (if v.isNone then s.updHost fun h => { h with readBack := fillBytes 8 0 } else s)
  else match v with
    | some w => .next (s.updMgmt fun m => { m with page := SMap.put 0 m.page i w }).bufStep
    | none => .next (s.updHost fun h => { h with readBack := leBytes 8 (SMap.get 0 s.mgmt.page i).toNat }).bufStep

/-! ### Sensors and the thermal policy (R468, R469) -/

/-- The emergency power-off of a canton (R393, R469): R447 without CANTON_RETIRE, and the thermal record. -/
def State.emergencyOff (s : State) (c : Nat) : State :=
  let s := s.supplyLoss c false
  let s := s.setCanton c { s.canton c with offByPlan := true, offHot := true }
  s.thermEvent.report 0x400 (hoistRec 0x20 2 c 8)

/-- Whether a planned power-off that the thermal policy asked for is not complete within its 1 s (R469). -/
def State.planLate (s : State) (c : Nat) : Bool := (s.canton c).planNs.any fun t => decide (t + 1000000000 ≤ s.engineNs)

/-- THERMAL_POWER_OFF (R393, R469): at 100 °C by plan, at 103 °C or where the plan takes over 1 s as an emergency; never
canton 40. -/
def State.thermalOff (s : State) (c : Nat) : State :=
  let t := (s.canton c).temp.toInt
  if c = 40 || !(s.online c) then s
  else if 103 * 16 ≤ t || s.planLate c then s.emergencyOff c
  else if 100 * 16 ≤ t then s.plannedOff c true
  else s

/-- A sample of canton c. -/
def State.sampleCanton (s : State) (c : Nat) (temp bayTemp vcore icore : W16) : State :=
  (s.setCanton c { s.canton c with temp := temp, bayTemp := if hasBay c then bayTemp else 0x8000, vcore := vcore, icore := icore }).thermalOff c

/-- INLET_HIGH (R468): above 30 °C once, until the inlet has read 28 °C or below. -/
def State.inlet (s : State) (t : Int) : State :=
  if 30 * 16 < t && !s.mgmt.inletHot then
    ((s.updMgmt fun m => { m with inletHot := true }).fset fMgtStatInletHigh 1).report 0x400 { cls := 0x20, disp := 2, block := 0x11 }
  else if t ≤ 28 * 16 then s.updMgmt fun m => { m with inletHot := false }
  else s

/-- SENSOR_SAMPLE (R468): of a canton, or of the module. -/
def execSensorSample (x : SensorIn) (s : State) : Host.Outcome State Fault Refusal :=
  if s.mgmt.cond ≠ .operating then .next s
  else match x with
    | .canton c temp bayTemp vcore icore => .next (s.sampleCanton c temp bayTemp vcore icore)
    | .module_ vin iin inlet outlet =>
      .next ((s.updMgmt fun m => { m with sens := ⟨vin, iin, inlet, outlet⟩ }).inlet inlet.toInt)

/-- Whether a canton has a bay temperature of at least t degrees. -/
def State.bayHot (s : State) (c : Nat) (t : Int) : Bool := hasBay c && decide (t * 16 ≤ (s.canton c).bayTemp.toInt)

/-- THERMAL_STEP_UP (R469): T ≥ 85 °C or the bay ≥ 95 °C, at once or 10 ms after the last rise. -/
def execThermalStepUp (c : CantonIx) (s : State) : Host.Outcome State Fault Refusal :=
  let x := s.canton c
  if s.online c && (decide (85 * 16 ≤ x.temp.toInt) || s.bayHot c 95) then
    let s := if x.thermReq = 3 then s else s.setCanton c { x with thermReq := x.thermReq + 1 }
    let s := if x.thermReq = 0 then s.thermEvent.report 0x400 (hoistRec 0x20 2 c 0) else s
    .next (s.thermalOff c)
  else .next s

/-- THERMAL_STEP_DOWN (R469): T < 80 °C and the bay < 90 °C for 100 ms since the last change. -/
def execThermalStepDown (c : CantonIx) (s : State) : Host.Outcome State Fault Refusal :=
  let x := s.canton c
  let falls : Bool := s.online c && x.temp.toInt < 80 * 16 && !(s.bayHot c 90) && x.thermReq ≠ 0
  .next ((if falls then s.setCanton c { x with thermReq := x.thermReq - 1 } else s).thermalOff c)

/-- THERMTRIP (R469): canton c reaches 105 °C; THERMTRIP_N is asserted and the main switch opens, until the auxiliary
supply is removed. -/
def execThermtrip (c : CantonIx) (s : State) : Host.Outcome State Fault Refusal :=
  if s.mgmt.cond = .unpowered || s.mgmt.thermtrip then .next s
  else if s.mgmt.cond = .reset then
    .next ((s.updMgmt fun m => { m with thermtrip := true }).fset fMgtStatThermtripSeen 1)
  else
    let s := (s.updMgmt fun m => { m with thermtrip := true, alertOff := false }).fset fMgtStatThermtripSeen 1
    if s.mgmt.mainOn then .next (s.thermEvent.report 0x400 (hoistRec 0x20 2 c 8)).mainOff else .next s

/-! ### The power cap (R470, R472) -/

/-- The cap in effect. -/
def State.cap (s : State) : Nat :=
  let w := s.fget fPwrCapWatts
  if w = 0 then 23000 else max 8000 (min w 23000)

/-- Of cantons, the n that a weight puts first: the largest first, ties to the lower index. -/
def topBy (f : Nat → Nat) : Nat → List Nat → List Nat
  | 0, _ => []
  | n + 1, cs =>
    match cs.foldl (fun (b : Option Nat) c => match b with
      | some k => if f k < f c then some c else b
      | none => some c) none with
    | some c => c :: topBy f n (cs.filter fun k => k ≠ c)
    | none => []

/-- Change the cap request of a canton. -/
def State.setCapReq (s : State) (c : Nat) (v : BitVec 2) : State := s.setCanton c { s.canton c with capReq := v }

/-- PWR_STAT's view of the cap requests. -/
def State.capView (s : State) : State :=
  let n := (List.range 100).countP fun c => (s.canton c).capReq ≠ 0
  (s.fset fPwrStatCapped n).fset fPwrStatCapActive (b2n (n ≠ 0))

/-- The average exceeds the cap (R470). -/
def State.capRaise (s : State) (drew : List W32) : State :=
  let s := s.updMgmt fun m => { m with lowMs := 0 }
  match (List.range 100).filter fun c => s.online c && (s.canton c).capReq ≠ 3 with
  | [] =>
    if s.fbit fPwrStatCapUnreached then s
    else (s.fset fPwrStatCapUnreached 1).report 0x400 { cls := 0x1F, disp := 1, block := 0x11 }
  | cs => (topBy (fun c => (drew.getD c 0).toNat) 10 cs).foldl (fun s c => s.setCapReq c ((s.canton c).capReq + 1)) s

/-- The average has stayed below 0.97 of the cap for one more millisecond (R470). -/
def State.capLower (s : State) : State :=
  let s := s.updMgmt fun m => { m with lowMs := m.lowMs + 1 }
  if s.mgmt.lowMs < 100 || s.mgmt.capWait ≠ 0 then s
  else match topBy (fun c => (s.canton c).capReq.toNat) 1 ((List.range 100).filter fun c => (s.canton c).capReq ≠ 0) with
    | c :: _ => (s.setCapReq c ((s.canton c).capReq - 1)).updMgmt fun m => { m with capWait := 10 }
    | [] => s

/-- POWER_CAP_TICK (R470): a millisecond ends with its average input power in W and what each canton drew in it. -/
def execPowerCapTick (watts : W16) (drew : List W32) (s : State) : Host.Outcome State Fault Refusal :=
  if !s.mgmt.mainOn then .next s
  else
    let p := watts.toNat
    let s := (s.fset fPwrStatPowerW p).fset fPwrStatPeakW (max p (s.fget fPwrStatPeakW))
    let s := s.updMgmt fun m => { m with capWait := m.capWait - 1 }
    let w := s.cap
    .next (if w < p then s.capRaise drew
      else if 100 * p < 97 * w then s.capLower
      else s.updMgmt fun m => { m with lowMs := 0 }).capView

/-- PWR_CAP_WRITE (R470, R472): from the host through BAR0, or from the BMC or the UART by REG_WRITE. -/
def execPwrCapWrite (src : CapWriter) (v : W64) (s : State) : Host.Outcome State Fault Refusal :=
  let all := maskOf (2 ^ 64 - 1)
  .next (match src with
    | .host => if s.host.decodes then s.writeCap all v 1 else s
    | .bmc => if s.smbusOn then s.writeCap all v 2 else s
    | .uart => if s.uartOn then s.writeCap all v 3 else s)

/-! ### Counters (R465, R473) -/

/-- CNT_CLEAR (R473): every counter and its WRAPPED bit become zero; sources stay. -/
def execCntClear (s : State) : Host.Outcome State Fault Refusal :=
  .next (if s.host.decodes then s.updMgmt fun m => { m with
      counters := (m.counters.map fun q => (q.1, { q.2 with count := 0, wrapped := false })).filter fun (q : Nat × Counter) => q.2 ≠ {} }
    else s)

end Sys2Proof.Machine
end

