-- ==== Sys2Proof/Machine/TileControl.lean ====
section
/-! DEFINITION. The meanings of the tile instructions of flags, BULK and control. -/
namespace Sys2Proof.Machine

/-- SYNC_ARRIVE (R161). -/
def execSyncArrive (p : At) (f : ArriveF) (s : State) : Host.Outcome State Fault Refusal :=
  .next (s.runInstr p (.syncArrive f) [])

/-- SYNC_WAIT (R161). -/
def execSyncWait (p : At) (flag g : BitVec 6) (s : State) : Host.Outcome State Fault Refusal :=
  .next (s.runInstr p (.syncWait flag g) [])

/-- BULK_READ (R162, R163). -/
def execBulkRead (p : At) (f : BulkF) (s : State) : Host.Outcome State Fault Refusal :=
  .next (s.runInstr p (.bulkRead f) [])

/-- BULK_WRITE (R162, R163). -/
def execBulkWrite (p : At) (f : BulkF) (s : State) : Host.Outcome State Fault Refusal :=
  .next (s.runInstr p (.bulkWrite f) [])

/-- BULK_WAIT (R163). -/
def execBulkWait (p : At) (btag : BitVec 2) (gr : BitVec 6) (inc : Bool)
    (s : State) : Host.Outcome State Fault Refusal :=
  .next (s.runInstr p (.bulkWait btag gr inc) [])

/-- LC_SETI (R164). -/
def execLcSeti (p : At) (lcn : BitVec 2) (wz : Bool) (pd pe : BitVec 3) (imm : BitVec 16)
    (s : State) : Host.Outcome State Fault Refusal :=
  .next (s.runInstr p (.lcSetI lcn wz pd pe imm) [])

/-- LC_SETG (R164). -/
def execLcSetg (p : At) (lcn : BitVec 2) (wz : Bool) (pd pe : BitVec 3) (gs : BitVec 6)
    (s : State) : Host.Outcome State Fault Refusal :=
  .next (s.runInstr p (.lcSetG lcn wz pd pe gs) [])

/-- LC_DEC (R164). -/
def execLcDec (p : At) (lcn : BitVec 2) (wz : Bool) (pd pe : BitVec 3)
    (s : State) : Host.Outcome State Fault Refusal :=
  .next (s.runInstr p (.lcDec lcn wz pd pe) [])

/-- CTL_P (R165). -/
def execCtlP (p : At) (f : CtlPF) (s : State) : Host.Outcome State Fault Refusal :=
  .next (s.runInstr p (.ctlP f) [])

/-- CTL_ALU (R166). -/
def execCtlAlu (p : At) (aop : BitVec 4) (gd ga gb : BitVec 6) (s : State) : Host.Outcome State Fault Refusal :=
  .next (s.runInstr p (.alu aop gd ga gb) [])

/-- CTL_ALUI (R166). -/
def execCtlAlui (p : At) (aop : BitVec 4) (gd ga : BitVec 6) (imm : BitVec 24)
    (s : State) : Host.Outcome State Fault Refusal :=
  .next (s.runInstr p (.alui aop gd ga imm) [])

/-- NOP (R167). -/
def execNop (p : At) (drop : BitVec 5) (s : State) : Host.Outcome State Fault Refusal :=
  .next (s.runInstr p (.nop drop) [])

end Sys2Proof.Machine
end

