-- ==== Sys2Proof/Machine/TileData.lean ====
section
/-! DEFINITION. The meanings of the tile instructions of moves and tile memory. -/
namespace Sys2Proof.Machine

/-- MOV_G_G (R154). -/
def execMovGG (p : At) (gd gs : BitVec 6) (s : State) : Host.Outcome State Fault Refusal :=
  .next (s.runInstr p (.movGG gd gs) [])

/-- MOV_V_V (R154). -/
def execMovVV (p : At) (vd vs : BitVec 3) (s : State) : Host.Outcome State Fault Refusal :=
  .next (s.runInstr p (.movVV vd vs) [])

/-- MOV_V_IQ (R154). -/
def execMovVIq (p : At) (q : BitVec 3) (qn nf : BitVec 5) (s : State) : Host.Outcome State Fault Refusal :=
  .next (s.runInstr p (.movVIq q qn nf) [])

/-- MOV_G_IQ (R154). -/
def execMovGIq (p : At) (gd : BitVec 6) (q : BitVec 3) (s : State) : Host.Outcome State Fault Refusal :=
  .next (s.runInstr p (.movGIq gd q) [])

/-- MOV_LANE_G (R154). -/
def execMovLaneG (p : At) (vd gs : BitVec 6) (lane : BitVec 5) (bcast : Bool)
    (s : State) : Host.Outcome State Fault Refusal :=
  .next (s.runInstr p (.movLaneG vd gs lane bcast) [])

/-- MOV_G_LANE (R154). -/
def execMovGLane (p : At) (gd vs : BitVec 6) (lane : BitVec 5)
    (s : State) : Host.Outcome State Fault Refusal :=
  .next (s.runInstr p (.movGLane gd vs lane) [])

/-- MOV_TABLE_G (R154). -/
def execMovTableG (p : At) (gs : BitVec 6) (entry : BitVec 7) (s : State) : Host.Outcome State Fault Refusal :=
  .next (s.runInstr p (.movTableG gs entry) [])

/-- MOV_G_TABLE (R154). -/
def execMovGTable (p : At) (gd : BitVec 6) (entry : BitVec 7) (s : State) : Host.Outcome State Fault Refusal :=
  .next (s.runInstr p (.movGTable gd entry) [])

/-- MOVI (R155). -/
def execMovi (p : At) (gd : BitVec 6) (high : Bool) (imm : BitVec 32)
    (s : State) : Host.Outcome State Fault Refusal :=
  .next (s.runInstr p (.movi gd high imm) [])

/-- LD (R156). -/
def execLd (p : At) (f : LdF) (s : State) : Host.Outcome State Fault Refusal :=
  .next (s.runInstr p (.ld f) [])

/-- LDX (R158). -/
def execLdx (p : At) (f : LdxF) (s : State) : Host.Outcome State Fault Refusal :=
  .next (s.runInstr p (.ldx f) [])

/-- ST (R157). -/
def execSt (p : At) (f : StF) (s : State) : Host.Outcome State Fault Refusal :=
  .next (s.runInstr p (.st f) [])

/-- SEND (R159, R160). -/
def execSend (p : At) (f : SendF) (s : State) : Host.Outcome State Fault Refusal :=
  .next (s.runInstr p (.send f) [])

end Sys2Proof.Machine
end

