-- ==== Sys2Proof/Machine/TileGroup.lean ====
section
/-! DEFINITION. The meanings of the tile instructions of GMAC, CLOSE and TREE. -/
namespace Sys2Proof.Machine

/-- GMAC (R138 to R143). -/
def execGmac (p : At) (f : GmacF) (chk : List CheckEv) (s : State) : Host.Outcome State Fault Refusal :=
  .next (s.runInstr p (.gmac f) chk)

/-- CLOSE (R82 to R87, R144 to R146). -/
def execClose (p : At) (f : CloseF) (chk : List CheckEv) (s : State) : Host.Outcome State Fault Refusal :=
  .next (s.runInstr p (.close f) chk)

/-- TREE (R89, R90, R147). -/
def execTree (p : At) (f : TreeF) (chk : List CheckEv) (s : State) : Host.Outcome State Fault Refusal :=
  .next (s.runInstr p (.tree f) chk)

end Sys2Proof.Machine
end

