-- ==== Sys2Proof/Machine/TileVector.lean ====
section
/-! DEFINITION. The meanings of the tile instructions of the vector unit. -/
namespace Sys2Proof.Machine

/-- VOP (R149). -/
def execVop (p : At) (f : VopF) (s : State) : Host.Outcome State Fault Refusal :=
  .next (s.runInstr p (.vop f) [])

/-- VSFN (R151). -/
def execVsfn (p : At) (f : VsfnF) (s : State) : Host.Outcome State Fault Refusal :=
  .next (s.runInstr p (.vsfn f) [])

/-- VRED (R152). -/
def execVred (p : At) (f : VredF) (s : State) : Host.Outcome State Fault Refusal :=
  .next (s.runInstr p (.vred f) [])

/-- VCVT_FROM (R153). -/
def execVcvtFrom (p : At) (f : VcvtFromF) (s : State) : Host.Outcome State Fault Refusal :=
  .next (s.runInstr p (.vcvtFrom f) [])

/-- VCVT_TO (R153). -/
def execVcvtTo (p : At) (f : VcvtToF) (s : State) : Host.Outcome State Fault Refusal :=
  .next (s.runInstr p (.vcvtTo f) [])

end Sys2Proof.Machine
end

