-- ==== Sys2Proof/Machine/Dispatch.lean ====
section
/-! DEFINITION. One arm per command: the meaning of each. -/
namespace Sys2Proof.Machine

def exec (i : Instr) (s : State) : Host.Outcome State Fault Refusal :=
  match i with
  | .tileIssueCycle t dup par chk => Sys2Proof.Machine.execTileIssueCycle t dup par chk s
  | .tileStep t dup par chk => Sys2Proof.Machine.execTileStep t dup par chk s
  | .gmac p f chk => Sys2Proof.Machine.execGmac p f chk s
  | .close p f chk => Sys2Proof.Machine.execClose p f chk s
  | .tree p f chk => Sys2Proof.Machine.execTree p f chk s
  | .vop p f => Sys2Proof.Machine.execVop p f s
  | .vsfn p f => Sys2Proof.Machine.execVsfn p f s
  | .vred p f => Sys2Proof.Machine.execVred p f s
  | .vcvtFrom p f => Sys2Proof.Machine.execVcvtFrom p f s
  | .vcvtTo p f => Sys2Proof.Machine.execVcvtTo p f s
  | .movGG p gd gs => Sys2Proof.Machine.execMovGG p gd gs s
  | .movVV p vd vs => Sys2Proof.Machine.execMovVV p vd vs s
  | .movVIq p q qn nf => Sys2Proof.Machine.execMovVIq p q qn nf s
  | .movGIq p gd q => Sys2Proof.Machine.execMovGIq p gd q s
  | .movLaneG p vd gs lane bcast => Sys2Proof.Machine.execMovLaneG p vd gs lane bcast s
  | .movGLane p gd vs lane => Sys2Proof.Machine.execMovGLane p gd vs lane s
  | .movTableG p gs entry => Sys2Proof.Machine.execMovTableG p gs entry s
  | .movGTable p gd entry => Sys2Proof.Machine.execMovGTable p gd entry s
  | .movi p gd high imm => Sys2Proof.Machine.execMovi p gd high imm s
  | .ld p f => Sys2Proof.Machine.execLd p f s
  | .ldx p f => Sys2Proof.Machine.execLdx p f s
  | .st p f => Sys2Proof.Machine.execSt p f s
  | .send p f => Sys2Proof.Machine.execSend p f s
  | .syncArrive p f => Sys2Proof.Machine.execSyncArrive p f s
  | .syncWait p flag g => Sys2Proof.Machine.execSyncWait p flag g s
  | .bulkRead p f => Sys2Proof.Machine.execBulkRead p f s
  | .bulkWrite p f => Sys2Proof.Machine.execBulkWrite p f s
  | .bulkWait p btag gr inc => Sys2Proof.Machine.execBulkWait p btag gr inc s
  | .lcSeti p lcn wz pd pe imm => Sys2Proof.Machine.execLcSeti p lcn wz pd pe imm s
  | .lcSetg p lcn wz pd pe gs => Sys2Proof.Machine.execLcSetg p lcn wz pd pe gs s
  | .lcDec p lcn wz pd pe => Sys2Proof.Machine.execLcDec p lcn wz pd pe s
  | .ctlP p f => Sys2Proof.Machine.execCtlP p f s
  | .ctlAlu p aop gd ga gb => Sys2Proof.Machine.execCtlAlu p aop gd ga gb s
  | .ctlAlui p aop gd ga imm => Sys2Proof.Machine.execCtlAlui p aop gd ga imm s
  | .nop p drop => Sys2Proof.Machine.execNop p drop s
  | .epochDiscard t q => Sys2Proof.Machine.execEpochDiscard t q s
  | .deadlockProbe t => Sys2Proof.Machine.execDeadlockProbe t s
  | .tileMemSplitWrite t v => Sys2Proof.Machine.execTileMemSplitWrite t v s
  | .routerSlotCycle c noise rev => Sys2Proof.Machine.execRouterSlotCycle c noise rev s
  | .seamFlitArrive t d lo hi => Sys2Proof.Machine.execSeamFlitArrive t d lo hi s
  | .seamCreditMessage t d => Sys2Proof.Machine.execSeamCreditMessage t d s
  | .seamNeighbourLost c d => Sys2Proof.Machine.execSeamNeighbourLost c d s
  | .routerTableWrite t off v => Sys2Proof.Machine.execRouterTableWrite t off v s
  | .tableSwitch c => Sys2Proof.Machine.execTableSwitch c s
  | .meshFlitReceive k d ok => Sys2Proof.Machine.execMeshFlitReceive k d ok s
  | .meshLinkFail k d => Sys2Proof.Machine.execMeshLinkFail k d s
  | .meshOutputArbitrate k o => Sys2Proof.Machine.execMeshOutputArbitrate k o s
  | .readReq k port => Sys2Proof.Machine.execReadReq k port s
  | .writeReq k port => Sys2Proof.Machine.execWriteReq k port s
  | .readRsp k => Sys2Proof.Machine.execReadRsp k s
  | .writeAck k port => Sys2Proof.Machine.execWriteAck k port s
  | .meshRequestTimeout k tid => Sys2Proof.Machine.execMeshRequestTimeout k tid s
  | .waypointTableUpdate => Sys2Proof.Machine.execWaypointTableUpdate s
  | .quiesceStop c => Sys2Proof.Machine.execQuiesceStop c s
  | .quiesceDrain c => Sys2Proof.Machine.execQuiesceDrain c s
  | .cantonDrained c => Sys2Proof.Machine.execCantonDrained c s
  | .drainArrival c => Sys2Proof.Machine.execDrainArrival c s
  | .quiesceConfirm c => Sys2Proof.Machine.execQuiesceConfirm c s
  | .quiesceSwitch c => Sys2Proof.Machine.execQuiesceSwitch c s
  | .quiesceSwitchPurge c => Sys2Proof.Machine.execQuiesceSwitchPurge c s
  | .quiesceAck c => Sys2Proof.Machine.execQuiesceAck c s
  | .resume c => Sys2Proof.Machine.execResume c s
  | .txnStage c => Sys2Proof.Machine.execTxnStage c s
  | .txnVote c => Sys2Proof.Machine.execTxnVote c s
  | .probe t => Sys2Proof.Machine.execProbe t s
  | .errNote f => Sys2Proof.Machine.execErrNote f s
  | .halyardRoundDone n flag => Sys2Proof.Machine.execHalyardRoundDone n flag s
  | .halyardLinkRetry c d flag ok => Sys2Proof.Machine.execHalyardLinkRetry c d flag ok s
  | .loadImage r ok late => Sys2Proof.Machine.execLoadImage r ok late s
  | .run r => Sys2Proof.Machine.execRun r s
  | .endFlagDone n => Sys2Proof.Machine.execEndFlagDone n s
  | .runTimeout n => Sys2Proof.Machine.execRunTimeout n s
  | .reconfigureDrain r => Sys2Proof.Machine.execReconfigureDrain r s
  | .reconfigurePurge r => Sys2Proof.Machine.execReconfigurePurge r s
  | .drainTimeout n => Sys2Proof.Machine.execDrainTimeout n s
  | .unload r => Sys2Proof.Machine.execUnload r s
  | .deadlockConfirm n => Sys2Proof.Machine.execDeadlockConfirm n s
  | .spillToPool t q => Sys2Proof.Machine.execSpillToPool t q s
  | .spillReinject t q => Sys2Proof.Machine.execSpillReinject t q s
  | .spillExhausted k => Sys2Proof.Machine.execSpillExhausted k s
  | .channelRetrain b lanes late => Sys2Proof.Machine.execChannelRetrain b lanes late s
  | .bayRetrain b v => Sys2Proof.Machine.execBayRetrain b v s
  | .autoRetrainThreshold b => Sys2Proof.Machine.execAutoRetrainThreshold b s
  | .bayRegionClassWrite b n w => Sys2Proof.Machine.execBayRegionClassWrite b n w s
  | .reencodeComplete st => Sys2Proof.Machine.execReencodeComplete st s
  | .prefetchIssue k pf => Sys2Proof.Machine.execPrefetchIssue k pf s
  | .dmaEntryComplete k q => Sys2Proof.Machine.execDmaEntryComplete k q s
  | .scrubComplete st => Sys2Proof.Machine.execScrubComplete st s
  | .wxtGrad p m => Sys2Proof.Machine.execWxtGrad p m s
  | .ueGroupApply p => Sys2Proof.Machine.execUeGroupApply p s
  | .ueApplied p => Sys2Proof.Machine.execUeApplied p s
  | .wxtCommit p m => Sys2Proof.Machine.execWxtCommit p m s
  | .refreshEnd p => Sys2Proof.Machine.execRefreshEnd p s
  | .ueScan p => Sys2Proof.Machine.execUeScan p s
  | .ueRollback p => Sys2Proof.Machine.execUeRollback p s
  | .ueRollfwd p => Sys2Proof.Machine.execUeRollfwd p s
  | .ueExpelClr p => Sys2Proof.Machine.execUeExpelClr p s
  | .ueInit p => Sys2Proof.Machine.execUeInit p s
  | .ueCommandEnd p => Sys2Proof.Machine.execUeCommandEnd p s
  | .ueEnable p => Sys2Proof.Machine.execUeEnable p s
  | .wxtExpel p m => Sys2Proof.Machine.execWxtExpel p m s
  | .wxtHello p m => Sys2Proof.Machine.execWxtHello p m s
  | .wxtWpull p m => Sys2Proof.Machine.execWxtWpull p m s
  | .wxtWpush p m => Sys2Proof.Machine.execWxtWpush p m s
  | .wxtAck p m => Sys2Proof.Machine.execWxtAck p m s
  | .wxtNack p m => Sys2Proof.Machine.execWxtNack p m s
  | .ackTimer p peer flow => Sys2Proof.Machine.execAckTimer p peer flow s
  | .rtoExpiry p express seq => Sys2Proof.Machine.execRtoExpiry p express seq s
  | .flowIdleClose p peer flow => Sys2Proof.Machine.execFlowIdleClose p peer flow s
  | .helloTimer p => Sys2Proof.Machine.execHelloTimer p s
  | .regLate p => Sys2Proof.Machine.execRegLate p s
  | .pfcFrame p line enable quanta => Sys2Proof.Machine.execPfcFrame p line enable quanta s
  | .pfcRefresh p => Sys2Proof.Machine.execPfcRefresh p s
  | .esmcPdu p line ssm essm event => Sys2Proof.Machine.execEsmcPdu p line ssm essm event s
  | .qlTimeout p => Sys2Proof.Machine.execQlTimeout p s
  | .neighbourRequest p line size half own => Sys2Proof.Machine.execNeighbourRequest p line size half own s
  | .gxRoundDone p => Sys2Proof.Machine.execGxRoundDone p s
  | .linkUp p preempt half1 => Sys2Proof.Machine.execLinkUp p preempt half1 s
  | .linkLoss p => Sys2Proof.Machine.execLinkLoss p s
  | .linkRetrain p => Sys2Proof.Machine.execLinkRetrain p s
  | .linkTrainTimeout p => Sys2Proof.Machine.execLinkTrainTimeout p s
  | .sqTailDoorbell r v => Sys2Proof.Machine.execSqTailDoorbell r v s
  | .cqHeadDoorbell r v => Sys2Proof.Machine.execCqHeadDoorbell r v s
  | .descriptorFetch ok => Sys2Proof.Machine.execDescriptorFetch ok s
  | .irqTimeExpiry r => Sys2Proof.Machine.execIrqTimeExpiry r s
  | .descNop r => Sys2Proof.Machine.execDescNop r s
  | .dma r bad => Sys2Proof.Machine.execDma r bad s
  | .scrub r => Sys2Proof.Machine.execScrub r s
  | .fence r => Sys2Proof.Machine.execFence r s
  | .checkpointSave r late => Sys2Proof.Machine.execCheckpointSave r late s
  | .checkpointRestore r ok late => Sys2Proof.Machine.execCheckpointRestore r ok late s
  | .counterSweep r => Sys2Proof.Machine.execCounterSweep r s
  | .query r => Sys2Proof.Machine.execQuery r s
  | .txnBegin r => Sys2Proof.Machine.execTxnBegin r s
  | .txnWrite r => Sys2Proof.Machine.execTxnWrite r s
  | .stagedRegWrite off n v => Sys2Proof.Machine.execStagedRegWrite off n v s
  | .txnCommit r => Sys2Proof.Machine.execTxnCommit r s
  | .txnAbort r => Sys2Proof.Machine.execTxnAbort r s
  | .txnVoteTimeout => Sys2Proof.Machine.execTxnVoteTimeout s
  | .txnApply c => Sys2Proof.Machine.execTxnApply c s
  | .ringEnable v => Sys2Proof.Machine.execRingEnable v s
  | .ringDisable => Sys2Proof.Machine.execRingDisable s
  | .ringReset => Sys2Proof.Machine.execRingReset s
  | .bar4Read sp o n late => Sys2Proof.Machine.execBar4Read sp o n late s
  | .bar4Write => Sys2Proof.Machine.execBar4Write s
  | .tileAccRead late => Sys2Proof.Machine.execTileAccRead late s
  | .tileAccWrite v => Sys2Proof.Machine.execTileAccWrite v s
  | .tileAccWriteDone ok => Sys2Proof.Machine.execTileAccWriteDone ok s
  | .warmReset perst => Sys2Proof.Machine.execWarmReset perst s
  | .pciePowerState q => Sys2Proof.Machine.execPciePowerState q s
  | .registerWrite off n v => Sys2Proof.Machine.execRegisterWrite off n v s
  | .nativeSwitch target e => Sys2Proof.Machine.execNativeSwitch target e s
  | .legacySwitch target edges => Sys2Proof.Machine.execLegacySwitch target edges s
  | .legacyNoClock => Sys2Proof.Machine.execLegacyNoClock s
  | .steerLock trim err => Sys2Proof.Machine.execSteerLock trim err s
  | .candidateWindow xtal tp locked => Sys2Proof.Machine.execCandidateWindow xtal tp locked s
  | .mgtXtalFail => Sys2Proof.Machine.execMgtXtalFail s
  | .refFail => Sys2Proof.Machine.execRefFail s
  | .portTxClockFail p => Sys2Proof.Machine.execPortTxClockFail p s
  | .bayClockFail b => Sys2Proof.Machine.execBayClockFail b s
  | .pcieRefclkLoss => Sys2Proof.Machine.execPcieRefclkLoss s
  | .meshClockFail c window => Sys2Proof.Machine.execMeshClockFail c window s
  | .ptxRestart p ok => Sys2Proof.Machine.execPtxRestart p ok s
  | .bayClockRestart b ok => Sys2Proof.Machine.execBayClockRestart b ok s
  | .clockRatioChange c => Sys2Proof.Machine.execClockRatioChange c s
  | .couplingLost c d => Sys2Proof.Machine.execCouplingLost c d s
  | .plannedPowerOff c thermal => Sys2Proof.Machine.execPlannedPowerOff c thermal s
  | .rejoin c w => Sys2Proof.Machine.execRejoin c w s
  | .hoistPowerOn p => Sys2Proof.Machine.execHoistPowerOn p s
  | .pwrEnSample high inputOk rail osc => Sys2Proof.Machine.execPwrEnSample high inputOk rail osc s
  | .undervoltage => Sys2Proof.Machine.execUndervoltage s
  | .auxFail => Sys2Proof.Machine.execAuxFail s
  | .waveSlotStart c w => Sys2Proof.Machine.execWaveSlotStart c w s
  | .bayTrain b lanes => Sys2Proof.Machine.execBayTrain b lanes s
  | .bayReady b => Sys2Proof.Machine.execBayReady b s
  | .portInit p ok => Sys2Proof.Machine.execPortInit p ok s
  | .engineCheck k => Sys2Proof.Machine.execEngineCheck k s
  | .errRingWrite => Sys2Proof.Machine.execErrRingWrite s
  | .errRingHead v => Sys2Proof.Machine.execErrRingHead v s
  | .errRingEnable v => Sys2Proof.Machine.execErrRingEnable v s
  | .errIrqTimer => Sys2Proof.Machine.execErrIrqTimer s
  | .replay t reproduced => Sys2Proof.Machine.execReplay t reproduced s
  | .replayNotPossible t => Sys2Proof.Machine.execReplayNotPossible t s
  | .retire ls => Sys2Proof.Machine.execRetire ls s
  | .sliceRecovery n reproduced ls ms => Sys2Proof.Machine.execSliceRecovery n reproduced ls ms s
  | .cantonSupplyLoss c lost => Sys2Proof.Machine.execCantonSupplyLoss c lost s
  | .ensignWatchdog => Sys2Proof.Machine.execEnsignWatchdog s
  | .ledgerPowered => Sys2Proof.Machine.execLedgerPowered s
  | .ledgerRotate => Sys2Proof.Machine.execLedgerRotate s
  | .smbReq bs pec nonce => Sys2Proof.Machine.execSmbReq bs pec nonce s
  | .smbRsp => Sys2Proof.Machine.execSmbRsp s
  | .smbMstat => Sys2Proof.Machine.execSmbMstat s
  | .alertResponse => Sys2Proof.Machine.execAlertResponse s
  | .ident via => Sys2Proof.Machine.execIdent via s
  | .sensor via unit => Sys2Proof.Machine.execSensor via unit s
  | .recInfo via => Sys2Proof.Machine.execRecInfo via s
  | .recRead via off => Sys2Proof.Machine.execRecRead via off s
  | .recNext via => Sys2Proof.Machine.execRecNext via s
  | .regRead via off => Sys2Proof.Machine.execRegRead via off s
  | .regWrite via off v => Sys2Proof.Machine.execRegWrite via off v s
  | .flashProg via a data => Sys2Proof.Machine.execFlashProg via a data s
  | .flashErase via a => Sys2Proof.Machine.execFlashErase via a s
  | .flashRead via a n => Sys2Proof.Machine.execFlashRead via a n s
  | .dbgChallenge via nonce => Sys2Proof.Machine.execDbgChallenge via nonce s
  | .dbgUnlock via resp => Sys2Proof.Machine.execDbgUnlock via resp s
  | .dbgLock via => Sys2Proof.Machine.execDbgLock via s
  | .uartLine line nonce => Sys2Proof.Machine.execUartLine line nonce s
  | .extest => Sys2Proof.Machine.execExtest s
  | .dbgacc => Sys2Proof.Machine.execDbgacc s
  | .flashCmdProgram => Sys2Proof.Machine.execFlashCmdProgram s
  | .flashCmdErase => Sys2Proof.Machine.execFlashCmdErase s
  | .flashCmdRead => Sys2Proof.Machine.execFlashCmdRead s
  | .flashCommandEnd fails => Sys2Proof.Machine.execFlashCommandEnd fails s
  | .flashDataAccess v => Sys2Proof.Machine.execFlashDataAccess v s
  | .sensorSample x => Sys2Proof.Machine.execSensorSample x s
  | .thermalStepUp c => Sys2Proof.Machine.execThermalStepUp c s
  | .thermalStepDown c => Sys2Proof.Machine.execThermalStepDown c s
  | .thermtrip c => Sys2Proof.Machine.execThermtrip c s
  | .powerCapTick watts drew => Sys2Proof.Machine.execPowerCapTick watts drew s
  | .pwrCapWrite src v => Sys2Proof.Machine.execPwrCapWrite src v s
  | .cntClear => Sys2Proof.Machine.execCntClear s
  | .clusterClassWrite k classW => Sys2Proof.Machine.execClusterClassWrite k classW s
  | .pfcPauseExpiry p prio => Sys2Proof.Machine.execPfcPauseExpiry p prio s
  | .mgtCrystalReturn => Sys2Proof.Machine.execMgtCrystalReturn s
  | .crystalJudgeWindow count => Sys2Proof.Machine.execCrystalJudgeWindow count s
  | .candidateNoEdge tp => Sys2Proof.Machine.execCandidateNoEdge tp s
  | .ensignRestartDone => Sys2Proof.Machine.execEnsignRestartDone s

end Sys2Proof.Machine
end

