-- ==== Sys2Proof/Machine/Pins.lean ====
section
/-! DEFINITION. What the module drives on its management pins between commands (R481, R483). Input pins are operands of
the commands that act on them; the lanes of the host link and of the ports carry what those commands carry. -/
namespace Sys2Proof.Machine

/-- The output pins of R481, and the two of the PCI Express sideband (R483). -/
inductive OutPin
  | prsntN
  | pgood
  | alertN
  | thermtripN
  | smbSda
  | uartTx
  | tdo
  | cprsntN
  | clkreqN
  deriving DecidableEq, Repr

/-- What the module does at a pin: drive it, or release it to the board's resistor. -/
inductive Drive
  | low
  | high
  | released
  deriving DecidableEq, Repr

/-- What the level is where a driver pulls the pin low, else released. -/
def pullLow (b : Bool) : Drive := if b then .low else .released

/-- R483: each pin in the module's condition. Between commands the console is idle, no SMBus transfer is under way, and
the test access port is in no Shift state. -/
def State.pin (s : State) (p : OutPin) : Drive :=
  match p, s.mgmt.cond with
  | .prsntN, _ => .low
  | .cprsntN, _ => .low
  | .pgood, .operating => if s.mgmt.pgood then .high else .low
  | .pgood, _ => .released
  | .alertN, _ => pullLow s.alertLow
  | .thermtripN, .unpowered => .released
  | .thermtripN, _ => pullLow s.mgmt.thermtrip
  | .smbSda, _ => .released
  | .uartTx, .operating => .high
  | .uartTx, _ => .released
  | .tdo, _ => .released
  | .clkreqN, .unpowered => .released
  | .clkreqN, _ => .low

/-- What a host or BMC reads from the pins (R483): a module in the slot with main power on. -/
def State.mainPowerSeen (s : State) : Bool := s.pin .prsntN = .low && s.pin .pgood = .high

end Sys2Proof.Machine
end

