-- ==== Sys2Proof/Safety.lean ====
section
/-! DEFINITION. What counts as a safe run, and the shapes in which the claims speak of a command's effect. -/
namespace Sys2Proof.Machine

/-- The canonical form of the byte memories: the engine's, the host's (both unlisted bytes 0) and the flash (0xFF). -/
def State.MemOk (s : State) : Prop :=
  s.mem.wf = true ∧ SMap.wf 0 s.host.mem = true ∧ SMap.wf 0xFF s.mgmt.flash = true

/-- A step is safe where it answers a next state. -/
def Safe (s : State) : Prop := ∃ t, step s = .next t

/-- A command is performed: it answers the next state t. -/
def Does (c : Instr) (s t : State) : Prop := exec c s = .next t

/-! ### Frames -/

/-- The parts of the state, one for each of its fields. -/
inductive Part
  | pending
  | tiles
  | routers
  | cantons
  | clusters
  | bays
  | mesh
  | mem
  | present
  | requests
  | bulkOps
  | nextOp
  | halPart
  | halAgents
  | rounds
  | eround
  | slices
  | pennOut
  | pennIn
  | host
  | ports
  | err
  | mgmt
  | regs
  | refcyc
  deriving DecidableEq, Repr

/-- A part of the state is the same before and after. -/
def Part.same (s t : State) : Part → Prop
  | .pending => t.pending = s.pending
  | .tiles => t.tiles = s.tiles
  | .routers => t.routers = s.routers
  | .cantons => t.cantons = s.cantons
  | .clusters => t.clusters = s.clusters
  | .bays => t.bays = s.bays
  | .mesh => t.mesh = s.mesh
  | .mem => t.mem = s.mem
  | .present => t.present = s.present
  | .requests => t.requests = s.requests
  | .bulkOps => t.bulkOps = s.bulkOps
  | .nextOp => t.nextOp = s.nextOp
  | .halPart => t.halPart = s.halPart
  | .halAgents => t.halAgents = s.halAgents
  | .rounds => t.rounds = s.rounds
  | .eround => t.eround = s.eround
  | .slices => t.slices = s.slices
  | .pennOut => t.pennOut = s.pennOut
  | .pennIn => t.pennIn = s.pennIn
  | .host => t.host = s.host
  | .ports => t.ports = s.ports
  | .err => t.err = s.err
  | .mgmt => t.mgmt = s.mgmt
  | .regs => t.regs = s.regs
  | .refcyc => t.refcyc = s.refcyc

/-- Nothing but the parts of a list has changed. -/
def Only (ps : List Part) (s t : State) : Prop := ∀ p, p ∉ ps → Part.same s t p

/-- Of the registers, only those at the offsets of a list have changed. -/
def OnlyRegs (offs : List Nat) (s t : State) : Prop := ∀ o, o ∉ offs → t.reg o = s.reg o

/-- A command is performed, and P holds of the state after it. -/
def Gives (c : Instr) (s : State) (P : State → Prop) : Prop := ∃ t, exec c s = .next t ∧ P t

/-! ### Pennants (R216, R243) -/

/-- The pennant p has arrived at a node from another and is the oldest from there, with one of the codes asked for; q is the
state once it is taken. -/
def State.Hands (s : State) (src dst : Nat) (mine : Pennant → Bool) (p : Pennant) (q : State) : Prop :=
  s.takePennant src dst mine = (some p, q)

/-- The controller of canton c hears the message m of the ensign complex with the OP of a command; q is the state once it is
taken. -/
def State.Hears (s : State) (c op : Nat) (m : QMsg) (q : State) : Prop := s.hear c op = (some m, q)

/-- The ensign complex hears the answer a of canton c's controller. -/
def State.HearsAck (s : State) (c : Nat) (a : QAck) (q : State) : Prop := s.hearAck c = (some a, q)

/-! ### Management requests (R459, R462) -/

/-- A request of R460 is taken on a path: the mailbox answers its address and is free, or the UART runs; s0 is the state
that the operation starts from. TAP takes none. -/
def State.Takes (s : State) (via : Via) (s0 : State) : Prop :=
  match via with
  | .smbus _ => s.smbusOn = true ∧ s.mgmt.busy = false ∧
      s0 = s.updMgmt fun m => { m with busy := true, rspReady := false, overrun := false }
  | .uart => s.uartOn = true ∧ s0 = s
  | .tap => False

/-! ### Tile instructions -/

/-- A tile instruction may issue by itself (R127): its tile is present and not stopped, nothing is in flight in it, no
word of it holds an error, its trigger holds, and it is legal and ready. Its queues are as the tile sees them: without flits
that a spill still keeps from it (R247). -/
structure Ready (s : State) (p : At) (op : TOp) : Prop where
  present : s.isPresent p.tile = true
  running : (s.seen p.tile).status.stopped = false
  quiet : (s.seen p.tile).inflight = []
  clean : (s.seen p.tile).syn = []
  trig : triggered (s.seen p.tile) p.hd = true
  legal : TOp.legal p.hd op = true
  own : ownReady (s.seen p.tile) op = true

/-- A tile that has met poisoned data (R118). -/
def Tile.met (t : Tile) (b : Bool) : Tile :=
  if b then Tile.count 0x0C 1 { t with status := { t.status with poison := true } } else t

/-- A tile that has popped one flit of IQn (R113). -/
def Tile.popped (t : Tile) (n : Nat) : Tile := ((t.drop n).count 0x0A 1).count (0x16 + n) 1

/-- A tile that has sent a flit on output n (R114). -/
def Tile.sent (t : Tile) (n : Nat) (f : Flit) : Tile :=
  (({ t with cred := SMap.put 0 t.cred n (BitVec.ofNat 6 (t.credit n - 1))
             outbox := SMap.put [] t.outbox n (SMap.get [] t.outbox n ++ [f]) } : Tile).count 0x0B 1).count (0x1B + n) 1

/-- The state after an instruction that changes only its tile, by f: the issue is counted first, the rider comes last
(R125). Flits of its queues that a spill keeps from the tile stay behind those that it sees (R247). -/
def State.after (s : State) (p : At) (f : Tile → Tile) : State :=
  s.setTile p.tile (s.unhide p.tile ((f ((s.seen p.tile).count 0x02 1)).rider p.hd))

/-- The tile at work on an instruction. One that stops its tile in its issue cycle has not issued (R119). -/
def State.txIn (s : State) (p : At) (op : TOp) : TX := s.tx p.tile p.n (TInstr.word ⟨p.hd, op⟩)

/-- The tile at work on an instruction whose issue is counted. -/
def State.txOf (s : State) (p : At) (op : TOp) : TX := (s.txIn p op).count 0x02 1

/-- What a BULK changes in its tile (R162, R163): one more operation under its tag, both address registers advanced
where INC, and events 0x15 and 0x14. -/
def bulkTile (f : BulkF) (t : Tile) : Tile :=
  let n := bulkRows f.len
  let u := t.setBtag f.btag.toNat { t.btag f.btag.toNat with out := (t.btag f.btag.toNat).out + 1 }
  let u :=
    if f.inc then
      let u := u.advG f.gl.toNat (64 * n)
      let w := (u.getG f.gr.toNat).toNat
      { u with g := SMap.put 0 u.g f.gr.toNat (BitVec.ofNat 64 (w / 2 ^ 48 * 2 ^ 48 + (w + 64 * n) % 2 ^ 48)) }
    else u
  (u.count 0x15 1).count 0x14 1

/-- No word of tile t's memory holds an error (R111). -/
def TileMarks (s : State) (t : Nat) : Prop := ∀ w, s.mem.mark (tileBase t + 8 * w) = 0

/-- The n bytes of tile t's memory from an address modulo 64 KiB (R109). -/
def State.tileBytes (s : State) (t a n : Nat) : List Byte :=
  (List.range n).map fun i => s.mem.byte (tileBase t + (a + i) % 65536)

/-- The n bytes of an operand buffer from an address modulo 2 KiB (R98). -/
def Tile.bufBytes (t : Tile) (b : Bool) (a n : Nat) : List Byte :=
  (List.range n).map fun i => SMap.get 0 (if b then t.bufB else t.bufA) ((a + i) % 2048)

/-- The poison of row r of an operand buffer (R117). -/
def Tile.bufPoison (t : Tile) (b : Bool) (r : Nat) : Bool := (if b then t.bTag else t.aTag).getLsbD r

/-- The data of an ST from a register or a buffer, and whether they are poisoned (R157, R117). -/
def stData (t : Tile) (f : StF) : List Byte × Bool :=
  let r := f.sr.toNat
  let row := (t.getG r).toNat % 2048 / 64
  match f.ss.toNat with
  | 0 => (t.quarter r ++ t.quarter (r + 1), t.vPoison (r % 32 / 4) || t.vPoison ((r + 1) % 32 / 4))
  | 3 => (leBytes 8 (t.getG r).toNat, t.gPoison r)
  | ss => if t.gPoison r then (fillBytes 64 0, true) else (t.bufBytes (ss = 2) (64 * row) 64, t.bufPoison (ss = 2) row)

/-- The flits of a SEND from quarters, a G register or a slot (R160), with END on the last. -/
def sendList (t : Tile) (f : SendF) : List Flit :=
  let n := flitCount f.nf
  let r := f.srcreg.toNat
  match f.ssrc.toNat with
  | 0 => (List.range n).map fun i =>
      { payload := payloadOf (t.quarter (f.qs.toNat + i)), kind := f.kind, epoch := t.epoch.cur, tag := f.tag
        poison := t.vPoison ((f.qs.toNat + i) % 32 / 4), eot := f.eot && i + 1 = n }
  | 1 => [{ payload := BitVec.ofNat 256 (t.getG r).toNat, kind := f.kind, epoch := t.epoch.cur, tag := f.tag
            poison := t.gPoison r, eot := f.eot }]
  | _ =>
    let ls := (List.range 4).map fun l => t.lane (4 * (r % 8) + l)
    let psn := ls.any (·.poison)
    [{ payload := (partialPayloads ls).1, epoch := t.epoch.cur, tag := f.tag, poison := psn },
     { payload := (partialPayloads ls).2, epoch := t.epoch.cur, tag := f.tag, poison := psn, eot := f.eot }]

/-- The poison of each input that a SEND of sendList reads, a V register once however many of its quarters leave (R118). -/
def sendMet (t : Tile) (f : SendF) : List Bool :=
  match f.ssrc.toNat with
  | 0 => ((List.range (flitCount f.nf)).map fun i => (f.qs.toNat + i) % 32 / 4).eraseDups.map t.vPoison
  | 1 => [t.gPoison f.srcreg.toNat]
  | _ => (List.range 4).map fun l => (t.lane (4 * (f.srcreg.toNat % 8) + l)).poison

/-- One iteration of a GMAC (R139 to R142): its A flits are popped where the A side is a queue, its rows of tile memory
are counted, then the groups are formed. g is what the GMAC holds from its issue; the number of A flits popped so far
goes in and out. -/
def TX.gmacOnce (x : TX) (h : Head) (f : GmacF) (g : GmacBase) (popped iter : Nat) (skip : Bool) (chk : List CheckEv) :
    Option (Nat × TX) :=
  if gmacAQueue f then
    let r := x.gmacPops f { n := x.n, hd := h, op := .gmac f, popped := popped } (if skip then 2 else 16)
    if r.2.stop.isSome then none
    else (cutRecs f.afmt.toNat (gmacACount f) r.1.got).map fun a =>
      (r.1.popped, (r.2.count 0x10 (gmacRows g f iter)).gmacIter f g iter skip chk a.1)
  else some (popped, (x.count 0x10 (gmacRows g f iter)).gmacIterA f g iter skip chk)

/-- A GMAC from iteration iter on, n iterations in all; none where a flit is missing or an iteration stops. -/
def TX.gmacAll (h : Head) (f : GmacF) (g : GmacBase) (chk : List CheckEv) : Nat → Nat → Nat → TX → Option TX
  | 0, _, _, x => some x
  | n + 1, iter, popped, x => (x.gmacOnce h f g popped iter false chk).bind fun r =>
      if r.2.stop.isSome then none else TX.gmacAll h f g chk n (iter + 1) r.1 r.2

end Sys2Proof.Machine
end

