-- ==== Sys2Proof/Certificates/Slice0/Obligations.lean ====
section
/-! DEFINITION. The statements about the machine. Each docstring names the rules of the spec, and where a clause rests on a
choice of the model the log entries that hold it. -/
open Sys2Proof Sys2Proof.Machine

/-- A step with a command waiting performs the command at the front of the queue on the state with the queue's rest. Where
the spec leaves a point open, the model's choice: log entry 1. -/
def Obligations.StepRunsFront : Prop :=
  ∀ (s : State) (c : Instr), step { s with pending := c :: s.pending } = exec c s

/-- A step with no command waiting is one cycle of the reference, or in holdover four of the management domain (the
model's choice, log entry 1; R384): REFCYC counts it unless a legacy switch holds the domain, and nothing else
changes. Where the spec leaves a point open, the model's choice: log entry 1. -/
def Obligations.StepIdle : Prop :=
  ∀ (s : State), s.pending = [] → ∃ t, step s = .next t ∧ Only [.refcyc] s t ∧
    t.refcyc = if s.stopped then s.refcyc else s.refcyc + (if s.active = 2 then 25 else 1)

/-- Every command of the table answers a next state, in every state and with every operand: the spec stops none of them.
Where the spec leaves a point open, the model's choice: log entry 3. -/
def Obligations.EveryCommandAnswers : Prop :=
  (∀ (c : Instr) (s : State), ∃ t, exec c s = .next t) ∧ ∀ s : State, Safe s

/-- No command changes the queue of the commands that wait. Where the spec leaves a point open, the model's choice: log
entry 1. -/
def Obligations.QueueUntouched : Prop :=
  ∀ (c : Instr) (s t : State), Does c s t → t.pending = s.pending

/-- The byte memories keep their canonical form in every step: engine memory and its check marks, host memory, flash.
Where the spec leaves a point open, the model's choice: log entries 6, 51. -/
def Obligations.MemoriesKeepTheirForm : Prop :=
  ∀ (s t : State), s.MemOk → step s = .next t → t.MemOk

/-- The machine right after reset: the memories are in canonical form, engine memory reads 0 with valid check bits, no
command waits, no canton is powered, every instruction store is VOID, every register holds its reset value, and no
reference is selected. Where the spec leaves a point open, the model's choice: log entries 6, 9, 11. -/
def Obligations.ResetState : Prop :=
  State.reset.MemOk ∧ State.reset.pending = [] ∧ State.reset.refcyc = 0 ∧
  (∀ a, State.reset.mem.byte a = 0 ∧ State.reset.mem.mark a = 0) ∧
  (∀ c, State.reset.online c = false ∧ (State.reset.canton c).powered = false) ∧
  (∀ t, State.reset.isPresent t = false ∧ (State.reset.tile t).inflight = [] ∧
    (∀ w, decodeWord (SMap.get 0 (State.reset.tile t).istore w) = .void)) ∧
  (∀ off, State.reset.reg off = regReset off) ∧ State.reset.active = 2 ∧ State.reset.mgmt.mainOn = false ∧
  State.reset.readReg 0x100 = 0x0000020404000840

/-- Tile instructions (R124, R126 and the field tables of each opcode): the 64-bit word of every instruction, with every
operand at every value, decodes to it, its common fields where R124 has them. -/
def Obligations.TileWordsRoundTrip : Prop :=
  ∀ i : TInstr, decodeWord (TInstr.word i) = .instr i ∧
    (TInstr.word i).extractLsb' 59 5 = i.hd.qmask ∧ (TInstr.word i).extractLsb' 55 4 = i.hd.omask ∧ (TInstr.word i).extractLsb' 52 3 = i.hd.psel ∧
    (TInstr.word i).extractLsb' 3 3 = i.hd.ps ∧ (TInstr.word i).extractLsb' 0 3 = i.hd.pc

/-- Tile instructions (R124, R126): a word that decodes to an instruction is that instruction's word, so that no two words
spell one instruction; a word of opcode 0 is VOID and no other is. -/
def Obligations.TileWordsUnique : Prop :=
  (∀ (w : W64) (i : TInstr), decodeWord w = .instr i → (TInstr.word i) = w) ∧
  ∀ w : W64, decodeWord w = .void ↔ w.extractLsb' 46 6 = 0

/-- The check code (R491): its columns, its check byte, and what a syndrome says of a stored word: an error of one bit, of
the data or of the check byte, is corrected; one of two bits and the syndrome 0xFF never are. -/
def Obligations.CheckCode : Prop :=
  (eccCols.length = 64 ∧ (eccCols.take 56).Pairwise (· < ·) ∧
    (∀ x, x ∈ eccCols.take 56 ↔ x < 256 ∧ popcount 8 x = 3) ∧
    eccCols.drop 56 = [0x1F, 0x2F, 0x37, 0x3B, 0x3D, 0x3E, 0x4F, 0x57]) ∧
  (eccCheck 0 = 0 ∧ ∀ (w : W64) (i : Nat), i < 64 →
    eccCheck (w ^^^ BitVec.ofNat 64 (2 ^ i)) = eccCheck w ^^^ eccCols.getD i 0) ∧
  (∀ w : W64, eccCheck w < 256 ∧ eccFix 0 w = some w ∧ eccFix 0xFF w = none) ∧
  (∀ (w : W64) (k : Byte) (i : Nat), i < 64 → k.toNat = eccCheck w →
    let stored := w ^^^ BitVec.ofNat 64 (2 ^ i)
    eccFix (BitVec.ofNat 8 (k.toNat ^^^ eccCheck stored)) stored = some w) ∧
  (∀ (w : W64) (k : Byte) (j : Nat), j < 8 → k.toNat = eccCheck w →
    eccFix (BitVec.ofNat 8 ((k.toNat ^^^ 2 ^ j) ^^^ eccCheck w)) w = some w) ∧
  (∀ (w x : W64) (i j : Nat), i < 64 → j < 64 → i ≠ j →
    eccFix (BitVec.ofNat 8 (eccCols.getD i 0 ^^^ eccCols.getD j 0)) w = none ∧
    (∀ k, k < 8 → eccFix (BitVec.ofNat 8 (eccCols.getD i 0 ^^^ 2 ^ k)) w = none) ∧
    (∀ k l, k < 8 → l < 8 → k ≠ l → eccFix (BitVec.ofNat 8 (2 ^ k ^^^ 2 ^ l)) x = none))

/-- The decoder's M and E (R45): zero where mag is 0, else M is mag with its leading one at bit 15 and E is e0 + L − 1;
and every finite operand of a format other than FP32 has M below 2^16. -/
def Obligations.OperandsNormalized : Prop :=
  (∀ (s : Bool) (e : Int), normalize s 0 e = ⟨0, s, 0, 0⟩) ∧
  (∀ (s : Bool) (mag l : Nat) (e : Int), 0 < l → 2 ^ (l - 1) ≤ mag → mag < 2 ^ l →
    normalize s mag e = ⟨1, s, mag * 2 ^ (16 - l), e + l - 1⟩ ∧
    (normalize s mag e).res = mag * 2 ^ (16 - l) % 31 ∧ (l ≤ 16 → 2 ^ 15 ≤ (normalize s mag e).m ∧ (normalize s mag e).m < 2 ^ 16)) ∧
  (∀ (tab : DecodeTables) (fmt rec i : Nat), fmt ≠ 0 → (decodeElem tab fmt rec i).hi.cls = 1 →
    2 ^ 15 ≤ (decodeElem tab fmt rec i).hi.m ∧ (decodeElem tab fmt rec i).hi.m < 2 ^ 16)

/-- The units that contain a tile, and its local numbers (R22): by the formulas of its column and row, each in its range;
a cluster and a local number name one tile; the tile of Example 1. -/
def Obligations.TileCoordinates : Prop :=
  (∀ x y : Nat, x < 640 → y < 360 →
    clusterOf (640 * y + x) = 80 * (y / 6) + x / 8 ∧ x / 8 < 80 ∧ y / 6 < 60 ∧
    cantonOf (640 * y + x) = 10 * (y / 6 / 6) + x / 8 / 8 ∧ x / 8 / 8 < 10 ∧ y / 6 / 6 < 10 ∧
    localCluster (clusterOf (640 * y + x)) = y / 6 % 6 * 8 + x / 8 % 8 ∧ localCluster (clusterOf (640 * y + x)) < 48 ∧
    localTile (640 * y + x) = y % 6 * 8 + x % 8 ∧ localTile (640 * y + x) < 48 ∧
    tileAt (clusterOf (640 * y + x)) (localTile (640 * y + x)) = 640 * y + x ∧
    clusterAt (cantonOf (640 * y + x)) (localCluster (clusterOf (640 * y + x))) = clusterOf (640 * y + x) ∧
    cantonOfCluster (clusterOf (640 * y + x)) = cantonOf (640 * y + x)) ∧
  (clusterOf 130437 = 2704 ∧ cantonOf 130437 = 58 ∧ localCluster 2704 = 24 ∧ localTile 130437 = 45)

/-- MOV and MOVI into G (R154, R155): the destination register takes the value and the poison of its source, the predicate
rider applies, and nothing else of the block changes. MOV into V and into a decode table (R154, R53): the destination
takes the value and the poison of its source, the predicate rider applies, and nothing else of the block changes. A
lane write keeps the register's other lanes. Where the spec leaves a point open, the model's choice: log entry 12. -/
def Obligations.RegisterMoves : Prop :=
  (∀ (s : State) (p : At) (gd gs : BitVec 6), Ready s p (.movGG gd gs) →
    Does (.movGG p gd gs) s (s.after p fun t =>
      (t.met (t.gPoison gs.toNat)).setG gd.toNat (t.getG gs.toNat) (t.gPoison gs.toNat))) ∧
  (∀ (s : State) (p : At) (gd vs : BitVec 6) (lane : BitVec 5), Ready s p (.movGLane gd vs lane) →
    Does (.movGLane p gd vs lane) s (s.after p fun t =>
      (t.met (t.vPoison (vs.toNat % 8))).setG gd.toNat (((t.vLanes (vs.toNat % 8)).getD lane.toNat 0).zeroExtend 64)
        (t.vPoison (vs.toNat % 8)))) ∧
  (∀ (s : State) (p : At) (gd : BitVec 6) (entry : BitVec 7), Ready s p (.movGTable gd entry) →
    (tableEntry (s.seen p.tile).tables entry.toNat).2 = false →
    Does (.movGTable p gd entry) s (s.after p fun t =>
      t.setG gd.toNat ((tableEntry t.tables entry.toNat).1.zeroExtend 64) false)) ∧
  (∀ (s : State) (p : At) (gd : BitVec 6) (imm : BitVec 32), Ready s p (.movi gd false imm) →
    Does (.movi p gd false imm) s (s.after p fun t => t.setG gd.toNat (imm.signExtend 64) false)) ∧
  (∀ (s : State) (p : At) (gd : BitVec 6) (imm : BitVec 32), Ready s p (.movi gd true imm) →
    Does (.movi p gd true imm) s (s.after p fun t =>
      (t.met (t.gPoison gd.toNat)).setG gd.toNat (imm ++ (t.getG gd.toNat).extractLsb' 0 32) (t.gPoison gd.toNat))) ∧
  (∀ (s : State) (p : At) (vd vs : BitVec 3), Ready s p (.movVV vd vs) →
    Does (.movVV p vd vs) s (s.after p fun t =>
      (t.met (t.vPoison vs.toNat)).setV vd.toNat (t.vBytes vs.toNat) (t.vPoison vs.toNat))) ∧
  (∀ (s : State) (p : At) (vd gs : BitVec 6) (lane : BitVec 5), Ready s p (.movLaneG vd gs lane true) →
    Does (.movLaneG p vd gs lane true) s (s.after p fun t =>
      (t.met (t.gPoison gs.toNat)).setLanes (vd.toNat % 8)
        (List.replicate 32 (BitVec.ofNat 32 (t.getG gs.toNat).toNat)) (t.gPoison gs.toNat))) ∧
  (∀ (s : State) (p : At) (vd gs : BitVec 6) (lane : BitVec 5), Ready s p (.movLaneG vd gs lane false) →
    Does (.movLaneG p vd gs lane false) s (s.after p fun t =>
      (t.met (t.gPoison gs.toNat)).setLanes (vd.toNat % 8)
        (updAt lane.toNat (fun _ => BitVec.ofNat 32 (t.getG gs.toNat).toNat) (t.vLanes (vd.toNat % 8)))
        (t.gPoison gs.toNat || t.vPoison (vd.toNat % 8)))) ∧
  (∀ (s : State) (p : At) (gs : BitVec 6) (entry : BitVec 7), Ready s p (.movTableG gs entry) →
    (s.seen p.tile).gPoison gs.toNat = false →
    Does (.movTableG p gs entry) s (s.after p fun t =>
      { t with tables := SMap.put (0, false) t.tables entry.toNat (BitVec.ofNat 16 (t.getG gs.toNat).toNat, false) }))

/-- Instructions that pop (R113, R154, R167): the flit leaves its queue with its hop credit pending, and its payload
reaches the destination. NOP discards one flit of each queue that DROP names. MOV of several flits into quarters of
the V file (R154, R117), all its flits standing in the queue: each is popped and written into the next quarter, a
register whose four quarters are all written taking the poison of these alone. Where the spec leaves a point open, the
model's choice: log entries 12, 20. -/
def Obligations.QueueMoves : Prop :=
  (∀ (s : State) (p : At) (gd : BitVec 6) (q : BitVec 3) (f : Flit), Ready s p (.movGIq gd q) →
    (s.seen p.tile).head q.toNat = some f →
    Does (.movGIq p gd q) s (s.after p fun t =>
      ((t.popped q.toNat).met f.poison).setG gd.toNat (BitVec.ofNat 64 f.payload.toNat) f.poison)) ∧
  (∀ (s : State) (p : At) (q : BitVec 3) (qn : BitVec 5) (f : Flit), Ready s p (.movVIq q qn 1) →
    (s.seen p.tile).head q.toNat = some f →
    Does (.movVIq p q qn 1) s (s.after p fun t =>
      (((t.popped q.toNat).met f.poison).setQuarter qn.toNat f.bytes f.poison).release false [quarterRes qn.toNat] 2)) ∧
  (∀ (s : State) (p : At) (drop : BitVec 5), Ready s p (.nop drop) →
    Does (.nop p drop) s (s.after p fun t =>
      (List.range 5).foldl (fun u n => if drop.toNat.testBit n then u.popped n else u) t)) ∧
  (∀ (s : State) (p : At) (q : BitVec 3) (qn nf : BitVec 5) (fs gs : List Flit), Ready s p (.movVIq q qn nf) →
    fs.length = flitCount nf → (s.seen p.tile).queue q.toNat = fs ++ gs →
    (∀ x ∈ fs, x.epoch = (s.seen p.tile).epoch.cur) →
    ∃ w, Does (.movVIq p q qn nf) s (s.after p fun t =>
      { ((List.range fs.length).zip fs).foldl (fun u c =>
          ((u.popped q.toNat).met c.2.poison).takeQuarter qn.toNat fs.length c.1 c.2) t with
        board := w }))

/-- The vector instructions (R149 to R153): every step reads the registers as they stood before, each result register
takes its lanes and the poison of its sources, V_INVALID follows R101, the flags of a conversion follow R102, and
nothing else of the block changes. Where the spec leaves a point open, the model's choice: log entries 12, 18, 86. -/
def Obligations.VectorResults : Prop :=
  (∀ (s : State) (p : At) (f : VopF), Ready s p (.vop f) →
    Does (.vop p f) s (s.after p fun t =>
      let u := ((steps f.vn).flatMap (vopRegs f)).foldl (fun u n => u.met (t.vPoison n)) t
      ((steps f.vn).foldl (fun w i =>
        (w.setLanes (f.vd.toNat + i) ((vopStep t f i).map (·.1)) ((vopRegs f i).any t.vPoison)).invalid
          ((vopStep t f i).any (·.2))) u).count 0x0F 1)) ∧
  (∀ (s : State) (p : At) (f : VsfnF), Ready s p (.vsfn f) →
    Does (.vsfn p f) s (s.after p fun t =>
      let u := ((steps f.vn).map fun i => f.va.toNat + i).foldl (fun u n => u.met (t.vPoison n)) t
      (((steps f.vn).foldl (fun w i =>
        let a := t.vLanes (f.va.toNat + i)
        let r := a.map (sfn32 f.fn.toNat)
        (w.setLanes (f.vd.toNat + i) r (t.vPoison (f.va.toNat + i))).invalid
          ((a.zip r).any fun q => madeNan q.2 [q.1])) u).count 0x0F 1).count 0x0E (32 * (f.vn.toNat + 1)))) ∧
  (∀ (s : State) (p : At) (f : VredF), Ready s p (.vred f) →
    Does (.vred p f) s (s.after p fun t =>
      let ns := (steps f.vn).map fun i => f.va.toNat + i
      let r := vredValue f.rop.toNat (ns.map t.vLanes)
      (((ns.foldl (fun u n => u.met (t.vPoison n)) t).setLanes f.vd.toNat (List.replicate 32 r) (ns.any t.vPoison)).invalid
        (madeNan r (ns.map t.vLanes).flatten)).count 0x0F 1)) ∧
  (∀ (s : State) (p : At) (f : VcvtFromF), Ready s p (.vcvtFrom f) →
    badTableEntry (s.seen p.tile).tables f.fmt.toNat (vRecord (s.seen p.tile) f.va.toNat f.fmt.toNat) = none →
    Does (.vcvtFrom p f) s (s.after p fun t =>
      let n := vRecord t f.va.toNat f.fmt.toNat
      let r := (decodeRecord t.tables f.fmt.toNat n).map fun e => rn32 e.val
      (((t.met (t.vPoison f.va.toNat)).setLanes f.vd.toNat r (t.vPoison f.va.toNat)).invalid
        (zpInf f.fmt.toNat n && r.any isNan32)).count 0x0F 1)) ∧
  (∀ (s : State) (p : At) (f : VcvtToF), Ready s p (.vcvtTo f) →
    Does (.vcvtTo p f) s (s.after p fun t =>
      let r := convRecord f.fmt.toNat f.rnd.toNat f.ovf.toNat ((t.vLanes f.va.toNat).map fun l => { val := val32 l })
      (((t.met (t.vPoison f.va.toNat)).setV f.vd.toNat (leBytes 128 r.1) (t.vPoison f.va.toNat)).report r.2 false).count
        0x0F 1))

/-- GMAC (R76, R100, R139 to R142): a slot-state fault stops the tile before anything else; a skipped GMAC makes its one
iteration without the arithmetic and counts event 0x04; otherwise the REP + 1 iterations are made in order, and then
the rider applies. Of the tile's interlocks the statement says nothing. One iteration of a GMAC whose A side has an
address register, where no word and no table entry is in error (R72, R74, R139, R140, R142): group i of the selected
lanes is added into its lane by the slot action, poison follows its records, and no other lane and no register but the
advancing address registers changes. Where the spec leaves a point open, the model's choice: log entries 5, 12, 86. -/
def Obligations.GroupMultiplies : Prop :=
  (∀ (s : State) (p : At) (f : GmacF) (chk : List CheckEv) (k : Nat), Ready s p (.gmac f) →
    gmacFault (s.seen p.tile) f = some k →
    Does (.gmac p f chk) s (s.put p.tile ((s.txIn p (.gmac f)).slotFault k))) ∧
  (∀ (s : State) (p : At) (f : GmacF) (chk : List CheckEv) (n : Nat) (y : TX), Ready s p (.gmac f) →
    gmacFault (s.seen p.tile) f = none →
    (s.txIn p (.gmac f)).skips (.gmac f) = true →
    (s.txOf p (.gmac f)).gmacOnce p.hd f (gmacBase (s.seen p.tile) f) 0 0 true chk = some (n, y) → y.stop = none →
    Does (.gmac p f chk) s (s.put p.tile ((y.count 0x04 1).upd fun t => t.rider p.hd))) ∧
  (∀ (s : State) (p : At) (f : GmacF) (chk : List CheckEv) (y : TX), Ready s p (.gmac f) →
    gmacFault (s.seen p.tile) f = none →
    (s.txIn p (.gmac f)).skips (.gmac f) = false →
    TX.gmacAll p.hd f (gmacBase (s.seen p.tile) f) chk (f.rep.toNat + 1) 0 0 (s.txOf p (.gmac f)) = some y →
    ∃ b, Does (.gmac p f chk) s (s.put p.tile (y.upd fun t => ({ t with board := b } : Tile).rider p.hd))) ∧
  (∀ (x : TX) (f : GmacF) (g : GmacBase) (iter : Nat), x.tile.syn = [] → x.stop = none →
    (∀ w, x.mem.mark (tileBase x.ix + 8 * w) = 0) → gmacAQueue f = false →
    let a := x.gmacSideA f g iter
    let b := a.2.gmacSideB f g iter
    (∀ r ∈ a.1, badTableEntry g.tables f.afmt.toNat r.bits = none) →
    (∀ r ∈ b.1, badTableEntry g.tables f.bfmt.toNat r.bits = none) →
    let y := x.gmacIterA f g iter false []
    y.stop = none ∧ y.recs = x.recs ∧ y.ext = x.ext ∧ y.mem = x.mem ∧
    (∀ i k, (gmacLanes f)[i]? = some k →
      let ra := a.1.getD (if f.abc then 0 else i) zeroRec
      let rb := b.1.getD i zeroRec
      y.tile.lane k = Lane.act (actOf f iter) (fmtIsInt f.afmt.toNat && fmtIsInt f.bfmt.toNat) (x.tile.lane k)
        (group (decodeRecord g.tables f.afmt.toNat ra.bits) (decodeRecord g.tables f.bfmt.toNat rb.bits))
        (ra.poison || rb.poison)) ∧
    (∀ k, k ∉ gmacLanes f → y.tile.lane k = x.tile.lane k) ∧
    y.tile.g = (x.tile.gmacInc f).g ∧
    y.tile.v = x.tile.v ∧ y.tile.bufA = x.tile.bufA ∧ y.tile.bufB = x.tile.bufB ∧ y.tile.tables = x.tile.tables ∧
    y.tile.iq = x.tile.iq ∧ y.tile.pred = x.tile.pred ∧ y.tile.lc = x.tile.lc)

/-- CLOSE (R82 to R87, R144 to R146), where no converter check fails: a closed lane among its lanes is a slot-state fault;
otherwise the lanes are converted and closed, the flags are reported, and the result goes to a V register (the
elements of a partial CLOSE replacing their places), or to an output with credits for all its flits. Where the spec
leaves a point open, the model's choice: log entries 12, 18, 86. -/
def Obligations.CloseConverts : Prop :=
  (∀ (s : State) (p : At) (f : CloseF) (chk : List CheckEv) (k : Nat), Ready s p (.close f) →
    ((closeLanes f).find? fun k => !((s.seen p.tile).lane k).isOpen) = some k →
    Does (.close p f chk) s (s.put p.tile ((s.txIn p (.close f)).slotFault k))) ∧
  (∀ (s : State) (p : At) (f : CloseF), Ready s p (.close f) →
    (∀ k ∈ closeLanes f, ((s.seen p.tile).lane k).isOpen = true) →
    (f.dt = true → (if f.all then (recordBytes f.dfmt.toNat + 31) / 32 else 1) ≤ (s.seen p.tile).credit f.out.toNat) →
    Does (.close p f []) s (s.after p fun t =>
      let ks := closeLanes f
      let ls := ks.map t.lane
      let psn := ls.any (·.poison)
      let r := convRecord f.dfmt.toNat f.rnd.toNat f.ovf.toNat (ls.map Lane.src)
      let w := elemWidth f.dfmt.toNat
      let u := (ks.foldl (fun u k => u.setLane k { u.lane k with isOpen := false })
        (ls.foldl (fun u l => u.met l.poison) t)).report r.2 (ls.any (·.shd))
      if f.dt then
        let bs := if f.all then leBytes 128 r.1
          else leBytes 128 (putElems w ((ks.zip r.2).map fun q => (q.1 % 4, q.2.bits)) 0)
        (mkFlits t.epoch.cur 0 f.tag psn f.eot bs (if f.all then (recordBytes f.dfmt.toNat + 31) / 32 else 1)).foldl
          (fun u x => u.sent f.out.toNat x) u
      else if f.all then u.setV f.vd.toNat (leBytes 128 r.1) psn
      else u.setV f.vd.toNat
        (leBytes 128 (putElems w ((ks.zip r.2).map fun q => (q.1, q.2.bits)) (leNat (t.vBytes f.vd.toNat))))
        (psn || t.vPoison f.vd.toNat)))

/-- TREE (R89, R90, R147, R148), where no combiner check fails: each selected lane of the destination slot takes the
combination of its operands; a poisoned partial gives the slot operand with poison. Where the spec leaves a point
open, the model's choice: log entries 12, 17, 86. -/
def Obligations.TreeCombines : Prop :=
  (∀ (s : State) (p : At) (f : TreeF) (chk : List CheckEv) (k : Nat), Ready s p (.tree f) →
    treeClosed (s.seen p.tile) f = some k →
    Does (.tree p f chk) s (s.put p.tile ((s.txIn p (.tree f)).slotFault k))) ∧
  (∀ (s : State) (p : At) (f : TreeF), Ready s p (.tree f) → f.form = false → treeClosed (s.seen p.tile) f = none →
    Does (.tree p f []) s (s.after p fun t =>
      let ls := (maskLanes 0 f.lmask.toNat).map fun l =>
        (l, treeLane (t.lane (4 * f.sa.toNat + l)) (t.lane (4 * f.sb.toNat + l)))
      ls.foldl (fun u q => u.setLane (4 * f.dst.toNat + q.1) q.2) (ls.foldl (fun u q => u.met q.2.poison) t))) ∧
  (∀ (s : State) (p : At) (f : TreeF) (a b : Flit) (fs : List Flit), Ready s p (.tree f) → f.form = true →
    treeClosed (s.seen p.tile) f = none → (s.seen p.tile).queue f.sb.toNat = a :: b :: fs →
    a.epoch = (s.seen p.tile).epoch.cur → b.epoch = (s.seen p.tile).epoch.cur →
    (a.poison = false → b.poison = false →
      ∀ l ∈ maskLanes 0 f.lmask.toNat, (partialLane a.payload b.payload l).isOpen = true) →
    ∃ w, Does (.tree p f []) s (s.after p fun t =>
      let ls := (maskLanes 0 f.lmask.toNat).map fun l =>
        let x := t.lane (4 * f.sa.toNat + l)
        let y := partialLane a.payload b.payload l
        (l, if a.poison || b.poison then { x with poison := true } else if f.ord then treeLane y x else treeLane x y)
      let u := (t.popped f.sb.toNat).popped f.sb.toNat
      { ls.foldl (fun u q => u.setLane (4 * f.dst.toNat + q.1) q.2) (ls.foldl (fun u q => u.met q.2.poison) u) with
        board := w }))

/-- LD (R156, R117), where no word is in error: the destination takes the row or word of tile memory that the address
register and OFF give, a poisoned address giving poisoned zeros; a poisoned buffer index is not covered here. LDX
(R158, R117): the index flit is popped; a poisoned flit gives one poisoned row of zeros; otherwise its 16 entries fill
the rows of the buffer in turn, and the address register advances past the rows written. ST (R157, R117): the row or
word at the address that stAddr gives takes the data with its poison, event 0x11 is counted, and the address register
advances; poisoned data for class W stop the tile with cause 0x0A and store nothing; every byte of memory outside the
stored ones stays as it was. Where the spec leaves a point open, the model's choice: log entries 12, 15, 16, 86. -/
def Obligations.TileMemoryAccesses : Prop :=
  (∀ (s : State) (p : At) (f : LdF), Ready s p (.ld f) → TileMarks s p.tile →
    (f.dt = 1 ∨ f.dt = 2 → (s.seen p.tile).gPoison f.dd.toNat = false) →
    Does (.ld p f) s (s.after p fun t =>
      let n := if f.dt = 3 then 8 else 64
      if t.gPoison f.ga.toNat then (t.met true).ldInto f (fillBytes n 0) true
      else (t.count 0x10 1).ldInto f (s.tileBytes p.tile (memAddr (t.getG f.ga.toNat) f.off n) n) false)) ∧
  (∀ (s : State) (p : At) (f : LdxF) (x : Flit), Ready s p (.ldx f) → (s.seen p.tile).gPoison f.gb.toNat = false →
    (s.seen p.tile).head f.q.toNat = some x → x.poison = true →
    Does (.ldx p f) s (s.after p fun t =>
      let a := (t.getG f.gb.toNat).toNat % 65536 / 64 * 64
      let u := ((t.popped f.q.toNat).met true).setBufRow f.db (a % 2048 / 64) (fillBytes 64 0) true
      if f.inc then u.advG f.gb.toNat 64 else u)) ∧
  (∀ (s : State) (p : At) (f : LdxF) (x : Flit) (rows : Nat × TX), Ready s p (.ldx f) →
    (s.seen p.tile).gPoison f.gb.toNat = false → (s.seen p.tile).head f.q.toNat = some x → x.poison = false →
    let a := ((s.seen p.tile).getG f.gb.toNat).toNat % 65536 / 64 * 64
    ((s.txOf p (.ldx f)).upd fun t => t.popped f.q.toNat).ldxRows f.db a
      ((List.range 16).map fun i => fld x.payload.toNat (16 * i) 16) = rows → rows.2.stop = none →
    Does (.ldx p f) s (s.put p.tile (rows.2.upd fun t =>
      (if f.inc then t.advG f.gb.toNat (rows.1 - a) else t).rider p.hd))) ∧
  (∀ (s : State) (p : At) (f : StF), Ready s p (.st f) → f.ss ≠ 4 → (s.seen p.tile).gPoison f.ga.toNat = false →
    let t := s.tile p.tile
    let a := stAddr t f
    let n := if f.ss = 3 then 8 else 64
    let d := stData t f
    (d.2 = true → t.rowW (a / 64) = true →
      Does (.st p f) s (s.put p.tile ((s.txIn p (.st f)).poisonStop 0x0A))) ∧
    (¬ (d.2 = true ∧ t.rowW (a / 64) = true) →
      Does (.st p f) s { s.after p (fun u =>
          let u := (u.met d.2).count 0x11 1
          if f.inc then u.advG f.ga.toNat n else u) with
        mem := (s.mem.setBytes (tileBase p.tile + a) d.1).setMarks (tileBase p.tile + a) (if d.2 then 0xFF else 0) (n / 8) })) ∧
  (∀ (s : State) (p : At) (f : StF) (x y : Flit) (fs : List Flit), Ready s p (.st f) → f.ss = 4 →
    (s.seen p.tile).gPoison f.ga.toNat = false → (s.seen p.tile).queue (f.sr.toNat % 8) = x :: y :: fs →
    x.epoch = (s.seen p.tile).epoch.cur → y.epoch = (s.seen p.tile).epoch.cur →
    ¬ ((x.poison || y.poison) = true ∧ (s.seen p.tile).rowW (stAddr (s.seen p.tile) f / 64) = true) →
    let a := tileBase p.tile + stAddr (s.seen p.tile) f
    Does (.st p f) s { s.after p (fun u =>
        let u := ((((u.popped (f.sr.toNat % 8)).popped (f.sr.toNat % 8)).met (x.poison || y.poison)).count 0x11 1)
        if f.inc then u.advG f.ga.toNat 64 else u) with
      mem := (s.mem.setBytes a (x.bytes ++ y.bytes)).setMarks a (if x.poison || y.poison then 0xFF else 0) 8 }) ∧
  (∀ (s t : State) (p : At) (f : StF), Ready s p (.st f) → exec (.st p f) s = .next t →
    ∀ a, let b := tileBase p.tile + stAddr (s.seen p.tile) f
      (a < b ∨ b + (if f.ss = 3 then 8 else 64) ≤ a) → t.mem.byte a = s.mem.byte a)

/-- SEND (R159, R160, R117), with credits for all its flits: the flits leave in order on OUT, END on the last where the
instruction asks for it; from tile memory they carry NF x 32 bytes from the address register; forwarded flits keep
their payload, kind, END and poison and take the instruction's tag and the tile's epoch. Where the spec leaves a point
open, the model's choice: log entries 12, 15, 86. -/
def Obligations.SendsFlits : Prop :=
  (∀ (s : State) (p : At) (f : SendF), Ready s p (.send f) → f.ssrc.toNat < 3 →
    (sendList (s.seen p.tile) f).length ≤ (s.seen p.tile).credit f.out.toNat →
    Does (.send p f) s (s.after p fun t =>
      let fs := sendList t f
      fs.foldl (fun u x => u.sent f.out.toNat x) ((sendMet t f).foldl Tile.met t))) ∧
  (∀ (s : State) (p : At) (f : SendF), Ready s p (.send f) → f.ssrc = 3 → TileMarks s p.tile →
    flitCount f.nf ≤ (s.seen p.tile).credit f.out.toNat →
    Does (.send p f) s (s.after p fun t =>
      let n := flitCount f.nf
      let a := (t.getG f.srcreg.toNat).toNat % 65536 / 32 * 32
      let psn := t.gPoison f.srcreg.toNat
      let fs := mkFlits t.epoch.cur f.kind f.tag psn f.eot
        (if psn then fillBytes (32 * n) 0 else s.tileBytes p.tile a (32 * n)) n
      let u := if psn then t else t.count 0x10 ((a + 32 * n + 63) / 64 - a / 64)
      let u := if f.inc then u.advG f.srcreg.toNat (32 * n) else u
      fs.foldl (fun u x => u.sent f.out.toNat x) (u.met psn))) ∧
  (∀ (s : State) (p : At) (f : SendF) (fs gs : List Flit), Ready s p (.send f) → f.ssrc = 4 →
    fs.length = flitCount f.nf → (s.seen p.tile).queue (f.srcreg.toNat % 8) = fs ++ gs →
    (∀ x ∈ fs, x.epoch = (s.seen p.tile).epoch.cur) → flitCount f.nf ≤ (s.seen p.tile).credit f.out.toNat →
    Does (.send p f) s (s.after p fun t =>
      ((List.range fs.length).zip fs).foldl (fun u q =>
        ((u.popped (f.srcreg.toNat % 8)).met q.2.poison).sent f.out.toNat
          { q.2 with epoch := t.epoch.cur, tag := f.tag, eot := q.2.eot || (f.eot && q.1 + 1 = fs.length) }) t))

/-- Flags and BULK (R161 to R163): ARRIVE raises the flag and hands the value to the halyard; WAIT takes the result and
frees the flag; BULK hands rows to the cluster sequencer and advances both address registers; BULK WAIT takes and
clears the status of an idle tag. Where the spec leaves a point open, the model's choice: log entries 12, 25. -/
def Obligations.FlagsAndBulk : Prop :=
  (∀ (s : State) (p : At) (f : ArriveF), Ready s p (.syncArrive f) →
    (f.immv = false → (s.seen p.tile).gPoison f.g.toNat = false) →
    Does (.syncArrive p f) s ((s.after p fun t => t.setFlag f.flag.toNat .arrived).arrive p.tile f.flag.toNat f.hop.toNat
      (if f.immv then f.imm else BitVec.ofNat 16 ((s.seen p.tile).getG f.g.toNat).toNat))) ∧
  (∀ (s : State) (p : At) (flag g : BitVec 6) (v : W16), Ready s p (.syncWait flag g) →
    (s.seen p.tile).flag flag.toNat = .done v →
    Does (.syncWait p flag g) s (s.after p fun t =>
      (t.setG g.toNat (v.zeroExtend 64) false).setFlag flag.toNat .idle)) ∧
  (∀ (s : State) (p : At) (f : BulkF), Ready s p (.bulkRead f) → (s.seen p.tile).gPoison f.gl.toNat = false →
    (s.seen p.tile).gPoison f.gr.toNat = false →
    Does (.bulkRead p f) s ((s.after p (bulkTile f)).bulk p.tile false f.btag.toNat
      (((s.seen p.tile).getG f.gl.toNat).toNat % 65536 / 64 * 64)
      (((s.seen p.tile).getG f.gr.toNat).toNat % 2 ^ 48 / 64 * 64) (bulkRows f.len))) ∧
  (∀ (s : State) (p : At) (f : BulkF), Ready s p (.bulkWrite f) → (s.seen p.tile).gPoison f.gl.toNat = false →
    (s.seen p.tile).gPoison f.gr.toNat = false →
    Does (.bulkWrite p f) s ((s.after p (bulkTile f)).bulk p.tile true f.btag.toNat
      (((s.seen p.tile).getG f.gl.toNat).toNat % 65536 / 64 * 64)
      (((s.seen p.tile).getG f.gr.toNat).toNat % 2 ^ 48 / 64 * 64) (bulkRows f.len))) ∧
  (∀ (s : State) (p : At) (b : BitVec 2) (gr : BitVec 6) (inc : Bool), Ready s p (.bulkWait b gr inc) →
    Does (.bulkWait p b gr inc) s (s.after p fun t =>
      (t.setG gr.toNat ((t.btag b.toNat).status.zeroExtend 64) false).setBtag b.toNat
        { t.btag b.toNat with status := 0 }))

/-- Control instructions (R164 to R166): loop counters with their predicates, the predicate logic and comparisons with PE
the complement of PD, and the integer operations, whose results carry the poison of their operands. Where the spec
leaves a point open, the model's choice: log entries 12, 15. -/
def Obligations.ControlResults : Prop :=
  (∀ (s : State) (p : At) (n : BitVec 2) (wz : Bool) (pd pe : BitVec 3) (imm : W16), Ready s p (.lcSetI n wz pd pe imm) →
    Does (.lcSeti p n wz pd pe imm) s (s.after p fun t => t.setLc n.toNat pd pe imm)) ∧
  (∀ (s : State) (p : At) (n : BitVec 2) (wz : Bool) (pd pe : BitVec 3) (gs : BitVec 6), Ready s p (.lcSetG n wz pd pe gs) →
    (s.seen p.tile).gPoison gs.toNat = false →
    Does (.lcSetg p n wz pd pe gs) s (s.after p fun t =>
      t.setLc n.toNat pd pe (BitVec.ofNat 16 (t.getG gs.toNat).toNat))) ∧
  (∀ (s : State) (p : At) (n : BitVec 2) (wz : Bool) (pd pe : BitVec 3), Ready s p (.lcDec n wz pd pe) →
    Does (.lcDec p n wz pd pe) s (s.after p fun t =>
      let v := SMap.get 0 t.lc n.toNat
      t.setLc n.toNat pd pe (if v = 0 then 0 else v - 1))) ∧
  (∀ (s : State) (p : At) (f : CtlPF), Ready s p (.ctlP f) → f.pop = 0 →
    (s.seen p.tile).gPoison f.a.toNat = false → (s.seen p.tile).gPoison f.b.toNat = false →
    Does (.ctlP p f) s (s.after p fun t =>
      t.setPair f.pd f.pe (cmpOp f.cc.toNat (t.getG f.a.toNat) (t.getG f.b.toNat)))) ∧
  (∀ (s : State) (p : At) (f : CtlPF), Ready s p (.ctlP f) → f.pop = 1 → (s.seen p.tile).gPoison f.a.toNat = false →
    Does (.ctlP p f) s (s.after p fun t =>
      t.setPair f.pd f.pe (cmpOp f.cc.toNat (t.getG f.a.toNat) (f.imm.signExtend 64)))) ∧
  (∀ (s : State) (p : At) (f : CtlPF), Ready s p (.ctlP f) → f.pop = 2 →
    Does (.ctlP p f) s (s.after p fun t =>
      t.setPair f.pd f.pe (predLogic f.cc.toNat (t.getP (f.a.toNat % 8)) (t.getP (f.b.toNat % 8))))) ∧
  (∀ (s : State) (p : At) (f : CtlPF) (x : Flit), Ready s p (.ctlP f) → f.pop = 3 →
    (s.seen p.tile).head (f.a.toNat % 8) = some x → x.poison = false →
    Does (.ctlP p f) s (s.after p fun t => t.setPair f.pd f.pe (headTest f.cc.toNat x))) ∧
  (∀ (s : State) (p : At) (f : CtlPF), Ready s p (.ctlP f) → f.pop = 4 →
    Does (.ctlP p f) s (s.after p fun t => t.setPair f.pd f.pe (f.cc = 1))) ∧
  (∀ (s : State) (p : At) (aop : BitVec 4) (gd ga gb : BitVec 6), Ready s p (.alu aop gd ga gb) →
    Does (.ctlAlu p aop gd ga gb) s (s.after p fun t =>
      ((t.met (t.gPoison gb.toNat)).met (t.gPoison ga.toNat)).setG gd.toNat
        (aluOp aop.toNat (t.getG ga.toNat) (t.getG gb.toNat)) (t.gPoison ga.toNat || t.gPoison gb.toNat))) ∧
  (∀ (s : State) (p : At) (aop : BitVec 4) (gd ga : BitVec 6) (imm : BitVec 24), Ready s p (.alui aop gd ga imm) →
    Does (.ctlAlui p aop gd ga imm) s (s.after p fun t =>
      (t.met (t.gPoison ga.toNat)).setG gd.toNat (aluOp aop.toNat (t.getG ga.toNat) (imm.signExtend 64))
        (t.gPoison ga.toNat)))

/-- Issue cycles (R97, R120, R123, R127, R128): a cycle of a tile at rest whose scheduler does not select only passes; one
whose scheduler finds nothing counts the stall; one that finds an instruction issues exactly that one; after a GMAC
that R100 skips a second selection is made without the GMACs; and what selection finds is the lowest entry of the
store that it can take. The scheduler selects with RUN = 1, or once after a write of STEP. TILE_STEP does the same
with RUN = 0 and STOPPED = 0 where its slice is not running, and else nothing. A queue entry whose parity fails is
poisoned first. What stops an instruction (R117, R127, R169): one whose trigger does not hold does nothing; one that
R168 calls illegal stops its tile with cause 0x01; a poisoned address register stops it with cause 0x0B. Where the
spec leaves a point open, the model's choice: log entries 12, 13, 14. -/
def Obligations.InstructionIssue : Prop :=
  (∀ (s : State) (t : TileIx) (chk : List CheckEv), s.isPresent t = true → (s.tile t).inflight = [] →
    ((s.tile t).ctrl.run = false ∧ (s.tile t).ctrl.step = false) ∨ (s.tile t).status.stopped = true →
    Does (.tileIssueCycle t false [] chk) s (s.put t (((s.tx t 0 0).count 0x01 1).upd Tile.tick))) ∧
  (∀ (s : State) (t : TileIx) (chk : List CheckEv), s.isPresent t = true → (s.tile t).inflight = [] →
    (s.tile t).syn = [] → (s.tile t).status.stopped = false → select (s.seen t) false [] (s.tile t).istore = none →
    let idle := s.put t ((((s.tx t 0 0).count 0x01 1).tally (s.seen t) false).upd Tile.tick)
    ((s.tile t).ctrl.run = true ∨ (s.tile t).ctrl.step = true → Does (.tileIssueCycle t false [] chk) s idle) ∧
    ((s.tile t).ctrl.run = false → s.sliceRuns (cantonOf t) = false → Does (.tileStep t false [] chk) s idle)) ∧
  (∀ (s : State) (t : TileIx) (chk : List CheckEv) (n : Nat) (w : W64) (i : TInstr), s.isPresent t = true →
    (s.tile t).inflight = [] → (s.tile t).syn = [] → (s.tile t).status.stopped = false →
    select (s.seen t) false [] (s.tile t).istore = some (n, w, .go i) →
    let x := ((s.tx t 0 0).count 0x01 1).at n w
    x.skips i.op = false →
    let y := x.issue i.hd i.op false true chk
    let done := s.put t ((y.tally (s.seen t) (y.hasIssued i.op)).upd Tile.tick)
    ((s.tile t).ctrl.run = true ∨ (s.tile t).ctrl.step = true → Does (.tileIssueCycle t false [] chk) s done) ∧
    ((s.tile t).ctrl.run = false → s.sliceRuns (cantonOf t) = false → Does (.tileStep t false [] chk) s done)) ∧
  (∀ (s : State) (t : TileIx) (chk : List CheckEv) (n n' : Nat) (w w' : W64) (i i' : TInstr), s.isPresent t = true →
    (s.tile t).inflight = [] → (s.tile t).syn = [] → (s.tile t).status.stopped = false → (s.tile t).ctrl.run = true →
    select (s.seen t) false [] (s.tile t).istore = some (n, w, .go i) →
    let x := ((s.tx t 0 0).count 0x01 1).at n w
    x.skips i.op = true →
    let y := x.issue i.hd i.op true true chk
    let z := (({ x with tile := s.seen t } : TX).issue i.hd i.op true true chk).tile
    y.stop = none →
    (select z true [n] z.istore = none →
      Does (.tileIssueCycle t false [] chk) s (s.put t ((y.tally (s.seen t) true).upd Tile.tick))) ∧
    (select z true [n] z.istore = some (n', w', .go i') →
      Does (.tileIssueCycle t false [] chk) s
        (s.put t ((((y.at n' w').issue i'.hd i'.op false true chk).tally (s.seen t) true).upd Tile.tick)))) ∧
  (∀ (s : State) (t : TileIx) (dup : Bool) (par : List (Fin 5 × Fin 16)) (chk : List CheckEv),
    (s.tile t).ctrl.run = true ∨ (s.tile t).status.stopped = true ∨ s.sliceRuns (cantonOf t) = true →
    Does (.tileStep t dup par chk) s s) ∧
  (∀ (s : State) (t : TileIx) (dup : Bool) (par : List (Fin 5 × Fin 16)) (chk : List CheckEv), s.isPresent t = true →
    par ≠ [] → exec (.tileIssueCycle t dup par chk) s =
      exec (.tileIssueCycle t dup [] chk) (s.setTile t (par.foldl Tile.parityError (s.tile t)))) ∧
  (∀ (t : Tile) (b : Bool) (es : SMap W64) (n : Nat) (w : W64) (p : Pick), es.Pairwise (fun a b => a.1 < b.1) →
    select t b [] es = some (n, w, p) →
    (n, w) ∈ es ∧ pickOf t b w = p ∧ p ≠ .no ∧ ∀ e ∈ es, e.1 < n → pickOf t b e.2 = .no) ∧
  (∀ (s : State) (p : At) (op : TOp) (chk : List CheckEv), triggered (s.seen p.tile) p.hd = false →
    ∀ t, (s.runInstr p op chk).tile t = s.tile t) ∧
  (∀ (s : State) (p : At) (op : TOp) (chk : List CheckEv), s.isPresent p.tile = true →
    (s.seen p.tile).status.stopped = false → (s.seen p.tile).inflight = [] → triggered (s.seen p.tile) p.hd = true →
    TOp.legal p.hd op = false →
    s.runInstr p op chk = s.put p.tile (s.txIn p op).illegal) ∧
  (∀ (s : State) (p : At) (f : StF), Ready s p (.st f) → (s.seen p.tile).gPoison f.ga.toNat = true →
    Does (.st p f) s (s.put p.tile ((s.txIn p (.st f)).poisonStop 0x0B))) ∧
  (∀ (s : State) (p : At) (f : BulkF), Ready s p (.bulkRead f) → (s.seen p.tile).gPoison f.gl.toNat = true →
    Does (.bulkRead p f) s (s.put p.tile ((s.txIn p (.bulkRead f)).poisonStop 0x0B)))

/-- EPOCH_DISCARD, DEADLOCK_PROBE and TILE_MEM_SPLIT_WRITE (R109, R110, R115, R116, R256): a foreign head flit leaves its
queue with its credit and sets EPOCH_DROP, and while its canton discards after a PURGE switch that is counted and no
error; the probe is raised from 4,096 blocked cycles on, counted, and told to the ensign complex; the split is written
while RUN is 0. Where the spec leaves a point open, the model's choice: log entry 22. -/
def Obligations.EpochProbeSplit : Prop :=
  (∀ (s : State) (t : TileIx) (q : Fin 5), (s.seen t).foreignHead q = false → Does (.epochDiscard t q) s s) ∧
  (∀ (s : State) (t : TileIx) (q : Fin 5), (s.seen t).foreignHead q = true →
    (s.canton (cantonOf t)).watch = .purging →
    Gives (.epochDiscard t q) s fun s' =>
      (s'.tile t).queue q = ((s.tile t).queue q).drop 1 ∧ (s'.tile t).status.epochDrop = true ∧
      SMap.get 0 (s'.tile t).pops q.val = SMap.get 0 (s.tile t).pops q.val + 1 ∧
      (s'.canton (cantonOf t)).purged = (s.canton (cantonOf t)).purged + 1 ∧
      (∀ u, u ≠ t.val → s'.tile u = s.tile u) ∧ Only [.tiles, .cantons] s s') ∧
  (∀ (s : State) (t : TileIx) (q : Fin 5) (n : Nat), (s.seen t).foreignHead q = true →
    (s.canton (cantonOf t)).watch ≠ .purging → s.sliceOf (cantonOf t) = some n → (s.slice n).phase ≠ 6 →
    Gives (.epochDiscard t q) s fun s' =>
      (s'.tile t).queue q = ((s.tile t).queue q).drop 1 ∧ (s'.tile t).status.epochDrop = true ∧
      (s'.slice n).epochErr = true ∧ (s'.slice n).phase = 6) ∧
  (∀ (s : State) (t : TileIx),
    let x := s.tile t
    let y := { x with status := { x.status with probe := true } }
    (x.status.probe = true ∨ x.ctrl.probeEn = false ∨ x.blocked < 4096 → Does (.deadlockProbe t) s (s.setTile t x)) ∧
    (x.status.probe = false → x.ctrl.probeEn = true → 4096 ≤ x.blocked →
      Does (.deadlockProbe t) s (((s.setTile t y).finc fCanDlCntProbes (cantonOf t)).sendPennant (clusterOf t) ensignNode 6
        (y.probeArg (localTile t))))) ∧
  (∀ (s : State) (t : TileIx) (v : W64), s.isPresent t = true →
    ((s.tile t).ctrl.run = true → Does (.tileMemSplitWrite t v) s s) ∧
    ((s.tile t).ctrl.run = false → Gives (.tileMemSplitWrite t v) s fun s' =>
      (s'.tile t).split = BitVec.ofNat 11 v.toNat ∧ (s'.tile t).splitRow = min (v.toNat % 2048) 0x400))

/-- Routers of one canton (R175, R176, R180, R195, R199): a cycle of a canton on the networks advances its slot; a router
whose table is in error drives nothing into its tile; a table write takes effect only while its tile's RUN is 0; at
slot 0 the released switches are made; and a lost neighbour fails the seam's links on both sides. Seams (R171, R174,
R180, R189, R191, R193, R198): the halves of a flit give the flit again, and both pass their check; a flit that has
crossed enters its share, poisoned where a half fails its check; where PURGE discards its epoch nothing enters; with
its share full it is dropped and the overflow noted, and with the table in error it is lost; a credit message raises
its share's pending count, up to 32, above which it is dropped and the overflow noted. Where the spec leaves a point
open, the model's choice: log entries 55, 84. -/
def Obligations.RouterNetworks : Prop :=
  (∀ (s : State) (c : CantonIx) (noise : List LinkNoise) (rev : List (TileIx × Fin 4)),
    (s.online c = false → Does (.routerSlotCycle c noise rev) s s) ∧
    (s.online c = true → Gives (.routerSlotCycle c noise rev) s fun s' =>
      (s'.canton c).slot = (s.canton c).slot + 1 ∧ s'.mem = s.mem ∧ s'.ports = s.ports)) ∧
  (∀ (s : State) (c t : Nat) (noise : List LinkNoise) (bad : List Nat), (s.router t).tblCause t ≠ 0 →
    (routerStep s c t noise bad).toIq = [] ∧ (routerStep s c t noise bad).cred = [] ∧
    (routerStep s c t noise bad).r.slots = (s.router t).slots) ∧
  (∀ (s : State) (t : TileIx) (off : BitVec 6) (v : W64),
    ((s.tile t).ctrl.run = true → Does (.routerTableWrite t off v) s s) ∧
    ((s.tile t).ctrl.run = false → Gives (.routerTableWrite t off v) s fun s' =>
      s'.router t = (s.router t).writeReg (8 * off.toNat) v ∧ (∀ u, u ≠ t.val → s'.router u = s.router u) ∧
      Only [.routers] s s')) ∧
  (∀ (r : Router) (row o : Nat) (v : W64), row < 16 → o < 8 →
    (r.writeReg (16 * row) v).entry row o = fld v.toNat (8 * o) 8) ∧
  (∀ (s : State) (c : CantonIx), (s.canton c).slot ≠ 0 → Does (.tableSwitch c) s s) ∧
  (∀ (s : State) (c : CantonIx), (s.canton c).slot = 0 →
    let s1 := s.mapRouters (tilesOf c) Router.switch
    (∀ t, s1.router t = if t ∈ tilesOf c then (s.router t).switch t else s.router t) ∧ Only [.routers] s s1 ∧
    ((s.canton c).watch = .switching → Does (.tableSwitch c) s
      ((s1.setCanton c { s.canton c with watch := .none }).answer c ⟨(s.canton c).watchSlice.toNat, 4, 0, 0⟩)) ∧
    ((s.canton c).watch = .purging → Does (.tableSwitch c) s (s1.purgeDone c)) ∧
    ((s.canton c).watch ≠ .switching → (s.canton c).watch ≠ .purging → Does (.tableSwitch c) s s1)) ∧
  (∀ (s : State) (c : CantonIx) (d : Fin 4) (e : Nat), cantonNeighbour c d = some e →
    (s.online e = true → Does (.seamNeighbourLost c d) s s) ∧
    (s.online e = false → Gives (.seamNeighbourLost c d) s fun s' =>
      (∀ t ∈ seamTiles c d, (s'.router t).linkFail.getLsbD d = true) ∧
      (∀ t ∈ seamTiles e (opp d), (s'.router t).linkFail.getLsbD (opp d) = true) ∧ Only [.routers] s s')) ∧
  (∀ f : Flit, f.wire.flit = some f ∧ f.wire.ok = true) ∧
  (∀ (s : State) (t : TileIx) (d : Fin 4) (lo hi : HalfNoise) (j : Nat) (w : Wire) (ws : List Wire),
    tileNeighbour t d = some j → seamDir t d = true → SMap.get [] (s.router j).wire (opp d) = w :: ws →
    let v := w.disturb lo hi
    (v.flit = none → Gives (.seamFlitArrive t d lo hi) s fun s' =>
      (s'.router t).seamQ = (s.router t).seamQ ∧ SMap.get [] (s'.router j).wire (opp d) = ws ∧
      (∀ u, u ≠ j → s'.router u = s.router u)) ∧
    (∀ f, v.flit = some f → (s.router t).purges f = true → Gives (.seamFlitArrive t d lo hi) s fun s' =>
      (s'.router t).seamQ = (s.router t).seamQ ∧ SMap.get [] (s'.router j).wire (opp d) = ws ∧
      (s'.router t).purgeCnt = satInc (s.router t).purgeCnt) ∧
    (∀ f, v.flit = some f → (s.router t).purges f = false →
      let k := 8 * d.val + f.tag.toNat
      let q := SMap.get [] (s.router t).seamQ k
      ((s.router t).tblCause t = 0 → q.length < (s.router t).shareOf d f.tag.toNat →
        Gives (.seamFlitArrive t d lo hi) s fun s' =>
          SMap.get [] (s'.router t).seamQ k = q ++ [if v.ok then f else { f with poison := true }] ∧
          SMap.get [] (s'.router j).wire (opp d) = ws ∧
          (s'.router t).crcSeen = ((s.router t).crcSeen || !v.ok) ∧
          (∀ u, u ≠ t.val → u ≠ j → s'.router u = s.router u)) ∧
      ((s.router t).tblCause t = 0 → (s.router t).shareOf d f.tag.toNat ≤ q.length →
        Gives (.seamFlitArrive t d lo hi) s fun s' =>
          SMap.get [] (s'.router t).seamQ k = q ∧ (s'.router t).ovfSeen = true) ∧
      ((s.router t).tblCause t ≠ 0 → Gives (.seamFlitArrive t d lo hi) s fun s' =>
        SMap.get [] (s'.router t).seamQ k = q ∧ (s'.router t).misrouteSeen = true))) ∧
  (∀ (s : State) (t : TileIx) (d : Fin 4) (j g : Nat) (gs : List Nat), tileNeighbour t d = some j →
    SMap.get [] (s.router j).credMsg (opp d) = g :: gs → SMap.get 0 (s.router t).pend (5 + 8 * d.val + g) < 32 →
    Gives (.seamCreditMessage t d) s fun s' =>
      SMap.get 0 (s'.router t).pend (5 + 8 * d.val + g) = SMap.get 0 (s.router t).pend (5 + 8 * d.val + g) + 1 ∧
      SMap.get [] (s'.router j).credMsg (opp d) = gs ∧ (∀ u, u ≠ t.val → u ≠ j → s'.router u = s.router u) ∧
      Only [.routers, .tiles, .mgmt] s s') ∧
  (∀ (s : State) (t : TileIx) (d : Fin 4) (j g : Nat) (gs : List Nat), tileNeighbour t d = some j →
    SMap.get [] (s.router j).credMsg (opp d) = g :: gs → 32 ≤ SMap.get 0 (s.router t).pend (5 + 8 * d.val + g) → j ≠ t.val →
    Gives (.seamCreditMessage t d) s fun s' =>
      (s'.router t).pend = (s.router t).pend ∧ (s'.router t).ovfSeen = true)

/-- Links of the mesh (R205, R210): a flit that passes its check with the number expected enters the queue of its VC and
lane, or is discarded where the rest of its packet was lost; one with another number is discarded; a failed check
makes the sender resend from it, counts a replay and raises the link-CRC record; and a link is failed in both
directions after 8 failed replays or when the neighbour is lost. Where the spec leaves a point open, the model's
choice: log entry 52. -/
def Obligations.MeshLinkFlits : Prop :=
  (∀ (s : State) (k : ClusterIx) (d : Fin 4) (j : Nat) (n : BitVec 6) (f : MFlit) (ws : List (BitVec 6 × MFlit)),
    clusterNeighbour k d = some j → SMap.get [] (s.mrouter j).wire (opp d) = (n, f) :: ws →
    let x := qIx d f.vc.toNat f.lane
    (n = SMap.get 0 (s.mrouter k).expect d → x ∉ (s.mrouter k).skip → Gives (.meshFlitReceive k d true) s fun s' =>
      (s'.mrouter k).queue x = (s.mrouter k).queue x ++ [f] ∧
      (∀ y, y ≠ x → (s'.mrouter k).queue y = (s.mrouter k).queue y) ∧
      SMap.get 0 (s'.mrouter k).expect d = n + 1 ∧ SMap.get 0 (s'.mrouter k).fails d = 0 ∧
      SMap.get [] (s'.mrouter j).wire (opp d) = ws ∧
      (∀ u, u ≠ k.val → u ≠ j → s'.mrouter u = s.mrouter u) ∧ Only [.mesh] s s') ∧
    (n = SMap.get 0 (s.mrouter k).expect d → x ∈ (s.mrouter k).skip → Gives (.meshFlitReceive k d true) s fun s' =>
      (s'.mrouter k).q = (s.mrouter k).q ∧ (f.tail = true → x ∉ (s'.mrouter k).skip) ∧
      SMap.get 0 (s'.mrouter k).expect d = n + 1 ∧ Only [.mesh] s s') ∧
    (n ≠ SMap.get 0 (s.mrouter k).expect d → Gives (.meshFlitReceive k d true) s fun s' =>
      s'.mrouter k = s.mrouter k ∧ SMap.get [] (s'.mrouter j).wire (opp d) = ws ∧
      (∀ u, u ≠ j → s'.mrouter u = s.mrouter u) ∧ Only [.mesh] s s') ∧
    Gives (.meshFlitReceive k d false) s fun s' =>
      (s'.mrouter k).q = (s.mrouter k).q ∧ SMap.get 0 (s'.mrouter k).expect d = SMap.get 0 (s.mrouter k).expect d ∧
      SMap.get 0 (s'.mrouter k).fails d = SMap.get 0 (s.mrouter k).fails d + 1 ∧
      SMap.get [] (s'.mrouter j).wire (opp d) = (SMap.get [] (s.mrouter j).replay (opp d)).dropWhile fun p => p.1 ≠ n) ∧
  (∀ (s : State) (k : ClusterIx) (d : Fin 4) (b : Bool), clusterNeighbour k d = none →
    Does (.meshFlitReceive k d b) s s ∧ Does (.meshLinkFail k d) s s) ∧
  (∀ (s : State) (k : ClusterIx) (d : Fin 4) (j : Nat), clusterNeighbour k d = some j →
    (SMap.get 0 (s.mrouter k).fails d ≤ 8 → SMap.get 0 (s.mrouter j).fails (opp d) ≤ 8 → s.routerUp j = true →
      Does (.meshLinkFail k d) s s) ∧
    (8 < SMap.get 0 (s.mrouter k).fails d ∨ 8 < SMap.get 0 (s.mrouter j).fails (opp d) ∨ s.routerUp j = false →
      (s.mrouter k).linkFail.getLsbD d = false →
      Gives (.meshLinkFail k d) s fun s' =>
        (s'.mrouter k).linkFail.getLsbD d = true ∧ (s'.mrouter j).linkFail.getLsbD (opp d) = true ∧
        SMap.get [] (s'.mrouter k).wire d = [] ∧ SMap.get [] (s'.mrouter j).wire (opp d) = [] ∧
        s'.linkUp k d = false ∧ s'.linkUp j (opp d) = false ∧
        ((s.mrouter k).unreceived d = [] → (s.mrouter j).unreceived (opp d) = [] →
          (∀ u, u ≠ k.val → u ≠ j → s'.mrouter u = s.mrouter u) ∧ Only [.mesh, .regs] s s')))

/-- Arbitration of a mesh output (R212, R213): a capped pennant first, then the packet in progress, then a new packet in
round-robin order; what is picked has its head in front and room for the whole packet behind the output; with nothing
to send the cycle is only noted; a failed way on ends the packet. WAYPOINT_TABLE_UPDATE (R209): the table of a canton
not on the networks stays; with every router and link working each entry gives no waypoint; and an entry names a
waypoint only where both of its legs work for every source. Where the spec leaves a point open, the model's choice:
log entry 53. -/
def Obligations.MeshRouting : Prop :=
  (∀ (s : State) (k : ClusterIx) (o : Fin 6), s.routerUp k = false → Does (.meshOutputArbitrate k o) s s) ∧
  (∀ (s : State) (k : ClusterIx) (o : Fin 6), s.routerUp k = true →
    let s0 := s.setMrouter k (s.mrouter k).intake
    let s1 := if s0.roomless k o then s0.clusterEvent k 0x0D 1 else s0
    let m := s1.mrouter k
    let pr := SMap.get 0 m.prog o
    (o.val < 4 → s1.linkUp k o = false → Does (.meshOutputArbitrate k o) s (s1.endAt k o)) ∧
    (4 ≤ o.val ∨ s1.linkUp k o = true →
      (∀ x, popcount 16 (SMap.get 0 m.hist o).toNat < 8 → rrPick (s1.ready k o) pennantQueues (SMap.get 0 m.rrP o) = some x →
        Does (.meshOutputArbitrate k o) s
          ((s1.setMrouter k ({ m with rrP := SMap.put 0 m.rrP o x }.note o true)).sendFlit k o x none)) ∧
      (8 ≤ popcount 16 (SMap.get 0 m.hist o).toNat ∨ rrPick (s1.ready k o) pennantQueues (SMap.get 0 m.rrP o) = none →
        (pr ≠ 0 →
          let left := if (m.queue ((pr - 1) / 2)).head?.any (·.tail) then 0 else pr
          Does (.meshOutputArbitrate k o) s
            ((s1.setMrouter k ({ m with prog := SMap.put 0 m.prog o left }.note o false)).sendFlit k o ((pr - 1) / 2)
              (some ((pr - 1) % 2 = 1)))) ∧
        (pr = 0 → rrPick (s1.ready k o) bulkQueues (SMap.get 0 m.rr o) = none →
          Does (.meshOutputArbitrate k o) s (s1.setMrouter k (m.note o false))) ∧
        (∀ x h fs, pr = 0 → rrPick (s1.ready k o) bulkQueues (SMap.get 0 m.rr o) = some x → m.queue x = h :: fs →
          let pr' := if h.tail then 0 else 2 * x + b2n (leaving k h).lane + 1
          Does (.meshOutputArbitrate k o) s
            ((s1.setMrouter k ({ m with rr := SMap.put 0 m.rr o x, prog := SMap.put 0 m.prog o pr' }.note o false)).sendFlit
              k o x none))))) ∧
  (∀ (ok : Nat → Bool) (qs : List Nat) (last x : Nat), rrPick ok qs last = some x →
    x ∈ qs ∧ ok x = true ∧ (x ≤ last → ∀ y ∈ qs, last < y → ok y = false)) ∧
  (∀ (ok : Nat → Bool) (qs : List Nat) (last x : Nat), x ∈ qs → ok x = true → (rrPick ok qs last).isSome = true) ∧
  (∀ (s : State) (k o x : Nat), s.ready k o x = true →
    ∃ h fs, (s.mrouter k).queue x = h :: fs ∧ h.head = true ∧ outputOf k h = o ∧
      s.room k o h.vc.toNat (leaving k h).lane (packetLen h) = true) ∧
  (∀ (s : State), Gives .waypointTableUpdate s fun s' =>
    (∀ c, s.online c = false → s'.canton c = s.canton c) ∧
    (∀ c, c < 100 → s.online c = true → (s'.canton c).wptGen = (s.canton c).wptGen + 1) ∧
    (∀ c k, c < 100 → k < 4800 → s.online c = true →
      SMap.get 0 (s'.canton c).wpt k = if s.meshWhole then 0 else s.wptEntry (s.wptSources c) k) ∧
    Only [.cantons] s s') ∧
  (∀ (s : State) (srcs : List Nat) (k : Nat),
    (s.wptEntry srcs k = 0 ↔ ∀ a ∈ srcs, s.leg a k = true) ∧
    (∀ w, w < 4800 → s.wptEntry srcs k = BitVec.ofNat 16 (2 ^ 15 + w) → s.leg w k = true ∧ ∀ a ∈ srcs, s.leg a w = true))

/-- Packets at their ends (R204, R206, R207, R211, R266, R268, R386): a request is served and answered under its TID, or
waits while its store lets it wait; a response completes its request, at the sequencer or at a port's attachment, or
is counted late; with no packet of the type a request on a nearer path whose store no longer holds it is served; and a
request that times out completes with status 3 and a record, unless its bay holds the timers. Where the spec leaves a
point open, the model's choice: log entries 52, 64. -/
def Obligations.MeshPackets : Prop :=
  (∀ (s : State) (k : ClusterIx) (port : Fin 2),
    (∀ s1, s.takePacket k port 1 = (none, s1) → Does (.readReq k port) s s1) ∧
    (∀ s1, s.takePacket k port 2 = (none, s1) → Does (.writeReq k port) s s1) ∧
    (∀ s1, s.takePacket k 0 3 = (none, s1) →
      (s1.nearDue k false = none → Does (.readRsp k) s s1) ∧
      (∀ r, s1.nearDue k false = some r → Does (.readRsp k) s (s1.serveNear r))) ∧
    (∀ s1, s.takePacket k port 4 = (none, s1) →
      (port = 1 ∨ s1.nearDue k true = none → Does (.writeAck k port) s s1) ∧
      (∀ r, port = 0 → s1.nearDue k true = some r → Does (.writeAck k port) s (s1.serveNear r)))) ∧
  (∀ (s : State) (k : ClusterIx) (port : Fin 2) (p : Packet) (s1 : State),
    (s.takePacket k port 1 = (some p, s1) →
      (s1.packetWaits p = true → Does (.readReq k port) s s) ∧
      (s1.packetWaits p = false →
        let r := s1.serveRead (s1.servWho k p) p.addr p.rows
        Does (.readReq k port) s (r.2.2.send k (4 + port.val)
          { typ := 3, rows := p.rows, status := r.1, src := portCode k port, dst := p.src, tid := p.tid, slice := p.slice
            addr := p.addr, body := if r.1 = 0 ∨ r.1 = 2 then r.2.1 else [] }).2)) ∧
    (s.takePacket k port 2 = (some p, s1) →
      (s1.packetWaits p = true → Does (.writeReq k port) s s) ∧
      (s1.packetWaits p = false →
        let r := s1.serveWrite (s1.servWho k p) p.addr (p.body.take p.rows)
        Does (.writeReq k port) s (r.2.2.2.send k (4 + port.val)
          { typ := 4, rows := r.2.1, status := r.1, src := portCode k port, dst := p.src, tid := p.tid, slice := p.slice
            addr := p.addr }).2))) ∧
  (∀ (s : State) (k : ClusterIx) (port : Fin 2) (p : Packet) (s1 s2 : State),
    (s.takePacket k 0 3 = (some p, s1) → s1.takeRequest k false p.tid = (none, s2) → Does (.readRsp k) s s2) ∧
    (s.takePacket k port 4 = (some p, s1) → s1.takeRequest k (port = 1) p.tid = (none, s2) →
      Does (.writeAck k port) s s2)) ∧
  (∀ (s : State) (k : ClusterIx) (p : Packet) (s1 s2 : State) (r : Request), s.takePacket k 0 3 = (some p, s1) →
    s1.takeRequest k false p.tid = (some r, s2) →
    (∀ t tag, r.for_ = .bulk t tag → p.status = 0 ∨ p.status = 2 →
      let q := s2.deliverAll r.slice.toNat k t r.local_ r.addr p.body
      let s3 := (q.2.2.tagStatus t tag.toNat (max q.1 p.status)).opDone r.op
      Does (.readRsp k) s (if q.2.1 then s3.stopSlice r.slice.toNat none else s3)) ∧
    (∀ t tag, r.for_ = .bulk t tag → p.status ≠ 0 → p.status ≠ 2 →
      let s3 := (s2.tagStatus t tag.toNat p.status).opDone r.op
      Does (.readRsp k) s (if p.status = 3 then s3.stopSlice r.slice.toNat none else s3)) ∧
    (∀ pf, r.for_ = .prefetch pf → Does (.readRsp k) s
      (s2.prefetchedAll r.slice.toNat (if p.status = 0 ∨ p.status = 2 then k else r.cluster) r.addr pf
        (if p.status = 0 ∨ p.status = 2 then p.body else []) r.rows)) ∧
    ((∀ t tag, r.for_ ≠ .bulk t tag) → (∀ pf, r.for_ ≠ .prefetch pf) →
      Does (.readRsp k) s (s2.endRequest r p.status 0))) ∧
  (∀ (s : State) (k : ClusterIx) (port : Fin 2) (p : Packet) (s1 s2 : State) (r : Request),
    s.takePacket k port 4 = (some p, s1) → s1.takeRequest k (port = 1) p.tid = (some r, s2) →
    let s3 := s2.endRequest r p.status p.rows
    (∀ t tag, r.for_ = .bulk t tag → s3 = (s2.tagStatus t tag.toNat p.status).opDone r.op ∧
      (p.status = 3 ∨ r.write = true ∧ p.status = 2 ∧ p.rows < r.rows →
        Does (.writeAck k port) s (s3.stopSlice r.slice.toNat none)) ∧
      (p.status ≠ 3 → r.write = false ∨ p.status ≠ 2 ∨ r.rows ≤ p.rows → Does (.writeAck k port) s s3)) ∧
    ((∀ t tag, r.for_ ≠ .bulk t tag) → Does (.writeAck k port) s s3)) ∧
  (∀ (s : State) (k : ClusterIx) (tid : W16) (r : Request),
    s.requests.find? (fun r => r.cluster = k && r.tid = tid) = some r →
    (s.timersHeld r.addr = true → Does (.meshRequestTimeout k tid) s s) ∧
    (s.timersHeld r.addr = false →
      let c := cantonOfCluster k
      let u := { s with requests := s.requests.filter fun x => !(x.cluster = k && x.tid = tid) }
      Does (.meshRequestTimeout k tid) s ((((u.finc fCanMeshErrTimeout c).fset fCanMeshErrTimeoutSeen 1 c).report
        (cantonSrc c) { meshRec 0x11 k (requestHead r) with block := 8, slice := r.slice.zeroExtend 8 }).endRequest r 3 0)))

/-- Pennants (R208, R209, R216, R217, R243): a flit gives back the pennant that it carries, and ARG the message of a
handshake; one that is sent takes the next SEQ of its source and destination and waits at its node for the mesh,
unless the waypoint table calls its destination unreachable; of those that have arrived from a source the receiver
takes the oldest, where it is one that it asks for, and notes its SEQ; a reserved one is discarded and sets
PROTO_SEEN. The controller's side of a RECONFIGURE (R244, R253, R255): QUIESCE_STOP clears RUN, and the controller
answers once its canton has come to rest; QUIESCE_DRAIN starts the watch; QUIESCE_CONFIRM answers whether the canton
is drained still; the two switches release the staged tables and change the epoch of the canton's tiles, telling of
every probe that they clear. Where the spec leaves a point open, the model's choice: log entries 26, 29, 96. -/
def Obligations.ControllerPennants : Prop :=
  (∀ p : Pennant, p.code < 256 → p.src < 65536 → p.dst < 65536 → p.wpt < 8192 → p.seq < 256 → p.arg < 2 ^ 56 →
    pennantOf p.flit = p) ∧
  (∀ (p : Pennant) (m : QMsg), m.slice < 16 → m.op ≤ 5 → p.code = m.code → p.arg = m.arg →
    p.msg = m ∧ p.reserved = false) ∧
  (∀ (p : Pennant) (a : QAck), a.slice < 16 → 1 ≤ a.op → a.op ≤ 5 → a.state < 256 → a.discards < 2 ^ 32 → p.code = 2 →
    p.arg = a.arg → p.ack = a ∧ p.reserved = false) ∧
  (∀ (s : State) (src dst code arg : Nat),
    let k := src % 2 ^ 13
    let e := (s.canton (cantonOfCluster k)).wptOf (dst % 2 ^ 13)
    let x := 65536 * src + dst
    let key := if src / 2 ^ 13 = 0 then 6 else 7
    e.testBit 14 = false →
    let t := s.sendPennant src dst code arg
    SMap.get [] (t.mrouter k).inject key = SMap.get [] (s.mrouter k).inject key ++
      [[({ code := code, leg := !(e.testBit 15), wpv := e.testBit 15, src := src, dst := dst
           wpt := if e.testBit 15 then e % 2 ^ 13 else 0, seq := SMap.get 0 s.pennOut x, arg := arg } : Pennant).flit]] ∧
    SMap.get 0 t.pennOut x = (SMap.get 0 s.pennOut x + 1) % 256 ∧
    (∀ y, y ≠ x → SMap.get 0 t.pennOut y = SMap.get 0 s.pennOut y) ∧ Only [.mesh, .pennOut] s t) ∧
  (∀ (s : State) (src dst : Nat) (mine : Pennant → Bool) (ps qs : List (List MFlit)) (f : MFlit) (fs : List MFlit),
    let k := dst % 2 ^ 13
    let o := if dst / 2 ^ 13 = 0 then 4 else 5
    SMap.get [] (s.mrouter k).arrived o = ps ++ (f :: fs) :: qs →
    (∀ g ∈ ps, ∀ h ∈ g, h.vc = 2 → (pennantOf h).src ≠ src) → f.vc = 2 → (pennantOf f).src = src →
    let p := pennantOf f
    let t := s.takePennant src dst mine
    (p.reserved = true → t.1 = none ∧ t.2.fget fCanMeshErrProtoSeen (cantonOfCluster k) = 1) ∧
    (p.reserved = false → mine p = false → t = (none, s)) ∧
    (p.reserved = false → mine p = true → t.1 = some p ∧ SMap.get [] (t.2.mrouter k).arrived o = ps ++ qs ∧
      SMap.get 0 t.2.pennIn (65536 * p.src + p.dst) = (p.seq + 1) % 256 ∧
      (SMap.get 0 s.pennIn (65536 * p.src + p.dst) = p.seq → Only [.mesh, .pennIn] s t.2) ∧
      (SMap.get 0 s.pennIn (65536 * p.src + p.dst) ≠ p.seq →
        t.2.fget fCanMeshErrProtoSeen (cantonOfCluster (p.dst % 2 ^ 13)) = 1))) ∧
  (∀ (s : State) (c : CantonIx) (m : QMsg) (q : State), s.Hears c 1 m q →
    ((q.slice m.slice).holds c = true → Does (.quiesceStop c) s
      (((q.mapTiles (q.cantonTiles c) (Tile.setRun false)).setCanton c
        { q.canton c with watch := .stopping, watchSlice := BitVec.ofNat 4 m.slice }).restReply c)) ∧
    ((q.slice m.slice).holds c = false → Does (.quiesceStop c) s (q.restReply c))) ∧
  (∀ (s : State) (c : CantonIx) (q : State), s.hear c 1 = (none, q) → Does (.quiesceStop c) s (q.restReply c)) ∧
  (∀ (s : State) (c : Nat),
    ((s.canton c).watch = .stopping → s.atRest c = true → s.restReply c =
      (s.setCanton c { s.canton c with watch := .stopped }).answer c ⟨(s.canton c).watchSlice.toNat, 1, 0, 0⟩) ∧
    ((s.canton c).watch ≠ .stopping ∨ s.atRest c = false → s.restReply c = s) ∧
    (s.atRest c = true → ∀ t ∈ s.cantonTiles c, ∀ n, ((s.tile t).btag n).out = 0)) ∧
  (∀ (s : State) (c : CantonIx) (m : QMsg) (q : State), s.Hears c 2 m q →
    Gives (.quiesceDrain c) s fun s' =>
      (s'.canton c).watch = .draining ∧ (s'.canton c).watchSlice = BitVec.ofNat 4 m.slice ∧
      (∀ e, e ≠ c.val → s'.canton e = q.canton e) ∧ Only [.cantons] q s') ∧
  (∀ (s : State) (c : CantonIx) (m : QMsg) (q : State), s.Hears c 3 m q →
    Does (.quiesceConfirm c) s
      (q.answer c ⟨m.slice, 3, if (q.canton c).watch = .drained ∧ q.drainedNow c m.slice = true then 0 else 1, 0⟩)) ∧
  (∀ (s : State) (c : CantonIx) (m : QMsg) (q : State), s.Hears c 4 m q →
    Does (.quiesceSwitch c) s
      ((q.setCanton c { q.canton c with watchSlice := BitVec.ofNat 4 m.slice }).switchCanton c m.epoch .switching)) ∧
  (∀ (s : State) (c : Nat) (e : BitVec 4) (w : Watch),
    let s' := s.switchCanton c e w
    (s'.canton c).watch = w ∧ (s'.canton c).purged = 0 ∧ s'.mem = s.mem ∧ s'.slices = s.slices ∧
    (∀ t, s'.tile t = if t ∈ s.cantonTiles c then (s.tile t).switch e (s.router t) else s.tile t) ∧
    (∀ t, t ∈ s.cantonTiles c → s'.router t = { s.router t with
      stage := (s.router t).stage.map fun g => { g with released := true } }) ∧
    (∀ d, d ≠ c → s'.canton d = s.canton d) ∧
    ((∀ t ∈ s.cantonTiles c, (s.tile t).status.probe = false) → Only [.cantons, .tiles, .routers] s s')) ∧
  (∀ (s : State) (c : CantonIx) (m : QMsg) (q : State), s.Hears c 5 m q →
    Gives (.quiesceSwitchPurge c) s fun s' =>
      (s'.canton c).watch = .purging ∧ (s'.slice m.slice).phase = 5 ∧
      (∀ t, t ∈ q.cantonTiles c → s'.tile t = ((q.tile t).switch m.epoch (q.router t)).purge.1) ∧
      (∀ k, k ∈ clustersOf c → (s'.cluster k).spillQs = []) ∧
      (∀ e, e ≠ c.val → s'.canton e = q.canton e) ∧
      ((∀ t ∈ q.cantonTiles c, (q.tile t).status.probe = false) →
        Only [.cantons, .tiles, .routers, .clusters, .slices] q s')) ∧
  (∀ (e : BitVec 4) (r : Router) (t : Tile),
    (t.switch e r).epoch.cur = e ∧ (t.switch e r).ctrl.run = false ∧ (t.switch e r).status.stopped = false ∧
    (t.switch e r).g = t.g ∧ (t.switch e r).v = t.v ∧ (t.switch e r).istore = t.istore ∧
    ∀ q f, f ∈ (t.switch e r).purge.1.queue q → f.epoch = e ∨ 5 ≤ q)

/-- The drained condition (R253 step 3): a watching canton whose buffers are empty clears RUN and answers STATE 0; one
that meant to be drained and is not any more sets RUN again and answers STATE 1; otherwise nothing happens. Where the
spec leaves a point open, the model's choice: log entry 26. -/
def Obligations.DrainedCondition : Prop :=
  (∀ (s : State) (c : CantonIx), (s.canton c).watch = .draining → s.drainedNow c (s.canton c).watchSlice.toNat = true →
    Does (.cantonDrained c) s (((s.mapTiles (s.cantonTiles c) (Tile.setRun false)).setCanton c
      { s.canton c with watch := .drained }).answer c ⟨(s.canton c).watchSlice.toNat, 2, 0, 0⟩)) ∧
  (∀ (s : State) (c : CantonIx), (s.canton c).watch = .drained → s.drainedNow c (s.canton c).watchSlice.toNat = false →
    Does (.drainArrival c) s (((s.mapTiles (s.cantonTiles c) (Tile.setRun true)).setCanton c
      { s.canton c with watch := .draining }).answer c ⟨(s.canton c).watchSlice.toNat, 2, 1, 0⟩)) ∧
  (∀ (s : State) (c t : Nat) (b : Bool),
    (s.mapTiles (s.cantonTiles c) (Tile.setRun b)).tile t =
      (if t ∈ s.cantonTiles c then (s.tile t).setRun b else s.tile t) ∧
    Only [.tiles] s (s.mapTiles (s.cantonTiles c) (Tile.setRun b))) ∧
  (∀ (s : State) (c : CantonIx),
    ((s.canton c).watch ≠ .draining ∨ s.drainedNow c (s.canton c).watchSlice.toNat = false → Does (.cantonDrained c) s s) ∧
    ((s.canton c).watch ≠ .drained ∨ s.drainedNow c (s.canton c).watchSlice.toNat = true → Does (.drainArrival c) s s)) ∧
  (∀ (s : State) (c n t : Nat), s.drainedNow c n = true → t ∈ tilesOf c → s.isPresent t = true →
    (∀ q, (s.tile t).queue q = []) ∧ (s.tile t).inflight = [])

/-- The ensign complex's side (R240, R241, R243, R252 to R256, R356): RUN and RECONFIGURE start their handshakes or are
refused; an answer advances the one in progress; RESUME sets RUN in the tiles of a slice that runs; END_FLAG,
RUN_TIMEOUT and DRAIN_TIMEOUT end what they time, the abandoned epoch being clean only once every canton has replied.
Where the spec leaves a point open, the model's choice: log entries 21, 26, 28, 93. -/
def Obligations.SliceRuns : Prop :=
  (∀ (s : State) (r : RingIx) (d : Desc) (s1 : State), s.take r (fun d => d.op = 0x02) = some (d, s1) →
    ((s1.slice d.slice).loaded = false ∨ (s1.slice d.slice).phase ≠ 1 → Does (.run r) s (s1.complete d { status := 0x03 })) ∧
    ((s1.slice d.slice).loaded = true → (s1.slice d.slice).phase = 1 →
      ∃ u, Does (.run r) s (u.tell d.slice ⟨d.slice, 0, 0⟩) ∧ Only [.clusters, .slices] s1 u ∧
        (u.slice d.slice).phase = 2 ∧ (u.slice d.slice).run = some { desc := d })) ∧
  (∀ (s : State) (c : CantonIx) (m : QMsg) (q : State), s.Hears c 0 m q →
    let q1 := q.setCanton c { q.canton c with watch := .none, purged := 0 }
    let q2 := if (q.canton c).watch = .draining ∨ (q.canton c).watch = .drained then q1.answer c ⟨m.slice, 2, 2, 0⟩ else q1
    ((q.slice m.slice).holds c = false → Does (.resume c) s q) ∧
    ((q.slice m.slice).holds c = true → (q2.slice m.slice).phase ≠ 2 → Does (.resume c) s q2) ∧
    ((q.slice m.slice).holds c = true → (q2.slice m.slice).phase = 2 →
      Does (.resume c) s ((q2.mapTiles (q2.cantonTiles c) (Tile.setRun true)).started m.slice c))) ∧
  (∀ (s : State) (n c : Nat),
    let x := s.slice n
    (x.run = none → s.started n c = s) ∧
    (∀ r, x.run = some r →
      let done := (c :: r.resumed).eraseDups
      (x.endFlag = 0xFF → (∀ e ∈ x.cantons, e ∈ done) → s.started n c =
        ((s.setSlice n { x with run := none }).runSucceeded n).complete r.desc { r1 := s.engineNs }) ∧
      (x.endFlag ≠ 0xFF ∨ (∃ e ∈ x.cantons, e ∉ done) →
        s.started n c = s.setSlice n { x with run := some { r with resumed := done } }))) ∧
  (∀ (s : State) (c : CantonIx) (a : QAck) (q : State), s.HearsAck c a q →
    Does (.quiesceAck c) s (q.advance c a)) ∧
  (∀ (s : State) (c : CantonIx) (q : State), s.hearAck c = (none, q) → Does (.quiesceAck c) s (q.lookAgain c)) ∧
  (∀ (s : State) (c : Nat) (a : QAck) (rc : ReconfSt), (s.slice a.slice).reconf = some rc →
    (a.op ≠ 2 ∨ (s.slice a.slice).owesReply c = false) →
    (rc.purge = true ∨ (rc.step ≠ 3 ∧ rc.step ≠ 4) ∨ a.state ≠ 1 → a.op ≠ rc.wants → s.advance c a = s) ∧
    (rc.purge = false → rc.step = 3 ∨ rc.step = 4 → a.state = 1 →
      let t := s.advance c a
      Only [.slices] s t ∧ ∃ rc', (t.slice a.slice).reconf = some rc' ∧ rc'.step = 3 ∧ SMap.get 0 rc'.replies c = 2)) ∧
  (∀ (s : State) (n : SliceIx) (q : RunSt), (s.slice n).run = some q →
    ((s.slice n).endFlag = 0xFF ∨ (s.round n (s.slice n).endFlag.toNat).toTake = [] → Does (.endFlagDone n) s s) ∧
    ((s.slice n).endFlag ≠ 0xFF → (s.round n (s.slice n).endFlag.toNat).toTake ≠ [] →
      let f := (s.slice n).endFlag.toNat
      Does (.endFlagDone n) s ((((s.setRound n f { s.round n f with toTake := [] }).endRun n q.desc
        { r0 := (s.round n f).result.toNat + 2 ^ 16 })).runSucceeded n)) ∧
    (q.desc.fld 8 4 = 0 → Does (.runTimeout n) s s) ∧
    (q.desc.fld 8 4 ≠ 0 → Does (.runTimeout n) s (s.endRun n q.desc { status := 0x0D }))) ∧
  (∀ (s : State) (n : SliceIx), (s.slice n).run = none → Does (.endFlagDone n) s s ∧ Does (.runTimeout n) s s) ∧
  (∀ (s : State) (n : SliceIx), (s.slice n).reconf = none → Does (.drainTimeout n) s s) ∧
  (∀ (s : State) (n : SliceIx) (rc : ReconfSt), (s.slice n).reconf = some rc → rc.desc = none → Does (.drainTimeout n) s s) ∧
  (∀ (s : State) (n : SliceIx) (rc : ReconfSt) (d : Desc), (s.slice n).reconf = some rc → rc.desc = some d →
    (rc.purge = true ∨ 5 ≤ rc.step ∨ d.fld 8 4 = 0 → Does (.drainTimeout n) s s) ∧
    (rc.purge = false → rc.step < 5 → d.fld 8 4 ≠ 0 →
      ∃ u, Does (.drainTimeout n) s ((u.tell n ⟨n, 0, 0⟩).complete d { status := 0x06 }) ∧
        Only [.tiles, .routers, .slices] s u ∧
        (u.slice n).reconf = none ∧ (u.slice n).mode = 0 ∧ (u.slice n).cur = (s.slice n).cur ∧
        (u.slice n).phase = rc.was ∧ (u.slice n).clean = (s.slice n).clean ∧
        (u.slice n).gone = (s.slice n).gone ++ [(rc.epoch, s.sliceUp n)] ∧
        ∀ t ∈ s.sliceTiles n, (u.router t).stage = none ∧ (u.tile t).epoch.nextValid = false))

/-- Descriptors that load, unload and reconfigure (R239, R242, R252 to R255, R346, R356, R357): where the image comes
from; a loaded slice is stopped by a handshake before it is loaded anew or unloaded; the refusals of RECONFIGURE in
their order; the handshake that an accepted one starts, PHASE 3 with its MODE; and its steps, each once every canton
has replied STATE 0. Where the spec leaves a point open, the model's choice: log entries 21, 27, 30, 31, 93. -/
def Obligations.SliceDescriptors : Prop :=
  (∀ (s : State) (r : RingIx) (late : Bool) (d : Desc) (s1 : State),
    s.take r (fun d => d.op = 0x01 && !(s.loadWaits d late)) = some (d, s1) →
    (d.byte 16 = 0 → Does (.loadImage r true late) s (s1.loadOver d (s1.hostRead (d.fld 24 8) (d.fld 32 8)) false) ∧
      Does (.loadImage r false late) s (s1.hostFail d)) ∧
    (∀ ok, d.byte 16 = 1 →
      let q := s1.readRows whoHost (d.fld 24 8) ((d.fld 32 8 + 63) / 64)
      Does (.loadImage r ok late) s
        (if q.2.1.status = 0 then q.2.2.loadOver d (q.1.take (d.fld 32 8)) q.2.1.corrected
         else q.2.2.complete d { status := q.2.1.code, isolation := q.2.1.isolation, corrected := q.2.1.corrected })) ∧
    (∀ ok, 2 ≤ d.byte 16 → Does (.loadImage r ok late) s
      (s1.loadOver d (s1.mgmt.bytes (slotBase (d.byte 18)) (min (d.fld 32 8) 0xF0000000)) false))) ∧
  (∀ (s : State) (r : RingIx) (ok late : Bool),
    s.take r (fun d => d.op = 0x01 && !(s.loadWaits d late)) = none → Does (.loadImage r ok late) s s) ∧
  (∀ (s : State) (d : Desc) (late : Bool),
    (d.byte 16 = 0 → s.host.master = false → s.loadWaits d late = true) ∧
    ((s.slice d.slice).reconf.isSome = true → s.loadWaits d late = true)) ∧
  (∀ (s : State) (d : Desc) (img : List Byte) (fixed : Bool),
    ((s.slice d.slice).loaded = false → s.loadOver d img fixed = s.load d img fixed) ∧
    ((s.slice d.slice).loaded = true → s.loadOver d img fixed = s.stopFor d.slice (.load img fixed) (some d))) ∧
  (∀ (s : State) (r : RingIx) (d : Desc) (s1 : State),
    s.take r (fun d => d.op = 0x04 && (s.slice d.slice).reconf.isNone) = some (d, s1) →
    ((s1.slice d.slice).loaded = true → Does (.unload r) s (s1.stopFor d.slice .unload (some d))) ∧
    ((s1.slice d.slice).loaded = false → Does (.unload r) s (s1.complete d { status := 0x03 }))) ∧
  (∀ (s : State) (n : Nat) (goal : Goal) (d : Option Desc), goal ≠ .switch →
    let x := s.slice n
    let rc : ReconfSt := { desc := d, purge := true, config := 0, epoch := x.cur, step := 2, was := x.phase, goal := goal }
    (s.sliceUp n = [] → s.stopFor n goal d = s.sliceStopped n rc) ∧
    (s.sliceUp n ≠ [] → ∃ u, s.stopFor n goal d = u.tell n ⟨n, 1, 0⟩ ∧ Only [.slices] s u ∧
      u.slice n = { x with phase := 3, mode := 0, reconf := some rc }) ∧
    (∀ e, d = some e → goal = .unload → s.sliceStopped n rc = (s.unload n).complete e {})) ∧
  (∀ (s : State) (n : Nat) (rc : ReconfSt),
    ((∃ c ∈ s.sliceUp n, SMap.get 0 rc.replies c ≠ 1) → s.proceed n rc = s) ∧
    ((∀ c ∈ s.sliceUp n, SMap.get 0 rc.replies c = 1) →
      (rc.purge = true → rc.step = 2 → rc.goal = .switch → s.proceed n rc = s.switchSlice n rc) ∧
      (rc.purge = true → rc.step = 2 → rc.goal ≠ .switch → s.proceed n rc = s.sliceStopped n rc) ∧
      (rc.purge = false → rc.step = 3 → s.proceed n rc =
        (s.setSlice n { s.slice n with reconf := some { rc with step := 4, replies := [] } }).tell n ⟨n, 3, 0⟩) ∧
      (rc.purge = false → rc.step = 4 → rc.goal = .switch → s.proceed n rc = s.switchSlice n rc) ∧
      (5 ≤ rc.step → s.proceed n rc = s.finishReconf n rc))) ∧
  (∀ (s : State) (r : RingIx) (d : Desc) (s1 : State),
    (s.take r (fun d => d.op = 0x03 && d.byte 17 = 1) = some (d, s1) →
      Does (.reconfigureDrain r) s (s1.reconfigure d)) ∧
    (s.take r (fun d => d.op = 0x03 && d.byte 17 = 2) = some (d, s1) →
      Does (.reconfigurePurge r) s (s1.reconfigure d))) ∧
  (∀ (s : State) (d : Desc),
    let x := s.slice d.slice
    let e := BitVec.ofNat 4 (d.byte 18)
    (x.loaded = false ∨ x.reconf.isSome = true → s.reconfigure d = s.complete d { status := 0x03 }) ∧
    (x.loaded = true → x.reconf = none → e = x.cur ∨ x.clean.getLsbD e.toNat = false →
      s.reconfigure d = s.complete d { status := 0x05 }) ∧
    (∀ m, x.loaded = true → x.reconf = none → e ≠ x.cur → x.clean.getLsbD e.toNat = true → x.img = some m →
      let q := s.rotate (s.tablesOf (m.records x.shifts (d.byte 16)) (s.sliceTiles d.slice))
      (m.configs.contains (d.byte 16) = false ∨ q.2.isSome = true ∨ tablesOk x.holds q.1 = false →
        s.reconfigure d = s.complete d { status := 0x02 }) ∧
      (m.configs.contains (d.byte 16) = true → q.2 = none → tablesOk x.holds q.1 = true →
        ∃ u, s.reconfigure d = u.tell d.slice ⟨d.slice, if d.byte 17 = 2 then 1 else 2, 0⟩ ∧
          Only [.tiles, .routers, .slices] s u ∧
          (u.slice d.slice).phase = 3 ∧ (u.slice d.slice).mode = (if d.byte 17 = 2 then 2 else 1) ∧
          (u.slice d.slice).next = e ∧ (u.slice d.slice).clean.getLsbD e.toNat = false)))

/-- Doorbells (R343, R352): they reach the engine with Memory Space Enable outside D3hot; an active ring takes a tail at
most N ahead of SQ_FETCH; a head is in range where CQ_PROD − HEAD is at most N; the value already held changes
nothing; a doorbell out of range puts the ring in ERROR with its cause; one to a ring that takes none sets
DB_ERR_SEEN. Rings (R351): a ring is enabled with its counters at 0, or in ERROR with cause 4 where LOG2_ENTRIES is
out of range; disabled or reset, its descriptors not started complete with ABORTED, it drains while a started one is
left, its RESET reading 1 if it was reset, and leaves once none is. Where the spec leaves a point open, the model's
choice: log entry 36. -/
def Obligations.Rings : Prop :=
  (∀ (s : State) (r : RingIx) (v : W32), s.host.decodes = false →
    Does (.sqTailDoorbell r v) s s ∧ Does (.cqHeadDoorbell r v) s s) ∧
  (∀ (s : State) (r : RingIx) (v : W32), s.host.decodes = true →
    (v = (s.ring r).sqTail → (s.ring r).state ≠ 0 → Does (.sqTailDoorbell r v) s s) ∧
    (v ≠ (s.ring r).sqTail → (s.ring r).state = 1 → modSub 32 v.toNat (s.ring r).sqFetch.toNat ≤ (s.ring r).n →
      Gives (.sqTailDoorbell r v) s fun s' =>
        s'.ring r = { s.ring r with sqTail := v } ∧ (∀ i, i ≠ r.val → s'.ring i = s.ring i) ∧
        s'.host.descs = s.host.descs ∧ s'.host.mem = s.host.mem ∧ Only [.host] s s') ∧
    (v ≠ (s.ring r).sqTail → (s.ring r).state = 1 → (s.ring r).n < modSub 32 v.toNat (s.ring r).sqFetch.toNat →
      Gives (.sqTailDoorbell r v) s fun s' => (s'.ring r).state = 3 ∧ (s'.ring r).cause = 1) ∧
    ((s.ring r).state = 0 ∨ v ≠ (s.ring r).sqTail ∧ (s.ring r).state ≠ 1 →
      Gives (.sqTailDoorbell r v) s fun s' => s'.fbit fHifStatDbErrSeen = true ∧ Only [.regs] s s' ∧ OnlyRegs [0x10010] s s')) ∧
  (∀ (s : State) (r : RingIx) (v : W32), s.host.decodes = true →
    (v = (s.ring r).cqHead → (s.ring r).state ≠ 0 → Does (.cqHeadDoorbell r v) s s) ∧
    ((s.ring r).state = 0 ∨ v ≠ (s.ring r).cqHead ∧ ((s.ring r).state = 2 ∨ (s.ring r).state = 3 ∧
        (s.ring r).n < modSub 32 (s.ring r).cqProd.toNat v.toNat) → Gives (.cqHeadDoorbell r v) s fun s' =>
      s'.fbit fHifStatDbErrSeen = true ∧ Only [.regs] s s' ∧ OnlyRegs [0x10010] s s') ∧
    ((s.ring r).state ≠ 0 → (s.ring r).state ≠ 2 → v ≠ (s.ring r).cqHead →
      modSub 32 (s.ring r).cqProd.toNat v.toNat ≤ (s.ring r).n → Gives (.cqHeadDoorbell r v) s fun s' =>
        s'.ring r = { s.ring r with cqHead := v } ∧ (∀ i, i ≠ r.val → s'.ring i = s.ring i) ∧
        s'.host.descs = s.host.descs ∧ s'.host.mem = s.host.mem ∧ Only [.host] s s') ∧
    ((s.ring r).state = 1 → v ≠ (s.ring r).cqHead → (s.ring r).n < modSub 32 (s.ring r).cqProd.toNat v.toNat →
      Gives (.cqHeadDoorbell r v) s fun s' => (s'.ring r).state = 3 ∧ (s'.ring r).cause = 2)) ∧
  (∀ (s : State) (v : W64), s.host.decodes = false →
    Does (.ringEnable v) s s ∧ Does .ringDisable s s ∧ Does .ringReset s s) ∧
  (∀ (s : State) (v : W64), s.host.decodes = true →
    let r := s.fget fHifRingSelRing
    Does .ringReset s (s.ringStop r true) ∧ Does .ringDisable s (s.ringCfg r 3#64 0#64) ∧
    Does (.ringEnable v) s (s.ringCfg r (maskOf (2 ^ 64 - 1)) ((v ||| 1#64) &&& ~~~2#64))) ∧
  (∀ (s : State) (r : Nat), 4 ≤ (s.ring r).log2.toNat → (s.ring r).log2.toNat ≤ 16 →
    let x := (s.ringStart r).ring r
    x.state = 1 ∧ x.enable = true ∧ x.sqTail = 0 ∧ x.sqFetch = 0 ∧ x.cqProd = 0 ∧ x.cqHead = 0 ∧
    x.sqb = (s.ring r).sqb ∧ x.cqb = (s.ring r).cqb ∧ (∀ i, i ≠ r → (s.ringStart r).ring i = s.ring i) ∧
    Only [.host] s (s.ringStart r)) ∧
  (∀ (s : State) (r : Nat), (s.ring r).log2.toNat < 4 ∨ 16 < (s.ring r).log2.toNat →
    ((s.ringStart r).ring r).state = 3 ∧ ((s.ringStart r).ring r).cause = 4) ∧
  (∀ (s : State) (r : Nat) (rst : Bool), (s.ring r).state = 1 → s.host.descs = [] → s.txnState ≠ 1 →
    let x := (s.ringStop r rst).ring r
    x.state = 0 ∧ x.enable = false ∧ x.reset = false ∧ Only [.host] s (s.ringStop r rst)) ∧
  (∀ (s : State) (r : Nat) (rst : Bool), (s.ring r).state = 1 → s.txnState ≠ 1 →
    (∀ d ∈ s.host.descs, d.ring.val = r → d.started = true) → (∃ d ∈ s.host.descs, d.ring.val = r) →
    let x := (s.ringStop r rst).ring r
    x.state = 2 ∧ x.enable = false ∧ x.reset = ((s.ring r).reset || rst) ∧ (s.ringStop r rst).host.descs = s.host.descs)

/-- DESCRIPTOR_FETCH (R346, R348, R353, R355): nothing is fetched while the engine may not issue requests or no ring has a
descriptor; an unanswered read puts the ring in ERROR with cause 3; else the 64 bytes at SQ_FETCH are taken in.
Starting (R348, R351, R354): a row of a descriptor acts only where the ring's next descriptor is of its kind and may
start; it may start only on an active ring outside D3hot in an engine state that allows its opcode, an ORDER
descriptor as the ring's oldest, and one that names a slice after every earlier one that names it. Where the spec
leaves a point open, the model's choice: log entry 35. -/
def Obligations.DescriptorsTaken : Prop :=
  (∀ (s : State) (ok : Bool), s.host.master = false ∨ s.nextRing = none → Does (.descriptorFetch ok) s s) ∧
  (∀ (s : State) (r : Nat), s.host.master = true → s.nextRing = some r →
    Does (.descriptorFetch false) s ((s.fset fHifStatHostErrSeen 1).ringError r 3)) ∧
  (∀ (s : State) (r : Nat), s.host.master = true → s.nextRing = some r →
    let d : Desc := { ring := Fin.ofNat 4096 r, num := (s.ring r).sqFetch
                      bytes := s.hostRead ((s.ring r).sqb.toNat * 64 + (s.ring r).sqFetch.toNat % (s.ring r).n * 64) 64 }
    d.ok = true → s.engine ≠ 8 → Gives (.descriptorFetch true) s fun s' =>
      s'.host.descs = s.host.descs ++ [d] ∧ (s'.ring r).sqFetch = (s.ring r).sqFetch + 1 ∧
      (∀ i, i ≠ r → s'.ring i = s.ring i) ∧ s'.host.mem = s.host.mem ∧ Only [.host] s s') ∧
  (∀ (s : State) (d : Desc), d.ok = false →
    s.accept d = (s.updHost fun h => { h with descs := h.descs ++ [d] }).complete d { status := 0x01 }) ∧
  (∀ (s : State) (r : Nat), s.nextRing = some r → (s.ring r).state = 1 ∧ (s.ring r).sqFetch ≠ (s.ring r).sqTail) ∧
  (∀ (s : State) (r : Nat) (p : Desc → Bool) (d : Desc) (s1 : State), s.take r p = some (d, s1) →
    p { d with started := false } = true ∧ d.ring.val = r ∧ d.started = true ∧ (s.ring r).state = 1 ∧ s.host.d3 = false ∧
    s.allows d.op = true ∧ (d.order = true → ∀ e ∈ s.before d, e.ring ≠ d.ring) ∧
    (namesSlice d.op = true → ∀ e ∈ s.before d, namesSlice e.op = true → e.slice ≠ d.slice) ∧
    s1.host.mem = s.host.mem ∧ Only [.host] s s1) ∧
  (∀ (s : State) (r : Nat) (p : Desc → Bool) (f : Desc → State → State), s.take r p = none → s.perform r p f = s) ∧
  (∀ (s : State) (op : Nat), s.engine ≠ 5 → s.engine ≠ 6 →
    (s.allows op = true ↔ op = 0x00 ∨ op = 0x07 ∨ op = 0x0A ∨ 0x10 ≤ op ∧ op ≤ 0x13))

/-- Completions (R360, R361): with requests allowed and none held, the completion stands in host memory at its entry, its
first 28 bytes, then SEQ_PH, RESULT1 of a RUN being engine time; the producer index moves on, the descriptor is gone,
and nothing else of host memory changes. -/
def Obligations.CompletionWritten : Prop :=
  ∀ (s : State) (d : Desc) (q : Result), s.host.master = true → s.host.held = [] →
    let x := s.ring d.ring
    let a := x.cqb.toNat * 64 + x.cqProd.toNat % x.n * 32
    let q' := if d.op = 0x02 then { q with r1 := s.engineNs } else q
    let s' := s.completeOne d q
    s'.hostRead a 32 = completionBytes d q' ++ seqPh x.cqProd.toNat x.n ∧
    (∀ b, b < a ∨ a + 32 ≤ b → s'.hostRead b 1 = s.hostRead b 1) ∧
    (s'.ring d.ring).cqProd = x.cqProd + 1 ∧ (∀ i, i ≠ d.ring.val → s'.ring i = s.ring i) ∧
    (∀ e, e ∈ s'.host.descs ↔ e ∈ s.host.descs ∧ ¬(e.ring = d.ring ∧ e.num = d.num)) ∧
    Only [.host] s s'

/-- The descriptors without a unit of their own (R356, R357, R359, R361, R467): NOP completes; FENCE starts and completes
once nothing earlier of its scope is left; QUERY, COUNTER_SWEEP and CHECKPOINT answer with their data, or with the
status that the rules give. Where the spec leaves a point open, the model's choice: log entry 43. -/
def Obligations.PlainDescriptors : Prop :=
  (∀ (s : State) (r : RingIx) (d : Desc) (s1 : State),
    (s.take r (fun d => d.op = 0x00) = some (d, s1) → Does (.descNop r) s (s1.complete d {})) ∧
    (s.take r (fun d => d.op = 0x07) = some (d, s1) → Does (.fence r) s s1.fences) ∧
    (s.take r (fun d => d.op = 0x0A) = some (d, s1) → Does (.query r) s
      ((s1.hostWrite (d.fld 24 8) (s1.queryTable (d.byte 16))).complete d
        { r0 := querySize (d.byte 16)
          r1 := if d.byte 16 = 0 then s1.fget fGlbTpGenGen + 2 ^ 32 * s1.fget fGlbTpGenAbsentCount else 0 }))) ∧
  (∀ (s : State) (r : RingIx) (d : Desc) (s1 : State), s.take r (fun d => d.op = 0x09) = some (d, s1) →
    let bs := s1.sweep (d.byte 16) (d.byte 17 = 1) d.slice
    (d.fld 32 8 < bs.length → Does (.counterSweep r) s (s1.complete d { status := 0x01, r0 := bs.length })) ∧
    (bs.length ≤ d.fld 32 8 → Does (.counterSweep r) s
      ((s1.hostWrite (d.fld 24 8) bs).complete d { r0 := bs.length, r1 := s1.engineNs }))) ∧
  (∀ (s : State) (r : RingIx) (late : Bool) (d : Desc) (s1 : State), s.take r (fun d => d.op = 0x08 && d.byte 16 = 0 &&
      (late || !(s.ckptWaits d (min (d.fld 32 8) (s.streamSize d.slice))))) = some (d, s1) →
    ((s1.slice d.slice).phase = 1 → Does (.checkpointSave r late) s (s1.save d)) ∧
    ((s1.slice d.slice).phase ≠ 1 → Does (.checkpointSave r late) s (s1.complete d { status := 0x03 }))) ∧
  (∀ (s : State) (r : RingIx) (late : Bool) (d : Desc) (s1 : State), s.take r (fun d => d.op = 0x08 && d.byte 16 = 1 &&
      (late || !(s.ckptWaits d (d.fld 32 8))) && ((s.slice d.slice).phase ≠ 1 || d.byte 17 = 0 || s.host.master)) = some (d, s1) →
    (∀ ok, (s1.slice d.slice).phase ≠ 1 → Does (.checkpointRestore r ok late) s (s1.complete d { status := 0x03 })) ∧
    ((s1.slice d.slice).phase = 1 → d.byte 17 = 1 →
      Does (.checkpointRestore r true late) s (s1.restore d (s1.hostRead (d.fld 24 8) (d.fld 32 8)) false) ∧
      Does (.checkpointRestore r false late) s (s1.hostFail d)) ∧
    (∀ ok, (s1.slice d.slice).phase = 1 → d.byte 17 ≠ 1 →
      let q := s1.readRows whoHost (d.fld 24 8) (d.fld 32 8 / 64)
      Does (.checkpointRestore r ok late) s (if q.2.1.status = 0 then q.2.2.restore d q.1 q.2.1.corrected
        else q.2.2.complete d { status := q.2.1.code, isolation := q.2.1.isolation, corrected := q.2.1.corrected }))) ∧
  (∀ (s : State) (n : Nat) (bs : List Byte), leAt 0 4 bs ≠ 0x504B4357 ∨ leAt 60 4 bs ≠ 0x5EA10D1F ∨
    (bs.drop 4).take 4 ≠ (s.slice n).geomBytes ∨ leAt 8 8 bs ≠ (s.slice n).build → s.ckpt n bs = none) ∧
  (∀ (s : State), (s.queryTable 0).length = 28800 ∧ (s.queryTable 1).length = 256 ∧ (s.queryTable 2).length = 64)

/-- Transactions (R225, R366 to R370): a path opens one where none is open or committing and the engine is not in FAULT;
only its owner stages, aborts and commits; a commit asks each canton of its entries, waits for every vote, applies or
rolls back whole, and a canton that the engine-wide tree does not reach, or that has not voted within the time, rolls
it back. The cantons' side of a transaction (R5, R225, R368, R369): a canton asked takes the entries that its
TXN_STAGE pennant names into its shadows and answers with its vote in ARG; the vote is noted, and the last decides; a
canton applies its entries at its slot 0 and waits for it; one that the broadcast does not reach is noted as lost;
after the last the transaction is COMMITTED. Where the spec leaves a point open, the model's choice: log entries 37,
38, 39, 87, 88. -/
def Obligations.Transactions : Prop :=
  (∀ (s : State), s.host.decodes = true → (s.txnState = 1 ∨ s.txnState = 2) →
    Does (.txnBegin none) s (s.fset fTxnStatForeignSeen 1)) ∧
  (∀ (s : State), s.host.decodes = true → s.txnState ≠ 1 → s.txnState ≠ 2 → s.engine ≠ 8 →
    Gives (.txnBegin none) s fun s' => s'.txnState = 1 ∧ s'.host.txn.stage = [] ∧ s'.fget fTxnStatCount = 0 ∧
      s'.fbit fTxnStatOwnerRing = false ∧ s'.fget fTxnStatTxnId = (s.fget fTxnStatTxnId + 1) % 2 ^ fTxnStatTxnId.n ∧
      OnlyRegs [0x60008] s s' ∧ Only [.host, .regs] s s') ∧
  (∀ (s : State) (r : RingIx) (d : Desc) (s1 : State), s.take r (fun d => d.op = 0x10) = some (d, s1) →
    Does (.txnBegin (some r)) s ((s1.txnBegin (some r)).2.complete d (txnResult (s1.txnBegin (some r)).1))) ∧
  (∀ (s : State) (r : RingIx) (d : Desc) (s1 : State), s.take r (fun d => d.op = 0x11) = some (d, s1) →
    (s1.ownsTxn (some r) = false → Does (.txnWrite r) s (s1.complete d { status := 0x0F })) ∧
    (s1.ownsTxn (some r) = true → Does (.txnWrite r) s (((List.range (d.byte 3)).foldl (fun s i =>
      s.txnStage (d.fld (16 + 16 * i) 4) (BitVec.ofNat 64 (d.fld (24 + 16 * i) 8))) s1).complete d {}))) ∧
  (∀ (s : State), s.host.decodes = true →
    (s.ownsTxn none = true → Does (.txnAbort none) s s.txnDrop ∧ Does (.txnCommit none) s (s.txnStart none)) ∧
    (s.ownsTxn none = false → Does (.txnAbort none) s s.foreign ∧ Does (.txnCommit none) s s.foreign)) ∧
  (∀ (s : State) (r : RingIx) (d : Desc) (s1 : State),
    (s.take r (fun d => d.op = 0x13) = some (d, s1) → Does (.txnAbort (some r)) s
      (if s1.ownsTxn (some r) then s1.txnDrop.complete d {} else s1.complete d { status := 0x0F })) ∧
    (s.take r (fun d => d.op = 0x12) = some (d, s1) → Does (.txnCommit (some r)) s
      (if s1.ownsTxn (some r) then s1.txnStart (some d) else s1.complete d { status := 0x0F }))) ∧
  (∀ (s : State), s.engine ≠ 8 → s.fbit fTxnStatOverflow = false → s.host.txn.stage ≠ [] →
    (∀ e ∈ s.host.txn.stage, s.reached (entryCanton e.off) = true) →
    let t := s.txnStart none
    t.txnState = 2 ∧ t.host.txn.stage = s.host.txn.stage ∧ t.host.txn.votes = [] ∧ t.host.txn.apply = [] ∧
    (∀ c, c ∈ t.host.txn.asked ↔ ∃ e ∈ s.host.txn.stage, entryCanton e.off = c) ∧
    ((∀ e ∈ s.host.txn.stage, ((s.canton 40).wptOf (controllerNode (entryCanton e.off) % 2 ^ 13)).testBit 14 = false) →
      Only [.host, .regs, .mesh, .pennOut] s t)) ∧
  (∀ (s : State), s.engine ≠ 8 → s.fbit fTxnStatOverflow = false → s.host.txn.stage ≠ [] →
    (∀ e ∈ s.host.txn.stage, s.reached (entryCanton e.off) = false) →
    (s.txnStart none).txnState = 4 ∧ (s.txnStart none).fget fTxnStatCause = 5 ∧ (s.txnStart none).mesh = s.mesh) ∧
  (∀ (s : State), s.txnState = 2 → s.host.txn.apply = [] →
    (s.host.txn.refusedBy = none → Does .txnVoteTimeout s (s.txnRollback 3 0xFF 0)) ∧
    (∀ c k i, s.host.txn.refusedBy = some (c, k, i) →
      Does .txnVoteTimeout s (s.txnRollback k.toNat c ((s.host.txn.stage.getD i.toNat ⟨0, 0, 0⟩).off)))) ∧
  (∀ (s : State), (s.txnDrop).txnState = 5 ∧ (s.txnDrop).host.txn.stage = []) ∧
  (∀ (s : State) (cause c o : Nat), s.host.txn.desc = none → (s.txnRollback cause c o).txnState = 4 ∧
    (s.txnRollback cause c o).host.txn.stage = [] ∧ (s.txnRollback cause c o).host.txn.apply = []) ∧
  (∀ (s : State) (c : CantonIx) (p : Pennant) (q : State),
    s.Hands ensignNode (controllerNode c) (fun p => p.code = 4) p q →
    (q.txnState = 2 → p.byte 0 = q.txnTag → q.host.txn.apply = [] → Gives (.txnStage c) s fun s' =>
      (let t := q.setCanton c { q.canton c with
          shadow := (((q.host.txn.stage.drop (fld p.arg 8 16)).filter fun e => entryCanton e.off = c.val).take
            (fld p.arg 24 16)).map fun e => (e.off, e.mask.toNat, e.val.toNat) }
       s' = t.sendPennant (controllerNode c) ensignNode 5 (voteArg (p.byte 0) (q.voteOf q.host.txn.stage c))) ∧
      (((q.canton c).wptOf (ensignNode % 2 ^ 13)).testBit 14 = false → Only [.cantons, .mesh, .pennOut] q s')) ∧
    (q.txnState ≠ 2 ∨ p.byte 0 ≠ q.txnTag ∨ q.host.txn.apply ≠ [] → Does (.txnStage c) s q)) ∧
  (∀ (s : State) (c : CantonIx) (p : Pennant) (q : State),
    s.Hands (controllerNode c) ensignNode (fun p => p.code = 5) p q →
    (q.txnState = 2 → p.byte 0 = q.txnTag → q.host.txn.apply = [] → c.val ∈ q.host.txn.asked → Does (.txnVote c) s
      (q.updTxn fun t => { t with votes := SMap.put none t.votes c (some (p.byte 5 = 1, BitVec.ofNat 8 (p.byte 6),
        BitVec.ofNat 16 (fld p.arg 8 16))) }).txnDecide) ∧
    (q.txnState ≠ 2 ∨ p.byte 0 ≠ q.txnTag ∨ q.host.txn.apply ≠ [] ∨ c.val ∉ q.host.txn.asked → Does (.txnVote c) s q)) ∧
  (∀ (s : State) (c : CantonIx) (q : State), s.takePennant ensignNode (controllerNode c) (fun p => p.code = 4) = (none, q) →
    Does (.txnStage c) s q) ∧
  (∀ (s : State) (c : CantonIx) (q : State), s.takePennant (controllerNode c) ensignNode (fun p => p.code = 5) = (none, q) →
    Does (.txnVote c) s q) ∧
  (∀ (tag i : Nat) (k : Byte) (p : Pennant), tag < 256 → i < 65536 → p.arg = voteArg tag (some (i, k)) →
    p.byte 0 = tag ∧ p.vote = (true, k, BitVec.ofNat 16 i)) ∧
  (∀ (tag : Nat) (p : Pennant), tag < 256 → p.arg = voteArg tag none → p.byte 0 = tag ∧ p.vote = (false, 0, 0xFFFF#16)) ∧
  (∀ (s : State) (c : CantonIx), c.val ∉ s.host.txn.apply → Does (.txnApply c) s s) ∧
  (∀ (s : State) (c : CantonIx), c.val ∈ s.host.txn.apply →
    let up := s.reached c = true ∧ c.val ∉ s.host.txn.lost
    let ends (s1 : State) : State :=
      let s2 := (s1.setCanton c { s1.canton c with shadow := [] }).updTxn fun t => { t with apply := t.apply.filter (· ≠ c.val) }
      if s2.host.txn.apply.isEmpty then s2.txnEnd 3 0 else s2
    (up → (s.canton c).slot ≠ 0 → Does (.txnApply c) s s) ∧
    (up → (s.canton c).slot = 0 → Does (.txnApply c) s (ends (s.applyCanton s.host.txn.stage c))) ∧
    (¬up → Does (.txnApply c) s (ends (s.fset fTxnStatCantonLost 1)))) ∧
  (∀ (s : State), (∃ c ∈ s.host.txn.asked, SMap.get none s.host.txn.votes c = none) → s.txnDecide = s) ∧
  (∀ (s : State), (∀ c ∈ s.host.txn.asked, SMap.get none s.host.txn.votes c ≠ none) → s.host.txn.refusedBy = none →
    s.host.txn.asked ≠ [] → s.txnDecide = s.updTxn fun t => { t with apply := t.asked })

/-- The host's windows (R122, R343 to R345, R350, R352, R365, R367): a read answers what its space holds there, and rows
that BAR4 may still have to wait for wait; BAR4 discards writes; indirect access posts writes and reads a word; a
register write acts and stages; an expired interrupt time signals its ring. Register writes from BAR0 (R9, R10, R343,
R345, R367): of a size or alignment that is none, refused with SIZE_SEEN; to a gated port, ignored where no
transaction of TXN_CTRL is open; to an offline window, OFFLINE_SEEN; a plain register takes the bits of its RW fields,
clears those of its W1C fields that are written 1, and keeps every other; TX fields are staged or noted. Where the
spec leaves a point open, the model's choice: log entries 40, 41, 42, 88, 92. -/
def Obligations.HostAccesses : Prop :=
  (∀ (s : State) (o : BitVec 38) (n : BitVec 13) (v : W64) (b : Bool), s.host.decodes = false →
    (∀ sp, sp ≠ .config → Does (.bar4Read sp o n b) s s) ∧ Does .bar4Write s s ∧ Does (.tileAccWrite v) s s ∧
    Does (.tileAccRead b) s s) ∧
  (∀ (s : State) (o : BitVec 38) (n : BitVec 13) (b : Bool),
    (s.host.linkUp = false → Does (.bar4Read .config o n b) s s) ∧
    (∀ i : Nat, s.host.linkUp = true → o.toNat = 4 * i → Does (.bar4Read .config o 4#13 b) s
      (s.readsBack (leBytes 4 (s.configWord i).toNat)))) ∧
  (∀ (s : State) (sp : HostSpace) (o : BitVec 38) (n : BitVec 13) (b : Bool), s.host.decodes = true → sp = .bar0 ∨ sp = .bar2 →
    (n ≠ 4 ∧ n ≠ 8) ∨ o.toNat % n.toNat ≠ 0 →
    Does (.bar4Read sp o n b) s ((s.fset fHifStatSizeSeen 1).readsBack (List.replicate n.toNat 0))) ∧
  (∀ (s : State) (o : BitVec 38) (b : Bool), s.host.decodes = true → o.toNat % 8 = 0 → o.toNat ≠ 0x308 → o.toNat ≠ 0x70040 →
    (s.gated o.toNat = true → Does (.bar4Read .bar0 o 8#13 b) s (s.readsBack (leBytes 8 0))) ∧
    (s.gated o.toNat = false → s.windowUp o.toNat = true →
      Does (.bar4Read .bar0 o 8#13 b) s (s.readsBack (leBytes 8 (s.readReg o.toNat).toNat))) ∧
    (s.gated o.toNat = false → s.windowUp o.toNat = false →
      Does (.bar4Read .bar0 o 8#13 b) s ((s.fset fHifStatOfflineSeen 1).readsBack (leBytes 8 0)))) ∧
  (∀ (s : State) (r : RingIx) (o : BitVec 38) (j : Nat) (b : Bool), s.host.decodes = true → o.toNat = 64 * r.val + 8 * j → j < 8 →
    let x := s.ring r
    Does (.bar4Read .bar2 o 8#13 b) s (s.readsBack (leBytes 8
      (if j = 0 then x.sqTail else if j = 1 then x.cqHead else if j = 2 then x.sqFetch else if j = 3 then x.cqProd else 0).toNat))) ∧
  (∀ (s : State), s.host.decodes = true → Gives .bar4Write s fun s' =>
    s'.fbit fHifStatBar4WrSeen = true ∧ Only [.regs] s s' ∧ OnlyRegs [0x10010] s s') ∧
  (∀ (s : State) (o : BitVec 38) (n : BitVec 13) (late : Bool), s.host.decodes = true →
    let a := s.fget fHifWinBaseBase * 2 ^ 38 + o.toNat
    let m := (a % 64 + n.toNat + 63) / 64
    let q := s.bar4Rows (a / 64 * 64) m
    (s.rowsWait (a / 64 * 64) m = true → Does (.bar4Read .bar4 o n false) s s) ∧
    (late = true ∨ s.rowsWait (a / 64 * 64) m = false →
      Does (.bar4Read .bar4 o n late) s (q.2.readsBack ((q.1.drop (a % 64)).take n.toNat))) ∧
    ((q.1.drop (a % 64)).take n.toNat).length = n.toNat) ∧
  (∀ (s : State) (v : W64), s.host.decodes = true → s.accRefused = 0 → s.host.accWrites.length < 16 →
    Gives (.tileAccWrite v) s fun s' =>
      (∃ q, s'.host.accWrites = s.host.accWrites ++ [q] ∧ q.data = v ∧ q.offset = BitVec.ofNat 13 (s.fget fTileAccAddrOffset)) ∧
      s'.fbit fTileAccStatBusy = true ∧ s'.host.mem = s.host.mem ∧ s'.mem = s.mem ∧ s'.tiles = s.tiles) ∧
  (∀ (s : State) (ok : Bool), Does (.tileAccWriteDone ok) s (s.accPop ok)) ∧
  (∀ (s : State) (b : Bool), s.host.decodes = true → s.accRefused ≠ 0 → Gives (.tileAccRead b) s fun s' =>
    s'.fget fTileAccStatErr = s.accRefused ∧ s'.host.readBack = leBytes 8 0 ∧ s'.mem = s.mem ∧ s'.tiles = s.tiles) ∧
  (∀ (s : State) (k t : Nat), s.host.decodes = true → s.accRefused = 0 → s.host.accWrites = [] →
    let w := s.fget fTileAccAddrOffset
    let sp := s.fget fTileAccAddrSpace
    s.accCheck (s.fbit fTileAccAddrPhys) (s.fget fTileAccAddrTile) sp w false = (0, false) →
    s.accTile (s.fbit fTileAccAddrPhys) (s.fget fTileAccAddrTile) = some (k, t) →
    let q := s.accStep.accRead t sp w
    Does (.tileAccRead false) s ((q.2.accEnd q.1 w).updHost fun h =>
      { h with readBack := leBytes 8 (if q.1 = 0 then q.2.getSpace t sp w else 0).toNat })) ∧
  (∀ (s : State) (off : BitVec 24) (n : Byte) (v : W64),
    Does (.registerWrite off n v) s (s.barWrite off.toNat n.toNat v) ∧
    Does (.stagedRegWrite off n v) s (s.barWrite off.toNat n.toNat v)) ∧
  (∀ (s : State) (r : RingIx),
    ((s.ring r).irqTime ≠ 0 → (s.ring r).unsignalled ≠ 0 → Gives (.irqTimeExpiry r) s fun s' =>
      (s'.ring r).unsignalled = 0 ∧ (∀ i, i ≠ r.val → s'.ring i = s.ring i) ∧ Only [.host] s s') ∧
    ((s.ring r).irqTime = 0 ∨ (s.ring r).unsignalled = 0 → Does (.irqTimeExpiry r) s s)) ∧
  (∀ (s : State) (off n : Nat) (v : W64), s.host.decodes = false → s.barWrite off n v = s) ∧
  (∀ (s : State) (off n : Nat) (v : W64), s.host.decodes = true → (n ≠ 4 ∧ n ≠ 8) ∨ off % n ≠ 0 →
    s.barWrite off n v = s.fset fHifStatSizeSeen 1) ∧
  (∀ (s : State) (off : Nat) (v : W64), s.host.decodes = true → off % 8 = 0 → s.gated off = false →
    s.windowUp off = false → s.barWrite off 8 v = s.fset fHifStatOfflineSeen 1) ∧
  (∀ (s : State) (off : Nat) (v : W64), s.host.decodes = true → off % 8 = 0 → s.gated off = true →
    s.txnState ≠ 1 ∨ s.fbit fTxnStatOwnerRing = true → s.barWrite off 8 v = s) ∧
  (∀ (s : State) (off : Nat) (mask v : W64) (b : Nat), b < 64 →
    let w := (s.putBits off mask v).reg off
    w.getLsbD b =
      if mask.getLsbD b && v.getLsbD b && (regSpec off).ws.testBit b then true
      else if mask.getLsbD b && v.getLsbD b && (regSpec off).w1c.testBit b then false
      else if mask.getLsbD b && (regSpec off).rw.testBit b then v.getLsbD b
      else (s.reg off).getLsbD b) ∧
  (∀ (s : State) (off : Nat) (mask v : W64), Only [.regs] s (s.putBits off mask v) ∧ OnlyRegs [off] s (s.putBits off mask v)) ∧
  (∀ (s : State) (off : Nat) (mask v : W64), mask ≠ 0 → s.txnState = 1 → s.fbit fTxnStatOwnerRing = false →
    s.host.txn.stage.length < 4096 →
    (s.stageBar off mask v).host.txn.stage = s.host.txn.stage ++ [⟨off, mask, v⟩] ∧
    (s.stageBar off mask v).fget fTxnStatCount = (s.host.txn.stage.length + 1) % 2 ^ fTxnStatCount.n) ∧
  (∀ (s : State) (off : Nat) (mask v : W64), mask ≠ 0 → s.txnState ≠ 1 → s.gated off = false →
    s.stageBar off mask v = s.fset fTxnStatUnstagedSeen 1)

/-- WARM_RESET and PCIE_POWER_STATE (R343, R346, R347, R386): without PGOOD, or with the reference lost and no PERST_N, no
warm reset; one clears rings, descriptors and the enables of configuration space, aborts an open transaction, and
stops every slice to unload it, at once where no canton of it is up; a power state takes effect with the link up.
Where the spec leaves a point open, the model's choice: log entry 44. -/
def Obligations.HostResets : Prop :=
  (∀ (s : State) (b : Bool), s.mgmt.pgood = false ∨ s.host.pcieLost = true ∧ b = false → Does (.warmReset b) s s) ∧
  (∀ (s : State), s.mgmt.pgood = true → s.host.pcieLost = false → Gives (.warmReset false) s fun s' =>
    s'.host.descs = [] ∧ s'.host.held = [] ∧ (∀ r, s'.ring r = {}) ∧ s'.host.mem = s.host.mem ∧ s'.host.bme = false ∧
    s'.host.linkUp = true ∧ s'.host.readBack = s.host.readBack ∧ (s.txnState = 1 → s'.txnState = 5) ∧
    (∀ n, n < 16 → (s'.slice n).loaded = true → (s.slice n).loaded = true ∧ (s'.slice n).phase = 3 ∧
      ∃ rc, (s'.slice n).reconf = some rc ∧ rc.goal = .unload ∧ rc.desc = none ∧ rc.purge = true ∧ rc.step = 2) ∧
    (∀ n, n < 16 → s.sliceUp n = [] → (s'.slice n).loaded = false)) ∧
  (∀ (s : State) (q : PcieState), s.host.linkUp = false → Does (.pciePowerState q) s s) ∧
  (∀ (s : State) (q : PcieState), s.host.linkUp = true → Gives (.pciePowerState q) s fun s' =>
    s'.host.d3 = q.d3 ∧ s'.host.mse = q.mse ∧ s'.host.bme = q.bme ∧ s'.host.msixEn = q.msixEn ∧ s'.host.aer = q.aer ∧
    s'.host.descs = s.host.descs ∧ (q.bme = true → q.d3 = false → s'.host.held = []) ∧ Only [.host, .regs] s s' ∧
    OnlyRegs [0x10010] s s')

/-- Halyard rounds (R219, R221 to R223, R225): a round completes where every participant has reported, with its combined
value handed to every tile that had arrived; otherwise nothing happens; a link that fails its retry fails in both
directions and stops the slices whose trees use it. Where the spec leaves a point open, the model's choice: log
entries 54, 87. -/
def Obligations.HalyardRounds : Prop :=
  (∀ (s : State) (n : SliceIx) (f : BitVec 6), s.roundFull n f.toNat = false → Does (.halyardRoundDone n f) s s) ∧
  (∀ (s : State) (n : SliceIx) (f : BitVec 6), s.roundFull n f.toNat = true → Gives (.halyardRoundDone n f) s fun s' =>
    (s'.round n f.toNat).result = (s.round n f.toNat).acc ∧ (s'.round n f.toNat).op = none ∧
    (s'.round n f.toNat).arrivals = [] ∧
    (∀ c, c ∈ (s'.round n f.toNat).toTake ↔ c ∈ (s.slice n).cantons ∧ s.halAgent c f.toNat = true) ∧
    (∀ t, t ∈ s.sliceTiles n → (s.tile t).flag f.toNat = .arrived → (s'.tile t).flag f.toNat = .done (s.round n f.toNat).acc) ∧
    (∀ t g, g ≠ f.toNat → (s'.tile t).flag g = (s.tile t).flag g) ∧
    (∀ t, t ∉ s.sliceTiles n → s'.tile t = s.tile t) ∧ Only [.tiles, .rounds, .mgmt] s s') ∧
  (∀ (s : State) (c : CantonIx) (d : Fin 4) (f : BitVec 6) (b : Bool), cantonNeighbour c d = none →
    Does (.halyardLinkRetry c d f b) s s) ∧
  (∀ (s : State) (c : CantonIx) (d : Fin 4) (f : BitVec 6) (e : Nat), cantonNeighbour c d = some e →
    Gives (.halyardLinkRetry c d f true) s fun s' => s'.cantons = s.cantons ∧ s'.slices = s.slices ∧ s'.rounds = s.rounds ∧
      s'.tiles = s.tiles ∧ s'.mem = s.mem) ∧
  (∀ (s : State) (c : CantonIx) (d : Fin 4) (f : BitVec 6) (e : Nat), cantonNeighbour c d = some e →
    Gives (.halyardLinkRetry c d f false) s fun s' =>
      s'.halLink c d = false ∧ s'.halLink e (opp d) = false ∧ s'.mesh = s.mesh ∧ s'.ports = s.ports) ∧
  (∀ (a b : W16), hopApply 0 a b = a &&& b ∧ hopApply 1 a b = a ||| b ∧ (hopApply 2 a b).toNat = min a.toNat b.toNat ∧
    (hopApply 3 a b).toNat = max a.toNat b.toNat ∧ hopApply 4 a b = a + b) ∧
  (∀ (op : Nat) (a : W16), op < 5 → hopApply op (hopIdentity op) a = a)

/-- PROBE (R244, R245): a tile whose probe has changed sends it in a pennant's ARG; the ensign complex takes the pennant
and holds the tile's probe as it says; a canton of no slice has none to tell. Deadlock and spill (R245 to R249): a
confirmed deadlock spills the full queue of the lowest tile, or stops the slice where SPILL_OFF is set, every
candidate spills or the pool's queues are all in use; a flit moves into the lowest free entry, and comes back ahead of
every later arrival; with none free for long enough the slice stops. Where the spec leaves a point open, the model's
choice: log entries 33, 34. -/
def Obligations.DeadlockAndSpill : Prop :=
  (∀ (s : State) (t : TileIx) (p : Pennant) (q : State) (n : Nat),
    s.Hands (clusterOf t) ensignNode (fun p => p.code = 6 && p.byte 0 % 64 = localTile t) p q →
    q.sliceOf (cantonOf t) = some n → Gives (.probe t) s fun s' =>
      (t.val ∈ (s'.slice n).probes ↔ 128 ≤ p.byte 0) ∧
      (∀ u, u ≠ t.val → (u ∈ (s'.slice n).probes ↔ u ∈ (q.slice n).probes)) ∧
      (∀ m, m ≠ n → s'.slice m = q.slice m) ∧ Only [.slices] q s') ∧
  (∀ (s : State) (t : TileIx) (p : Pennant) (q : State),
    s.Hands (clusterOf t) ensignNode (fun p => p.code = 6 && p.byte 0 % 64 = localTile t) p q →
    q.sliceOf (cantonOf t) = none → Does (.probe t) s q) ∧
  (∀ (s : State) (t : TileIx) (q : State),
    s.takePennant (clusterOf t) ensignNode (fun p => p.code = 6 && p.byte 0 % 64 = localTile t) = (none, q) → Does (.probe t) s q) ∧
  (∀ (x : Tile) (l : Nat) (p : Pennant), l < 48 → p.arg = x.probeArg l →
    p.byte 0 % 64 = l ∧ (128 ≤ p.byte 0 ↔ x.status.probe = true)) ∧
  (∀ (s : State) (t : Nat), s.tellProbe t (s.tile t).status.probe = s) ∧
  (∀ (s : State) (t : Nat), (s.tile t).status.probe = false →
    s.tellProbe t true = s.sendPennant (clusterOf t) ensignNode 6 ((s.tile t).probeArg (localTile t))) ∧
  (∀ (s : State) (t : Nat), (s.tile t).status.probe = true → s.tellProbe t false =
    (s.finc fCanDlCntProbes (cantonOf t)).sendPennant (clusterOf t) ensignNode 6 ((s.tile t).probeArg (localTile t))) ∧
  (∀ (s : State) (n : SliceIx), s.deadlocks n = [] ∨ (s.slice n).loaded = false ∨ (s.slice n).phase = 6 →
    Does (.deadlockConfirm n) s s) ∧
  (∀ (s : State) (n : SliceIx) (d : WaitEdge × List Nat) (ds : List (WaitEdge × List Nat)), s.deadlocks n = d :: ds →
    (s.slice n).loaded = true → (s.slice n).phase ≠ 6 →
    let s1 := s.setSlice n { s.slice n with deadlockSeen := true, cycle := d.2 }
    ((s.slice n).flags.getLsbD 1 = true →
      Does (.deadlockConfirm n) s (s1.spillStop n (clusterOf (d.2.headD 0)) 3 0x16 0x07 { cls := 0x16 })) ∧
    ((s.slice n).flags.getLsbD 1 = false → s1.chooseSpill (d :: ds) = none →
      Does (.deadlockConfirm n) s (s1.spillStop n (clusterOf (d.2.headD 0)) 3 0x16 0x07 { cls := 0x16 })) ∧
    (∀ t q path, (s.slice n).flags.getLsbD 1 = false → s1.chooseSpill (d :: ds) = some (t, q, path) → t < 230400 → q < 5 →
      (s.cluster (clusterOf t)).spillQs.length < 16 → Gives (.deadlockConfirm n) s fun s' =>
        (∃ z, (s'.cluster (clusterOf t)).spillQs = (s.cluster (clusterOf t)).spillQs ++ [z] ∧ z.tile.val = t ∧
          z.queue.val = q ∧ z.slots = [] ∧ z.seqIn = 0 ∧ z.seqOut = 0 ∧ z.kept = ((s.tile t).queue q).length) ∧
        (s'.slice n).deadlockSeen = true ∧ (s'.slice n).cycle = path ∧ (s'.slice n).phase = (s.slice n).phase ∧
        (∀ k, k ≠ clusterOf t → s'.cluster k = s.cluster k) ∧ Only [.clusters, .slices, .regs] s s')) ∧
  (∀ (s : State) (t : TileIx) (q : Fin 5), (s.cluster (clusterOf t)).spillOf t q = none →
    Does (.spillToPool t q) s s ∧ Does (.spillReinject t q) s s) ∧
  (∀ (s : State) (t : TileIx) (q : Fin 5) (z : SpillQ) (f : Flit) (fs : List Flit) (i : Nat),
    (s.cluster (clusterOf t)).spillOf t q = some z → s.spillMoves (cantonOf t) = true →
    ((s.tile t).queue q).drop z.kept = f :: fs → (s.cluster (clusterOf t)).poolFree = some i →
    let a := (s.cluster (clusterOf t)).poolAddr (clusterOf t) i
    let p := SMap.get 0 (s.router t).pend q
    Gives (.spillToPool t q) s fun s' =>
      (s'.tile t).queue q = ((s.tile t).queue q).take z.kept ++ fs ∧
      s'.mem.bytes a 64 = poolEntry f (localTile t) q z.seqIn ∧
      (∀ b, b < a ∨ a + 64 ≤ b → s'.mem.byte b = s.mem.byte b) ∧
      (p < 32 → SMap.get 0 (s'.router t).pend q = p + 1 ∧
        (∀ u, u ≠ t.val → s'.tile u = s.tile u ∧ s'.router u = s.router u) ∧
        Only [.tiles, .routers, .clusters, .mem, .mgmt, .regs] s s') ∧
      (32 ≤ p → SMap.get 0 (s'.router t).pend q = p ∧ (s'.router t).ovfSeen = true)) ∧
  (∀ (s : State) (t : TileIx) (q : Fin 5) (z : SpillQ), (s.cluster (clusterOf t)).spillOf t q = some z →
    s.spillMoves (cantonOf t) = false ∨ (s.cluster (clusterOf t)).poolFree = none → Does (.spillToPool t q) s s) ∧
  (∀ (s : State) (t : TileIx) (q : Fin 5) (z : SpillQ), (s.cluster (clusterOf t)).spillOf t q = some z →
    z.slots = [] ∨ z.owed = 0 ∨ s.spillMoves (cantonOf t) = false → Does (.spillReinject t q) s s) ∧
  (∀ (s : State) (t : TileIx) (q : Fin 5) (z : SpillQ) (i : Nat) (is : List Nat),
    (s.cluster (clusterOf t)).spillOf t q = some z → z.slots = i :: is → z.owed ≠ 0 → s.spillMoves (cantonOf t) = true →
    (∀ w, s.mem.mark w = 0) →
    let b := s.mem.bytes ((s.cluster (clusterOf t)).poolAddr (clusterOf t) i) 64
    leAt 34 1 b = localTile t → leAt 35 1 b = q.val → leAt 36 4 b = z.seqOut.toNat →
    Gives (.spillReinject t q) s fun s' =>
      (s'.tile t).queue q = ((s.tile t).queue q).take z.kept ++ poolFlit b :: ((s.tile t).queue q).drop z.kept ∧
      (∀ u, u ≠ t.val → s'.tile u = s.tile u) ∧ s'.mem = s.mem ∧ s'.routers = s.routers ∧ s'.slices = s.slices) ∧
  (∀ (f : Flit) (l : Nat) (q : Fin 5) (seq : W32), l < 48 →
    poolFlit (poolEntry f l q seq) = f ∧ leAt 34 1 (poolEntry f l q seq) = l ∧ leAt 35 1 (poolEntry f l q seq) = q.val ∧
    leAt 36 4 (poolEntry f l q seq) = seq.toNat) ∧
  (∀ (s : State) (k : ClusterIx) (n : Nat), s.sliceOf (cantonOfCluster k) = some n →
    let waits := (s.cluster k).spillQs.any fun z => decide (z.kept < ((s.tile z.tile).queue z.queue).length)
    (waits = false ∨ (s.cluster k).poolFree ≠ none → Does (.spillExhausted k) s s) ∧
    (waits = true → (s.cluster k).poolFree = none → Does (.spillExhausted k) s
      (((s.setCluster k { s.cluster k with spillExh := true }).setSlice n { s.slice n with spillExh := true }).spillStop
        n k 1 0x15 0x08 { cls := 0x15 })))

/-- Bays, classes and prefetchers (R267, R270, R273, R277, R279 to R281, R287, R290, R291): a channel leaves the waiting
ones with its retraining, and fails its bay where late or with too many bad lanes; requests set their bits; a class is
changed only of an unowned, online store and waits for its re-encoding; a prefetcher issues, or stops in error. Where
the spec leaves a point open, the model's choice: log entries 45, 46, 47. -/
def Obligations.BaysAndClasses : Prop :=
  (∀ (s : State) (b : BayIx) (ls : BitVec 264) (late : Bool),
    s.nextChannel (bayCanton b) = none ∨ s.fget fBayStatState (bayCanton b) ≠ 2 → Does (.channelRetrain b ls late) s s) ∧
  (∀ (s : State) (b : BayIx) (late : Bool) (ch : Nat), s.nextChannel (bayCanton b) = some ch →
    s.fget fBayStatState (bayCanton b) = 2 → Gives (.channelRetrain b 0 late) s fun s' =>
      (s'.fget fBayStatRetrainAct (bayCanton b)).testBit ch = false ∧ s'.mem = s.mem ∧
      (s'.fget fBayStatState (bayCanton b) = if late || decide (8 < (s.bay b).bad ch) then 3 else 2)) ∧
  (∀ (s : State) (b : BayIx) (v : W32), s.online (bayCanton b) = true → Gives (.bayRetrain b v) s fun s' =>
    s'.fget fBayStatRetrainAct (bayCanton b) = s.fget fBayStatRetrainAct (bayCanton b) ||| v.toNat ∧ Only [.regs] s s') ∧
  (∀ (s : State) (b : BayIx), Gives (.autoRetrainThreshold b) s fun s' =>
    (s'.bay b).chanCorr = [] ∧ (s'.bay b).regions = (s.bay b).regions ∧ (∀ i, i ≠ b.val → s'.bay i = s.bay i) ∧
    (s.fbit fBayCfgAuto (bayCanton b) = false → Only [.bays] s s') ∧ Only [.bays, .regs] s s') ∧
  (∀ (s : State) (b : BayIx) (n : Fin 128) (w : Bool), s.online (bayCanton b) = true →
    (s.region b n).owned = true ∨ (s.region b n).classW = w → Does (.bayRegionClassWrite b n w) s s) ∧
  (∀ (s : State) (b : BayIx) (n : Fin 128) (w : Bool), s.online (bayCanton b) = true →
    (s.region b n).owned = false → (s.region b n).classW ≠ w → Gives (.bayRegionClassWrite b n w) s fun s' =>
      (s'.region b n).classW = w ∧ (s'.region b n).reencoding = true) ∧
  (∀ (s : State) (k : ClusterIx) (w : BitVec 24), s.online (cantonOfCluster k) = true →
    Does (.clusterClassWrite k w) s (s.setCluCfg k w (s.cluster k).cacheBanks)) ∧
  (∀ (s : State) (k : ClusterIx) (w : BitVec 24), s.online (cantonOfCluster k) = false →
    Gives (.clusterClassWrite k w) s fun s' => s'.fbit fHifStatOfflineSeen = true ∧ Only [.regs] s s') ∧
  (∀ (s : State) (k : ClusterIx) (w : BitVec 24) (n : BitVec 5), (s.cluster k).owned = true → s.setCluCfg k w n = s) ∧
  (∀ (s : State) (k : ClusterIx), (s.cluster k).reencoding = false → Does (.reencodeComplete (.cluster k)) s s) ∧
  (∀ (s : State) (k : ClusterIx), (s.cluster k).reencoding = true → Gives (.reencodeComplete (.cluster k)) s fun s' =>
    s'.cluster k = { s.cluster k with reencoding := false, dmaq := (s'.cluster k).dmaq } ∧
    (s'.dmaq k 24).entries = handleRows (.store (.cluster k)) 1 0 (s.dmaq k 24).entries ∧
    (∀ q, q ≠ 24 → s'.dmaq k q = s.dmaq k q) ∧ (∀ j, j ≠ k.val → s'.cluster j = s.cluster j) ∧ Only [.clusters] s s') ∧
  (∀ (s : State) (b : BayIx) (n : Fin 128), Gives (.reencodeComplete (.region b n)) s fun s' =>
    (s'.region b n) = { s.region b n with reencoding := false } ∧ Only [.bays, .clusters] s s') ∧
  (∀ (s : State) (k : ClusterIx) (pf : Fin 16), (s.cluster k).owned = false ∨ ((s.cluster k).pfOf pf).ready = false →
    Does (.prefetchIssue k pf) s s) ∧
  (∀ (s : State) (k : ClusterIx) (pf : Fin 16), (s.cluster k).owned = true → ((s.cluster k).pfOf pf).ready = true →
    let n := (s.cluster k).owner.toNat
    let row := ((s.cluster k).pfOf pf).row
    let a := row.toNat * 64
    (row < 0 ∨ 0x050000000000 ≤ a ∨ s.mapped a = false →
      Does (.prefetchIssue k pf) s (s.prefetchErr n k pf row false)) ∧
    (0 ≤ row → a < 0x050000000000 → s.mapped a = true →
      (((s.ownership a).owned && (s.ownership a).owner = n) = false →
        Does (.prefetchIssue k pf) s (s.prefetchErr n k pf row true)) ∧
      (((s.ownership a).owned && (s.ownership a).owner = n) = true → s.cacheable n k a = false →
        Does (.prefetchIssue k pf) s (s.prefetchErr n k pf row false)) ∧
      (((s.ownership a).owned && (s.ownership a).owner = n) = true → s.cacheable n k a = true →
        Does (.prefetchIssue k pf) s (s.prefetchRow n k a pf)))) ∧
  (∀ (p : Prefetcher), p.rcur = p.rowsM1 → p.icur = p.innerM1 → p.ocur = p.outerM1 → p.wrap = false →
    p.advance.done = true ∧ p.advance.ready = false) ∧
  (∀ (p : Prefetcher), p.rcur ≠ p.rowsM1 → p.advance.row = p.row + 1 ∨ p.rcur = 63)

/-- Host DMA and SCRUB (R282, R283, R285, R287, R357, R358, R361): a DMA moves or requests its rows and leaves an entry in
each queue that runs a piece; the oldest entry completes once its rows are handled, and the last of the transfer
completes the descriptor; a scrub zeroes its targets, whose DIRTY clears when it ends, and is refused whole where a
loaded slice owns one. Where the spec leaves a point open, the model's choice: log entries 48, 49, 50. -/
def Obligations.DmaAndScrub : Prop :=
  (∀ (s : State) (r : RingIx) (bad : Option Nat) (d : Desc) (s1 : State),
    s.take r (fun d => d.op = 0x05 && (d.byte 36 ≠ 0 || s.host.master) && d.runners.all fun k => s.dmaRoom k (r.val % 16)) =
      some (d, s1) →
    Does (.dma r bad) s (s1.dma d bad)) ∧
  (∀ (s : State) (k : ClusterIx) (q : Fin 32), (s.dmaq k q).entries = [] ∨ (∃ e ∈ (s.dmaq k q).entries.head?, e.left ≠ 0) →
    Does (.dmaEntryComplete k q) s s) ∧
  (∀ (s : State) (k : ClusterIx) (q : Fin 32) (e : DmaEntry) (es : List DmaEntry), (s.dmaq k q).entries = e :: es → e.left = 0 →
    let s1 := s.setDmaq k q { entries := es, doneCount := (s.dmaq k q).doneCount + 1
                              lastErr := if e.status = 0 then (s.dmaq k q).lastErr else e.status }
    ((∀ ring num, e.feeder ≠ .host ring num) → Does (.dmaEntryComplete k q) s s1) ∧
    (∀ ring num, e.feeder = .host ring num → s1.dmaLeft e.feeder = true → Does (.dmaEntryComplete k q) s s1) ∧
    (∀ ring num j, e.feeder = .host ring num → s1.dmaLeft e.feeder = false →
      s.host.dma.find? (fun j => j.ring = ring && j.num = num) = some j → Does (.dmaEntryComplete k q) s (s1.dmaEnd k j))) ∧
  (∀ (s : State) (k : Nat) (j : DmaJob) (d : Desc), s.host.dma.find? (fun i => i.ring = j.ring && i.num = j.num) = some j →
    s.host.descs.find? (fun d => d.ring = j.ring && d.num = j.num) = some d → j.compAddr = 0 →
    s.dmaEnd k j = (s.updHost fun h => { h with dma := h.dma.filter fun i => !(i.ring = j.ring && i.num = j.num) }).complete d
      { status := j.status.toNat, poison := j.poison, corrected := j.corrected, isolation := j.isolation, r0 := j.bytes
        r1 := j.poisoned % 2 ^ 32 + (j.lowest.getD 0xFFFFFFFF) % 2 ^ 32 * 2 ^ 32 }) ∧
  (∀ (j : DmaJob) (i : Nat) (e : RowEnd), e.written = true → e.host = false → e.poison = false →
    (j.add i e).status = j.status ∧ (j.add i e).bytes = j.bytes + 64 ∧ (j.add i e).lowest = j.lowest) ∧
  (∀ (j : DmaJob) (i : Nat) (e : RowEnd), e.written = false → j.failed = none ∨ (∃ m, j.failed = some m ∧ i < m) →
    (j.add i e).status = (if e.host then 0x0C else if e.status = 1 then 0x0A else 0x0B) ∧ (j.add i e).failed = some i ∧
    (j.add i e).bytes = j.bytes) ∧
  (∀ (s : State) (r : RingIx) (d : Desc) (s1 : State),
    s.take r (fun d => d.op = 0x06 && !(d.targets.any s.targetBusy) && d.targets.all s.storeRoom) = some (d, s1) →
    (d.targets.any s1.targetOwned = true → Does (.scrub r) s (s1.complete d { status := 0x03 })) ∧
    (d.targets.any s1.targetOwned = false → Does (.scrub r) s (d.targets.foldl State.scrub s1).endScrubs)) ∧
  (∀ (s : State) (b : BayIx) (n : Fin 128), s.targetUp (.region b n) = true →
    let s' := s.scrub (.region b n)
    (s'.region b n) = { s.region b n with scrubbing := true } ∧
    (∀ a, bayBase b + n.val * 2 ^ 30 ≤ a → a < bayBase b + (n.val + 1) * 2 ^ 30 → s'.mem.byte a = 0) ∧
    (∀ a, a < bayBase b + n.val * 2 ^ 30 ∨ bayBase b + (n.val + 1) * 2 ^ 30 ≤ a → s'.mem.byte a = s.mem.byte a) ∧
    Only [.mem, .bays, .clusters] s s') ∧
  (∀ (s : State) (k : ClusterIx), s.targetUp (.cluster k) = true →
    let s' := s.scrub (.cluster k)
    (s'.cluster k).scrubbing = true ∧ (s'.cluster k).spillQs = [] ∧
    (∀ a, clusterBase k ≤ a → a < clusterBase k + 0x180000 → s'.mem.byte a = 0) ∧
    (∀ t ∈ tilesOfCluster k, s'.tile t = {} ∧ ∀ a, tileBase t ≤ a → a < tileBase (t + 1) → s'.mem.byte a = 0) ∧
    (∀ j, j ≠ k.val → s'.cluster j = s.cluster j) ∧ Only [.mem, .tiles, .routers, .clusters] s s') ∧
  (∀ (s : State) (k : ClusterIx), ((s.cluster k).scrubbing = false → Does (.scrubComplete (.cluster k)) s s) ∧
    ((s.cluster k).scrubbing = true → Does (.scrubComplete (.cluster k)) s
      ((s.setCluster k { s.cluster k with scrubbing := false, dirty := false, lastJob := 0xFFFF }).storeDone (.cluster k)).endScrubs)) ∧
  (∀ (s : State) (b : BayIx) (n : Fin 128), ((s.region b n).scrubbing = false → Does (.scrubComplete (.region b n)) s s) ∧
    ((s.region b n).scrubbing = true → Does (.scrubComplete (.region b n)) s
      (((s.setRegion b n { s.region b n with scrubbing := false, dirty := false, lastJob := 0xFFFF }).invalidateOwner
        (s.region b n)).storeDone (.region b n)).endScrubs))

/-- Arrival of WXT messages (R317, R324, R326 to R330, R333, R338): a message whose row it is, or whose type has no row,
reaches the port's endpoint with the link up; a frame of a bad check or size is counted as such and dropped; a
datagram that is not the endpoint's, is off, malformed or of the wrong reliability is dropped and counted; an
acknowledgement of a frame in flight releases it; a HELLO of a server registers the port. Delivery to the update
engine (R298, R307, R310, R335, R338, R339): a chunk of a step not after the committed one is taken without effect; of
the next one it must start at the expected element, be whole groups and lie in the shard, and its elements then wait;
COMMIT commits only the step that stands in APPLIED; other states refuse with their reason; EXPEL expels every enabled
engine; WPULL and WPUSH are refused outside their states and ranges. Where the spec leaves a point open, the model's
choice: log entries 57, 60, 94. -/
def Obligations.WxtMessages : Prop :=
  (∀ (s : State) (p : PortIx) (m : WxtMsg),
    (m.typ = 1 → Does (.wxtHello p m) s (s.rxMsg p m)) ∧ (m.typ = 2 → Does (.wxtGrad p m) s (s.rxMsg p m)) ∧
    (m.typ = 3 → Does (.wxtWpull p m) s (s.rxMsg p m)) ∧ (m.typ = 4 → Does (.wxtWpush p m) s (s.rxMsg p m)) ∧
    (m.typ = 6 → Does (.wxtExpel p m) s (s.rxMsg p m)) ∧ (m.typ = 8 → Does (.wxtCommit p m) s (s.rxMsg p m)) ∧
    (m.typ = 9 → Does (.wxtAck p m) s (s.rxMsg p m)) ∧ (m.typ = 0x0A → Does (.wxtNack p m) s (s.rxMsg p m)) ∧
    (strayTyp m.typ = true → Does (.wxtHello p m) s (s.rxMsg p m) ∧ Does (.wxtGrad p m) s (s.rxMsg p m))) ∧
  (∀ (s : State) (p : Nat) (m : WxtMsg), s.portOn p = false ∨ s.linkIsUp p = false → s.rxMsg p m = s) ∧
  (∀ (s : State) (p : Nat) (m : WxtMsg), s.portOn p = true → s.linkIsUp p = true →
    m.line.fcs = false ∨ s.frameSize p m < 64 ∨ 9216 < s.frameSize p m →
    (s.rxMsg p m).fget fPrtFecCntFcsErr p = satAdd fPrtFecCntFcsErr.n (s.fget fPrtFecCntFcsErr p) 1 ∧
    (s.rxMsg p m).ports = s.ports ∧ Only [.regs, .mgmt] s (s.rxMsg p m)) ∧
  (∀ (s : State) (p : Nat) (m : WxtMsg), s.portOn p = true → s.linkIsUp p = true →
    m.line.fcs = true → 64 ≤ s.frameSize p m → s.frameSize p m ≤ 9216 →
    m.dst ≠ s.ownIp p ∨ m.udp.toNat ≠ s.fget fPrtWxtCtrlUdpPort p ∨ m.sumOk = false ∨
      (m.sumZero = true ∧ s.fbit fPrtNetCfgIpv6 p = false) ∨
      s.fbit fPrtWxtCtrlEn p = false ∨ m.framed = false ∨ m.rel = looseTyp m.typ →
    (s.rxMsg p m).fbit fPrtWxtStatRxDropSeen p = true ∧ (s.rxMsg p m).ports = s.ports ∧ (s.rxMsg p m).mem = s.mem ∧
    Only [.regs, .mgmt] s (s.rxMsg p m)) ∧
  (∀ (s : State) (p : Nat) (m : WxtMsg) (r : Byte) (d : Nat), s.refusal p m = some (r, d) →
    (m.ver ≠ 1 → r = 5) ∧ (m.ver = 1 → reservedTyp m.typ = true → r = 6) ∧
    (r = 1 → s.fbit fPrtWxtStatRegistered p = false ∧ m.typ ≠ 1)) ∧
  (∀ (s : State) (p : Nat) (m : WxtMsg), beAt 0 1 m.body = 1 → beAt 1 1 m.body % 2 = 0 →
    (s.takeHello p m).fbit fPrtWxtStatRegistered p = false ∧ ((s.takeHello p m).port p).helloSent = false) ∧
  (∀ (s : State) (p : Nat) (m : WxtMsg), beAt 0 1 m.body ≠ 1 → s.takeHello p m = s) ∧
  (∀ (cum sack : Nat) (seq : W32), seq.toNat < cum → cum < 2 ^ 31 → covered cum sack seq = true) ∧
  (∀ (s : State) (p : Nat) (m : WxtMsg), beAt 13 1 m.body % 2 = 1 → s.takeGrad p m = (.nack 8 0, s)) ∧
  (∀ (s : State) (p : Nat) (m : WxtMsg), m.step.toNat ≤ s.cstep p → s.takeCommit p m = (.done, s) ∧
    (beAt 13 1 m.body % 2 = 0 → s.takeGrad p m = (.done, s))) ∧
  (∀ (s : State) (p : Nat) (m : WxtMsg), s.cstep p < m.step.toNat → beAt 13 1 m.body % 2 = 0 →
    (s.ueState p = 1 ∨ s.ueState p = 2 → m.step.toNat ≠ s.cstep p + 1 → s.takeGrad p m = (.nack 0x0B (s.cstep p % 2 ^ 32), s)) ∧
    (s.ueState p = 3 ∧ m.step.toNat = s.cstep p + 2 ∨ s.ueState p = 4 ∧ m.step.toNat = s.cstep p + 1 →
      ((s.port p).boundElse m = true → s.takeGrad p m = (.nack 0x0C 0, s)) ∧
      ((s.port p).boundElse m = false → s.takeGrad p m = (.wait, s.bindStep p m))) ∧
    (s.ueState p = 0 ∨ 5 ≤ s.ueState p → s.takeGrad p m = (.nack 0x0D (s.ueState p), s)) ∧
    (s.ueState p = 3 → m.step.toNat = s.cstep p + 1 → s.takeCommit p m = (.done, s.commit p)) ∧
    (s.ueState p ≠ 3 → s.takeCommit p m = (.nack 0x0E (s.ueState p), s))) ∧
  (∀ (s : State) (p : Nat) (m : WxtMsg), s.ueState p = 2 → m.step.toNat = s.cstep p + 1 → beAt 13 1 m.body % 2 = 0 →
    ((s.port p).boundElse m = true → s.takeGrad p m = (.nack 0x0C 0, s)) ∧
    ((s.port p).boundElse m = false →
    let off := beAt 0 8 m.body
    let count := beAt 8 4 m.body
    beAt 12 1 m.body = 0 → m.body.length = 16 + 4 * count → 4 * count ≤ 8192 →
    off % 256 = 0 → count % 256 = 0 →
    (off = (s.port p).expect → off + count ≤ 32 * s.ueStripes p →
      ∃ s', s.takeGrad p m = (.done, s') ∧ (s'.port p).expect = off + count ∧
        (s'.port p).grad = (s.port p).grad ++ gradElems 0 (m.body.drop 16) count ∧
        (s'.port p).bound = ((s.bindStep p m).port p).bound ∧
        (∀ i, i ≠ p → s'.port i = s.port i) ∧ Only [.ports] s s') ∧
    (off ≠ (s.port p).expect → s.takeGrad p m = (.nack 0x0A ((s.port p).expect % 2 ^ 32), s)))) ∧
  (∀ (s : State) (m : WxtMsg) (p : Nat), p < 20 → s.ueState p ≠ 0 →
    ((s.takeExpel m).ueState p = 6 ∧ (s.takeExpel m).fbit fPrtUeStatExpelSeen p = true ∧
      ((s.takeExpel m).port p).expelReason = BitVec.ofNat 16 (beAt 0 2 m.body) ∧ (s.takeExpel m).mem = s.mem)) ∧
  (∀ (s : State) (p : Nat) (m : WxtMsg), s.ueState p = 0 ∨ s.ueState p = 2 ∨ s.ueState p = 4 ∨ 8 ≤ s.ueState p →
    s.takePull p m = (.nack 0x10 (beAt 0 8 m.body % 2 ^ 32), s)) ∧
  (∀ (s : State) (p : Nat) (m : WxtMsg),
    s.fbit fPrtWxtCtrlWpushEn p = false ∨ (s.ueState p ≠ 0 ∧ s.ueState p ≠ 5 ∧ s.ueState p ≠ 6) →
    s.takePush p m = (.nack 0x0F (beAt 0 8 m.body % 2 ^ 32), s)) ∧
  (∀ (fmt : Nat) (bs : List Byte) (n : Nat), (gradElems fmt bs n).length = n)

/-- Transport timers (R328, R330, R332, R333): an acknowledgement is sent where a frame waits for it; a timeout resends
its frame or, after RETRY_MAX of them, fails the flow; an idle flow is closed; HELLO goes out while the port may send
it; and a registration that does not come is noted once. Links of the ports (R317, R318, R323, R385): a training link
comes up with its halves; a retraining or a training that takes too long leaves it down, the latter with a record; and
a port whose clock is stopped does nothing. Where the spec leaves a point open, the model's choice: log entries 4, 60,
61, 94. -/
def Obligations.PortTimersAndLinks : Prop :=
  (∀ (s : State) (p : PortIx) (peer : BitVec 128) (fl : W32), (s.port p).flowIn peer fl = none →
    (s.portOn p = true → s.linkIsUp p = true → Does (.ackTimer p peer fl) s (s.lastAck p peer fl)) ∧
    (s.portOn p = false ∨ s.linkIsUp p = false → Does (.ackTimer p peer fl) s s)) ∧
  (∀ (s : State) (p : PortIx) (peer : BitVec 128) (fl : W32) (f : FlowIn), (s.port p).flowIn peer fl = some f →
    (f.owed = true → s.portOn p = true → s.linkIsUp p = true → Does (.ackTimer p peer fl) s (s.sendAck p f)) ∧
    (f.owed = false ∨ s.portOn p = false ∨ s.linkIsUp p = false → Does (.ackTimer p peer fl) s s)) ∧
  (∀ (s : State) (p : PortIx) (e : Bool) (seq : W32),
    s.portOn p = false ∨ s.linkIsUp p = false ∨ ((s.port p).out e).buf.find? (fun t => t.seq = seq) = none →
    Does (.rtoExpiry p e seq) s s) ∧
  (∀ (s : State) (p : PortIx) (e : Bool) (seq : W32) (t : TxFrame), s.portOn p = true → s.linkIsUp p = true →
    ((s.port p).out e).buf.find? (fun t => t.seq = seq) = some t →
    (max 1 (s.fget fPrtWxtCtrlRetryMax p) ≤ t.timeouts + 1 → Does (.rtoExpiry p e seq) s (s.failFlow p e)) ∧
    (t.timeouts + 1 < max 1 (s.fget fPrtWxtCtrlRetryMax p) →
      Does (.rtoExpiry p e seq) s (s.resend p e t { t with timeouts := t.timeouts + 1 }))) ∧
  (∀ (s : State) (p : PortIx) (peer : BitVec 128) (fl : W32),
    Does (.flowIdleClose p peer fl) s ((s.closeFlow p peer fl).pfcCheck p) ∧
    ((s.closeFlow p peer fl).port p).flowIn peer fl = none) ∧
  (∀ (s : State) (p : PortIx), s.helloOk p = false → Does (.helloTimer p) s s) ∧
  (∀ (s : State) (p : PortIx), s.helloOk p = true → Gives (.helloTimer p) s fun s' =>
    (s.mayStart p false = true → ∃ f : SentFrame, (s'.port p).sent = (s.port p).sent ++ [.wxt f] ∧ f.dstIp = s.peerIp p ∧
      f.msg.getD 3 0 = 1 ∧ (s'.port p).ctl = (s.port p).ctl) ∧
    (s.mayStart p false = false → (s'.port p).sent = (s.port p).sent ∧
      ∃ q : TxPend, (s'.port p).ctl = (s.port p).ctl ++ [q] ∧ q.dst = s.peerIp p ∧ q.msg.getD 3 0 = 1) ∧
    (s'.port p).helloSent = ((s.port p).helloSent || !(s.fbit fPrtWxtStatRegistered p)) ∧
    (∀ i, i ≠ p.val → s'.port i = s.port i) ∧ Only [.ports, .mgmt] s s') ∧
  (∀ (s : State) (p : PortIx), (s.port p).helloSent = true → (s.port p).late = false → s.fbit fPrtWxtStatRegistered p = false →
    Gives (.regLate p) s fun s' => (s'.port p).late = true ∧ (∀ i, i ≠ p.val → s'.port i = s.port i) ∧ s'.mem = s.mem) ∧
  (∀ (s : State) (p : PortIx), (s.port p).helloSent = false ∨ (s.port p).late = true ∨ s.fbit fPrtWxtStatRegistered p = true →
    Does (.regLate p) s s) ∧
  (∀ (s : State) (p : Nat) (e : Bool), (s.port p).express.wait = [] → (s.port p).bulk.wait = [] → (s.port p).gx = none →
    ((s.failFlow p e).port p).out e = {} ∧ ((s.failFlow p e).port p).out (!e) = (s.port p).out (!e) ∧
    (s.failFlow p e).fbit fPrtWxtStatFlowFailed p = true ∧ ∀ i, i ≠ p → (s.failFlow p e).port i = s.port i) ∧
  (∀ (s : State) (p : PortIx) (a b : Bool),
    s.portOn p = false ∨ (s.fget fPrtLinkStatState p ≠ 1 ∧ s.fget fPrtLinkStatState p ≠ 3) ∨
      (s.fget fCkmDomPtxFail).testBit p = true → Does (.linkUp p a b) s s) ∧
  (∀ (s : State) (p : PortIx) (a b : Bool), s.portOn p = true →
    s.fget fPrtLinkStatState p = 1 ∨ s.fget fPrtLinkStatState p = 3 → (s.fget fCkmDomPtxFail).testBit p = false →
    (s.port p).express.wait = [] → (s.port p).bulk.wait = [] → (s.port p).gx = none → Gives (.linkUp p a b) s fun s' =>
      s'.linkIsUp p = true ∧ s'.fbit fPrtLinkStatUp0 p = true ∧ s'.fbit fPrtLinkStatUp1 p = (b && s.breakout p) ∧
      s'.fbit fPrtLinkStatPreempt p = a ∧ s'.fbit fPrtLinkCtrlRetrain p = false ∧ (∀ i, i ≠ p.val → s'.port i = s.port i) ∧
      ((s.port p).ctl = [] → s'.port p = s.port p) ∧ Only [.regs, .ports, .mgmt] s s') ∧
  (∀ (s : State) (p : PortIx), s.portOn p = true → s.fbit fPrtLinkCtrlLinkEn p = true → Gives (.linkRetrain p) s fun s' =>
    s'.fget fPrtLinkStatState p = 3 ∧ s'.fbit fPrtLinkStatUp0 p = false ∧ s'.fbit fPrtLinkStatUp1 p = false ∧
    s'.fbit fPrtLinkCtrlRetrain p = true ∧ s'.ports = s.ports ∧
    (s.fget fCkmTportPort = p.val → s'.fbit fCkmRefStatReadyTp = false) ∧
    (s.fget fCkmTportPort ≠ p.val ∨ s.active ≠ 1 → Only [.regs] s s')) ∧
  (∀ (s : State) (p : PortIx), s.portOn p = false ∨ s.fbit fPrtLinkCtrlLinkEn p = false → Does (.linkRetrain p) s s) ∧
  (∀ (s : State) (p : PortIx), s.fget fPrtLinkStatState p ≠ 1 → s.fget fPrtLinkStatState p ≠ 3 →
    Does (.linkTrainTimeout p) s s) ∧
  (∀ (s : State) (p : PortIx), s.fget fPrtLinkStatState p = 1 ∨ s.fget fPrtLinkStatState p = 3 →
    let s1 := ((s.linkDown p 4).fset fPrtLinkCtrlRetrain 0 p).portRec p 2
    Does (.linkTrainTimeout p) s (if s1.fbit fPrtLinkCtrlAutoRetrain p then s1.fset fPrtLinkStatState (s.fget fPrtLinkStatState p) p else s1))

/-- Flow control, ESMC and neighbours (R317, R319, R321, R322, R341): a frame whose check is wrong is counted and dropped;
received times pause or release their priorities; an expiry releases one; the pause is renewed at or above XOFF; an
ESMC PDU stores its code and counts; its loss sets QL_FAILED; a request for the port's address is answered with the
MAC address of its half, any other frame dropped. Where the spec leaves a point open, the model's choice: log entries
61, 94. -/
def Obligations.PortControlFrames : Prop :=
  (∀ (s : State) (p : PortIx) (l : RxLine) (en : Byte) (q : BitVec 128) (n : W16) (half own : Bool) (ssm : BitVec 4)
    (e : Option Byte) (ev : Bool), s.portOn p = false ∨ s.linkIsUp p = false →
    Does (.pfcFrame p l en q) s s ∧ Does (.esmcPdu p l ssm e ev) s s ∧ Does (.neighbourRequest p l n half own) s s) ∧
  (∀ (s : State) (p : PortIx) (l : RxLine) (en : Byte) (q : BitVec 128) (n : W16) (half own : Bool) (ssm : BitVec 4)
    (e : Option Byte) (ev : Bool), s.portOn p = true → s.linkIsUp p = true →
    let s1 := (s.rxLine p l 64).2
    (l.fcs = false → Does (.pfcFrame p l en q) s s1 ∧ Does (.esmcPdu p l ssm e ev) s s1) ∧
    (l.fcs = false ∨ n.toNat < 64 ∨ 9216 < n.toNat → Does (.neighbourRequest p l n half own) s (s.rxLine p l n.toNat).2) ∧
    (l.fcs = false → s1.fget fPrtFecCntFcsErr p = satAdd fPrtFecCntFcsErr.n (s.fget fPrtFecCntFcsErr p) 1 ∧
      s1.fget fPrtFecCntCorr p = satAdd fPrtFecCntCorr.n (s.fget fPrtFecCntCorr p) l.corr.toNat ∧
      s1.fget fPrtFecCntUncorr p = satAdd fPrtFecCntUncorr.n (s.fget fPrtFecCntUncorr p) l.uncorr.toNat ∧ Only [.regs, .mgmt] s s1)) ∧
  (∀ (s : State) (p : PortIx) (l : RxLine) (en : Byte) (q : BitVec 128), s.portOn p = true → s.linkIsUp p = true → l.fcs = true →
    (s.port p).express.wait = [] → (s.port p).bulk.wait = [] → (s.port p).gx = none → Gives (.pfcFrame p l en q) s fun s' =>
      (∀ i, i < 8 → (s'.port p).paused.getLsbD i =
        if en.getLsbD i then decide (fld q.toNat (16 * i) 16 ≠ 0) else (s.port p).paused.getLsbD i) ∧
      (∀ i, i ≠ p.val → s'.port i = s.port i) ∧ Only [.ports, .mgmt, .regs] s s') ∧
  (∀ (s : State) (p : PortIx) (prio : BitVec 3), (s.port p).express.wait = [] → (s.port p).bulk.wait = [] →
    (s.port p).gx = none → Gives (.pfcPauseExpiry p prio) s fun s' =>
      (s'.port p).paused.getLsbD prio.toNat = false ∧
      (∀ i, i ≠ prio.toNat → (s'.port p).paused.getLsbD i = (s.port p).paused.getLsbD i) ∧
      (∀ i, i ≠ p.val → s'.port i = s.port i) ∧ Only [.ports, .mgmt, .regs] s s') ∧
  (∀ (s : State) (p : PortIx),
    ((s.port p).pauseSent = true → s.aboveXoff p = true → s.fbit fPrtNetCfgPfcEn p = true → s.linkIsUp p = true →
      Does (.pfcRefresh p) s (s.sendPfc p 0xFFFF)) ∧
    ((s.port p).pauseSent = false ∨ s.aboveXoff p = false ∨ s.fbit fPrtNetCfgPfcEn p = false ∨ s.linkIsUp p = false →
      Does (.pfcRefresh p) s s)) ∧
  (∀ (s : State) (p : PortIx) (l : RxLine) (ssm : BitVec 4) (e : Option Byte) (ev : Bool), s.portOn p = true →
    s.linkIsUp p = true → l.fcs = true → Gives (.esmcPdu p l ssm e ev) s fun s' =>
      s'.fget fPrtEsmcSsm p = ssm.toNat ∧ s'.fbit fPrtEsmcQlFailed p = false ∧
      (s.fget fPrtEsmcSsm p ≠ ssm.toNat → s'.fbit fPrtEsmcChangeSeen p = true) ∧ (ev = true → s'.fbit fPrtEsmcEventSeen p = true) ∧
      s'.fget fPrtEsmcPduCount p = satAdd fPrtEsmcPduCount.n (s.fget fPrtEsmcPduCount p) 1 ∧
      (∀ v, e = some v → s'.fget fPrtEsmcEssm p = v.toNat) ∧ s'.ports = s.ports ∧ Only [.regs, .mgmt] s s') ∧
  (∀ (s : State) (p : PortIx), s.portOn p = true → Gives (.qlTimeout p) s fun s' =>
    s'.fbit fPrtEsmcQlFailed p = true ∧ Only [.regs] s s') ∧
  (∀ (s : State) (p : PortIx) (l : RxLine) (n : W16) (half : Bool), s.portOn p = true → s.linkIsUp p = true → l.fcs = true →
    64 ≤ n.toNat → n.toNat ≤ 9216 →
    (Gives (.neighbourRequest p l n half true) s fun s' =>
      let h := half && s.breakout p
      (s'.port p).sent = (s.port p).sent ++
        [.neighbour h (BitVec.ofNat 128 (s.fget fPrtIp0 p * 2 ^ 64 + s.fget fPrtIp1 p))
          (SMap.get 0 s.mgmt.macs p + if h then 1 else 0)] ∧
      (∀ i, i ≠ p.val → s'.port i = s.port i) ∧ Only [.ports, .mgmt, .regs] s s') ∧
    Gives (.neighbourRequest p l n half false) s fun s' =>
      s'.fbit fPrtWxtStatRxDropSeen p = true ∧ s'.ports = s.ports ∧ Only [.regs, .mgmt] s s')

/-- The steps of an update engine (R298, R301, R304, R307, R309, R312, R313, R336, R337): the next group is applied, or
its faulty stripe stops the engine; after the last group the step stands in APPLIED; a refresh whose entries are all
handled ends in READY; the exporter sends its buffer at the end of its flag's round, while nothing waits on the bulk
flow. The recovery commands of an update engine (R310, R314, R449): each runs only while it waits in BUSY;
UE_COMMAND_END reports its result and enters the state it ends in; EXPEL_CLR succeeds only from EXPELLED; the enabling
SCAN commits a shard of one valid step, and leaves the engine in FAULT otherwise. Where the spec leaves a point open,
the model's choice: log entries 57, 58, 59, 91. -/
def Obligations.UpdateEngine : Prop :=
  (∀ (s : State) (p : PortIx), s.groupReady p = false → Does (.ueGroupApply p) s s) ∧
  (∀ (s : State) (p : PortIx), s.groupReady p = true →
    let q := s.groupFault p (s.port p).group (s.cstep p)
    (q.1 = none → Does (.ueGroupApply p) s ((q.2.applyGroup p).settle p)) ∧
    (∀ i k, q.1 = some (i, k) → Does (.ueGroupApply p) s ((q.2.ueFault p i k).settle p))) ∧
  (∀ (s : State) (p : PortIx), s.ueState p ≠ 2 ∨ (s.port p).grad ≠ [] ∨ 8 * (s.port p).group < s.ueStripes p →
    Does (.ueApplied p) s s) ∧
  (∀ (s : State) (p : PortIx), s.ueState p = 2 → (s.port p).grad = [] → s.ueStripes p ≤ 8 * (s.port p).group →
    (s.port p).stepNf = 0 → (s.port p).stepOv = 0 → s.digestStep p (s.cstep p + 1) = false →
    Does (.ueApplied p) s (((s.setUe p 3).sendRel p 7 (s.cstep p + 1) (beBytes 4 0 ++ beBytes 4 0)).settle p)) ∧
  (∀ (s : State) (p : PortIx), s.ueState p = 8 → Does (.refreshEnd p) s s) ∧
  (∀ (s : State) (p : PortIx), s.ueState p ≠ 8 →
    let s1 := s.refreshOn p
    let s2 := if (s1.port p).refreshAt.isSome then (s1.setPort p { s1.port p with refreshAt := none }).refreshArrive p else s1
    (s1.refreshed p = false → Does (.refreshEnd p) s s1) ∧
    (s1.refreshed p = true → s2.ueState p = 4 → Does (.refreshEnd p) s ((s2.setUe p 1).settle p)) ∧
    (s1.refreshed p = true → s2.ueState p ≠ 4 → Does (.refreshEnd p) s s2)) ∧
  (∀ (s : State) (p : Nat), (s.port p).refreshAt = none → s.refreshOn p = s) ∧
  (∀ (s : State) (p : PortIx), s.sliceOf (portCanton p) = none → Does (.gxRoundDone p) s s) ∧
  (∀ (s : State) (p : PortIx) (n : Nat), s.sliceOf (portCanton p) = some n →
    let f := s.fget fPrtGxCtrlGxFlag p
    let r := s.round n f
    (s.fbit fPrtGxCtrlGxEn p = false ∨ portCanton p ∉ r.toTake → Does (.gxRoundDone p) s s) ∧
    (s.fbit fPrtGxCtrlGxEn p = true → portCanton p ∈ r.toTake →
      let s1 := s.setRound n f { r with toTake := r.toTake.filter (· ≠ portCanton p) }
      let g : GxRun := { step := s1.cstep p + 1, fmt := s1.fget fPrtGxCtrlFmt p, off := 0, left := s1.fget fPrtGxCtrlElems p }
      Does (.gxRoundDone p) s (((s1.setPort p { s1.port p with gx := some g }).fset fPrtGxCtrlBusy 1 p).gxOn p))) ∧
  (∀ (s : State) (p : Nat) (g : GxRun), (s.port p).gx = some g →
    (g.left = 0 → s.gxOn p = s.gxEnd p true) ∧
    (g.left ≠ 0 → (s.port p).bulk.wait ≠ [] → s.gxOn p = s)) ∧
  (∀ (s : State) (p : Nat), ((s.gxEnd p false).port p).gx = none ∧ (s.gxEnd p false).fbit fPrtGxCtrlBusy p = false) ∧
  (∀ (s : State) (p step : Nat), s.digestStep p step = true →
    (s.commitDigest p step).fget fPrtUeDig0 p = 0 ∧ (s.commitDigest p step).fget fPrtUeDig1 p = 0) ∧
  (∀ (h : Hyper) (w m v g : W32), h.rule = 0 → h.gamma = 0 →
    h.apply w m v g = (fma32 (neg32 h.lr) (fma32 h.wd w (fma32 h.b1 m g)) w, fma32 h.b1 m g, v)) ∧
  (∀ (s : State) (p : PortIx),
    (s.cmdWaits p 1 = false → Does (.ueScan p) s s) ∧ (s.cmdWaits p 2 = false → Does (.ueRollback p) s s) ∧
    (s.cmdWaits p 3 = false → Does (.ueRollfwd p) s s) ∧ (s.cmdWaits p 4 = false → Does (.ueExpelClr p) s s) ∧
    (s.cmdWaits p 5 = false → Does (.ueInit p) s s)) ∧
  (∀ (s : State) (p : PortIx),
    (s.cmdWaits p 1 = true → Does (.ueScan p) s ((s.scan p).2.cmdDone p (s.scan p).1 ((s.scan p).2.port p).was)) ∧
    (s.cmdWaits p 2 = true → Does (.ueRollback p) s (s.rollback p (s.fget fPrtUeCmdTarget p))) ∧
    (s.cmdWaits p 3 = true → Does (.ueRollfwd p) s (s.rollfwd p (s.fget fPrtUeCmdTarget p))) ∧
    (s.cmdWaits p 5 = true → Does (.ueInit p) s (s.initShard p (s.fget fPrtUeCmdTarget p)))) ∧
  (∀ (s : State) (p : PortIx), s.cmdWaits p 4 = true →
    Gives (.ueExpelClr p) s fun s' =>
      (s'.port p).cmdEnd = some (if (s.port p).was = 6 then ⟨0, 1, false⟩ else ⟨1, (s.port p).was, false⟩) ∧
      ((s.port p).was = 6 → (s'.port p).expect = 0 ∧ (s'.port p).grad = [] ∧ (s'.port p).group = 0) ∧
      (∀ i, i ≠ p.val → s'.port i = s.port i) ∧ Only [.ports] s s') ∧
  (∀ (s : State) (p : PortIx), (s.port p).cmdEnd = none ∨ s.ueState p ≠ 8 → Does (.ueCommandEnd p) s s) ∧
  (∀ (s : State) (p : PortIx) (e : UeEnd), (s.port p).cmdEnd = some e → s.ueState p = 8 →
    let s1 := ((s.setPort p { s.port p with cmdEnd := none }).fset fPrtUeCmdOp 0 p).fset fPrtUeStatCmdResult e.result p
    (e.commit = false → Does (.ueCommandEnd p) s ((s1.ueLeave p e.state).settle p)) ∧
    (e.commit = true → e.state = 6 → Does (.ueCommandEnd p) s (((s1.committed p (s1.cstep p)).ueLeave p 6).settle p)) ∧
    (e.commit = true → e.state ≠ 6 → Does (.ueCommandEnd p) s ((s1.commitFrom p (s1.cstep p)).settle p))) ∧
  (∀ (s : State) (p st : Nat), st < 16 → (s.ueLeave p st).ueState p = st ∧
    (st ≠ 4 → ((s.ueLeave p st).port p).refreshAt = none)) ∧
  (∀ (s : State) (p : PortIx), s.ueState p ≠ 8 ∨ (s.port p).enabling = false ∨ s.bayWaits p = true →
    Does (.ueEnable p) s s) ∧
  (∀ (s : State) (p : PortIx), s.ueState p = 8 → (s.port p).enabling = true → s.bayWaits p = false →
    let q := s.scan p
    let s1 := q.2.setPort p { q.2.port p with enabling := false }
    (q.1 = 0 → s1.fbit fPrtUeScanInvalid p = false → s1.fget fPrtUeScanSpread p = 0 → Does (.ueEnable p) s
      ((((s1.fset fPrtUeStepCstep (s1.fget fPrtUeScanMin p) p).fset fPrtUeStatCmdResult 0 p).setUe p 1).ueNext p)) ∧
    (q.1 ≠ 0 ∨ s1.fbit fPrtUeScanInvalid p = true ∨ s1.fget fPrtUeScanSpread p ≠ 0 → Does (.ueEnable p) s
      (((s1.fset fPrtUeStatCmdResult (if q.1 = 0 then 1 else q.1) p).setUe p 5).ueNext p))) ∧
  (∀ (s : State) (p op : Nat), s.cmdWaits p op = true → s.ueState p = 8 ∧ s.fget fPrtUeCmdOp p = op)

/-- Switches of the reference (R380 to R384, R387): a native request is answered in the order of R380; a completed one
makes the target the reference and starts the loop anew; a legacy one adds 64 cycles, or leaves the domain stopped
where its target does not run, until R383 ends it; a stopped domain counts no cycle, and in holdover REFCYC advances
by 25 at a time (the unit of the idle step is the model's, log entry 1). Where the spec leaves a point open, the
model's choice: log entries 1, 62. -/
def Obligations.ReferenceSwitches : Prop :=
  (∀ (s : State) (t : BitVec 2) (e : SwitchEnd) (b : Bool), 2 ≤ t.toNat → s.fbit fCkmRefSelBusy = false →
    (Gives (.nativeSwitch t e) s fun s' => s'.fget fCkmRefSelResult = 7 ∧ s'.active = s.active ∧ Only [.regs] s s' ∧
      OnlyRegs [0x20000] s s') ∧
    Gives (.legacySwitch t b) s fun s' => s'.fget fCkmRefSelResult = 7 ∧ s'.active = s.active ∧ Only [.regs] s s' ∧
      OnlyRegs [0x20000] s s') ∧
  (∀ (s : State) (t : BitVec 2) (e : SwitchEnd) (b : Bool), t.toNat < 2 → s.fbit fCkmRefSelBusy = true →
    (Gives (.nativeSwitch t e) s fun s' => s'.fget fCkmRefSelResult = 3 ∧ s'.active = s.active ∧ Only [.regs] s s' ∧
      OnlyRegs [0x20000] s s') ∧
    Gives (.legacySwitch t b) s fun s' => s'.fget fCkmRefSelResult = 3 ∧ s'.active = s.active ∧ Only [.regs] s s' ∧
      OnlyRegs [0x20000] s s') ∧
  (∀ (s : State) (t : BitVec 2) (e : SwitchEnd), t.toNat < 2 → s.fbit fCkmRefSelBusy = false →
    (s.active = t.toNat → Gives (.nativeSwitch t e) s fun s' => s'.fget fCkmRefSelResult = 0 ∧ s'.active = s.active ∧
      OnlyRegs [0x20000] s s') ∧
    (s.active ≠ t.toNat → s.fbit fCkmRefStatJudge = false → Gives (.nativeSwitch t e) s fun s' =>
      s'.fget fCkmRefSelResult = 2 ∧ s'.active = s.active ∧ OnlyRegs [0x20000] s s') ∧
    (s.active ≠ t.toNat → s.fbit fCkmRefStatJudge = true → s.ready_ t.toNat = false → Gives (.nativeSwitch t e) s fun s' =>
      s'.fget fCkmRefSelResult = 1 ∧ s'.active = s.active ∧ OnlyRegs [0x20000] s s') ∧
    (s.active ≠ t.toNat → s.fbit fCkmRefStatJudge = true → s.ready_ t.toNat = true →
      (e = .done → Gives (.nativeSwitch t e) s fun s' => s'.fget fCkmRefSelResult = 0 ∧ s'.active = t.toNat ∧
        s'.fbit fCkmSteerHeld = false ∧ s'.fbit fCkmSteerLocked = false ∧ Only [.regs] s s' ∧
        OnlyRegs [0x20000, 0x20018] s s') ∧
      (e = .targetFailed → Gives (.nativeSwitch t e) s fun s' => s'.fget fCkmRefSelResult = 4 ∧ s'.active = s.active ∧
        s'.ready_ t.toNat = false ∧ Only [.regs] s s' ∧ OnlyRegs [0x20000, 0x20008] s s') ∧
      (e = .activeFailed → s.active < 2 → Gives (.nativeSwitch t e) s fun s' => s'.fget fCkmRefSelResult = 5 ∧
        s'.active = 2 ∧ s'.ready_ s.active = false ∧ s'.fbit fCkmRefStatRefFail = true))) ∧
  (∀ (s : State) (t : BitVec 2), t.toNat < 2 → s.fbit fCkmRefSelBusy = false →
    (Gives (.legacySwitch t true) s fun s' => s'.fget fCkmRefSelResult = 0 ∧ s'.active = t.toNat ∧
      s'.refcyc = s.refcyc + 64 ∧ s'.fget fCkmFailcntLegacySwitches = satAdd 8 (s.fget fCkmFailcntLegacySwitches) 1 ∧
      Only [.regs, .refcyc] s s') ∧
    Gives (.legacySwitch t false) s fun s' => s'.stopped = true ∧ s'.active = s.active ∧ s'.fbit fCkmSteerHeld = true ∧
      s'.tick = s' ∧ Only [.regs] s s' ∧ OnlyRegs [0x20000, 0x20018] s s') ∧
  (∀ (s : State), s.stopped = false → Does .legacyNoClock s s ∧
    s.tick.refcyc = s.refcyc + (if s.active = 2 then 25 else 1)) ∧
  (∀ (s : State), s.stopped = true → (Gives .legacyNoClock s fun s' => s'.fget fCkmRefSelResult = 6 ∧ s'.active = 2 ∧
      s'.stopped = false ∧ s'.refcyc = s.refcyc) ∧
    Does .refFail s s.noClock ∧ (∀ tp, s.active = b2n tp → Gives (.candidateNoEdge tp) s fun s' =>
      s'.fget fCkmRefSelResult = 6 ∧ s'.active = 2 ∧ s'.stopped = false))

/-- Judging the candidates (R374, R377, R385): a count within 15 of 156,250 passes, sixteen in a row make a candidate
ready, a failing one ends its readiness and, of the active source, the reference; the loop is locked below 1 ppm with
its trim held within ±25,000. The management domain (R378, R385): its crystal fails to the RC oscillator, on which
nothing is judged; sixteen good windows make the crystal good, which the domain takes at power-on by itself and after
a failure when it is asked to. Where the spec leaves a point open, the model's choice: log entries 3, 63. -/
def Obligations.ClockJudging : Prop :=
  (∀ (s : State) (x t : W32) (l : Bool), s.fbit fCkmRefStatJudge = false → Does (.candidateWindow x t l) s s) ∧
  (∀ (s : State) (x t : W32) (l : Bool), s.fbit fCkmRefStatJudge = true →
    let s1 := s.judge 0 x.toNat
    Does (.candidateWindow x t l) s (if l && s1.tpNamed then s1.judge 1 t.toNat else s1.loseReady 1).laterTp) ∧
  (∀ (s : State) (n : Nat), 156235 ≤ n → n ≤ 156265 →
    (s.judge 0 n).fget fCkmRefStatPassXtal = min 16 (s.fget fCkmRefStatPassXtal + 1) ∧
    (15 ≤ s.fget fCkmRefStatPassXtal → (s.judge 0 n).ready_ 0 = true) ∧
    (s.fget fCkmRefStatPassXtal < 15 → (s.judge 0 n).ready_ 0 = s.ready_ 0) ∧ (s.judge 0 n).ready_ 1 = s.ready_ 1 ∧
    Only [.regs] s (s.judge 0 n) ∧ OnlyRegs [0x20008] s (s.judge 0 n)) ∧
  (∀ (s : State) (src n : Nat), src < 2 → n < 156235 ∨ 156265 < n →
    (s.judge src n).ready_ src = false ∧
    (s.active = src → (s.judge src n).active = 2 ∧ (s.judge src n).fbit fCkmRefStatRefFail = true ∧
      (s.judge src n).stopped = false) ∧
    (s.active ≠ src → Only [.regs] s (s.judge src n) ∧ OnlyRegs [0x20008] s (s.judge src n))) ∧
  (∀ (s : State) (tp : Bool), Does (.candidateNoEdge tp) s
    (if s.active = b2n tp then (s.loseReady (b2n tp)).refLost 1 else s.loseReady (b2n tp))) ∧
  (∀ (s : State), s.stopped = false → (s.active = 2 → Does .refFail s s) ∧
    (s.active ≠ 2 → Does .refFail s ((s.loseReady s.active).refFail 1))) ∧
  (∀ (s : State) (a b : W16), s.active = 2 ∨ s.stopped = true → Does (.steerLock a b) s s) ∧
  (∀ (s : State) (a b : W16), s.active ≠ 2 → s.stopped = false → Gives (.steerLock a b) s fun s' =>
    s'.fget fCkmSteerTrim = (BitVec.ofInt 16 (max (-25000) (min 25000 a.toInt))).toNat ∧ s'.fget fCkmSteerErr = b.toNat ∧
    (s'.fbit fCkmSteerLocked = true ↔ -100 < b.toInt ∧ b.toInt < 100) ∧ Only [.regs] s s' ∧ OnlyRegs [0x20018] s s') ∧
  (∀ (s : State), s.onRc = true → Does .mgtXtalFail s s) ∧
  (∀ (s : State), s.onRc = false → Gives .mgtXtalFail s fun s' => s'.onRc = true ∧ s'.fbit fCkmRefStatJudge = false ∧
    s'.fbit fCkmRefStatMgtXtalFail = true ∧ s'.ready_ 0 = false ∧ s'.ready_ 1 = false ∧ s'.mgmt.xtalPass = 0 ∧
    s'.mem = s.mem ∧ s'.tiles = s.tiles) ∧
  (∀ (s : State) (n : W32), 24250 ≤ n.toNat → n.toNat ≤ 25750 → Gives (.crystalJudgeWindow n) s fun s' =>
    s'.mgmt.xtalPass = min 16 (s.mgmt.xtalPass + 1) ∧
    (15 ≤ s.mgmt.xtalPass → s.mgmt.fellBack = false → s'.onRc = false ∧ s'.fbit fCkmRefStatJudge = true) ∧
    (s.mgmt.xtalPass < 15 ∨ s.mgmt.fellBack = true → s'.onRc = s.onRc) ∧ Only [.mgmt, .regs] s s') ∧
  (∀ (s : State) (n : W32), n.toNat < 24250 ∨ 25750 < n.toNat →
    (s.onRc = true → Gives (.crystalJudgeWindow n) s fun s' => s'.mgmt.xtalPass = 0 ∧ Only [.mgmt] s s') ∧
    (s.onRc = false → Gives (.crystalJudgeWindow n) s fun s' => s'.onRc = true ∧ s'.mgmt.xtalPass = 0)) ∧
  (∀ (s : State), (s.onRc = true ∧ s.mgmt.xtalPass = 16 → Gives .mgtCrystalReturn s fun s' =>
      s'.onRc = false ∧ s'.fbit fCkmRefStatJudge = true ∧ s'.mgmt.fellBack = false ∧ Only [.mgmt, .regs] s s') ∧
    (s.onRc = false ∨ s.mgmt.xtalPass ≠ 16 → Does .mgtCrystalReturn s s))

/-- Failing domains outside the reference (R318, R385 to R390, R392): a link, a transmit clock, a bay clock, the PCI
Express reference, a mesh clock and a coupling each fail by their own rule; a restart that re-locks clears its
failure, and its bit of CKM_RESTART when it has ended; a canton's ratio changes only between two slot frames. Where
the spec leaves a point open, the model's choice: log entries 61, 64, 65. -/
def Obligations.ClockDomains : Prop :=
  (∀ (s : State) (p : PortIx), s.linkIsUp p = false → Does (.linkLoss p) s s) ∧
  (∀ (s : State) (p : PortIx), s.linkIsUp p = true → Gives (.linkLoss p) s fun s' =>
    s'.fget fPrtLinkStatState p = (if s.fbit fPrtLinkCtrlAutoRetrain p then 3 else 4) ∧
    s'.fbit fPrtLinkStatDownSeen p = true ∧ s'.ports = s.ports ∧ s'.mem = s.mem ∧
    (s.fget fCkmTportPort = p.val → s'.ready_ 1 = false ∧ (s.active = 1 → s'.active = 2)) ∧
    (s.fget fCkmTportPort ≠ p.val → s'.ready_ 1 = s.ready_ 1 ∧ s'.active = s.active)) ∧
  (∀ (s : State) (p : PortIx), (s.fget fCkmDomPtxFail).testBit p = true → Does (.portTxClockFail p) s s) ∧
  (∀ (s : State) (p : PortIx), (s.fget fCkmDomPtxFail).testBit p = false → Gives (.portTxClockFail p) s fun s' =>
    (s'.fget fCkmDomPtxFail).testBit p = true ∧ s'.linkIsUp p = false ∧
    (∀ i : Nat, i ≠ p.val → (s'.fget fCkmDomPtxFail).testBit i = (s.fget fCkmDomPtxFail).testBit i) ∧ s'.ports = s.ports) ∧
  (∀ (s : State) (p : PortIx), (s.fget fCkmDomPtxFail).testBit p = true → Gives (.ptxRestart p true) s fun s' =>
    (s'.fget fCkmDomPtxFail).testBit p = false ∧
    (s.fbit fPrtLinkCtrlLinkEn p = true → s'.fget fPrtLinkStatState p = 3) ∧ Only [.regs] s s') ∧
  (∀ (s : State) (p : PortIx) (ok : Bool), (s.fget fCkmDomPtxFail).testBit p = false ∨ ok = false →
    Does (.ptxRestart p ok) s (s.putBit fCkmRestartPtx p false)) ∧
  (∀ (s : State) (b : BayIx), (s.fget fCkmDomBayFail).testBit b = true → Does (.bayClockFail b) s s) ∧
  (∀ (s : State) (b : BayIx), (s.fget fCkmDomBayFail).testBit b = false → Gives (.bayClockFail b) s fun s' =>
    (s'.fget fCkmDomBayFail).testBit b = true ∧ (s'.fget fCkmRestartBay).testBit b = false ∧
    s'.engine = (if s.engine = 5 then 6 else s.engine) ∧ s'.mem = s.mem) ∧
  (∀ (s : State) (b : BayIx), (s.fget fCkmDomBayFail).testBit b = true → Gives (.bayClockRestart b true) s fun s' =>
    (s'.fget fCkmDomBayFail).testBit b = false ∧ (s'.fget fCkmRestartBay).testBit b = true ∧
    s'.fget fBayStatRetrainAct (bayCanton b) = 0xFFFFFFFF ∧ s'.mem = s.mem) ∧
  (∀ (s : State) (b : BayIx) (ok : Bool), (s.fget fCkmDomBayFail).testBit b = false ∨ ok = false →
    Does (.bayClockRestart b ok) s (s.putBit fCkmRestartBay b false)) ∧
  (∀ (s : State), s.host.pcieLost = true ∨ s.mgmt.pgood = false → Does .pcieRefclkLoss s s) ∧
  (∀ (s : State), s.host.pcieLost = false → s.mgmt.pgood = true → s.engine ≠ 8 → Gives .pcieRefclkLoss s fun s' =>
    s'.host.pcieLost = true ∧ s'.host.linkUp = false ∧ s'.host.master = false ∧ s'.engine = 7 ∧ s'.mem = s.mem ∧
    (s.engine ≠ 7 → s'.host.beforeHalt.toNat = s.engine)) ∧
  (∀ (s : State) (c : CantonIx) (b : Bool) (d : Fin 4), s.online c = false →
    Does (.meshClockFail c b) s s ∧ Does (.couplingLost c d) s s ∧ Does (.clockRatioChange c) s s) ∧
  (∀ (s : State) (c : CantonIx) (b : Bool), s.online c = true → Gives (.meshClockFail c b) s fun s' =>
    s'.online c = false ∧ (s'.canton c).isolated = true ∧ (s'.canton c).powered = true ∧ s'.fbit fCanClkStatLocked c = false) ∧
  (∀ (s : State) (c : CantonIx) (d : Fin 4), s.online c = true → Does (.couplingLost c d) s (s.cut c d).steer.buildEtree) ∧
  (∀ (s : State) (c : CantonIx), (s.canton c).slot ≠ 0 → Does (.clockRatioChange c) s s) ∧
  (∀ (s : State) (c : CantonIx), s.online c = true → (s.canton c).slot = 0 → Gives (.clockRatioChange c) s fun s' =>
    s'.fget fCanClkStatRatio c = (s.ratioOf c).1 ∧ s'.fget fCanClkStatCause c = (s.ratioOf c).2 ∧
    ((s'.canton c).downSince = none ↔ (s.ratioOf c).1 = 0) ∧ s'.downUs c = s.downUs c ∧
    (∀ e, e ≠ c.val → s'.canton e = s.canton e) ∧ Only [.cantons, .regs] s s') ∧
  (∀ (s : State) (c : Nat), (s.ratioOf c).1 =
    max (s.fget fCanClkCtrlFloor c) (max (s.canton c).thermReq.toNat (s.canton c).capReq.toNat))

/-- A canton's planned power-off and its return (R386, R393, R396, R400, R469): never of canton 40; the canton of no
slice, or of a slice that is not running, goes off at once, that of a running slice when the slice has drained by the
steps of R253; REJOIN of a joined canton does nothing, of one that may not return sets REJOIN_FAIL, else runs its
steps, after which the canton belongs to no slice. Where the spec leaves a point open, the model's choice: log entries
67, 68, 90. -/
def Obligations.CantonPower : Prop :=
  (∀ (s : State) (c : CantonIx) (b : Bool), c.val = 40 ∨ s.online c = false → Does (.plannedPowerOff c b) s s) ∧
  (∀ (s : State) (c : CantonIx) (b : Bool), c.val ≠ 40 → s.online c = true →
    ((∀ n, s.sliceOf c = some n → (s.slice n).phase = 1 ∨ (s.slice n).phase = 6) → Gives (.plannedPowerOff c b) s fun s' =>
      s'.online c = false ∧ (s'.canton c).offByPlan = true ∧ (s'.canton c).offHot = b ∧
      (∀ t ∈ tilesOf c, s'.isPresent t = false) ∧ (b = true → s'.fbit fMgtStatThermEvent = true)) ∧
    ∀ n, s.sliceOf c = some n →
      ((s.slice n).phase = 2 → Gives (.plannedPowerOff c b) s fun s' => s'.online c = true ∧
        (s'.slice n).phase = 3 ∧ ∃ rc, (s'.slice n).reconf = some rc ∧ rc.purge = false ∧ rc.step = 3 ∧ rc.goal = .off c b) ∧
      ((s.slice n).phase ≠ 1 → (s.slice n).phase ≠ 2 → (s.slice n).phase ≠ 6 →
        Does (.plannedPowerOff c b) s (if b then s.planNote c else s))) ∧
  (∀ (s : State) (n : Nat) (c : CantonIx) (b : Bool), c.val ≠ 40 →
    (s.planDrained n c b).online c = false ∧ ((s.planDrained n c b).canton c).offByPlan = true) ∧
  (∀ (s : State) (c : CantonIx) (w : WaveIn), s.host.decodes = false ∨ s.online c = true → Does (.rejoin c w) s s) ∧
  (∀ (s : State) (c : CantonIx) (w : WaveIn), s.host.decodes = true → s.online c = false →
    (s.canton c).retired = true ∨ s.ledgerRetired c = true ∨ s.fbit fCanBruStatFailed c = true →
    Gives (.rejoin c w) s fun s' => s'.fbit fCanClkStatRejoinFail c = true ∧ s'.online c = false ∧ Only [.regs] s s') ∧
  (∀ (s : State) (c : CantonIx) (w : WaveIn), s.host.decodes = true → s.online c = false → (s.canton c).retired = false →
    s.ledgerRetired c = false → s.fbit fCanBruStatFailed c = false →
    (((s.canton c).powered && (s.canton c).isolated) = true →
      (w.fail ≠ 0 → Does (.rejoin c w) s (((s.disown c).failStep c w.fail.toNat).rejoinEnd c)) ∧
      (w.fail = 0 → c.val = 40 → Does (.rejoin c w) s ((((s.disown c).laneTest c w.lanes).join c).rejoinEnd c)) ∧
      (w.fail = 0 → c.val ≠ 40 → (s.disown c).lockDir c w.lock = none →
        Does (.rejoin c w) s (((s.disown c).failStep c 4).rejoinEnd c)) ∧
      (∀ d, w.fail = 0 → c.val ≠ 40 → (s.disown c).lockDir c w.lock = some d → Does (.rejoin c w) s
        (((((s.disown c).fset fCanBruStatLockDir d c).laneTest c w.lanes).join c).rejoinEnd c))) ∧
    (((s.canton c).powered && (s.canton c).isolated) = false →
      ((s.canton c).offByPlan = true → (s.canton c).offHot = false ∨ (s.canton c).temp.toInt < 80 * 16 →
        Does (.rejoin c w) s (((s.disown c).bring c w).rejoinEnd c)) ∧
      ((s.canton c).offByPlan = false ∨ ((s.canton c).offHot = true ∧ 80 * 16 ≤ (s.canton c).temp.toInt) →
        Does (.rejoin c w) s (s.fset fCanClkStatRejoinFail 1 c))))

/-- Power (R397, R399, R415) and the output pins in each condition (R483): the hoist island starts with the auxiliary
supply, and its valid firmware goes on to step 2; main power closes after ten high samples of PWR_EN with a good
input, and goes after three low ones or an undervoltage, which keeps engine memory of nothing, and after which PWR_EN
must rise anew; with the auxiliary supply everything but the non-volatile state goes. Where the spec leaves a point
open, the model's choice: log entries 63, 68, 69. -/
def Obligations.PowerSupplies : Prop :=
  (∀ (s : State) (p : PowerOn), s.mgmt.cond = .operating → Does (.hoistPowerOn p) s s) ∧
  (∀ (s : State) (p : PowerOn), s.mgmt.cond ≠ .operating → p.hoistA = true ∨ p.hoistB = true →
    Gives (.hoistPowerOn p) s fun s' => s'.mgmt.cond = .operating ∧ s'.mgmt.hoistOk = true ∧ s'.mgmt.flash = s.mgmt.flash ∧
      s'.fget fPwrBootStatLastStep = 2 ∧ s'.fbit fPwrBootStatFwCopy = !p.hoistA ∧ s'.mem = {} ∧ s'.tiles = [] ∧
      s'.slices = []) ∧
  (∀ (s : State) (p : PowerOn), s.mgmt.cond ≠ .operating → p.hoistA = false → p.hoistB = false →
    Gives (.hoistPowerOn p) s fun s' => s'.mgmt.cond = .operating ∧ s'.engine = 8 ∧ s'.fget fGlbEngineStateCause = 1) ∧
  (∀ (s : State) (h i r o : Bool), s.mgmt.cond ≠ .operating → Does (.pwrEnSample h i r o) s s) ∧
  (∀ (s : State) (i r o : Bool), s.mgmt.cond = .operating → s.mgmt.enHigh < 9 → Gives (.pwrEnSample true i r o) s fun s' =>
    s'.mgmt.enHigh = s.mgmt.enHigh + 1 ∧ s'.mgmt.enLow = 0 ∧ s'.mgmt.mainOn = s.mgmt.mainOn ∧ Only [.mgmt] s s') ∧
  (∀ (s : State), s.mgmt.cond = .operating → 9 ≤ s.mgmt.enHigh → s.mgmt.mainOn = false → s.mgmt.hoistOk = true →
    s.mgmt.enArmed = true → s.mgmt.thermtrip = false → s.mgmt.ensignOk = true → Gives (.pwrEnSample true true true true) s fun s' =>
      s'.mgmt.mainOn = true ∧ s'.mgmt.pgood = true ∧ s'.mainPowerSeen = true ∧ s'.host.linkUp = true ∧ s'.fget fPwrBootStatLastStep = 4 ∧
      s'.engine = s.engine ∧ Only [.mgmt, .host, .regs] s s') ∧
  (∀ (s : State) (h i r o : Bool), s.mgmt.cond = .operating → s.mgmt.mainOn = false → s.mgmt.enArmed = false →
    Gives (.pwrEnSample h i r o) s fun s' => s'.mgmt.mainOn = false ∧ s'.mgmt.enArmed = !h ∧ Only [.mgmt] s s') ∧
  (∀ (s : State) (i r o : Bool), s.mgmt.cond = .operating → 2 ≤ s.mgmt.enLow → s.mgmt.mainOn = true →
    Gives (.pwrEnSample false i r o) s fun s' => s'.mgmt.mainOn = false ∧ s'.mgmt.pgood = false ∧ s'.engine = 1 ∧
      s'.fbit fPwrBootStatPwrEnLowSeen = true ∧ s'.tiles = [] ∧ s'.mem = {} ∧ s'.ports = [] ∧
      s'.err.ledger = s.err.ledger ∧ s'.mgmt.flash = s.mgmt.flash) ∧
  (∀ (s : State), (s.mgmt.mainOn = false → Does .undervoltage s s) ∧
    (s.mgmt.mainOn = true → Gives .undervoltage s fun s' => s'.mgmt.mainOn = false ∧ s'.mgmt.enArmed = false ∧ s'.engine = 1 ∧
      s'.fbit fPwrBootStatUvSeen = true ∧ s'.tiles = [] ∧ s'.mem = {} ∧ s'.err.ledger = s.err.ledger)) ∧
  (∀ (s : State), Gives .auxFail s fun s' => s'.mgmt.cond = .unpowered ∧ s'.engine = 0 ∧ s'.mem = {} ∧ s'.tiles = [] ∧
    s'.err.ledger = s.err.ledger ∧ s'.mgmt.flash = s.mgmt.flash ∧ s'.mgmt.fuses = s.mgmt.fuses ∧ s'.host.mem = s.host.mem ∧
    s'.mgmt.thermtrip = false ∧ ∀ p, s'.pin p = if p = .prsntN ∨ p = .cprsntN then .low else .released) ∧
  (∀ (s : State) (p : PowerOn), s.mgmt.cond ≠ .operating → Gives (.hoistPowerOn p) s fun s' =>
    s'.mgmt.thermtrip = s.mgmt.thermtrip ∧ s'.pin .pgood = .low ∧ s'.pin .uartTx = .high ∧
    s'.pin .clkreqN = .low ∧ (s'.pin .thermtripN = .low ↔ s.mgmt.thermtrip = true))

/-- The wave (R401 to R404, R407, R410, R415): a canton starts only in its slot, and after the last in the retry pass; its
sequence ends at its first failing step, which is noted, or with its join; and the wave that is over goes on to TRAIN,
or to FAULT where nothing joined. Joining (R195, R404, R409): a joined canton stands on the networks with its slot
counter at 0, RUN clear in its tiles and its positions present where they are served; the neighbours' state other than
their seams stays. Where the spec leaves a point open, the model's choice: log entries 65, 66, 68. -/
def Obligations.BringUpWave : Prop :=
  (∀ (s : State) (c : CantonIx) (w : WaveIn), s.mgmt.pgood = false → Does (.waveSlotStart c w) s s) ∧
  (∀ (s : State) (c : CantonIx) (w : WaveIn), s.mgmt.waveSlot < 100 → startSlot c ≠ s.mgmt.waveSlot →
    Does (.waveSlotStart c w) s s) ∧
  (∀ (s : State) (c : CantonIx) (w : WaveIn), s.mgmt.pgood = true → s.mgmt.waveSlot < 100 → startSlot c = s.mgmt.waveSlot →
    s.stage_ = (if s.mgmt.waveSlot = 0 then 1 else 2) →
    let s1 := if s.mgmt.waveSlot = 0 then s.startWave else s
    let s2 := ((s1.updMgmt fun m => { m with waveSlot := s.mgmt.waveSlot + 1 }).fset fCanBruStatSlot s.mgmt.waveSlot c).bring c w
    Does (.waveSlotStart c w) s (if s2.waveOver then s2.endWave else s2)) ∧
  (∀ (s : State) (c : CantonIx) (w : WaveIn), s.mgmt.pgood = true → 100 ≤ s.mgmt.waveSlot → s.stage_ = 2 → s.waveOver = false →
    (List.range 100).find? s.retriable = some c.val →
    let s2 := (s.updMgmt fun m => { m with retries := m.retries + 1, lastRetry := some c.val }).bring c w
    Does (.waveSlotStart c w) s (if s2.waveOver then s2.endWave else s2)) ∧
  (∀ (s : State) (c : Nat) (w : WaveIn), w.fail = 1 → c < 100 →
    (s.bring c w).fget fCanBruStatFailStep c = 1 ∧ (s.bring c w).fbit fCanBruStatFailed c = true ∧
    (s.bring c w).fbit fCanBruStatJoined c = false ∧ Only [.regs] s (s.bring c w)) ∧
  (∀ (s : State), s.fget fGlbEngineStateJoined = 0 → s.endWave.engine = 8 ∧ s.endWave.fget fGlbEngineStateCause = 5) ∧
  (∀ (s : State), s.fget fGlbEngineStateJoined ≠ 0 → s.engine ≠ 7 → s.endWave.engine = 3 ∧
    s.endWave.fget fPwrBootStatLastStep = 6) ∧
  ((List.range 100).map startSlot).Nodup ∧ (∀ c, c < 100 → startSlot c < 100) ∧
  (∀ (s : State) (c : Nat), c < 100 →
    let s' := s.join c
    s'.online c = true ∧ (s'.canton c).slot = 0 ∧ (s'.canton c).isolated = false ∧ (s'.canton c).offByPlan = false ∧
    s'.fbit fCanClkStatLocked c = true ∧ (∀ t ∈ tilesOf c, (s'.tile t).ctrl.run = false) ∧
    (∀ e, e ≠ c → s'.online e = s.online e) ∧ (∀ t, t ∉ tilesOf c → s'.tile t = s.tile t) ∧
    s'.mem = s.mem ∧ s'.slices = s.slices ∧ s'.ports = s.ports ∧ s'.host.descs = s.host.descs)

/-- Bays, ports and the engine-wide check (R225, R270, R411 to R415): bays train in the order in which their cantons
joined, fail with a channel of more than 8 bad lanes, and become ready with every byte zero; ports are initialised
once, in the same order, their boot values applied or refused with a record; the check, after all of them, raises GEN,
runs a round on the engine-wide flag and ends in READY where everything came up, else in DEGRADED. Where the spec
leaves a point open, the model's choice: log entries 68, 87. -/
def Obligations.BringUpEnds : Prop :=
  (∀ (s : State) (b : BayIx) (ls : List (Fin 32 × BitVec 264)), s.mgmt.joinOrder.find? s.bayUntrained ≠ some (bayCanton b) →
    Does (.bayTrain b ls) s s) ∧
  (∀ (s : State) (b : BayIx) (ls : List (Fin 32 × BitVec 264)), s.mgmt.joinOrder.find? s.bayUntrained = some (bayCanton b) →
    s.fget fBayStatFailedCh (bayCanton b) = 0 → Gives (.bayTrain b ls) s fun s' =>
      let n := (List.range 32).countP fun ch => decide (8 < (s'.bay b).bad ch)
      s'.fget fBayStatState (bayCanton b) = (if n = 0 then 1 else 3) ∧ s'.fget fBayStatFailedCh (bayCanton b) = n ∧
      s'.mem = s.mem ∧ s'.tiles = s.tiles ∧ (∀ i, i ≠ b.val → s'.bay i = s.bay i) ∧ (ls = [] → n = 0 → Only [.regs] s s')) ∧
  (∀ (s : State) (c : Nat), s.bayUntrained c = true ↔ hasBay c = true ∧ s.online c = true ∧ (s.canton c).noBay = false ∧
    s.fget fBayStatState c = 0) ∧
  (∀ (s : State) (b : BayIx), s.online (bayCanton b) = false ∨ s.fget fBayStatState (bayCanton b) ≠ 1 → Does (.bayReady b) s s) ∧
  (∀ (s : State) (b : BayIx), s.online (bayCanton b) = true → s.fget fBayStatState (bayCanton b) = 1 →
    Gives (.bayReady b) s fun s' => s'.fget fBayStatState (bayCanton b) = 2 ∧
      (∀ a, bayBase b ≤ a → a < bayBase (b + 1) → s'.mem.byte a = 0) ∧
      (∀ a, a < bayBase b ∨ bayBase (b + 1) ≤ a → s'.mem.byte a = s.mem.byte a) ∧ s'.tiles = s.tiles ∧ s'.ports = s.ports) ∧
  (∀ (s : State) (p : PortIx) (ok : Bool), s.mgmt.joinOrder.find? s.portWaits ≠ some (portCanton p) → Does (.portInit p ok) s s) ∧
  (∀ (s : State) (p : PortIx), s.mgmt.joinOrder.find? s.portWaits = some (portCanton p) →
    (Gives (.portInit p false) s fun s' => s'.mgmt.portInit = s.mgmt.portInit ∧ s'.portWaits (portCanton p) = false ∧
      s'.ports = s.ports ∧ s'.mem = s.mem) ∧
    let s0 := s.updMgmt fun m => { m with portTried := setBit m.portTried p true }
    let s1 := (s0.bootPort p).updMgmt fun m => { m with portInit := setBit m.portInit p true }
    let s2 := s1.fset fPrtClkEnEn (s1.fget fPrtClkEnEn ||| 2 ^ p.val)
    Does (.portInit p true) s ((s2.fset fPwrBootStatPortsReady s2.portsReady).bootApplied).recheck) ∧
  (∀ (s : State) (k : CheckIn), s.stage_ ≠ 3 ∨ s.trained = false → Does (.engineCheck k) s s) ∧
  (∀ (s : State) (k : CheckIn), s.engine = 3 → s.trained = true → Gives (.engineCheck k) s fun s' =>
    s'.engine = (if s.fget fGlbEngineStateJoined = 100 ∧ s.baysReady = 40 ∧ s.portsReady = 20 then 5 else 6) ∧
    s'.fget fPwrBootStatLastStep = 8 ∧ s'.fget fGlbTpGenGen = (s.fget fGlbTpGenGen + 2) % 2 ^ 32 ∧
    s'.mgmt.cameReady = decide (s.fget fGlbEngineStateJoined = 100 ∧ s.baysReady = 40 ∧ s.portsReady = 20) ∧
    (k.fault = none → s'.eround.void = false ∧ s'.eround.agents = (List.range 100).filter s.reached) ∧
    (∀ c m, k.fault = some (c, m) → s'.eround.void = true) ∧
    s'.mem = s.mem ∧ s'.tiles = s.tiles ∧ s'.ports = s.ports)

/-- The error ring (R435): it is enabled with its counters at 0 where LOG2_ENTRIES is 4 to 12; a head past PROD disables
it; a waiting record is written to slot PROD mod N only where the ring has room, SEQ_PH in its last word, and PROD
moves on; IRQ_EN signals a DISP other than 0 at once, others on the timer. Where the spec leaves a point open, the
model's choice: log entries 23, 75. -/
def Obligations.ErrorRing : Prop :=
  (∀ (s : State) (v : W64) (h : W32), s.host.decodes = false → Does (.errRingEnable v) s s ∧ Does (.errRingHead h) s s) ∧
  (∀ (s : State) (v : W64), s.host.decodes = true → s.fbit fErrRingCfgEnable = false →
    (4 ≤ v.toNat / 256 % 16 → v.toNat / 256 % 16 ≤ 12 → Gives (.errRingEnable v) s fun s' =>
      s'.fbit fErrRingCfgEnable = true ∧ s'.fget fErrRingCfgLog2Entries = v.toNat / 256 % 16 ∧
      s'.fget fErrRingPtrProd = 0 ∧ s'.fget fErrRingPtrHead = 0 ∧ s'.err.ensign = s.err.ensign ∧
      Only [.regs, .err] s s' ∧ OnlyRegs [0x50008, 0x50010] s s') ∧
    (v.toNat / 256 % 16 < 4 ∨ 12 < v.toNat / 256 % 16 → Gives (.errRingEnable v) s fun s' =>
      s'.fbit fErrRingCfgEnable = false ∧ s'.fbit fErrStatRingErr = true ∧ Only [.regs] s s')) ∧
  (∀ (s : State) (h : W32), s.host.decodes = true →
    let away := modSub 32 (s.fget fErrRingPtrProd) h.toNat
    (away ≤ 2 ^ s.fget fErrRingCfgLog2Entries → Gives (.errRingHead h) s fun s' => s'.fget fErrRingPtrHead = h.toNat ∧
      s'.fget fErrRingPtrProd = s.fget fErrRingPtrProd ∧ Only [.regs] s s' ∧ OnlyRegs [0x50010] s s') ∧
    (2 ^ s.fget fErrRingCfgLog2Entries < away → s.fbit fErrRingCfgEnable = true → Gives (.errRingHead h) s fun s' =>
      s'.fbit fErrRingCfgEnable = false ∧ s'.fbit fErrStatRingErr = true ∧
      s'.fget fErrRingPtrHead = s.fget fErrRingPtrHead ∧ Only [.regs] s s')) ∧
  (∀ (s : State), s.err.ensign = [] ∨ s.fbit fErrRingCfgEnable = false ∨
    2 ^ s.fget fErrRingCfgLog2Entries ≤ modSub 32 (s.fget fErrRingPtrProd) (s.fget fErrRingPtrHead) →
    Does .errRingWrite s s) ∧
  (∀ (s : State) (r : Rec) (rs : List Rec), s.err.ensign = r :: rs → s.fbit fErrRingCfgEnable = true →
    s.fbit fErrRingCfgIrqEn = false → s.host.master = true → s.host.held = [] →
    modSub 32 (s.fget fErrRingPtrProd) (s.fget fErrRingPtrHead) < 2 ^ s.fget fErrRingCfgLog2Entries →
    let n := s.fget fErrRingPtrProd
    let size := 2 ^ s.fget fErrRingCfgLog2Entries
    let a := 64 * s.fget fErrRingBaseBase + 640 * (n % size)
    Gives .errRingWrite s fun s' =>
      s'.hostRead a 632 = padTo 632 (r.cper s.mgmt.serial.toNat) ∧ s'.hostRead (a + 632) 4 = seqPh n size ∧
      (∀ b, b < a ∨ a + 636 ≤ b → s'.hostRead b 1 = s.hostRead b 1) ∧
      s'.fget fErrRingPtrProd = (n + 1) % 2 ^ 32 ∧ s'.fget fErrRingPtrHead = s.fget fErrRingPtrHead ∧
      s'.err.ensign = rs ∧ s'.err.bmc = s.err.bmc ∧ Only [.host, .regs, .err] s s') ∧
  (∀ (s : State), s.fbit fErrRingCfgEnable = true → s.fbit fErrRingCfgIrqEn = true → s.err.unsignalled ≠ 0 →
    Gives .errIrqTimer s fun s' => s'.err.unsignalled = 0 ∧ s'.host = s.host.signal (s.fget fErrRingCfgVector) ∧
      Only [.host, .err] s s') ∧
  (∀ (s : State), s.fbit fErrRingCfgEnable = false ∨ s.fbit fErrRingCfgIrqEn = false ∨ s.err.unsignalled = 0 →
    Does .errIrqTimer s s)

/-- Records, replays and retirement (R216, R434, R439 to R441): a source where records wait sends a code 7 pennant with
the newest SEQ, their number and the highest DISP, and the pennant makes the ensign complex fetch them; a replay ends
only in an idle window, its unit permanent where reproduced; a unit is permanent by three detections within 24 h; the
oldest unit of a joined canton in an idle window is retired. Where the spec leaves a point open, the model's choice:
log entries 71, 72. -/
def Obligations.RecordsAndRetirement : Prop :=
  (∀ (s q : State) (c : CantonIx) (p : Pennant), s.Hands (controllerNode c) ensignNode (fun p => p.code = 7) p q →
    Does (.errNote (.canton c)) s (q.fetch (cantonSrc c))) ∧
  (∀ (s q : State) (k : PortIx) (p : Pennant), s.Hands (portNode k) ensignNode (fun p => p.code = 7) p q →
    Does (.errNote (.port k)) s (q.fetch (portSrc k))) ∧
  (∀ (s q : State) (f : RecFrom), s.takePennant (recNode f) ensignNode (fun p => p.code = 7) = (none, q) →
    let rs := (s.source (recCode f)).held
    (rs = [] → Does (.errNote f) s q) ∧
    (rs ≠ [] → Does (.errNote f) s (q.sendPennant (recNode f) ensignNode 7 (noteArg rs)))) ∧
  (∀ (rs : List Rec) (r : Rec), rs.length < 64 → (∀ x ∈ rs ++ [r], x.disp.toNat ≤ r.disp.toNat) →
    noteArg (rs ++ [r]) = r.seq.toNat + 2 ^ 32 * (rs.length + 1) + 2 ^ 40 * r.disp.toNat) ∧
  (∀ (s : State) (src : Nat), ((s.fetch src).source src).held = []) ∧
  (∀ (s : State) (t : TileIx) (b : Bool), (s.online (cantonOf t) = false ∨ s.idle (cantonOf t) = false → Does (.replay t b) s s) ∧
    (s.online (cantonOf t) = true → s.idle (cantonOf t) = true → ((s.fetch (cantonSrc (cantonOf t))).replayOf t = none →
        Does (.replay t b) s (s.fetch (cantonSrc (cantonOf t)))) ∧
      ∀ q, (s.fetch (cantonSrc (cantonOf t))).replayOf t = some q →
        Does (.replay t b) s ((s.fetch (cantonSrc (cantonOf t))).replayEnd q (if b then 2 else 3)))) ∧
  (∀ (s : State) (t : TileIx), (s.replayOf t = none → Does (.replayNotPossible t) s s) ∧
    ∀ q, s.replayOf t = some q → Does (.replayNotPossible t) s (s.replayEnd q 4)) ∧
  (∀ (s : State) (q : PendingUnit), s.replayEnd q 2 = State.classify
    { s with err := { s.err with replays := s.err.replays.filter fun (x : PendingUnit) => x ≠ q } } q.record 2 2) ∧
  (∀ (s : State) (r : Rec), siteCls r.cls = true → 3 ≤ s.unitCount r.unitOf → s.permanent r = true) ∧
  (∀ (s : State) (ls : List (CantonIx × W32)), (∀ q ∈ s.err.retire, s.mayRetire q = false) → Does (.retire ls) s s) ∧
  (∀ (s : State) (ls : List (CantonIx × W32)) (q : PendingUnit), s.err.retire.find? s.mayRetire = some q →
    Gives (.retire ls) s fun s' => s' = (s.retireUnit q ls).2 ∧ s.online q.unit.canton.toNat = true ∧
      s.idle q.unit.canton.toNat = true) ∧
  (∀ (s : State) (c : Nat), s.idle c = true ↔ s.sliceOf c = none ∨
    ∃ n, s.sliceOf c = some n ∧ ((s.slice n).phase = 1 ∨ (s.slice n).phase = 6))

/-- Recovery, losses and restarts (R438, R437, R443, R444, R447, R450): only a loaded slice in PHASE 6 is recovered, and
only once no refresh of its update engines is in progress (R445); a stop that repeats, or a unit that needs the host,
ends the recovery with ACTION 11; a powered canton that loses its supply is off; the watchdog halts the engine once
within an hour, and faults it the second time. Where the spec leaves a point open, the model's choice: log entries 72,
73, 74, 75, 91. -/
def Obligations.RecoveryAndLoss : Prop :=
  (∀ (s : State) (n : SliceIx) (b : Bool) (ls : List (CantonIx × W32)) (ms : W32),
    (s.slice n).loaded = false ∨ (s.slice n).phase ≠ 6 ∨ (∃ p, p < 20 ∧ s.boundUe n p = true ∧ s.ueState p = 4) →
    Does (.sliceRecovery n b ls ms) s s) ∧
  (∀ (s : State) (n : SliceIx) (b : Bool) (ls : List (CantonIx × W32)) (ms : W32) (r : Rec),
    (s.slice n).loaded = true → (s.slice n).phase = 6 → (∀ p, p < 20 → s.boundUe n p = true → s.ueState p ≠ 4) →
    let f := ((s.slice n).cantons.map cantonSrc ++ ((List.range 20).filter (s.boundUe n)).map portSrc).foldl State.fetch s
    SMap.get none f.err.stopRec n = some r →
    let m := { f with err := { f.err with lastStop := SMap.put none f.err.lastStop n (some r.unitOf) } }
    let q := (m.recoverClassify r b).recoverRetire n ls
    let auto := (m.fget fErrRecovCtrlAuto).testBit n
    (q.1 = 11 ∨ (auto = true ∧ f.repeats n r = true) → Does (.sliceRecovery n b ls ms) s (q.2.needsHost n r ms)) ∧
    (q.1 ≠ 11 → auto = true → f.repeats n r = false → Does (.sliceRecovery n b ls ms) s (q.2.recoverReload n r q.1 ms)) ∧
    (q.1 ≠ 11 → auto = false → Does (.sliceRecovery n b ls ms) s (q.2.recovered n 6 q.1 ms))) ∧
  (∀ (s : State) (n : Nat) (r : Rec), countedCls r.cls = false → s.repeats n r = true) ∧
  (∀ (s : State) (n : Nat) (r : Rec) (ms : W32), (s.slice n).loaded = true →
    ((s.needsHost n r ms).slice n).phase = 6 ∧ (s.needsHost n r ms).fget fErrRecovStatAction = 11 ∧ (s.needsHost n r ms).fget fErrRecovStatPhase = 7 ∧
    (s.needsHost n r ms).fget fErrRecovStatLastMs = ms.toNat) ∧
  (∀ (s : State) (c : CantonIx) (b : Bool), ((s.canton c).powered = false → Does (.cantonSupplyLoss c b) s s) ∧
    ((s.canton c).powered = true → Gives (.cantonSupplyLoss c b) s fun s' =>
      (s'.canton c).powered = false ∧ s'.online c = false ∧ (b = true → (s'.canton c).retired = true) ∧
      (∀ t ∈ tilesOf c, s'.isPresent t = false))) ∧
  (∀ (s : State), s.mgmt.pgood = false ∨ s.engine = 8 → Does .ensignWatchdog s s) ∧
  (∀ (s : State), s.mgmt.pgood = true → s.engine ≠ 8 → s.mgmt.restartNs = none → Gives .ensignWatchdog s fun s' =>
    s'.engine = 7 ∧ s'.mgmt.restarting = true ∧ s'.mgmt.restartNs = some s.engineNs ∧ s'.mem = s.mem ∧ s'.tiles = s.tiles) ∧
  (∀ (s : State) (t : Nat), s.mgmt.pgood = true → s.engine ≠ 8 → s.mgmt.restartNs = some t →
    s.engineNs < t + 3600000000000 → Gives .ensignWatchdog s fun s' => s'.engine = 8 ∧
      s'.mgmt.restarting = s.mgmt.restarting ∧ s'.mem = s.mem ∧ s'.tiles = s.tiles) ∧
  (∀ (s : State), (s.mgmt.restarting = false → Does .ensignRestartDone s s) ∧
    (s.mgmt.restarting = true → s.engine = 7 → s.host.pcieLost = false → Gives .ensignRestartDone s fun s' =>
      s'.engine = s.host.beforeHalt.toNat ∧ s'.mgmt.restarting = false ∧ s'.mem = s.mem ∧ s'.tiles = s.tiles)) ∧
  (∀ (s : State), (s.mgmt.cond ≠ .operating ∨ s.mgmt.hoistOk = false → Does .ledgerPowered s s) ∧
    (s.mgmt.cond = .operating → s.mgmt.hoistOk = true → Gives .ledgerPowered s fun s' =>
      s'.err.powered = s.err.powered + 3600 ∧ s'.err.poweredAt = s.err.powered + 3600 ∧
      (∃ e : LedgerEntry, e.kind = 6 ∧ s'.err.ledger.a = s.err.ledger.a ++ [e] ∧
        e.poweredS = BitVec.ofNat 32 (s.err.powered + 3600).toNat) ∧ s'.err.ledger.b = s.err.ledger.b ∧ Only [.err] s s')) ∧
  (∀ (s : State), (s.err.ledger.a.length * 10 < 131072 * 9 → Does .ledgerRotate s s) ∧
    (131072 * 9 ≤ s.err.ledger.a.length * 10 → Gives .ledgerRotate s fun s' => s'.err.ledger.b = s.err.ledger.a ∧
      (∃ m : LedgerEntry, m.kind = 8 ∧ s'.err.ledger.a = s.err.ledger.kept s.err.powered.toNat ++ [m]) ∧
      (∀ e ∈ s.err.ledger.a, e.kind = 3 ∨ e.kind = 4 → e ∈ s'.err.ledger.a) ∧
      s'.err.ledger.second = !s.err.ledger.second ∧ Only [.err] s s'))

/-- The management paths (R459, R461 to R463): the mailbox takes one request at a time, checks its PEC and gives its
response to SMB_RSP, 0xFF until it is ready; SMB_MSTAT reads its flags; ALERT_N is released by a read of the Alert
Response Address; a line of the UART is an operation; the TAP takes its debug instructions while the island runs.
Where the spec leaves a point open, the model's choice: log entries 76, 77, 78, 89. -/
def Obligations.ManagementPaths : Prop :=
  (∀ (s : State) (bs : List Byte) (b : Bool) (n : W64), s.smbusOn = false ∨ bs.length < 2 ∨ 255 < bs.length →
    Does (.smbReq bs b n) s s) ∧
  (∀ (s : State) (op tag : Byte) (xs : List Byte) (n : W64), s.smbusOn = true → xs.length ≤ 253 →
    (Gives (.smbReq (op :: tag :: xs) false n) s fun s' => s'.fbit fMgtStatMbxPecErr = true ∧ s'.mgmt = s.mgmt ∧
      Only [.regs] s s') ∧
    (s.mgmt.busy = true → Gives (.smbReq (op :: tag :: xs) true n) s fun s' => s'.mgmt.overrun = true ∧
      s'.mgmt.rsp = s.mgmt.rsp ∧ Only [.mgmt] s s') ∧
    ∀ s0, s.Takes (.smbus tag) s0 → Does (.smbReq (op :: tag :: xs) true n) s (s0.operate (.smbus tag) op xs n)) ∧
  (∀ (s : State), Gives .smbRsp s fun s' => Only [.mgmt] s s' ∧ s'.mgmt.smbOut =
    if s.smbusOn = false then [] else if s.mgmt.rspReady = true then s.mgmt.rsp else [0xFF]) ∧
  (∀ (s : State), s.smbusOn = true → Gives .smbMstat s fun s' => ∃ m : Byte, s'.mgmt.smbOut = [m] ∧
    m.getLsbD 0 = s.mgmt.busy ∧ m.getLsbD 1 = s.mgmt.rspReady ∧ (m.getLsbD 2 = true ↔ s.err.bmc ≠ []) ∧
    m.getLsbD 3 = s.fbit fMgtStatThermEvent ∧ m.getLsbD 4 = s.mgmt.overrun ∧ m.toNat < 32 ∧ Only [.mgmt] s s') ∧
  (∀ (s : State), (s.smbusOn && s.alertLow) = true → Gives .alertResponse s fun s' => s'.alertLow = false ∧
    s'.mgmt.smbOut = [BitVec.ofNat 8 (2 * s.fget fMgtStatAddr)] ∧ Only [.mgmt] s s') ∧
  (∀ (s : State), (s.smbusOn && s.alertLow) = false → Gives .alertResponse s fun s' => s'.mgmt.smbOut = [] ∧
    s'.alertLow = s.alertLow ∧ Only [.mgmt] s s') ∧
  (∀ (s : State) (line : List Byte) (n : W64), s.uartOn = false ∨ (∀ b ∈ line, b = 32) → Does (.uartLine line n) s s) ∧
  (∀ (s : State) (n : W64), s.uartOn = true →
    Does (.uartLine [48, 49] n) s (s.opIdent .uart) ∧ Does (.uartLine [50, 32, 54, 52] n) s (s.opSensor .uart 100) ∧
    Gives (.uartLine [90] n) s fun s' => s'.mgmt.uartOut = s.mgmt.uartOut ++ [[48, 50, 32]] ∧ Only [.mgmt] s s') ∧
  (∀ (s : State), s.mgmt.cond ≠ .operating → Does .extest s s ∧ Does .dbgacc s s) ∧
  (∀ (s : State), s.mgmt.cond = .operating →
    (Gives .dbgacc s fun s' => s'.mgmt.tap = .dbgacc ∧ Only [.mgmt] s s' ∧
      (s'.debugReached = true ↔ s.fbit fMgtStatDebug = true ∧ s.fbit fMgtClkEnDebug = true)) ∧
    Gives .extest s fun s' => Only [.mgmt] s s' ∧
      s'.mgmt.tap = if s.mgmt.mainOn = false ∨ s.fbit fMgtStatDebug = true then .extest else .bypass)

/-- The operations (R456, R460, R464): answered on the path of the request, with the error STATUS that R460 gives where
the operation is refused; flash areas are guarded; a NONCE serves one response, and three wrong ones lock debug out.
Where the spec leaves a point open, the model's choice: log entries 76, 78. -/
def Obligations.ManagementOperations : Prop :=
  (∀ (s s0 : State) (via : Via), s.Takes via s0 →
    Does (.ident via) s (s0.respond via 1 0 (leBytes 8 (s0.readReg 0).toNat ++ leBytes 8 (s0.readReg 8).toNat ++
      leBytes 8 (s0.readReg 0x10).toNat)) ∧
    (∀ u : Byte, (u.toNat < 100 → Does (.sensor via u) s (s0.respond via 2 0 (leBytes 8 (s0.canton u.toNat).sensWord.toNat))) ∧
      (u = 100 → Does (.sensor via u) s (s0.respond via 2 0 (leBytes 8 s0.mgmt.sens.word.toNat))) ∧
      (100 < u.toNat → Does (.sensor via u) s (s0.respond via 2 2 []))) ∧
    (s.err.bmc = [] → Does (.recInfo via) s (s0.respond via 3 0 (List.replicate 12 0)) ∧
      ∀ o, Does (.recRead via o) s (s0.respond via 4 0 [])) ∧
    (∀ r rs, s.err.bmc = r :: rs →
      Does (.recInfo via) s (s0.respond via 3 0 (leBytes 2 (rs.length + 1) ++ leBytes 8 r.id.toNat ++
        leBytes 2 (if r.capture.isSome then 584 else 328))) ∧
      (∀ o, Does (.recRead via o) s (s0.respond via 4 0 (((r.cper s.mgmt.serial.toNat).drop o.toNat).take 240))) ∧
      Gives (.recNext via) s fun s' => s'.err = { s.err with bmc := rs } ∧ Only [.err, .mgmt] s s') ∧
    (∀ off : W32, regReadable off.toNat = false → Does (.regRead via off) s (s0.respond via 6 2 [])) ∧
    (∀ off : W32, regReadable off.toNat = true → s0.flashGated off.toNat = false → off.toNat ≠ 0x70040 →
      Does (.regRead via off) s (s0.respond via 6 0 (leBytes 8 (s0.readReg off.toNat).toNat))) ∧
    (∀ (off : W32) (v : W64), off ≠ 0x30010 → off ≠ 0x70010 → Does (.regWrite via off v) s (s0.respond via 7 2 [])) ∧
    (∀ v : W64, Gives (.regWrite via 0x30010 v) s fun s' => s'.fget fPwrCapWatts = v.toNat % 2 ^ 16 ∧
      OnlyRegs [0x30010, 0x30018] s s' ∧ Only [.mgmt, .regs] s s')) ∧
  (∀ (s s0 : State) (via : Via), s.Takes via s0 → s0.fbit fMgtClkEnFlash = true →
    (∀ (a : W32) (d : List Byte), a.toNat % 16 = 0 → d ≠ [] → d.length ≤ 240 → a.toNat % 256 + d.length ≤ 256 →
      (s0.flashBar a.toNat = 0 → Does (.flashProg via a d) s (s0.flashQueue ⟨some via, .program a.toNat d, 8⟩)) ∧
      (s0.flashBar a.toNat = 2 → Does (.flashProg via a d) s (s0.respond via 8 4 [])) ∧
      (s0.flashBar a.toNat = 3 → Does (.flashProg via a d) s (s0.respond via 8 3 []))) ∧
    (∀ a : W32, a.toNat % 65536 = 0 → s0.flashBar a.toNat = 0 →
      Does (.flashErase via a) s (s0.flashQueue ⟨some via, .erase a.toNat, 9⟩)) ∧
    (∀ (a : W32) (n : Byte), 1 ≤ n.toNat → n.toNat ≤ 240 →
      Does (.flashRead via a n) s (s0.flashQueue ⟨some via, .read a.toNat n.toNat, 0x0A⟩))) ∧
  (∀ (s : State) (a : Nat), (a < 0x08000000 → (s.flashBar a = 0 ↔ s.fbit fMgtStatDebug = true)) ∧
    (0x08000000 ≤ a → a < 0x08820000 → s.flashBar a = 2)) ∧
  (∀ (s s0 : State) (via : Via) (n : W64), s.Takes via s0 → Gives (.dbgChallenge via n) s fun s' =>
    s'.mgmt.nonce = some (n, s.engineNs) ∧ Only [.mgmt] s s') ∧
  (∀ (s : State) (n : W64), s.mgmt.cond = .operating → Gives (.dbgChallenge .tap n) s fun s' =>
    s'.mgmt.nonce = some (n, s.engineNs) ∧ s'.mgmt.tapOut = 0 :: leBytes 8 n.toNat ∧ s'.mgmt.tap = .dbgchal ∧ Only [.mgmt] s s') ∧
  (∀ (s s0 : State) (via : Via) (r : W64), s.Takes via s0 →
    (s.fbit fMgtStatLockout = true → Does (.dbgUnlock via r) s (s0.respond via 0x11 6 [])) ∧
    (s.fbit fMgtStatLockout = false → s.unlocks (leBytes 8 r.toNat) = true → Gives (.dbgUnlock via r) s fun s' =>
      s'.fbit fMgtStatDebug = true ∧ s'.fbit fMgtStatDebugSeen = true ∧ s'.mgmt.nonce = none ∧ Only [.mgmt, .regs] s s') ∧
    (s.fbit fMgtStatLockout = false → s.unlocks (leBytes 8 r.toNat) = false → Gives (.dbgUnlock via r) s fun s' =>
      s'.fbit fMgtStatDebug = s.fbit fMgtStatDebug ∧ s'.mgmt.nonce = none ∧
      s'.fget fMgtStatDbgFails = satAdd 8 (s.fget fMgtStatDbgFails) 1 ∧
      (s'.fbit fMgtStatLockout = true ↔ 2 ≤ s.fget fMgtStatDbgFails) ∧ Only [.mgmt, .regs] s s') ∧
    Gives (.dbgLock via) s fun s' => s'.fbit fMgtStatDebug = false ∧ Only [.mgmt, .regs] s s' ∧ OnlyRegs [0x70000] s s') ∧
  (∀ (s : State) (t : Nat) (x : W64) (r : List Byte), s.mgmt.nonce = some (x, t) → t + 60000000000 < s.engineNs →
    s.unlocks r = false)

/-- The flash registers (R456, R457, R471): a command goes to the flash engine unless BUSY, or ends at once with its
STATUS where the area is barred; a program clears bits and never sets them, an erase leaves 0xFF, a read-back that
differs gives STATUS 4; MGT_FLASH_DATA reads and writes word BUF_IDX of the page buffer. Where the spec leaves a point
open, the model's choice: log entries 3, 81, 89. -/
def Obligations.FlashRegisters : Prop :=
  (∀ (s : State), s.host.decodes = false ∨ s.fbit fMgtClkEnFlash = false ∨ s.fbit fMgtFlashCmdBusy = true →
    Does .flashCmdProgram s s ∧ Does .flashCmdErase s s ∧ Does .flashCmdRead s s) ∧
  (∀ (s : State), s.host.decodes = true → s.fbit fMgtClkEnFlash = true → s.fbit fMgtFlashCmdBusy = false →
    let a := s.fget fMgtFlashAddrAddr / 256 * 256
    let e := s.fget fMgtFlashAddrAddr / 65536 * 65536
    (s.flashBar a = 0 → Gives .flashCmdProgram s fun s' => s'.fbit fMgtFlashCmdBusy = true ∧
      s'.mgmt.flashQ = s.mgmt.flashQ ++ [⟨none, .program a (pageBytes s.mgmt.page), 0⟩] ∧ Only [.mgmt, .regs] s s') ∧
    (s.flashBar a ≠ 0 → Gives .flashCmdProgram s fun s' => s'.fget fMgtFlashCmdStatus = s.flashBar a ∧ Only [.regs] s s' ∧
      s'.fbit fMgtFlashCmdBusy = false) ∧
    (s.flashBar e = 0 → Gives .flashCmdErase s fun s' => s'.fbit fMgtFlashCmdBusy = true ∧
      s'.mgmt.flashQ = s.mgmt.flashQ ++ [⟨none, .erase e, 0⟩] ∧ Only [.mgmt, .regs] s s') ∧
    Gives .flashCmdRead s fun s' => s'.fbit fMgtFlashCmdBusy = true ∧
      s'.mgmt.flashQ = s.mgmt.flashQ ++ [⟨none, .read a 256, 0⟩] ∧ Only [.mgmt, .regs] s s') ∧
  (∀ (s : State) (fs : List Byte), s.mgmt.flashQ = [] → Does (.flashCommandEnd fs) s s) ∧
  (∀ (s : State) (fs : List Byte) (a : Nat) (bs : List Byte) (qs : List FlashCmd),
    s.mgmt.flashQ = ⟨none, .program a bs, 0⟩ :: qs →
    Gives (.flashCommandEnd fs) s fun s' => s'.mgmt.flashQ = qs ∧ s'.fbit fMgtFlashCmdBusy = false ∧
      (∀ b, b < a ∨ a + bs.length ≤ b → SMap.get 0xFF s'.mgmt.flash b = SMap.get 0xFF s.mgmt.flash b) ∧
      (∀ i, i < bs.length → SMap.get 0xFF s'.mgmt.flash (a + i) =
        s.flashByte (a + i) &&& (bs.getD i 0xFF ||| fs.getD i 0)) ∧
      (s'.fget fMgtFlashCmdStatus = 0 ∨ s'.fget fMgtFlashCmdStatus = 4) ∧
      (s'.fget fMgtFlashCmdStatus = 0 ↔ ∀ i, i < bs.length → SMap.get 0xFF s'.mgmt.flash (a + i) = bs.getD i 0xFF) ∧
      Only [.mgmt, .regs] s s') ∧
  (∀ (s : State) (fs : List Byte) (a : Nat) (qs : List FlashCmd), s.mgmt.flashQ = ⟨none, .erase a, 0⟩ :: qs →
    Gives (.flashCommandEnd fs) s fun s' => s'.mgmt.flashQ = qs ∧ s'.fbit fMgtFlashCmdBusy = false ∧
      s'.fget fMgtFlashCmdStatus = 0 ∧
      (∀ b, SMap.get 0xFF s'.mgmt.flash b = if a ≤ b ∧ b < a + 65536 then 0xFF else SMap.get 0xFF s.mgmt.flash b)) ∧
  (∀ (s : State) (w : W64), (s.host.decodes = false → Does (.flashDataAccess none) s s ∧ Does (.flashDataAccess (some w)) s s) ∧
    (s.host.decodes = true → s.fbit fMgtClkEnFlash = true →
      (Gives (.flashDataAccess (some w)) s fun s' => SMap.get 0 s'.mgmt.page (s.fget fMgtFlashCmdBufIdx) = w ∧
        (∀ i, i ≠ s.fget fMgtFlashCmdBufIdx → SMap.get 0 s'.mgmt.page i = SMap.get 0 s.mgmt.page i) ∧
        s'.fget fMgtFlashCmdBufIdx = (s.fget fMgtFlashCmdBufIdx + 1) % 32 ∧ Only [.mgmt, .regs] s s') ∧
      Gives (.flashDataAccess none) s fun s' =>
        s'.host.readBack = leBytes 8 (SMap.get 0 s.mgmt.page (s.fget fMgtFlashCmdBufIdx)).toNat ∧
        s'.fget fMgtFlashCmdBufIdx = (s.fget fMgtFlashCmdBufIdx + 1) % 32 ∧ Only [.host, .regs] s s'))

/-- Sensors, the thermal policy and the power cap (R468 to R470, R472): samples are kept; the inlet is reported above 30
°C once until 28 °C; the thermal request rises from 85 °C and falls below 80 °C, 100 °C powers off by plan, 103 °C or
a plan that takes over 1 s as an emergency; THERMTRIP opens the main switch; a cap above the draw raises ten cantons,
the largest first; the cap's last writer is named. Where the spec leaves a point open, the model's choice: log entries
3, 79, 80. -/
def Obligations.ThermalAndPower : Prop :=
  (∀ (s : State) (x : SensorIn), s.mgmt.cond ≠ .operating → Does (.sensorSample x) s s) ∧
  (∀ (s : State) (c : CantonIx) (t b v i : W16), s.mgmt.cond = .operating → t.toInt < 100 * 16 → s.planLate c = false →
    Gives (.sensorSample (.canton c t b v i)) s fun s' =>
      s'.canton c = { s.canton c with temp := t, bayTemp := if hasBay c then b else 0x8000, vcore := v, icore := i } ∧
      (∀ k, k ≠ c.val → s'.canton k = s.canton k) ∧ Only [.cantons] s s') ∧
  (∀ (s : State) (v i t o : W16), s.mgmt.cond = .operating →
    Gives (.sensorSample (.module_ v i t o)) s fun s' => s'.mgmt.sens = ⟨v, i, t, o⟩ ∧ s'.cantons = s.cantons ∧
      (30 * 16 < t.toInt → s'.mgmt.inletHot = true ∧ (s.mgmt.inletHot = false → s'.fbit fMgtStatInletHigh = true)) ∧
      (28 * 16 < t.toInt → t.toInt ≤ 30 * 16 → s'.mgmt.inletHot = s.mgmt.inletHot ∧ s'.regs = s.regs) ∧
      (t.toInt ≤ 28 * 16 → s'.mgmt.inletHot = false ∧ s'.regs = s.regs)) ∧
  (∀ (s : State) (c : CantonIx), s.online c = true → (s.canton c).temp.toInt < 100 * 16 → s.planLate c = false →
    (85 * 16 ≤ (s.canton c).temp.toInt ∨ s.bayHot c 95 = true → Gives (.thermalStepUp c) s fun s' =>
      s'.canton c = { s.canton c with thermReq := if (s.canton c).thermReq = 3 then 3 else (s.canton c).thermReq + 1 } ∧
      (∀ k, k ≠ c.val → s'.canton k = s.canton k) ∧ ((s.canton c).thermReq ≠ 0 → Only [.cantons] s s')) ∧
    ((s.canton c).temp.toInt < 85 * 16 → s.bayHot c 95 = false → Does (.thermalStepUp c) s s)) ∧
  (∀ (s : State) (c : CantonIx), s.online c = true → (s.canton c).temp.toInt < 80 * 16 → s.bayHot c 90 = false →
    (s.canton c).thermReq ≠ 0 → s.planLate c = false → Gives (.thermalStepDown c) s fun s' =>
      s'.canton c = { s.canton c with thermReq := (s.canton c).thermReq - 1 } ∧
      (∀ k, k ≠ c.val → s'.canton k = s.canton k) ∧ Only [.cantons] s s') ∧
  (∀ (s : State) (c : CantonIx), c.val ≠ 40 → s.online c = true → (s.canton c).thermReq = 0 ∨ 80 * 16 ≤ (s.canton c).temp.toInt →
    (100 * 16 ≤ (s.canton c).temp.toInt → (s.canton c).temp.toInt < 103 * 16 → s.planLate c = false →
      Does (.thermalStepDown c) s (s.plannedOff c true)) ∧
    (103 * 16 ≤ (s.canton c).temp.toInt ∨ s.planLate c = true → Gives (.thermalStepDown c) s fun s' => s'.online c = false ∧
      (s'.canton c).offByPlan = true ∧ (s'.canton c).offHot = true ∧ (s'.canton c).retired = (s.canton c).retired)) ∧
  (∀ (s : State) (c : CantonIx), (s.mgmt.cond = .unpowered ∨ s.mgmt.thermtrip = true → Does (.thermtrip c) s s) ∧
    (s.mgmt.cond = .reset → s.mgmt.thermtrip = false → Gives (.thermtrip c) s fun s' => s'.mgmt.thermtrip = true ∧
      s'.fbit fMgtStatThermtripSeen = true ∧ Only [.mgmt, .regs] s s') ∧
    (s.mgmt.cond = .operating → s.mgmt.thermtrip = false → Gives (.thermtrip c) s fun s' => s'.mgmt.thermtrip = true ∧
      s'.mgmt.mainOn = false ∧ s'.fbit fMgtStatThermtripSeen = true)) ∧
  (∀ (s : State) (w : W16) (ds : List W32), s.mgmt.mainOn = false → Does (.powerCapTick w ds) s s) ∧
  (∀ (s : State) (w : W16) (ds : List W32), s.mgmt.mainOn = true → Gives (.powerCapTick w ds) s fun s' =>
    s'.fget fPwrStatPowerW = w.toNat ∧ s'.fget fPwrStatPeakW = max w.toNat (s.fget fPwrStatPeakW) ∧
    (w.toNat ≤ s.cap → 97 * s.cap ≤ 100 * w.toNat → (∀ c, s'.canton c = s.canton c) ∧ s'.mgmt.lowMs = 0) ∧
    (s.cap < w.toNat → (∀ c, (s.canton c).capReq.toNat ≤ (s'.canton c).capReq.toNat ∧
      (s'.canton c).capReq.toNat ≤ (s.canton c).capReq.toNat + 1) ∧ s'.mgmt.lowMs = 0 ∧
      (((List.range 100).filter fun c => s.online c && (s.canton c).capReq ≠ 3) = [] →
        s'.fbit fPwrStatCapUnreached = true)) ∧
    (100 * w.toNat < 97 * s.cap → ∀ c, (s'.canton c).capReq.toNat ≤ (s.canton c).capReq.toNat)) ∧
  (∀ (s : State), 8000 ≤ s.cap ∧ s.cap ≤ 23000 ∧ (s.fget fPwrCapWatts = 0 → s.cap = 23000)) ∧
  (∀ (s : State) (w : CapWriter) (v : W64), (w = .host → s.host.decodes = false) → (w = .bmc → s.smbusOn = false) →
    (w = .uart → s.uartOn = false) → Does (.pwrCapWrite w v) s s) ∧
  (∀ (s : State) (w : CapWriter) (v : W64), (w = .host → s.host.decodes = true) → (w = .bmc → s.smbusOn = true) →
    (w = .uart → s.uartOn = true) → Gives (.pwrCapWrite w v) s fun s' => s'.fget fPwrCapWatts = v.toNat % 2 ^ 16 ∧
      s'.fget fPwrStatCapSrc = (match w with | .host => 1 | .bmc => 2 | .uart => 3) ∧
      OnlyRegs [0x30010, 0x30018] s s' ∧ Only [.regs] s s') ∧
  (∀ (s : State), (s.host.decodes = false → Does .cntClear s s) ∧
    (s.host.decodes = true → SMap.wf {} s.mgmt.counters = true → Gives .cntClear s fun s' => Only [.mgmt] s s' ∧
      (∀ k, SMap.get {} s'.mgmt.counters k = { SMap.get {} s.mgmt.counters k with count := 0, wrapped := false })))
end

