-- ==== Sys2Proof/Laws/Maps.lean ====
section
/-! SUPPORT. The laws of sparse maps and byte memories: a read after a write, and the canonical form. -/
namespace Sys2Proof.Machine

variable {α : Type}

theorem SMap.get_ins_same (d : α) (m : SMap α) (k : Nat) (v : α) : SMap.get d (SMap.ins k v m) k = v := by
  induction m with
  | nil => simp [SMap.ins, SMap.get]
  | cons p m ih =>
    obtain ⟨k', v'⟩ := p
    simp only [SMap.ins]
    split
    · simp [SMap.get]
    · split
      · simp [SMap.get]
      · rename_i h1 h2
        simp [SMap.get, Ne.symm h2, ih]

theorem SMap.get_ins_ne (d : α) (m : SMap α) (k j : Nat) (v : α) (h : j ≠ k) :
    SMap.get d (SMap.ins k v m) j = SMap.get d m j := by
  induction m with
  | nil => simp [SMap.ins, SMap.get, Ne.symm h]
  | cons p m ih =>
    obtain ⟨k', v'⟩ := p
    simp only [SMap.ins]
    split
    · simp [SMap.get, Ne.symm h]
    · split
      · rename_i h1 h2
        simp [SMap.get, ← h2, Ne.symm h]
      · simp [SMap.get, ih]

theorem SMap.get_del_same (d : α) (m : SMap α) (k : Nat) : SMap.get d (SMap.del k m) k = d := by
  induction m with
  | nil => rfl
  | cons p m ih =>
    by_cases h : p.1 = k
    · simpa [SMap.del, h] using ih
    · simpa [SMap.del, h, SMap.get] using ih

theorem SMap.get_del_ne (d : α) (m : SMap α) (k j : Nat) (h : j ≠ k) : SMap.get d (SMap.del k m) j = SMap.get d m j := by
  induction m with
  | nil => rfl
  | cons p m ih =>
    simp only [SMap.del, ne_eq, decide_not] at ih ⊢
    by_cases hp : p.1 = k
    · simp [hp, SMap.get, Ne.symm h, ih]
    · simp [hp, SMap.get, ih]

/-- A read after a write at the same key gives the value written. -/
@[simp] theorem SMap.get_put_same [DecidableEq α] (d : α) (m : SMap α) (k : Nat) (v : α) : SMap.get d (SMap.put d m k v) k = v := by
  unfold SMap.put
  split
  · next h => rw [SMap.get_del_same, h]
  · exact SMap.get_ins_same d m k v

/-- A write leaves every other key as it was. -/
theorem SMap.get_put_ne [DecidableEq α] (d : α) (m : SMap α) (k j : Nat) (v : α) (h : j ≠ k) :
    SMap.get d (SMap.put d m k v) j = SMap.get d m j := by
  unfold SMap.put
  split
  · exact SMap.get_del_ne d m k j h
  · exact SMap.get_ins_ne d m k j v h

/-! ### The canonical form, as rising keys above a bound -/

/-- Keys rise from above lo, and no value is the default. -/
def SMap.Up (d : α) : Option Nat → SMap α → Prop
  | _, [] => True
  | lo, (k, v) :: m => (∀ b, lo = some b → b < k) ∧ v ≠ d ∧ SMap.Up d (some k) m

theorem SMap.Up.mono {d : α} {m : SMap α} {a : Nat} (h : SMap.Up d (some a) m) : SMap.Up d none m := by
  cases m with
  | nil => trivial
  | cons p m => exact ⟨by simp, h.2.1, h.2.2⟩

theorem SMap.wf_iff [DecidableEq α] (d : α) (m : SMap α) : SMap.wf d m = true ↔ SMap.Up d none m := by
  induction m with
  | nil => simp [SMap.wf, SMap.Up]
  | cons p m ih =>
    obtain ⟨k, v⟩ := p
    cases m with
    | nil => simp [SMap.wf, SMap.Up]
    | cons q m =>
      obtain ⟨k', v'⟩ := q
      simp only [SMap.wf, Bool.and_eq_true, decide_eq_true_eq, ih, SMap.Up]
      constructor
      · rintro ⟨⟨h1, h2⟩, h3⟩
        exact ⟨by simp, h1, by simpa using h2, h3.2.1, h3.2.2⟩
      · rintro ⟨_, h1, h2, h3, h4⟩
        exact ⟨⟨h1, h2 k rfl⟩, by simp, h3, h4⟩

theorem SMap.Up.ins {d : α} {m : SMap α} {lo : Option Nat} (h : SMap.Up d lo m) (k : Nat) (v : α)
    (hk : ∀ b, lo = some b → b < k) (hv : v ≠ d) : SMap.Up d lo (SMap.ins k v m) := by
  induction m generalizing lo with
  | nil => exact ⟨hk, hv, trivial⟩
  | cons p m ih =>
    obtain ⟨k', v'⟩ := p
    simp only [SMap.ins]
    split
    · next h1 => exact ⟨hk, hv, by simpa using h1, h.2.1, h.2.2⟩
    · split
      · next h2 => subst h2; exact ⟨hk, hv, h.2.2⟩
      · next h1 h2 => exact ⟨h.1, h.2.1, ih h.2.2 (by simp; omega)⟩

theorem SMap.Up.filter {d : α} {m : SMap α} {lo : Option Nat} (h : SMap.Up d lo m) (f : Nat × α → Bool) :
    SMap.Up d lo (m.filter f) := by
  induction m generalizing lo with
  | nil => trivial
  | cons p m ih =>
    obtain ⟨k, v⟩ := p
    simp only [List.filter_cons]
    split
    · exact ⟨h.1, h.2.1, ih h.2.2⟩
    · refine ih (lo := lo) ?_
      cases m with
      | nil => trivial
      | cons q m =>
        obtain ⟨k', v'⟩ := q
        exact ⟨fun b hb => Nat.lt_trans (h.1 b hb) (h.2.2.1 k rfl), h.2.2.2.1, h.2.2.2.2⟩

/-- Every write keeps the canonical form. -/
theorem SMap.put_wf [DecidableEq α] (d : α) (m : SMap α) (k : Nat) (v : α) (h : SMap.wf d m = true) :
    SMap.wf d (SMap.put d m k v) = true := by
  rw [SMap.wf_iff] at h ⊢
  unfold SMap.put
  split
  · exact h.filter _
  · next hv => exact h.ins k v (by simp) hv

/-- Forgetting a range keeps the canonical form. -/
theorem SMap.clear_wf [DecidableEq α] (d : α) (m : SMap α) (lo hi : Nat) (h : SMap.wf d m = true) :
    SMap.wf d (SMap.clear m lo hi) = true := by
  rw [SMap.wf_iff] at h ⊢
  exact h.filter _

/-! ### Byte memories -/

theorem writeCells_wf (cs : List Host.Cell) (a : Nat) (bs : List Byte) (h : SMap.wf 0 cs = true) :
    SMap.wf 0 (writeCells cs a bs) = true := by
  induction bs generalizing cs a with
  | nil => exact h
  | cons b bs ih => exact ih _ _ (SMap.put_wf 0 cs a b h)

/-- A byte outside a write reads as before. -/
theorem get_writeCells_out (cs : List Host.Cell) (a j : Nat) (bs : List Byte) (h : j < a ∨ a + bs.length ≤ j) :
    SMap.get 0 (writeCells cs a bs) j = SMap.get 0 cs j := by
  induction bs generalizing cs a with
  | nil => rfl
  | cons b bs ih =>
    have h' : j < a ∨ a + (bs.length + 1) ≤ j := h
    rw [writeCells, ih _ _ (by omega), SMap.get_put_ne]
    omega

/-- A byte of a write reads as written. -/
theorem get_writeCells_in (cs : List Host.Cell) (a i : Nat) (bs : List Byte) (h : i < bs.length) :
    SMap.get 0 (writeCells cs a bs) (a + i) = bs[i] := by
  induction bs generalizing cs a i with
  | nil => simp at h
  | cons b bs ih =>
    cases i with
    | zero => rw [writeCells, get_writeCells_out _ _ _ _ (by omega)]; simp
    | succ i =>
      have := ih (SMap.put 0 cs a b) (a + 1) i (by simpa using h)
      simpa [writeCells, Nat.add_assoc, Nat.add_comm 1 i] using this

theorem Memory.wf_iff (m : Memory) : m.wf = true ↔ SMap.wf 0 m.cells = true ∧ SMap.wf 0 m.marks = true := by
  simp [Memory.wf]

theorem Memory.setBytes_wf (m : Memory) (a : Nat) (bs : List Byte) (h : m.wf = true) : (m.setBytes a bs).wf = true := by
  rw [Memory.wf_iff] at h ⊢
  exact ⟨writeCells_wf _ _ _ h.1, h.2⟩

theorem Memory.setMark_wf (m : Memory) (a : Nat) (k : Byte) (h : m.wf = true) : (m.setMark a k).wf = true := by
  rw [Memory.wf_iff] at h ⊢
  exact ⟨h.1, SMap.put_wf _ _ _ _ h.2⟩

theorem Memory.setMarks_wf (m : Memory) (a : Nat) (k : Byte) (n : Nat) (h : m.wf = true) : (m.setMarks a k n).wf = true := by
  induction n generalizing m a with
  | zero => exact h
  | succ n ih => exact ih _ _ (m.setMark_wf a k h)

theorem Memory.putWord_wf (m : Memory) (a : Nat) (w : W64) (k : Byte) (h : m.wf = true) : (m.putWord a w k).wf = true :=
  Memory.setMark_wf _ _ _ (Memory.setBytes_wf _ _ _ h)

theorem Memory.putRow_wf (m : Memory) (a : Nat) (bs : List Byte) (k : Byte) (h : m.wf = true) : (m.putRow a bs k).wf = true :=
  Memory.setMarks_wf _ _ _ _ (Memory.setBytes_wf _ _ _ h)

theorem Memory.zero_wf (m : Memory) (lo hi : Nat) (h : m.wf = true) : (m.zero lo hi).wf = true := by
  rw [Memory.wf_iff] at h ⊢
  exact ⟨SMap.clear_wf _ _ _ _ h.1, SMap.clear_wf _ _ _ _ h.2⟩

theorem Memory.setMarks_cells (m : Memory) (a : Nat) (k : Byte) (n : Nat) : (m.setMarks a k n).cells = m.cells := by
  induction n generalizing m a with
  | zero => rfl
  | succ n ih => rw [Memory.setMarks, ih]; rfl

/-- Every byte outside a written row reads as before. -/
theorem Memory.putRow_byte_out (m : Memory) (a j : Nat) (bs : List Byte) (k : Byte) (h : j < a ∨ a + 64 ≤ j) :
    (m.putRow a bs k).byte j = m.byte j := by
  have hl : (padTo 64 bs).length = 64 := by simp [padTo]; omega
  unfold Memory.putRow Memory.byte
  rw [Memory.setMarks_cells]
  exact get_writeCells_out _ _ _ _ (by omega)

/-- The memory after reset is in canonical form. -/
theorem State.reset_memory_wf : State.reset.mem.wf = true := rfl

end Sys2Proof.Machine
end

