-- ==== Sys2Proof/Laws/State.lean ====
section
/-! SUPPORT. One lemma per field of the state and per update of it: what an update leaves as it was. -/
namespace Sys2Proof.Machine

@[simp] theorem State.setTile_pending (s : State) (t : Nat) (x : Tile) : (s.setTile t x).pending = s.pending := rfl
@[simp] theorem State.setTile_routers (s : State) (t : Nat) (x : Tile) : (s.setTile t x).routers = s.routers := rfl
@[simp] theorem State.setTile_cantons (s : State) (t : Nat) (x : Tile) : (s.setTile t x).cantons = s.cantons := rfl
@[simp] theorem State.setTile_clusters (s : State) (t : Nat) (x : Tile) : (s.setTile t x).clusters = s.clusters := rfl
@[simp] theorem State.setTile_bays (s : State) (t : Nat) (x : Tile) : (s.setTile t x).bays = s.bays := rfl
@[simp] theorem State.setTile_mesh (s : State) (t : Nat) (x : Tile) : (s.setTile t x).mesh = s.mesh := rfl
@[simp] theorem State.setTile_mem (s : State) (t : Nat) (x : Tile) : (s.setTile t x).mem = s.mem := rfl
@[simp] theorem State.setTile_present (s : State) (t : Nat) (x : Tile) : (s.setTile t x).present = s.present := rfl
@[simp] theorem State.setTile_requests (s : State) (t : Nat) (x : Tile) : (s.setTile t x).requests = s.requests := rfl
@[simp] theorem State.setTile_bulkOps (s : State) (t : Nat) (x : Tile) : (s.setTile t x).bulkOps = s.bulkOps := rfl
@[simp] theorem State.setTile_nextOp (s : State) (t : Nat) (x : Tile) : (s.setTile t x).nextOp = s.nextOp := rfl
@[simp] theorem State.setTile_halPart (s : State) (t : Nat) (x : Tile) : (s.setTile t x).halPart = s.halPart := rfl
@[simp] theorem State.setTile_halAgents (s : State) (t : Nat) (x : Tile) : (s.setTile t x).halAgents = s.halAgents := rfl
@[simp] theorem State.setTile_rounds (s : State) (t : Nat) (x : Tile) : (s.setTile t x).rounds = s.rounds := rfl
@[simp] theorem State.setTile_eround (s : State) (t : Nat) (x : Tile) : (s.setTile t x).eround = s.eround := rfl
@[simp] theorem State.setTile_slices (s : State) (t : Nat) (x : Tile) : (s.setTile t x).slices = s.slices := rfl
@[simp] theorem State.setTile_pennOut (s : State) (t : Nat) (x : Tile) : (s.setTile t x).pennOut = s.pennOut := rfl
@[simp] theorem State.setTile_pennIn (s : State) (t : Nat) (x : Tile) : (s.setTile t x).pennIn = s.pennIn := rfl
@[simp] theorem State.setTile_host (s : State) (t : Nat) (x : Tile) : (s.setTile t x).host = s.host := rfl
@[simp] theorem State.setTile_ports (s : State) (t : Nat) (x : Tile) : (s.setTile t x).ports = s.ports := rfl
@[simp] theorem State.setTile_err (s : State) (t : Nat) (x : Tile) : (s.setTile t x).err = s.err := rfl
@[simp] theorem State.setTile_mgmt (s : State) (t : Nat) (x : Tile) : (s.setTile t x).mgmt = s.mgmt := rfl
@[simp] theorem State.setTile_regs (s : State) (t : Nat) (x : Tile) : (s.setTile t x).regs = s.regs := rfl
@[simp] theorem State.setTile_refcyc (s : State) (t : Nat) (x : Tile) : (s.setTile t x).refcyc = s.refcyc := rfl

@[simp] theorem State.setRouter_pending (s : State) (t : Nat) (x : Router) : (s.setRouter t x).pending = s.pending := rfl
@[simp] theorem State.setRouter_tiles (s : State) (t : Nat) (x : Router) : (s.setRouter t x).tiles = s.tiles := rfl
@[simp] theorem State.setRouter_cantons (s : State) (t : Nat) (x : Router) : (s.setRouter t x).cantons = s.cantons := rfl
@[simp] theorem State.setRouter_clusters (s : State) (t : Nat) (x : Router) : (s.setRouter t x).clusters = s.clusters := rfl
@[simp] theorem State.setRouter_bays (s : State) (t : Nat) (x : Router) : (s.setRouter t x).bays = s.bays := rfl
@[simp] theorem State.setRouter_mesh (s : State) (t : Nat) (x : Router) : (s.setRouter t x).mesh = s.mesh := rfl
@[simp] theorem State.setRouter_mem (s : State) (t : Nat) (x : Router) : (s.setRouter t x).mem = s.mem := rfl
@[simp] theorem State.setRouter_present (s : State) (t : Nat) (x : Router) : (s.setRouter t x).present = s.present := rfl
@[simp] theorem State.setRouter_requests (s : State) (t : Nat) (x : Router) : (s.setRouter t x).requests = s.requests := rfl
@[simp] theorem State.setRouter_bulkOps (s : State) (t : Nat) (x : Router) : (s.setRouter t x).bulkOps = s.bulkOps := rfl
@[simp] theorem State.setRouter_nextOp (s : State) (t : Nat) (x : Router) : (s.setRouter t x).nextOp = s.nextOp := rfl
@[simp] theorem State.setRouter_halPart (s : State) (t : Nat) (x : Router) : (s.setRouter t x).halPart = s.halPart := rfl
@[simp] theorem State.setRouter_halAgents (s : State) (t : Nat) (x : Router) : (s.setRouter t x).halAgents = s.halAgents := rfl
@[simp] theorem State.setRouter_rounds (s : State) (t : Nat) (x : Router) : (s.setRouter t x).rounds = s.rounds := rfl
@[simp] theorem State.setRouter_eround (s : State) (t : Nat) (x : Router) : (s.setRouter t x).eround = s.eround := rfl
@[simp] theorem State.setRouter_slices (s : State) (t : Nat) (x : Router) : (s.setRouter t x).slices = s.slices := rfl
@[simp] theorem State.setRouter_pennOut (s : State) (t : Nat) (x : Router) : (s.setRouter t x).pennOut = s.pennOut := rfl
@[simp] theorem State.setRouter_pennIn (s : State) (t : Nat) (x : Router) : (s.setRouter t x).pennIn = s.pennIn := rfl
@[simp] theorem State.setRouter_host (s : State) (t : Nat) (x : Router) : (s.setRouter t x).host = s.host := rfl
@[simp] theorem State.setRouter_ports (s : State) (t : Nat) (x : Router) : (s.setRouter t x).ports = s.ports := rfl
@[simp] theorem State.setRouter_err (s : State) (t : Nat) (x : Router) : (s.setRouter t x).err = s.err := rfl
@[simp] theorem State.setRouter_mgmt (s : State) (t : Nat) (x : Router) : (s.setRouter t x).mgmt = s.mgmt := rfl
@[simp] theorem State.setRouter_regs (s : State) (t : Nat) (x : Router) : (s.setRouter t x).regs = s.regs := rfl
@[simp] theorem State.setRouter_refcyc (s : State) (t : Nat) (x : Router) : (s.setRouter t x).refcyc = s.refcyc := rfl

@[simp] theorem State.setCanton_pending (s : State) (c : Nat) (x : Canton) : (s.setCanton c x).pending = s.pending := rfl
@[simp] theorem State.setCanton_tiles (s : State) (c : Nat) (x : Canton) : (s.setCanton c x).tiles = s.tiles := rfl
@[simp] theorem State.setCanton_routers (s : State) (c : Nat) (x : Canton) : (s.setCanton c x).routers = s.routers := rfl
@[simp] theorem State.setCanton_clusters (s : State) (c : Nat) (x : Canton) : (s.setCanton c x).clusters = s.clusters := rfl
@[simp] theorem State.setCanton_bays (s : State) (c : Nat) (x : Canton) : (s.setCanton c x).bays = s.bays := rfl
@[simp] theorem State.setCanton_mesh (s : State) (c : Nat) (x : Canton) : (s.setCanton c x).mesh = s.mesh := rfl
@[simp] theorem State.setCanton_mem (s : State) (c : Nat) (x : Canton) : (s.setCanton c x).mem = s.mem := rfl
@[simp] theorem State.setCanton_present (s : State) (c : Nat) (x : Canton) : (s.setCanton c x).present = s.present := rfl
@[simp] theorem State.setCanton_requests (s : State) (c : Nat) (x : Canton) : (s.setCanton c x).requests = s.requests := rfl
@[simp] theorem State.setCanton_bulkOps (s : State) (c : Nat) (x : Canton) : (s.setCanton c x).bulkOps = s.bulkOps := rfl
@[simp] theorem State.setCanton_nextOp (s : State) (c : Nat) (x : Canton) : (s.setCanton c x).nextOp = s.nextOp := rfl
@[simp] theorem State.setCanton_halPart (s : State) (c : Nat) (x : Canton) : (s.setCanton c x).halPart = s.halPart := rfl
@[simp] theorem State.setCanton_halAgents (s : State) (c : Nat) (x : Canton) : (s.setCanton c x).halAgents = s.halAgents := rfl
@[simp] theorem State.setCanton_rounds (s : State) (c : Nat) (x : Canton) : (s.setCanton c x).rounds = s.rounds := rfl
@[simp] theorem State.setCanton_eround (s : State) (c : Nat) (x : Canton) : (s.setCanton c x).eround = s.eround := rfl
@[simp] theorem State.setCanton_slices (s : State) (c : Nat) (x : Canton) : (s.setCanton c x).slices = s.slices := rfl
@[simp] theorem State.setCanton_pennOut (s : State) (c : Nat) (x : Canton) : (s.setCanton c x).pennOut = s.pennOut := rfl
@[simp] theorem State.setCanton_pennIn (s : State) (c : Nat) (x : Canton) : (s.setCanton c x).pennIn = s.pennIn := rfl
@[simp] theorem State.setCanton_host (s : State) (c : Nat) (x : Canton) : (s.setCanton c x).host = s.host := rfl
@[simp] theorem State.setCanton_ports (s : State) (c : Nat) (x : Canton) : (s.setCanton c x).ports = s.ports := rfl
@[simp] theorem State.setCanton_err (s : State) (c : Nat) (x : Canton) : (s.setCanton c x).err = s.err := rfl
@[simp] theorem State.setCanton_mgmt (s : State) (c : Nat) (x : Canton) : (s.setCanton c x).mgmt = s.mgmt := rfl
@[simp] theorem State.setCanton_regs (s : State) (c : Nat) (x : Canton) : (s.setCanton c x).regs = s.regs := rfl
@[simp] theorem State.setCanton_refcyc (s : State) (c : Nat) (x : Canton) : (s.setCanton c x).refcyc = s.refcyc := rfl

@[simp] theorem State.setCluster_pending (s : State) (k : Nat) (x : Cluster) : (s.setCluster k x).pending = s.pending := rfl
@[simp] theorem State.setCluster_tiles (s : State) (k : Nat) (x : Cluster) : (s.setCluster k x).tiles = s.tiles := rfl
@[simp] theorem State.setCluster_routers (s : State) (k : Nat) (x : Cluster) : (s.setCluster k x).routers = s.routers := rfl
@[simp] theorem State.setCluster_cantons (s : State) (k : Nat) (x : Cluster) : (s.setCluster k x).cantons = s.cantons := rfl
@[simp] theorem State.setCluster_bays (s : State) (k : Nat) (x : Cluster) : (s.setCluster k x).bays = s.bays := rfl
@[simp] theorem State.setCluster_mesh (s : State) (k : Nat) (x : Cluster) : (s.setCluster k x).mesh = s.mesh := rfl
@[simp] theorem State.setCluster_mem (s : State) (k : Nat) (x : Cluster) : (s.setCluster k x).mem = s.mem := rfl
@[simp] theorem State.setCluster_present (s : State) (k : Nat) (x : Cluster) : (s.setCluster k x).present = s.present := rfl
@[simp] theorem State.setCluster_requests (s : State) (k : Nat) (x : Cluster) : (s.setCluster k x).requests = s.requests := rfl
@[simp] theorem State.setCluster_bulkOps (s : State) (k : Nat) (x : Cluster) : (s.setCluster k x).bulkOps = s.bulkOps := rfl
@[simp] theorem State.setCluster_nextOp (s : State) (k : Nat) (x : Cluster) : (s.setCluster k x).nextOp = s.nextOp := rfl
@[simp] theorem State.setCluster_halPart (s : State) (k : Nat) (x : Cluster) : (s.setCluster k x).halPart = s.halPart := rfl
@[simp] theorem State.setCluster_halAgents (s : State) (k : Nat) (x : Cluster) : (s.setCluster k x).halAgents = s.halAgents := rfl
@[simp] theorem State.setCluster_rounds (s : State) (k : Nat) (x : Cluster) : (s.setCluster k x).rounds = s.rounds := rfl
@[simp] theorem State.setCluster_eround (s : State) (k : Nat) (x : Cluster) : (s.setCluster k x).eround = s.eround := rfl
@[simp] theorem State.setCluster_slices (s : State) (k : Nat) (x : Cluster) : (s.setCluster k x).slices = s.slices := rfl
@[simp] theorem State.setCluster_pennOut (s : State) (k : Nat) (x : Cluster) : (s.setCluster k x).pennOut = s.pennOut := rfl
@[simp] theorem State.setCluster_pennIn (s : State) (k : Nat) (x : Cluster) : (s.setCluster k x).pennIn = s.pennIn := rfl
@[simp] theorem State.setCluster_host (s : State) (k : Nat) (x : Cluster) : (s.setCluster k x).host = s.host := rfl
@[simp] theorem State.setCluster_ports (s : State) (k : Nat) (x : Cluster) : (s.setCluster k x).ports = s.ports := rfl
@[simp] theorem State.setCluster_err (s : State) (k : Nat) (x : Cluster) : (s.setCluster k x).err = s.err := rfl
@[simp] theorem State.setCluster_mgmt (s : State) (k : Nat) (x : Cluster) : (s.setCluster k x).mgmt = s.mgmt := rfl
@[simp] theorem State.setCluster_regs (s : State) (k : Nat) (x : Cluster) : (s.setCluster k x).regs = s.regs := rfl
@[simp] theorem State.setCluster_refcyc (s : State) (k : Nat) (x : Cluster) : (s.setCluster k x).refcyc = s.refcyc := rfl

@[simp] theorem State.setBay_pending (s : State) (b : Nat) (x : Bay) : (s.setBay b x).pending = s.pending := rfl
@[simp] theorem State.setBay_tiles (s : State) (b : Nat) (x : Bay) : (s.setBay b x).tiles = s.tiles := rfl
@[simp] theorem State.setBay_routers (s : State) (b : Nat) (x : Bay) : (s.setBay b x).routers = s.routers := rfl
@[simp] theorem State.setBay_cantons (s : State) (b : Nat) (x : Bay) : (s.setBay b x).cantons = s.cantons := rfl
@[simp] theorem State.setBay_clusters (s : State) (b : Nat) (x : Bay) : (s.setBay b x).clusters = s.clusters := rfl
@[simp] theorem State.setBay_mesh (s : State) (b : Nat) (x : Bay) : (s.setBay b x).mesh = s.mesh := rfl
@[simp] theorem State.setBay_mem (s : State) (b : Nat) (x : Bay) : (s.setBay b x).mem = s.mem := rfl
@[simp] theorem State.setBay_present (s : State) (b : Nat) (x : Bay) : (s.setBay b x).present = s.present := rfl
@[simp] theorem State.setBay_requests (s : State) (b : Nat) (x : Bay) : (s.setBay b x).requests = s.requests := rfl
@[simp] theorem State.setBay_bulkOps (s : State) (b : Nat) (x : Bay) : (s.setBay b x).bulkOps = s.bulkOps := rfl
@[simp] theorem State.setBay_nextOp (s : State) (b : Nat) (x : Bay) : (s.setBay b x).nextOp = s.nextOp := rfl
@[simp] theorem State.setBay_halPart (s : State) (b : Nat) (x : Bay) : (s.setBay b x).halPart = s.halPart := rfl
@[simp] theorem State.setBay_halAgents (s : State) (b : Nat) (x : Bay) : (s.setBay b x).halAgents = s.halAgents := rfl
@[simp] theorem State.setBay_rounds (s : State) (b : Nat) (x : Bay) : (s.setBay b x).rounds = s.rounds := rfl
@[simp] theorem State.setBay_eround (s : State) (b : Nat) (x : Bay) : (s.setBay b x).eround = s.eround := rfl
@[simp] theorem State.setBay_slices (s : State) (b : Nat) (x : Bay) : (s.setBay b x).slices = s.slices := rfl
@[simp] theorem State.setBay_pennOut (s : State) (b : Nat) (x : Bay) : (s.setBay b x).pennOut = s.pennOut := rfl
@[simp] theorem State.setBay_pennIn (s : State) (b : Nat) (x : Bay) : (s.setBay b x).pennIn = s.pennIn := rfl
@[simp] theorem State.setBay_host (s : State) (b : Nat) (x : Bay) : (s.setBay b x).host = s.host := rfl
@[simp] theorem State.setBay_ports (s : State) (b : Nat) (x : Bay) : (s.setBay b x).ports = s.ports := rfl
@[simp] theorem State.setBay_err (s : State) (b : Nat) (x : Bay) : (s.setBay b x).err = s.err := rfl
@[simp] theorem State.setBay_mgmt (s : State) (b : Nat) (x : Bay) : (s.setBay b x).mgmt = s.mgmt := rfl
@[simp] theorem State.setBay_regs (s : State) (b : Nat) (x : Bay) : (s.setBay b x).regs = s.regs := rfl
@[simp] theorem State.setBay_refcyc (s : State) (b : Nat) (x : Bay) : (s.setBay b x).refcyc = s.refcyc := rfl

@[simp] theorem State.setMrouter_pending (s : State) (k : Nat) (x : MeshRouter) : (s.setMrouter k x).pending = s.pending := rfl
@[simp] theorem State.setMrouter_tiles (s : State) (k : Nat) (x : MeshRouter) : (s.setMrouter k x).tiles = s.tiles := rfl
@[simp] theorem State.setMrouter_routers (s : State) (k : Nat) (x : MeshRouter) : (s.setMrouter k x).routers = s.routers := rfl
@[simp] theorem State.setMrouter_cantons (s : State) (k : Nat) (x : MeshRouter) : (s.setMrouter k x).cantons = s.cantons := rfl
@[simp] theorem State.setMrouter_clusters (s : State) (k : Nat) (x : MeshRouter) : (s.setMrouter k x).clusters = s.clusters := rfl
@[simp] theorem State.setMrouter_bays (s : State) (k : Nat) (x : MeshRouter) : (s.setMrouter k x).bays = s.bays := rfl
@[simp] theorem State.setMrouter_mem (s : State) (k : Nat) (x : MeshRouter) : (s.setMrouter k x).mem = s.mem := rfl
@[simp] theorem State.setMrouter_present (s : State) (k : Nat) (x : MeshRouter) : (s.setMrouter k x).present = s.present := rfl
@[simp] theorem State.setMrouter_requests (s : State) (k : Nat) (x : MeshRouter) : (s.setMrouter k x).requests = s.requests := rfl
@[simp] theorem State.setMrouter_bulkOps (s : State) (k : Nat) (x : MeshRouter) : (s.setMrouter k x).bulkOps = s.bulkOps := rfl
@[simp] theorem State.setMrouter_nextOp (s : State) (k : Nat) (x : MeshRouter) : (s.setMrouter k x).nextOp = s.nextOp := rfl
@[simp] theorem State.setMrouter_halPart (s : State) (k : Nat) (x : MeshRouter) : (s.setMrouter k x).halPart = s.halPart := rfl
@[simp] theorem State.setMrouter_halAgents (s : State) (k : Nat) (x : MeshRouter) : (s.setMrouter k x).halAgents = s.halAgents := rfl
@[simp] theorem State.setMrouter_rounds (s : State) (k : Nat) (x : MeshRouter) : (s.setMrouter k x).rounds = s.rounds := rfl
@[simp] theorem State.setMrouter_eround (s : State) (k : Nat) (x : MeshRouter) : (s.setMrouter k x).eround = s.eround := rfl
@[simp] theorem State.setMrouter_slices (s : State) (k : Nat) (x : MeshRouter) : (s.setMrouter k x).slices = s.slices := rfl
@[simp] theorem State.setMrouter_pennOut (s : State) (k : Nat) (x : MeshRouter) : (s.setMrouter k x).pennOut = s.pennOut := rfl
@[simp] theorem State.setMrouter_pennIn (s : State) (k : Nat) (x : MeshRouter) : (s.setMrouter k x).pennIn = s.pennIn := rfl
@[simp] theorem State.setMrouter_host (s : State) (k : Nat) (x : MeshRouter) : (s.setMrouter k x).host = s.host := rfl
@[simp] theorem State.setMrouter_ports (s : State) (k : Nat) (x : MeshRouter) : (s.setMrouter k x).ports = s.ports := rfl
@[simp] theorem State.setMrouter_err (s : State) (k : Nat) (x : MeshRouter) : (s.setMrouter k x).err = s.err := rfl
@[simp] theorem State.setMrouter_mgmt (s : State) (k : Nat) (x : MeshRouter) : (s.setMrouter k x).mgmt = s.mgmt := rfl
@[simp] theorem State.setMrouter_regs (s : State) (k : Nat) (x : MeshRouter) : (s.setMrouter k x).regs = s.regs := rfl
@[simp] theorem State.setMrouter_refcyc (s : State) (k : Nat) (x : MeshRouter) : (s.setMrouter k x).refcyc = s.refcyc := rfl

@[simp] theorem State.setSlice_pending (s : State) (n : Nat) (x : Slice) : (s.setSlice n x).pending = s.pending := rfl
@[simp] theorem State.setSlice_tiles (s : State) (n : Nat) (x : Slice) : (s.setSlice n x).tiles = s.tiles := rfl
@[simp] theorem State.setSlice_routers (s : State) (n : Nat) (x : Slice) : (s.setSlice n x).routers = s.routers := rfl
@[simp] theorem State.setSlice_cantons (s : State) (n : Nat) (x : Slice) : (s.setSlice n x).cantons = s.cantons := rfl
@[simp] theorem State.setSlice_clusters (s : State) (n : Nat) (x : Slice) : (s.setSlice n x).clusters = s.clusters := rfl
@[simp] theorem State.setSlice_bays (s : State) (n : Nat) (x : Slice) : (s.setSlice n x).bays = s.bays := rfl
@[simp] theorem State.setSlice_mesh (s : State) (n : Nat) (x : Slice) : (s.setSlice n x).mesh = s.mesh := rfl
@[simp] theorem State.setSlice_mem (s : State) (n : Nat) (x : Slice) : (s.setSlice n x).mem = s.mem := rfl
@[simp] theorem State.setSlice_present (s : State) (n : Nat) (x : Slice) : (s.setSlice n x).present = s.present := rfl
@[simp] theorem State.setSlice_requests (s : State) (n : Nat) (x : Slice) : (s.setSlice n x).requests = s.requests := rfl
@[simp] theorem State.setSlice_bulkOps (s : State) (n : Nat) (x : Slice) : (s.setSlice n x).bulkOps = s.bulkOps := rfl
@[simp] theorem State.setSlice_nextOp (s : State) (n : Nat) (x : Slice) : (s.setSlice n x).nextOp = s.nextOp := rfl
@[simp] theorem State.setSlice_halPart (s : State) (n : Nat) (x : Slice) : (s.setSlice n x).halPart = s.halPart := rfl
@[simp] theorem State.setSlice_halAgents (s : State) (n : Nat) (x : Slice) : (s.setSlice n x).halAgents = s.halAgents := rfl
@[simp] theorem State.setSlice_rounds (s : State) (n : Nat) (x : Slice) : (s.setSlice n x).rounds = s.rounds := rfl
@[simp] theorem State.setSlice_eround (s : State) (n : Nat) (x : Slice) : (s.setSlice n x).eround = s.eround := rfl
@[simp] theorem State.setSlice_pennOut (s : State) (n : Nat) (x : Slice) : (s.setSlice n x).pennOut = s.pennOut := rfl
@[simp] theorem State.setSlice_pennIn (s : State) (n : Nat) (x : Slice) : (s.setSlice n x).pennIn = s.pennIn := rfl
@[simp] theorem State.setSlice_host (s : State) (n : Nat) (x : Slice) : (s.setSlice n x).host = s.host := rfl
@[simp] theorem State.setSlice_ports (s : State) (n : Nat) (x : Slice) : (s.setSlice n x).ports = s.ports := rfl
@[simp] theorem State.setSlice_err (s : State) (n : Nat) (x : Slice) : (s.setSlice n x).err = s.err := rfl
@[simp] theorem State.setSlice_mgmt (s : State) (n : Nat) (x : Slice) : (s.setSlice n x).mgmt = s.mgmt := rfl
@[simp] theorem State.setSlice_regs (s : State) (n : Nat) (x : Slice) : (s.setSlice n x).regs = s.regs := rfl
@[simp] theorem State.setSlice_refcyc (s : State) (n : Nat) (x : Slice) : (s.setSlice n x).refcyc = s.refcyc := rfl

@[simp] theorem State.setPort_pending (s : State) (p : Nat) (x : Port) : (s.setPort p x).pending = s.pending := rfl
@[simp] theorem State.setPort_tiles (s : State) (p : Nat) (x : Port) : (s.setPort p x).tiles = s.tiles := rfl
@[simp] theorem State.setPort_routers (s : State) (p : Nat) (x : Port) : (s.setPort p x).routers = s.routers := rfl
@[simp] theorem State.setPort_cantons (s : State) (p : Nat) (x : Port) : (s.setPort p x).cantons = s.cantons := rfl
@[simp] theorem State.setPort_clusters (s : State) (p : Nat) (x : Port) : (s.setPort p x).clusters = s.clusters := rfl
@[simp] theorem State.setPort_bays (s : State) (p : Nat) (x : Port) : (s.setPort p x).bays = s.bays := rfl
@[simp] theorem State.setPort_mesh (s : State) (p : Nat) (x : Port) : (s.setPort p x).mesh = s.mesh := rfl
@[simp] theorem State.setPort_mem (s : State) (p : Nat) (x : Port) : (s.setPort p x).mem = s.mem := rfl
@[simp] theorem State.setPort_present (s : State) (p : Nat) (x : Port) : (s.setPort p x).present = s.present := rfl
@[simp] theorem State.setPort_requests (s : State) (p : Nat) (x : Port) : (s.setPort p x).requests = s.requests := rfl
@[simp] theorem State.setPort_bulkOps (s : State) (p : Nat) (x : Port) : (s.setPort p x).bulkOps = s.bulkOps := rfl
@[simp] theorem State.setPort_nextOp (s : State) (p : Nat) (x : Port) : (s.setPort p x).nextOp = s.nextOp := rfl
@[simp] theorem State.setPort_halPart (s : State) (p : Nat) (x : Port) : (s.setPort p x).halPart = s.halPart := rfl
@[simp] theorem State.setPort_halAgents (s : State) (p : Nat) (x : Port) : (s.setPort p x).halAgents = s.halAgents := rfl
@[simp] theorem State.setPort_rounds (s : State) (p : Nat) (x : Port) : (s.setPort p x).rounds = s.rounds := rfl
@[simp] theorem State.setPort_eround (s : State) (p : Nat) (x : Port) : (s.setPort p x).eround = s.eround := rfl
@[simp] theorem State.setPort_slices (s : State) (p : Nat) (x : Port) : (s.setPort p x).slices = s.slices := rfl
@[simp] theorem State.setPort_pennOut (s : State) (p : Nat) (x : Port) : (s.setPort p x).pennOut = s.pennOut := rfl
@[simp] theorem State.setPort_pennIn (s : State) (p : Nat) (x : Port) : (s.setPort p x).pennIn = s.pennIn := rfl
@[simp] theorem State.setPort_host (s : State) (p : Nat) (x : Port) : (s.setPort p x).host = s.host := rfl
@[simp] theorem State.setPort_err (s : State) (p : Nat) (x : Port) : (s.setPort p x).err = s.err := rfl
@[simp] theorem State.setPort_mgmt (s : State) (p : Nat) (x : Port) : (s.setPort p x).mgmt = s.mgmt := rfl
@[simp] theorem State.setPort_regs (s : State) (p : Nat) (x : Port) : (s.setPort p x).regs = s.regs := rfl
@[simp] theorem State.setPort_refcyc (s : State) (p : Nat) (x : Port) : (s.setPort p x).refcyc = s.refcyc := rfl

@[simp] theorem State.setReg_pending (s : State) (off : Nat) (v : W64) : (s.setReg off v).pending = s.pending := rfl
@[simp] theorem State.setReg_tiles (s : State) (off : Nat) (v : W64) : (s.setReg off v).tiles = s.tiles := rfl
@[simp] theorem State.setReg_routers (s : State) (off : Nat) (v : W64) : (s.setReg off v).routers = s.routers := rfl
@[simp] theorem State.setReg_cantons (s : State) (off : Nat) (v : W64) : (s.setReg off v).cantons = s.cantons := rfl
@[simp] theorem State.setReg_clusters (s : State) (off : Nat) (v : W64) : (s.setReg off v).clusters = s.clusters := rfl
@[simp] theorem State.setReg_bays (s : State) (off : Nat) (v : W64) : (s.setReg off v).bays = s.bays := rfl
@[simp] theorem State.setReg_mesh (s : State) (off : Nat) (v : W64) : (s.setReg off v).mesh = s.mesh := rfl
@[simp] theorem State.setReg_mem (s : State) (off : Nat) (v : W64) : (s.setReg off v).mem = s.mem := rfl
@[simp] theorem State.setReg_present (s : State) (off : Nat) (v : W64) : (s.setReg off v).present = s.present := rfl
@[simp] theorem State.setReg_requests (s : State) (off : Nat) (v : W64) : (s.setReg off v).requests = s.requests := rfl
@[simp] theorem State.setReg_bulkOps (s : State) (off : Nat) (v : W64) : (s.setReg off v).bulkOps = s.bulkOps := rfl
@[simp] theorem State.setReg_nextOp (s : State) (off : Nat) (v : W64) : (s.setReg off v).nextOp = s.nextOp := rfl
@[simp] theorem State.setReg_halPart (s : State) (off : Nat) (v : W64) : (s.setReg off v).halPart = s.halPart := rfl
@[simp] theorem State.setReg_halAgents (s : State) (off : Nat) (v : W64) : (s.setReg off v).halAgents = s.halAgents := rfl
@[simp] theorem State.setReg_rounds (s : State) (off : Nat) (v : W64) : (s.setReg off v).rounds = s.rounds := rfl
@[simp] theorem State.setReg_eround (s : State) (off : Nat) (v : W64) : (s.setReg off v).eround = s.eround := rfl
@[simp] theorem State.setReg_slices (s : State) (off : Nat) (v : W64) : (s.setReg off v).slices = s.slices := rfl
@[simp] theorem State.setReg_pennOut (s : State) (off : Nat) (v : W64) : (s.setReg off v).pennOut = s.pennOut := rfl
@[simp] theorem State.setReg_pennIn (s : State) (off : Nat) (v : W64) : (s.setReg off v).pennIn = s.pennIn := rfl
@[simp] theorem State.setReg_host (s : State) (off : Nat) (v : W64) : (s.setReg off v).host = s.host := rfl
@[simp] theorem State.setReg_ports (s : State) (off : Nat) (v : W64) : (s.setReg off v).ports = s.ports := rfl
@[simp] theorem State.setReg_err (s : State) (off : Nat) (v : W64) : (s.setReg off v).err = s.err := rfl
@[simp] theorem State.setReg_mgmt (s : State) (off : Nat) (v : W64) : (s.setReg off v).mgmt = s.mgmt := rfl
@[simp] theorem State.setReg_refcyc (s : State) (off : Nat) (v : W64) : (s.setReg off v).refcyc = s.refcyc := rfl

@[simp] theorem State.fset_pending (s : State) (f : Fld) (v i : Nat) : (s.fset f v i).pending = s.pending := rfl
@[simp] theorem State.fset_tiles (s : State) (f : Fld) (v i : Nat) : (s.fset f v i).tiles = s.tiles := rfl
@[simp] theorem State.fset_routers (s : State) (f : Fld) (v i : Nat) : (s.fset f v i).routers = s.routers := rfl
@[simp] theorem State.fset_cantons (s : State) (f : Fld) (v i : Nat) : (s.fset f v i).cantons = s.cantons := rfl
@[simp] theorem State.fset_clusters (s : State) (f : Fld) (v i : Nat) : (s.fset f v i).clusters = s.clusters := rfl
@[simp] theorem State.fset_bays (s : State) (f : Fld) (v i : Nat) : (s.fset f v i).bays = s.bays := rfl
@[simp] theorem State.fset_mesh (s : State) (f : Fld) (v i : Nat) : (s.fset f v i).mesh = s.mesh := rfl
@[simp] theorem State.fset_mem (s : State) (f : Fld) (v i : Nat) : (s.fset f v i).mem = s.mem := rfl
@[simp] theorem State.fset_present (s : State) (f : Fld) (v i : Nat) : (s.fset f v i).present = s.present := rfl
@[simp] theorem State.fset_requests (s : State) (f : Fld) (v i : Nat) : (s.fset f v i).requests = s.requests := rfl
@[simp] theorem State.fset_bulkOps (s : State) (f : Fld) (v i : Nat) : (s.fset f v i).bulkOps = s.bulkOps := rfl
@[simp] theorem State.fset_nextOp (s : State) (f : Fld) (v i : Nat) : (s.fset f v i).nextOp = s.nextOp := rfl
@[simp] theorem State.fset_halPart (s : State) (f : Fld) (v i : Nat) : (s.fset f v i).halPart = s.halPart := rfl
@[simp] theorem State.fset_halAgents (s : State) (f : Fld) (v i : Nat) : (s.fset f v i).halAgents = s.halAgents := rfl
@[simp] theorem State.fset_rounds (s : State) (f : Fld) (v i : Nat) : (s.fset f v i).rounds = s.rounds := rfl
@[simp] theorem State.fset_eround (s : State) (f : Fld) (v i : Nat) : (s.fset f v i).eround = s.eround := rfl
@[simp] theorem State.fset_slices (s : State) (f : Fld) (v i : Nat) : (s.fset f v i).slices = s.slices := rfl
@[simp] theorem State.fset_pennOut (s : State) (f : Fld) (v i : Nat) : (s.fset f v i).pennOut = s.pennOut := rfl
@[simp] theorem State.fset_pennIn (s : State) (f : Fld) (v i : Nat) : (s.fset f v i).pennIn = s.pennIn := rfl
@[simp] theorem State.fset_host (s : State) (f : Fld) (v i : Nat) : (s.fset f v i).host = s.host := rfl
@[simp] theorem State.fset_ports (s : State) (f : Fld) (v i : Nat) : (s.fset f v i).ports = s.ports := rfl
@[simp] theorem State.fset_err (s : State) (f : Fld) (v i : Nat) : (s.fset f v i).err = s.err := rfl
@[simp] theorem State.fset_mgmt (s : State) (f : Fld) (v i : Nat) : (s.fset f v i).mgmt = s.mgmt := rfl
@[simp] theorem State.fset_refcyc (s : State) (f : Fld) (v i : Nat) : (s.fset f v i).refcyc = s.refcyc := rfl

@[simp] theorem State.finc_pending (s : State) (f : Fld) (i k : Nat) : (s.finc f i k).pending = s.pending := rfl
@[simp] theorem State.finc_tiles (s : State) (f : Fld) (i k : Nat) : (s.finc f i k).tiles = s.tiles := rfl
@[simp] theorem State.finc_routers (s : State) (f : Fld) (i k : Nat) : (s.finc f i k).routers = s.routers := rfl
@[simp] theorem State.finc_cantons (s : State) (f : Fld) (i k : Nat) : (s.finc f i k).cantons = s.cantons := rfl
@[simp] theorem State.finc_clusters (s : State) (f : Fld) (i k : Nat) : (s.finc f i k).clusters = s.clusters := rfl
@[simp] theorem State.finc_bays (s : State) (f : Fld) (i k : Nat) : (s.finc f i k).bays = s.bays := rfl
@[simp] theorem State.finc_mesh (s : State) (f : Fld) (i k : Nat) : (s.finc f i k).mesh = s.mesh := rfl
@[simp] theorem State.finc_mem (s : State) (f : Fld) (i k : Nat) : (s.finc f i k).mem = s.mem := rfl
@[simp] theorem State.finc_present (s : State) (f : Fld) (i k : Nat) : (s.finc f i k).present = s.present := rfl
@[simp] theorem State.finc_requests (s : State) (f : Fld) (i k : Nat) : (s.finc f i k).requests = s.requests := rfl
@[simp] theorem State.finc_bulkOps (s : State) (f : Fld) (i k : Nat) : (s.finc f i k).bulkOps = s.bulkOps := rfl
@[simp] theorem State.finc_nextOp (s : State) (f : Fld) (i k : Nat) : (s.finc f i k).nextOp = s.nextOp := rfl
@[simp] theorem State.finc_halPart (s : State) (f : Fld) (i k : Nat) : (s.finc f i k).halPart = s.halPart := rfl
@[simp] theorem State.finc_halAgents (s : State) (f : Fld) (i k : Nat) : (s.finc f i k).halAgents = s.halAgents := rfl
@[simp] theorem State.finc_rounds (s : State) (f : Fld) (i k : Nat) : (s.finc f i k).rounds = s.rounds := rfl
@[simp] theorem State.finc_eround (s : State) (f : Fld) (i k : Nat) : (s.finc f i k).eround = s.eround := rfl
@[simp] theorem State.finc_slices (s : State) (f : Fld) (i k : Nat) : (s.finc f i k).slices = s.slices := rfl
@[simp] theorem State.finc_pennOut (s : State) (f : Fld) (i k : Nat) : (s.finc f i k).pennOut = s.pennOut := rfl
@[simp] theorem State.finc_pennIn (s : State) (f : Fld) (i k : Nat) : (s.finc f i k).pennIn = s.pennIn := rfl
@[simp] theorem State.finc_host (s : State) (f : Fld) (i k : Nat) : (s.finc f i k).host = s.host := rfl
@[simp] theorem State.finc_ports (s : State) (f : Fld) (i k : Nat) : (s.finc f i k).ports = s.ports := rfl
@[simp] theorem State.finc_err (s : State) (f : Fld) (i k : Nat) : (s.finc f i k).err = s.err := rfl
@[simp] theorem State.finc_mgmt (s : State) (f : Fld) (i k : Nat) : (s.finc f i k).mgmt = s.mgmt := rfl
@[simp] theorem State.finc_refcyc (s : State) (f : Fld) (i k : Nat) : (s.finc f i k).refcyc = s.refcyc := rfl

@[simp] theorem State.updHost_pending (s : State) (f : HostIf → HostIf) : (s.updHost f).pending = s.pending := rfl
@[simp] theorem State.updHost_tiles (s : State) (f : HostIf → HostIf) : (s.updHost f).tiles = s.tiles := rfl
@[simp] theorem State.updHost_routers (s : State) (f : HostIf → HostIf) : (s.updHost f).routers = s.routers := rfl
@[simp] theorem State.updHost_cantons (s : State) (f : HostIf → HostIf) : (s.updHost f).cantons = s.cantons := rfl
@[simp] theorem State.updHost_clusters (s : State) (f : HostIf → HostIf) : (s.updHost f).clusters = s.clusters := rfl
@[simp] theorem State.updHost_bays (s : State) (f : HostIf → HostIf) : (s.updHost f).bays = s.bays := rfl
@[simp] theorem State.updHost_mesh (s : State) (f : HostIf → HostIf) : (s.updHost f).mesh = s.mesh := rfl
@[simp] theorem State.updHost_mem (s : State) (f : HostIf → HostIf) : (s.updHost f).mem = s.mem := rfl
@[simp] theorem State.updHost_present (s : State) (f : HostIf → HostIf) : (s.updHost f).present = s.present := rfl
@[simp] theorem State.updHost_requests (s : State) (f : HostIf → HostIf) : (s.updHost f).requests = s.requests := rfl
@[simp] theorem State.updHost_bulkOps (s : State) (f : HostIf → HostIf) : (s.updHost f).bulkOps = s.bulkOps := rfl
@[simp] theorem State.updHost_nextOp (s : State) (f : HostIf → HostIf) : (s.updHost f).nextOp = s.nextOp := rfl
@[simp] theorem State.updHost_halPart (s : State) (f : HostIf → HostIf) : (s.updHost f).halPart = s.halPart := rfl
@[simp] theorem State.updHost_halAgents (s : State) (f : HostIf → HostIf) : (s.updHost f).halAgents = s.halAgents := rfl
@[simp] theorem State.updHost_rounds (s : State) (f : HostIf → HostIf) : (s.updHost f).rounds = s.rounds := rfl
@[simp] theorem State.updHost_eround (s : State) (f : HostIf → HostIf) : (s.updHost f).eround = s.eround := rfl
@[simp] theorem State.updHost_slices (s : State) (f : HostIf → HostIf) : (s.updHost f).slices = s.slices := rfl
@[simp] theorem State.updHost_pennOut (s : State) (f : HostIf → HostIf) : (s.updHost f).pennOut = s.pennOut := rfl
@[simp] theorem State.updHost_pennIn (s : State) (f : HostIf → HostIf) : (s.updHost f).pennIn = s.pennIn := rfl
@[simp] theorem State.updHost_ports (s : State) (f : HostIf → HostIf) : (s.updHost f).ports = s.ports := rfl
@[simp] theorem State.updHost_err (s : State) (f : HostIf → HostIf) : (s.updHost f).err = s.err := rfl
@[simp] theorem State.updHost_mgmt (s : State) (f : HostIf → HostIf) : (s.updHost f).mgmt = s.mgmt := rfl
@[simp] theorem State.updHost_regs (s : State) (f : HostIf → HostIf) : (s.updHost f).regs = s.regs := rfl
@[simp] theorem State.updHost_refcyc (s : State) (f : HostIf → HostIf) : (s.updHost f).refcyc = s.refcyc := rfl

@[simp] theorem State.updMgmt_pending (s : State) (f : Mgmt → Mgmt) : (s.updMgmt f).pending = s.pending := rfl
@[simp] theorem State.updMgmt_tiles (s : State) (f : Mgmt → Mgmt) : (s.updMgmt f).tiles = s.tiles := rfl
@[simp] theorem State.updMgmt_routers (s : State) (f : Mgmt → Mgmt) : (s.updMgmt f).routers = s.routers := rfl
@[simp] theorem State.updMgmt_cantons (s : State) (f : Mgmt → Mgmt) : (s.updMgmt f).cantons = s.cantons := rfl
@[simp] theorem State.updMgmt_clusters (s : State) (f : Mgmt → Mgmt) : (s.updMgmt f).clusters = s.clusters := rfl
@[simp] theorem State.updMgmt_bays (s : State) (f : Mgmt → Mgmt) : (s.updMgmt f).bays = s.bays := rfl
@[simp] theorem State.updMgmt_mesh (s : State) (f : Mgmt → Mgmt) : (s.updMgmt f).mesh = s.mesh := rfl
@[simp] theorem State.updMgmt_mem (s : State) (f : Mgmt → Mgmt) : (s.updMgmt f).mem = s.mem := rfl
@[simp] theorem State.updMgmt_present (s : State) (f : Mgmt → Mgmt) : (s.updMgmt f).present = s.present := rfl
@[simp] theorem State.updMgmt_requests (s : State) (f : Mgmt → Mgmt) : (s.updMgmt f).requests = s.requests := rfl
@[simp] theorem State.updMgmt_bulkOps (s : State) (f : Mgmt → Mgmt) : (s.updMgmt f).bulkOps = s.bulkOps := rfl
@[simp] theorem State.updMgmt_nextOp (s : State) (f : Mgmt → Mgmt) : (s.updMgmt f).nextOp = s.nextOp := rfl
@[simp] theorem State.updMgmt_halPart (s : State) (f : Mgmt → Mgmt) : (s.updMgmt f).halPart = s.halPart := rfl
@[simp] theorem State.updMgmt_halAgents (s : State) (f : Mgmt → Mgmt) : (s.updMgmt f).halAgents = s.halAgents := rfl
@[simp] theorem State.updMgmt_rounds (s : State) (f : Mgmt → Mgmt) : (s.updMgmt f).rounds = s.rounds := rfl
@[simp] theorem State.updMgmt_eround (s : State) (f : Mgmt → Mgmt) : (s.updMgmt f).eround = s.eround := rfl
@[simp] theorem State.updMgmt_slices (s : State) (f : Mgmt → Mgmt) : (s.updMgmt f).slices = s.slices := rfl
@[simp] theorem State.updMgmt_pennOut (s : State) (f : Mgmt → Mgmt) : (s.updMgmt f).pennOut = s.pennOut := rfl
@[simp] theorem State.updMgmt_pennIn (s : State) (f : Mgmt → Mgmt) : (s.updMgmt f).pennIn = s.pennIn := rfl
@[simp] theorem State.updMgmt_host (s : State) (f : Mgmt → Mgmt) : (s.updMgmt f).host = s.host := rfl
@[simp] theorem State.updMgmt_ports (s : State) (f : Mgmt → Mgmt) : (s.updMgmt f).ports = s.ports := rfl
@[simp] theorem State.updMgmt_err (s : State) (f : Mgmt → Mgmt) : (s.updMgmt f).err = s.err := rfl
@[simp] theorem State.updMgmt_regs (s : State) (f : Mgmt → Mgmt) : (s.updMgmt f).regs = s.regs := rfl
@[simp] theorem State.updMgmt_refcyc (s : State) (f : Mgmt → Mgmt) : (s.updMgmt f).refcyc = s.refcyc := rfl

@[simp] theorem State.updMem_pending (s : State) (f : Memory → Memory) : (s.updMem f).pending = s.pending := rfl
@[simp] theorem State.updMem_tiles (s : State) (f : Memory → Memory) : (s.updMem f).tiles = s.tiles := rfl
@[simp] theorem State.updMem_routers (s : State) (f : Memory → Memory) : (s.updMem f).routers = s.routers := rfl
@[simp] theorem State.updMem_cantons (s : State) (f : Memory → Memory) : (s.updMem f).cantons = s.cantons := rfl
@[simp] theorem State.updMem_clusters (s : State) (f : Memory → Memory) : (s.updMem f).clusters = s.clusters := rfl
@[simp] theorem State.updMem_bays (s : State) (f : Memory → Memory) : (s.updMem f).bays = s.bays := rfl
@[simp] theorem State.updMem_mesh (s : State) (f : Memory → Memory) : (s.updMem f).mesh = s.mesh := rfl
@[simp] theorem State.updMem_present (s : State) (f : Memory → Memory) : (s.updMem f).present = s.present := rfl
@[simp] theorem State.updMem_requests (s : State) (f : Memory → Memory) : (s.updMem f).requests = s.requests := rfl
@[simp] theorem State.updMem_bulkOps (s : State) (f : Memory → Memory) : (s.updMem f).bulkOps = s.bulkOps := rfl
@[simp] theorem State.updMem_nextOp (s : State) (f : Memory → Memory) : (s.updMem f).nextOp = s.nextOp := rfl
@[simp] theorem State.updMem_halPart (s : State) (f : Memory → Memory) : (s.updMem f).halPart = s.halPart := rfl
@[simp] theorem State.updMem_halAgents (s : State) (f : Memory → Memory) : (s.updMem f).halAgents = s.halAgents := rfl
@[simp] theorem State.updMem_rounds (s : State) (f : Memory → Memory) : (s.updMem f).rounds = s.rounds := rfl
@[simp] theorem State.updMem_eround (s : State) (f : Memory → Memory) : (s.updMem f).eround = s.eround := rfl
@[simp] theorem State.updMem_slices (s : State) (f : Memory → Memory) : (s.updMem f).slices = s.slices := rfl
@[simp] theorem State.updMem_pennOut (s : State) (f : Memory → Memory) : (s.updMem f).pennOut = s.pennOut := rfl
@[simp] theorem State.updMem_pennIn (s : State) (f : Memory → Memory) : (s.updMem f).pennIn = s.pennIn := rfl
@[simp] theorem State.updMem_host (s : State) (f : Memory → Memory) : (s.updMem f).host = s.host := rfl
@[simp] theorem State.updMem_ports (s : State) (f : Memory → Memory) : (s.updMem f).ports = s.ports := rfl
@[simp] theorem State.updMem_err (s : State) (f : Memory → Memory) : (s.updMem f).err = s.err := rfl
@[simp] theorem State.updMem_mgmt (s : State) (f : Memory → Memory) : (s.updMem f).mgmt = s.mgmt := rfl
@[simp] theorem State.updMem_regs (s : State) (f : Memory → Memory) : (s.updMem f).regs = s.regs := rfl
@[simp] theorem State.updMem_refcyc (s : State) (f : Memory → Memory) : (s.updMem f).refcyc = s.refcyc := rfl

@[simp] theorem State.tile_setTile_same (s : State) (i : Nat) (x : Tile) : (s.setTile i x).tile i = x :=
  SMap.get_put_same _ _ _ _
theorem State.tile_setTile_ne (s : State) (i j : Nat) (x : Tile) (h : j ≠ i) : (s.setTile i x).tile j = s.tile j :=
  SMap.get_put_ne _ _ _ _ _ h

@[simp] theorem State.router_setRouter_same (s : State) (i : Nat) (x : Router) : (s.setRouter i x).router i = x :=
  SMap.get_put_same _ _ _ _
theorem State.router_setRouter_ne (s : State) (i j : Nat) (x : Router) (h : j ≠ i) : (s.setRouter i x).router j = s.router j :=
  SMap.get_put_ne _ _ _ _ _ h

@[simp] theorem State.canton_setCanton_same (s : State) (i : Nat) (x : Canton) : (s.setCanton i x).canton i = x :=
  SMap.get_put_same _ _ _ _
theorem State.canton_setCanton_ne (s : State) (i j : Nat) (x : Canton) (h : j ≠ i) : (s.setCanton i x).canton j = s.canton j :=
  SMap.get_put_ne _ _ _ _ _ h

@[simp] theorem State.cluster_setCluster_same (s : State) (i : Nat) (x : Cluster) : (s.setCluster i x).cluster i = x :=
  SMap.get_put_same _ _ _ _
theorem State.cluster_setCluster_ne (s : State) (i j : Nat) (x : Cluster) (h : j ≠ i) : (s.setCluster i x).cluster j = s.cluster j :=
  SMap.get_put_ne _ _ _ _ _ h

@[simp] theorem State.bay_setBay_same (s : State) (i : Nat) (x : Bay) : (s.setBay i x).bay i = x :=
  SMap.get_put_same _ _ _ _
theorem State.bay_setBay_ne (s : State) (i j : Nat) (x : Bay) (h : j ≠ i) : (s.setBay i x).bay j = s.bay j :=
  SMap.get_put_ne _ _ _ _ _ h

@[simp] theorem State.mrouter_setMrouter_same (s : State) (i : Nat) (x : MeshRouter) : (s.setMrouter i x).mrouter i = x :=
  SMap.get_put_same _ _ _ _
theorem State.mrouter_setMrouter_ne (s : State) (i j : Nat) (x : MeshRouter) (h : j ≠ i) : (s.setMrouter i x).mrouter j = s.mrouter j :=
  SMap.get_put_ne _ _ _ _ _ h

@[simp] theorem State.slice_setSlice_same (s : State) (i : Nat) (x : Slice) : (s.setSlice i x).slice i = x :=
  SMap.get_put_same _ _ _ _
theorem State.slice_setSlice_ne (s : State) (i j : Nat) (x : Slice) (h : j ≠ i) : (s.setSlice i x).slice j = s.slice j :=
  SMap.get_put_ne _ _ _ _ _ h

@[simp] theorem State.port_setPort_same (s : State) (i : Nat) (x : Port) : (s.setPort i x).port i = x :=
  SMap.get_put_same _ _ _ _
theorem State.port_setPort_ne (s : State) (i j : Nat) (x : Port) (h : j ≠ i) : (s.setPort i x).port j = s.port j :=
  SMap.get_put_ne _ _ _ _ _ h

end Sys2Proof.Machine
end

