-- ==== Sys2Proof/Laws/Regs.lean ====
section
/-! SUPPORT. The laws of registers and their fields (R8, R10): a field reads as it was set, every other field keeps its
value. -/
namespace Sys2Proof.Machine

@[simp] theorem State.reg_setReg_same (s : State) (o : Nat) (v : W64) : (s.setReg o v).reg o = v :=
  SMap.get_put_same _ _ _ _

theorem State.reg_setReg_ne (s : State) (o j : Nat) (v : W64) (h : j ≠ o) : (s.setReg o v).reg j = s.reg j := by
  unfold State.reg State.setReg SMap.put
  dsimp only
  split
  · exact SMap.get_del_ne _ _ _ _ h
  · exact SMap.get_ins_ne _ _ _ _ _ h

/-- A field of a 64-bit register. -/
def Fld.fits (f : Fld) : Prop := f.lo + f.n ≤ 64

theorem fld_split (w lo n : Nat) : w = w / 2 ^ (lo + n) * 2 ^ (lo + n) + fld w lo n * 2 ^ lo + w % 2 ^ lo := by
  unfold fld
  rw [Nat.shiftRight_eq_div_pow, Nat.pow_add]
  have h1 := Nat.div_add_mod w (2 ^ lo)
  have h2 := Nat.div_add_mod (w / 2 ^ lo) (2 ^ n)
  rw [Nat.div_div_eq_div_mul] at h2
  calc w = 2 ^ lo * (w / 2 ^ lo) + w % 2 ^ lo := h1.symm
    _ = 2 ^ lo * (2 ^ n * (w / (2 ^ lo * 2 ^ n)) + w / 2 ^ lo % 2 ^ n) + w % 2 ^ lo := by rw [h2]
    _ = _ := by ring

/-- The word after a field is set: its upper part, the new field, its lower part. -/
theorem fset_word (w v lo n : Nat) : w - fld w lo n * 2 ^ lo + v % 2 ^ n * 2 ^ lo =
    w / 2 ^ (lo + n) * 2 ^ (lo + n) + v % 2 ^ n * 2 ^ lo + w % 2 ^ lo := by
  have h := fld_split w lo n
  omega

theorem fset_word_lt (w v lo n : Nat) (hw : w < 2 ^ 64) (hf : lo + n ≤ 64) :
    w / 2 ^ (lo + n) * 2 ^ (lo + n) + v % 2 ^ n * 2 ^ lo + w % 2 ^ lo < 2 ^ 64 := by
  have h1 : w / 2 ^ (lo + n) < 2 ^ (64 - (lo + n)) := by
    rw [Nat.div_lt_iff_lt_mul (by positivity), ← Nat.pow_add]
    rwa [Nat.sub_add_cancel hf]
  have h2 : v % 2 ^ n < 2 ^ n := Nat.mod_lt _ (by positivity)
  have h3 : w % 2 ^ lo < 2 ^ lo := Nat.mod_lt _ (by positivity)
  have h4 : 2 ^ 64 = 2 ^ (64 - (lo + n)) * 2 ^ (lo + n) := by rw [← Nat.pow_add, Nat.sub_add_cancel hf]
  have h5 : v % 2 ^ n * 2 ^ lo + w % 2 ^ lo < 2 ^ (lo + n) := by
    rw [Nat.pow_add]
    calc v % 2 ^ n * 2 ^ lo + w % 2 ^ lo < v % 2 ^ n * 2 ^ lo + 2 ^ lo := by omega
      _ = (v % 2 ^ n + 1) * 2 ^ lo := by ring
      _ ≤ 2 ^ n * 2 ^ lo := Nat.mul_le_mul_right _ h2
      _ = 2 ^ lo * 2 ^ n := by ring
  rw [h4]
  calc _ < w / 2 ^ (lo + n) * 2 ^ (lo + n) + 2 ^ (lo + n) := by omega
    _ = (w / 2 ^ (lo + n) + 1) * 2 ^ (lo + n) := by ring
    _ ≤ _ := Nat.mul_le_mul_right _ h1

/-- The register after a field is set, as a number. -/
theorem State.reg_fset_toNat (s : State) (f : Fld) (v i : Nat) (hf : f.fits) :
    ((s.fset f v i).reg (f.off + i * 0x10000)).toNat =
      (s.reg (f.off + i * 0x10000)).toNat / 2 ^ (f.lo + f.n) * 2 ^ (f.lo + f.n) + v % 2 ^ f.n * 2 ^ f.lo +
        (s.reg (f.off + i * 0x10000)).toNat % 2 ^ f.lo := by
  have hw := (s.reg (f.off + i * 0x10000)).isLt
  simp only [State.fset, State.reg_setReg_same, BitVec.toNat_ofNat, fset_word]
  exact Nat.mod_eq_of_lt (fset_word_lt _ _ _ _ hw hf)

/-- Bit b of the register after a field is set: the new value's inside the field, as before outside it. -/
theorem State.reg_fset_bit (s : State) (f : Fld) (v i b : Nat) (hf : f.fits) :
    ((s.fset f v i).reg (f.off + i * 0x10000)).getLsbD b =
      if f.lo ≤ b ∧ b < f.lo + f.n then v.testBit (b - f.lo) else (s.reg (f.off + i * 0x10000)).getLsbD b := by
  rw [← BitVec.testBit_toNat, ← BitVec.testBit_toNat, State.reg_fset_toNat s f v i hf]
  have h3 : (s.reg (f.off + i * 0x10000)).toNat % 2 ^ f.lo < 2 ^ f.lo := Nat.mod_lt _ (by positivity)
  have hm : v % 2 ^ f.n < 2 ^ f.n := Nat.mod_lt _ (by positivity)
  generalize (s.reg (f.off + i * 0x10000)).toNat = w at *
  have e : w / 2 ^ (f.lo + f.n) * 2 ^ (f.lo + f.n) + v % 2 ^ f.n * 2 ^ f.lo + w % 2 ^ f.lo =
      2 ^ f.lo * (2 ^ f.n * (w / 2 ^ (f.lo + f.n)) + v % 2 ^ f.n) + w % 2 ^ f.lo := by rw [Nat.pow_add]; ring
  rw [e, Nat.testBit_two_pow_mul_add _ h3, Nat.testBit_two_pow_mul_add _ hm]
  split
  · rw [if_neg (by omega)]
    simp only [Nat.testBit_mod_two_pow]
    simp_all
  · split
    · rw [if_pos (by omega)]
      simp only [Nat.testBit_mod_two_pow]
      simp_all
    · rw [if_neg (by omega)]
      rw [← Nat.shiftRight_eq_div_pow, Nat.testBit_shiftRight]
      congr 1
      omega

/-- A field reads as it was set. -/
theorem State.fget_fset_same (s : State) (f : Fld) (v i : Nat) (hf : f.fits) :
    (s.fset f v i).fget f i = v % 2 ^ f.n := by
  apply Nat.eq_of_testBit_eq
  intro j
  simp only [State.fget, fld, Nat.testBit_mod_two_pow, Nat.testBit_shiftRight, BitVec.testBit_toNat,
    State.reg_fset_bit s f v i _ hf]
  by_cases hj : j < f.n
  · simp [hj]
  · simp [hj]

/-- A field of another register keeps its value. -/
theorem State.fget_fset_reg (s : State) (f g : Fld) (v i j : Nat) (h : g.off + j * 0x10000 ≠ f.off + i * 0x10000) :
    (s.fset f v i).fget g j = s.fget g j := by
  unfold State.fget State.fset
  rw [State.reg_setReg_ne _ _ _ _ h]

/-- A disjoint field of the same register keeps its value. -/
theorem State.fget_fset_disjoint (s : State) (f g : Fld) (v i j : Nat) (hf : f.fits)
    (h : g.off + j * 0x10000 = f.off + i * 0x10000) (hd : g.lo + g.n ≤ f.lo ∨ f.lo + f.n ≤ g.lo) :
    (s.fset f v i).fget g j = s.fget g j := by
  apply Nat.eq_of_testBit_eq
  intro k
  simp only [State.fget, fld, Nat.testBit_mod_two_pow, Nat.testBit_shiftRight, BitVec.testBit_toNat, h,
    State.reg_fset_bit s f v i _ hf]
  by_cases hk : k < g.n
  · rw [if_neg (by omega)]
  · simp [hk]

/-- An incremented field saturates. -/
theorem State.fget_finc (s : State) (f : Fld) (i k : Nat) (hf : f.fits) :
    (s.finc f i k).fget f i = satAdd f.n (s.fget f i) k := by
  rw [State.finc, State.fget_fset_same _ _ _ _ hf]
  apply Nat.mod_eq_of_lt
  unfold satAdd
  have : 0 < 2 ^ f.n := by positivity
  omega

end Sys2Proof.Machine
end

