-- ==== Sys2Proof/Laws/Tile.lean ====
section
/-! SUPPORT. What the shared operations of the tile do: an instruction that is ready runs its start once and nothing more,
reads of clean words change nothing, and the counters and poison tags touch no other field. -/
namespace Sys2Proof.Machine

theorem Tile.count_syn (a b) (t : Tile) : (t.count a b).syn = t.syn := by unfold Tile.count; split <;> rfl
theorem Tile.count_inflight (a b) (t : Tile) : (t.count a b).inflight = t.inflight := by unfold Tile.count; split <;> rfl
theorem rider_inflight (t : Tile) (h) : (t.rider h).inflight = t.inflight := by
  unfold Tile.rider Tile.setP; split <;> split <;> rfl
theorem rider_status (t : Tile) (h) : (t.rider h).status = t.status := by
  unfold Tile.rider Tile.setP; split <;> split <;> rfl
theorem Tile.inflight_self (t : Tile) (h : t.inflight = []) : { t with inflight := [] } = t := by
  cases t; simp_all

theorem TX.settle_quiet (x : TX) (chk) (n) (h : x.tile.inflight = []) : x.settle chk n = x := by
  cases n with
  | zero => rfl
  | succ n =>
    have : x.pumpAll false chk = x := by
      simp only [TX.pumpAll, h, List.foldl_nil, TX.upd]
      cases x; simp only [TX.mk.injEq, true_and, and_true]; exact Tile.inflight_self _ h
    simp [TX.settle, this]

theorem unheld_quiet (t : Tile) (op b) (h : t.inflight = []) : unheld t op b = true := by
  simp [unheld, h]

theorem TX.issue_plain (x : TX) (h : Head) (op : TOp) (chk) (y : TX)
   (hy : (x.count 2 1).start h op false chk = (none, y)) (hs : y.stop = none) :
   x.issue h op false false chk = y.upd fun t => t.rider h := by
  have e : (x.count 2 1).issueWork h op false false chk = y.upd fun t => t.rider h := by
    simp only [TX.issueWork, hy, hs, TX.upd, Option.isSome_none, Bool.false_eq_true, if_false, Option.toList,
      List.append_nil, TX.hasIssued, if_true]
  simp only [TX.issue, e]
  simp [TX.hasIssued, TX.upd, hs]

theorem TX.no_skip (x : TX) (op : TOp) (hg : isGmac op = false) : x.skips op = false := by
  cases op <;> first | rfl | simp [isGmac] at hg

theorem TX.instr_plain (x : TX) (h : Head) (op : TOp) (chk) (y : TX) (hg : isGmac op = false)
    (h1 : x.tile.status.stopped = false) (h2 : triggered x.tile h = true) (h3 : TOp.legal h op = true)
    (h4 : ownReady x.tile op = true) (h5 : x.tile.inflight = [])
    (hy : (x.count 2 1).start h op false chk = (none, y)) (hs : y.stop = none) (hq : y.tile.inflight = []) :
    x.instr h op chk = y.upd fun t => t.rider h := by
  have e := TX.issue_plain x h op chk y hy hs
  simp only [TX.instr, h1, h2, h3, h4, unheld_quiet _ _ _ h5]
  simp only [Bool.not_true, Bool.or_self, Bool.false_eq_true, if_false, TX.no_skip x op hg]
  rw [e, TX.settle_quiet]
  simp [TX.upd, rider_inflight, hq]

/-- A probe that stays as it was is told nobody. -/
theorem tellProbe_same (s : State) (t : Nat) (b : Bool) (h : (s.tile t).status.probe = b) : s.tellProbe t b = s := by
  simp [State.tellProbe, h]

theorem seen_status (s : State) (t : Nat) : (s.seen t).status = (s.tile t).status := rfl
theorem unhide_status (s : State) (t : Nat) (x : Tile) : (s.unhide t x).status = x.status := rfl
theorem tx_tile (s : State) (t n w) : (s.tx t n w).tile = s.seen t := rfl

/-- An instruction that raises nothing puts its tile and its memory back; it may hand one thing on. -/
theorem put_core (s : State) (t : Nat) (y : TX) (h : Head) (hs : y.stop = none) (hr : y.recs = [])
    (hp : y.tile.status.probe = (s.seen t).status.probe) :
    s.put t (y.upd fun u => u.rider h) =
      y.ext.foldl (fun s e => s.handOn t e) { s.setTile t (s.unhide t (y.tile.rider h)) with mem := y.mem } := by
  have e : ({ s.setTile t (s.unhide t (y.tile.rider h)) with mem := y.mem } : State).tellProbe t (s.tile t).status.probe =
      { s.setTile t (s.unhide t (y.tile.rider h)) with mem := y.mem } := by
    apply tellProbe_same
    show ((s.setTile t (s.unhide t (y.tile.rider h))).tile t).status.probe = _
    rw [State.tile_setTile_same, unhide_status, rider_status, hp, seen_status]
  simp only [State.put, TX.upd, hs, hr, List.map_nil, State.reports, List.foldl_nil]
  rw [e]

theorem instr_ready (s : State) (p : At) (op : TOp) (chk) (h : Ready s p op) (y : TX) (hg : isGmac op = false)
    (hy : ((s.tx p.tile p.n (TInstr.word ⟨p.hd, op⟩)).count 2 1).start p.hd op false chk = (none, y))
    (hs : y.stop = none) (hq : y.tile.inflight = []) :
    (s.tx p.tile p.n (TInstr.word ⟨p.hd, op⟩)).instr p.hd op chk = y.upd fun t => t.rider p.hd := by
  apply TX.instr_plain _ p.hd op chk y hg _ _ h.legal _ _ hy hs hq
  · rw [tx_tile]; exact h.running
  · rw [tx_tile]; exact h.trig
  · rw [tx_tile]; exact h.own
  · rw [tx_tile]; exact h.quiet

theorem runInstr_plain (s : State) (p : At) (op : TOp) (chk) (h : Ready s p op) (y : TX)
   (hg : isGmac op = false)
   (hy : ((s.tx p.tile p.n (TInstr.word ⟨p.hd, op⟩)).count 2 1).start p.hd op false chk = (none, y))
   (hs : y.stop = none) (hq : y.tile.inflight = []) (hm : y.mem = s.mem) (hr : y.recs = []) (he : y.ext = [])
   (hp : y.tile.status.probe = (s.seen p.tile).status.probe) :
   s.runInstr p op chk = s.setTile p.tile (s.unhide p.tile (y.tile.rider p.hd)) := by
  rw [State.runInstr, if_pos h.present, instr_ready s p op chk h y hg hy hs hq, put_core s _ y _ hs hr hp, he, hm]
  rfl

theorem TX.touch_clean (x : TX) (a b c) (h : x.tile.syn = []) : x.touch a b c = x := by
  simp [TX.touch, h]
theorem TX.eat (x : TX) (b : Bool) : x.eatPoison b = x.upd fun t => t.met b := by
  cases b <;> simp [TX.eatPoison, Tile.met, TX.upd, TX.count]
theorem Tile.met_syn (t : Tile) (b) : (t.met b).syn = t.syn := by
  unfold Tile.met; split <;> simp [Tile.count_syn]
theorem Tile.met_inflight (t : Tile) (b) : (t.met b).inflight = t.inflight := by
  unfold Tile.met; split <;> simp [Tile.count_inflight]
theorem Tile.count_status (a b) (t : Tile) : (t.count a b).status = t.status := by unfold Tile.count; split <;> rfl
theorem Tile.count_g (a b) (t : Tile) : (t.count a b).g = t.g := by unfold Tile.count; split <;> rfl
theorem Tile.count_gTag (a b) (t : Tile) : (t.count a b).gTag = t.gTag := by unfold Tile.count; split <;> rfl
theorem Tile.count_v (a b) (t : Tile) : (t.count a b).v = t.v := by unfold Tile.count; split <;> rfl
theorem Tile.count_vTag (a b) (t : Tile) : (t.count a b).vTag = t.vTag := by unfold Tile.count; split <;> rfl
theorem Tile.count_tables (a b) (t : Tile) : (t.count a b).tables = t.tables := by unfold Tile.count; split <;> rfl
theorem Tile.count_iq (a b) (t : Tile) : (t.count a b).iq = t.iq := by unfold Tile.count; split <;> rfl
theorem Tile.count_epoch (a b) (t : Tile) : (t.count a b).epoch = t.epoch := by unfold Tile.count; split <;> rfl
theorem Tile.met_g (t : Tile) (b) : (t.met b).g = t.g := by unfold Tile.met; split <;> simp [Tile.count_g]
theorem Tile.met_gTag (t : Tile) (b) : (t.met b).gTag = t.gTag := by unfold Tile.met; split <;> simp [Tile.count_gTag]
theorem Tile.met_v (t : Tile) (b) : (t.met b).v = t.v := by unfold Tile.met; split <;> simp [Tile.count_v]
theorem Tile.met_vTag (t : Tile) (b) : (t.met b).vTag = t.vTag := by unfold Tile.met; split <;> simp [Tile.count_vTag]
theorem Tile.met_tables (t : Tile) (b) : (t.met b).tables = t.tables := by unfold Tile.met; split <;> simp [Tile.count_tables]
theorem Tile.met_probe (t : Tile) (b) : (t.met b).status.probe = t.status.probe := by unfold Tile.met; split <;> simp [Tile.count_status]

/-- the base of the tile at work -/
theorem tx_count (s : State) (p : At) (w) : ((s.tx p.tile p.n w).count 2 1) =
  { ix := p.tile, n := p.n, word := w, tile := (s.seen p.tile).count 2 1, mem := s.mem } := rfl

theorem after_of (s : State) (p : At) (op : TOp) (chk) (f : Tile → Tile) (h : Ready s p op) (hg : isGmac op = false)
   (hy : ((s.tx p.tile p.n (TInstr.word ⟨p.hd, op⟩)).count 2 1).start p.hd op false chk =
      (none, ((s.tx p.tile p.n (TInstr.word ⟨p.hd, op⟩)).count 2 1).upd f))
   (hq : (f ((s.seen p.tile).count 2 1)).inflight = [])
   (hp : (f ((s.seen p.tile).count 2 1)).status.probe = (s.seen p.tile).status.probe) :
   s.runInstr p op chk = s.after p f :=
  runInstr_plain s p op chk h _ hg hy rfl hq rfl rfl rfl hp

theorem ready_base {s : State} {p : At} {op} (h : Ready s p op) : ((s.seen p.tile).count 2 1).syn = [] ∧ ((s.seen p.tile).count 2 1).inflight = [] := by
  rw [Tile.count_syn, Tile.count_inflight]; exact ⟨h.clean, h.quiet⟩

theorem Tile.drop_inflight (t : Tile) (n) : (t.drop n).inflight = t.inflight := rfl
theorem popped_inflight (t : Tile) (n) : (t.popped n).inflight = t.inflight := by
  simp [Tile.popped, Tile.count_inflight, Tile.drop_inflight]
theorem popped_status (t : Tile) (n) : (t.popped n).status = t.status := by
  simp only [Tile.popped, Tile.count_status]; rfl
theorem TX.pop_some (x : TX) (n) (f) (h : x.tile.head n = some f) : x.pop n = some (f, x.upd fun t => t.popped n) := by
  simp [TX.pop, h, TX.upd, TX.count, Tile.popped]
theorem Tile.count_head (t : Tile) (a b n) : (t.count a b).head n = t.head n := by
  simp [Tile.head, Tile.queue, Tile.count_iq, Tile.count_epoch]


theorem TX.issue_pump (x : TX) (h : Head) (op : TOp) (chk) (fl) (y z : TX)
   (hy : (x.count 2 1).start h op false chk = (some fl, y)) (hs : y.stop = none)
   (hz : y.pump false chk fl = (none, z)) (hzs : z.stop = none) :
   x.issue h op false false chk = z.upd fun t => t.rider h := by
  have e : (y.upd fun t => t) = y := by cases y; rfl
  have e2 : (x.count 2 1).issueWork h op false false chk = z.upd fun t => t.rider h := by
    simp only [TX.issueWork, hy, hs, Option.isSome_none, Bool.false_eq_true, if_false, e, hz]
    simp only [TX.upd, hzs, Option.toList, List.append_nil, TX.hasIssued, if_true]
  simp only [TX.issue, e2]
  simp [TX.hasIssued, TX.upd, hzs]

theorem TX.instr_pump (x : TX) (h : Head) (op : TOp) (chk) (fl) (y z : TX) (hg : isGmac op = false)
    (h1 : x.tile.status.stopped = false) (h2 : triggered x.tile h = true) (h3 : TOp.legal h op = true)
    (h4 : ownReady x.tile op = true) (h5 : x.tile.inflight = [])
    (hy : (x.count 2 1).start h op false chk = (some fl, y)) (hs : y.stop = none)
    (hz : y.pump false chk fl = (none, z)) (hzs : z.stop = none) (hq : z.tile.inflight = []) :
    x.instr h op chk = z.upd fun t => t.rider h := by
  have e := TX.issue_pump x h op chk fl y z hy hs hz hzs
  simp only [TX.instr, h1, h2, h3, h4, unheld_quiet _ _ _ h5]
  simp only [Bool.not_true, Bool.or_self, Bool.false_eq_true, if_false, TX.no_skip x op hg]
  rw [e, TX.settle_quiet]
  simp [TX.upd, rider_inflight, hq]

theorem put_plain (s : State) (p : At) (op : TOp) (chk) (h : Ready s p op) (y : TX)
   (e2 : (s.tx p.tile p.n (TInstr.word ⟨p.hd, op⟩)).instr p.hd op chk = y.upd fun t => t.rider p.hd)
   (hs : y.stop = none) (hr : y.recs = []) (he : y.ext = [])
   (hp : y.tile.status.probe = (s.seen p.tile).status.probe) :
   s.runInstr p op chk = { s.setTile p.tile (s.unhide p.tile (y.tile.rider p.hd)) with mem := y.mem } := by
  rw [State.runInstr, if_pos h.present, e2, put_core s _ y _ hs hr hp, he]
  rfl

theorem popped_head_ne (t : Tile) (n m : Nat) (h : m ≠ n) : (t.popped n).head m = t.head m := by
  simp only [Tile.popped, Tile.head, Tile.queue, Tile.drop, Tile.count_iq, Tile.count_epoch]
  rw [SMap.get_put_ne _ _ _ _ _ h]

theorem drops_list (mask : Nat) (l : List Nat) (hn : l.Nodup) (x : TX)
    (hh : ∀ n ∈ l, mask.testBit n = true → (x.tile.head n).isSome = true) :
    l.foldl (fun (x : TX) n => if mask.testBit n then x.discard n else x) x =
      x.upd fun t => l.foldl (fun u n => if mask.testBit n then u.popped n else u) t := by
  induction l generalizing x with
  | nil => rfl
  | cons n l ih =>
    simp only [List.foldl_cons]
    rw [List.nodup_cons] at hn
    by_cases hb : mask.testBit n = true
    · obtain ⟨f, hf⟩ := Option.isSome_iff_exists.mp (hh n (by simp) hb)
      have hd : x.discard n = x.upd fun t => t.popped n := by simp only [TX.discard, TX.pop_some x n f hf]
      simp only [hb, if_true, hd]
      rw [ih hn.2]
      · rfl
      · intro m hm hmb
        have hne : m ≠ n := fun e => hn.1 (e ▸ hm)
        show (((x.tile).popped n).head m).isSome = true
        rw [popped_head_ne _ _ _ hne]
        exact hh m (by simp [hm]) hmb
    · simp only [hb, Bool.false_eq_true, if_false]
      exact ih hn.2 x fun m hm => hh m (by simp [hm])

theorem useVs_clean (ns : List Nat) (x : TX) (h : x.tile.syn = []) :
    x.useVs ns = x.upd fun t => ns.foldl (fun u n => u.met (t.vPoison n)) t := by
  have key : ∀ (ns : List Nat) (x : TX) (g : Byte), x.tile.syn = [] → x.tile.vTag = g →
      x.useVs ns = x.upd fun t => ns.foldl (fun u n => u.met (g.getLsbD (n % 8))) t := by
    intro ns
    induction ns with
    | nil => intros; rfl
    | cons n ns ih =>
      intro x g hs hg
      have e : x.useV n = x.upd fun t => t.met (g.getLsbD (n % 8)) := by
        simp only [TX.useV, TX.touch_clean _ _ _ _ hs, TX.eat, Tile.vPoison, hg]
      show TX.useVs (x.useV n) ns = _
      rw [e, ih _ g (by simp [TX.upd, Tile.met_syn, hs]) (by simp [TX.upd, Tile.met_vTag, hg])]
      rfl
  rw [key ns x x.tile.vTag h rfl]
  rfl

theorem mets_frame {β : Type} (f : Tile → β) (hf : ∀ t b, f (t.met b) = f t) (ns : List Nat) (b : Nat → Bool) (t : Tile) :
    f (ns.foldl (fun u n => u.met (b n)) t) = f t := by
  induction ns generalizing t with
  | nil => rfl
  | cons n ns ih => rw [List.foldl_cons, ih, hf]

theorem Tile.vLanes_of (t u : Tile) (h : t.v = u.v) : t.vLanes = u.vLanes := by funext n; simp [Tile.vLanes, h]
theorem Tile.vPoison_of (t u : Tile) (h : t.vTag = u.vTag) : t.vPoison = u.vPoison := by funext n; simp [Tile.vPoison, h]
theorem vopStep_of (t u : Tile) (f : VopF) (h : t.v = u.v) : vopStep t f = vopStep u f := by
  funext i; simp [vopStep, vopSrc, Tile.vLanes_of t u h]

theorem steps_frame {β : Type} (f : Tile → β) (g : Tile → Nat → Tile) (hg : ∀ t i, f (g t i) = f t) (l : List Nat) (t : Tile) :
    f (l.foldl g t) = f t := by
  induction l generalizing t with
  | nil => rfl
  | cons n ns ih => rw [List.foldl_cons, ih, hg]

theorem setLanes_invalid_inflight (t : Tile) (n l p b) : ((t.setLanes n l p).invalid b).inflight = t.inflight := rfl
theorem setLanes_invalid_probe (t : Tile) (n l p b) : ((t.setLanes n l p).invalid b).status.probe = t.status.probe := rfl

theorem useV_clean (x : TX) (n) (h : x.tile.syn = []) : x.useV n = x.upd fun t => t.met (t.vPoison n) := by
  simp only [TX.useV, TX.touch_clean _ _ _ _ h, TX.eat]; rfl
theorem useG_clean (x : TX) (n) (h : x.tile.syn = []) : x.useG n = x.upd fun t => t.met (t.gPoison n) := by
  simp only [TX.useG, TX.touch_clean _ _ _ _ h, TX.eat]; rfl
theorem andThen_go (x : TX) (f) (h : x.stop = none) : x.andThen f = f x := by simp [TX.andThen, h]
theorem addrOk_clean (x : TX) (n) (h : x.tile.syn = []) (hs : x.stop = none) (hp : x.tile.gPoison n = false) : x.addrOk n = x := by
  simp [TX.addrOk, TX.touch_clean _ _ _ _ h, andThen_go _ _ hs, hp]

theorem setPair_inflight (t : Tile) (a b c) : (t.setPair a b c).inflight = t.inflight := by
  unfold Tile.setPair Tile.setP; split <;> split <;> rfl
theorem setPair_status (t : Tile) (a b c) : (t.setPair a b c).status = t.status := by
  unfold Tile.setPair Tile.setP; split <;> split <;> rfl
theorem setLc_inflight (t : Tile) (a b c d) : (t.setLc a b c d).inflight = t.inflight := setPair_inflight _ _ _ _
theorem setLc_status (t : Tile) (a b c d) : (t.setLc a b c d).status = t.status := setPair_status _ _ _ _
theorem count_gPoison (t : Tile) (a b n) : (t.count a b).gPoison n = t.gPoison n := by simp [Tile.gPoison, Tile.count_gTag]
theorem met_gPoison (t : Tile) (a n) : (t.met a).gPoison n = t.gPoison n := by simp [Tile.gPoison, Tile.met_gTag]
theorem met_getG (t : Tile) (a n) : (t.met a).getG n = t.getG n := by simp [Tile.getG, Tile.met_g]


theorem put_ext (s : State) (p : At) (op : TOp) (chk) (h : Ready s p op) (y : TX) (e : Ext)
   (e2 : (s.tx p.tile p.n (TInstr.word ⟨p.hd, op⟩)).instr p.hd op chk = y.upd fun t => t.rider p.hd)
   (hs : y.stop = none) (hr : y.recs = []) (he : y.ext = [e])
   (hp : y.tile.status.probe = (s.seen p.tile).status.probe) :
   s.runInstr p op chk =
     ({ s.setTile p.tile (s.unhide p.tile (y.tile.rider p.hd)) with mem := y.mem } : State).handOn p.tile e := by
  rw [State.runInstr, if_pos h.present, e2, put_core s _ y _ hs hr hp, he]
  rfl

theorem after_ext (s : State) (p : At) (op : TOp) (chk) (f : Tile → Tile) (e : Ext) (h : Ready s p op) (hg : isGmac op = false)
   (hy : (s.txOf p op).start p.hd op false chk = (none, { (s.txOf p op).upd f with ext := [e] }))
   (hq : (f ((s.seen p.tile).count 2 1)).inflight = [])
   (hp : (f ((s.seen p.tile).count 2 1)).status.probe = (s.seen p.tile).status.probe) :
   s.runInstr p op chk = (s.after p f).handOn p.tile e := by
  have := put_ext s p op chk h { (s.txOf p op).upd f with ext := [e] } e
    (instr_ready s p op chk h _ hg hy rfl hq) rfl rfl rfl hp
  rw [this]; rfl

theorem bulkTile_inflight (f) (t : Tile) : (bulkTile f t).inflight = t.inflight := by
  unfold bulkTile; simp only [Tile.count_inflight]; split <;> rfl
theorem bulkTile_status (f) (t : Tile) : (bulkTile f t).status = t.status := by
  unfold bulkTile; simp only [Tile.count_status]; split <;> rfl

theorem bulk_start (x : TX) (w) (f : BulkF) (hs : x.tile.syn = []) (hst : x.stop = none) (he : x.ext = []) (ha : x.tile.gPoison f.gl.toNat = false) (hb : x.tile.gPoison f.gr.toNat = false) :
   x.bulk w f = { x.upd (bulkTile f) with ext := [.bulk w f.btag ((x.tile.getG f.gl.toNat).toNat % 65536 / 64 * 64) ((x.tile.getG f.gr.toNat).toNat % 2 ^ 48 / 64 * 64) (bulkRows f.len)] } := by
  simp only [TX.bulk]
  rw [addrOk_clean _ _ hs hst ha, andThen_go _ (fun x => x.addrOk _) hst, addrOk_clean _ _ hs hst hb, andThen_go _ _ hst]
  simp only [TX.count, TX.upd, bulkTile, he, List.nil_append]


theorem memWords_clean (ws : List Nat) (x : TX) (h : ∀ w, x.mem.mark (tileBase x.ix + 8 * w) = 0) : x.memWords ws = (false, x) := by
  induction ws with
  | nil => rfl
  | cons w ws ih =>
    have e : x.memWord w = (false, x) := by simp [TX.memWord, h]
    simp [TX.memWords, e, ih]
theorem readMem_clean (x : TX) (a n : Nat) (h : ∀ w, x.mem.mark (tileBase x.ix + 8 * w) = 0) :
    x.readMem a n = ((List.range n).map (fun i => x.mem.byte (tileBase x.ix + (a + i) % 65536)), false, x.count 0x10 ((a + n + 63) / 64 - a / 64)) := by
  simp only [TX.readMem, TX.readBytes]
  rw [memWords_clean _ _ (by exact h)]
  rfl
theorem memAddr_dvd (g off n) : n ∣ memAddr g off n := by
  unfold memAddr; exact Dvd.intro_left _ rfl
theorem ldInto_inflight (t : Tile) (f bs b) : (t.ldInto f bs b).inflight = t.inflight := by
  unfold Tile.ldInto; dsimp only; split <;> split <;> split <;> rfl
theorem ldInto_status (t : Tile) (f bs b) : (t.ldInto f bs b).status = t.status := by
  unfold Tile.ldInto; dsimp only; split <;> split <;> split <;> rfl

end Sys2Proof.Machine
end

