-- ==== Sys2Proof/Tests/Slice0.lean ====
section
/-! SUPPORT. Small tests and, for every statement with hypotheses, states and operands that meet them. -/
namespace Sys2Proof.Tests
open Sys2Proof.Machine

-- One test after another: a thread for each at once would ask for more memory than the check allows.
set_option Elab.async false

/-! ### States for tests -/

/-- Tile 0 present with a given state. -/
def withTile (t : Tile) : State := { present := [(0, 1)], tiles := [(0, t)] }
/-- Fields set in turn: the field, the window and the value. -/
def withFields (fs : List (Fld × Nat × Nat)) (s : State := {}) : State := fs.foldl (fun s f => s.fset f.1 f.2.2 f.2.1) s
/-- The host interface decodes and may issue requests. -/
def hosted (s : State := {}) : State := s.updHost fun h => { h with mse := true, bme := true, linkUp := true }
/-- Canton c powered and joined. -/
def joinedCanton (c : Nat) (s : State := {}) : State := s.setCanton c { s.canton c with powered := true, joined := true }
/-- The hoist island runs. -/
def island (s : State := {}) : State := s.updMgmt fun m => { m with cond := .operating, hoistOk := true, pgood := true, mainOn := true, ensignOk := true }
/-- No predicate, no queue and no output named. -/
def plain : At := ⟨0, 0, ⟨0, 0, 0, 0, 0⟩⟩
/-- The head names IQ0 and every output. -/
def busyHead : At := ⟨0, 0, ⟨1, 15, 0, 0, 0⟩⟩
/-- A flit that carries its position. -/
def flit (n : Nat) : Flit := { payload := BitVec.ofNat 256 n }
/-- A tile with flits in IQ0 and credits on every output. -/
def rich : Tile := { iq := [(0, (List.range 16).map flit)], cred := [(0, 32), (1, 32), (2, 32), (3, 32)] }

/-- Ready as a check. -/
def isReady (s : State) (p : At) (op : TOp) : Bool :=
  let t := s.seen p.tile
  s.isPresent p.tile && !t.status.stopped && t.inflight.isEmpty && t.syn.isEmpty && triggered t p.hd && TOp.legal p.hd op &&
  ownReady t op

/-- The check finds what Ready asks. -/
theorem isReady_sound (s : State) (p : At) (op : TOp) (h : isReady s p op = true) : Ready s p op := by
  simp only [isReady, Bool.and_eq_true, Bool.not_eq_true', List.isEmpty_iff] at h
  obtain ⟨⟨⟨⟨⟨⟨a, b⟩, c⟩, d⟩, e⟩, f⟩, g⟩ := h
  exact ⟨a, b, c, d, e, f, g⟩

/-! ### Witnesses: the tile -/
theorem wit_RegisterMoves : ([.movGG 63 0, .movGLane 0 7 31, .movGTable 0 127, .movi 0 false 0, .movi 63 true 0xFFFFFFFF, .movVV 7 0,
    .movLaneG 0 0 31 true, .movLaneG 7 0 31 false, .movTableG 0 127] : List TOp).all (isReady (withTile {}) plain) = true ∧
    (tableEntry ((withTile {}).seen 0).tables 127).2 = false ∧ ((withTile {}).seen 0).gPoison 0 = false := by decide +kernel

theorem wit_QueueMoves : ([.movGIq 0 0, .movVIq 0 31 1, .nop 0x01, .movVIq 0 31 2] : List TOp).all (isReady (withTile rich) busyHead) = true ∧
    ((withTile rich).seen 0).head 0 = some (flit 0) ∧ [flit 0, flit 1].length = flitCount 2 ∧
    ((withTile rich).seen 0).queue 0 = [flit 0, flit 1] ++ (((withTile rich).seen 0).queue 0).drop 2 ∧
    (∀ x ∈ [flit 0, flit 1], x.epoch = ((withTile rich).seen 0).epoch.cur) := by decide +kernel

theorem wit_VectorResults : ([.vop ⟨0x0C, 7, 0, 7, 0, true, false, 31, 0, 7⟩, .vop ⟨0, 0, 0, 0, 0, false, false, 0, 0, 0⟩, .vsfn ⟨4, 7, 0, 7⟩, .vred ⟨3, 7, 7, 7⟩,
    .vcvtFrom ⟨0, 7, 0⟩, .vcvtTo ⟨1, 1, 1, 0, 7⟩] : List TOp).all (isReady (withTile {}) plain) = true ∧
    badTableEntry ((withTile {}).seen 0).tables 0 (vRecord ((withTile {}).seen 0) 0 0) = none := by decide +kernel

/-- A GMAC of buffer A with tile memory, one lane of slot 7, OPEN. -/
def gmac0 (act : BitVec 2) (rep : BitVec 3) : GmacF := ⟨2, 2, 7, 1, act, 5, false, false, false, false, false, 15, 0, rep⟩

theorem wit_GroupMultiplies :
    isReady (withTile {}) plain (.gmac (gmac0 1 0)) = true ∧ gmacFault ((withTile {}).seen 0) (gmac0 1 0) = some 28 ∧
    isReady (withTile {}) plain (.gmac (gmac0 0 7)) = true ∧ gmacFault ((withTile {}).seen 0) (gmac0 0 7) = none ∧
    ((withTile {}).txIn plain (.gmac (gmac0 0 7))).skips (.gmac (gmac0 0 7)) = false ∧
    (TX.gmacAll plain.hd (gmac0 0 7) (gmacBase ((withTile {}).seen 0) (gmac0 0 7)) [] 8 0 0 ((withTile {}).txOf plain (.gmac (gmac0 0 7)))).isSome = true ∧
    gmacAQueue (gmac0 0 7) = false := by decide +kernel

theorem wit_GroupSkips : let s := withTile { ctrl := { zskip := true } }
    isReady s plain (.gmac (gmac0 0 0)) = true ∧ gmacFault (s.seen 0) (gmac0 0 0) = none ∧
    (s.txIn plain (.gmac (gmac0 0 0))).skips (.gmac (gmac0 0 0)) = true ∧
    ((s.txOf plain (.gmac (gmac0 0 0))).gmacOnce plain.hd (gmac0 0 0) (gmacBase (s.seen 0) (gmac0 0 0)) 0 0 true []).map (fun q => q.2.stop) = some none := by decide +kernel

/-- A tile with every lane open and zero. -/
def opened : Tile := { rich with lanes := (List.range 32).map fun k => (k, { isOpen := true }) }
/-- A flit pair of a partial whose lane 0 is open. -/
def partials : List Flit := [{ payload := 1 }, { payload := 1 }]

theorem wit_CloseConverts :
    isReady (withTile {}) plain (.close ⟨0, 1, 0, 0, 0, false, false, 7, 0, false, 0⟩) = true ∧
    ((closeLanes ⟨0, 1, 0, 0, 0, false, false, 7, 0, false, 0⟩).find? fun k => !(((withTile {}).seen 0).lane k).isOpen) = some 0 ∧
    isReady (withTile opened) busyHead (.close ⟨0, 0, 0, 1, 1, true, true, 0, 3, true, 7⟩) = true ∧
    (∀ k ∈ closeLanes ⟨0, 0, 0, 1, 1, true, true, 0, 3, true, 7⟩, (((withTile opened).seen 0).lane k).isOpen = true) ∧
    (recordBytes 0 + 31) / 32 ≤ ((withTile opened).seen 0).credit 3 := by decide +kernel

theorem wit_TreeCombines :
    isReady (withTile {}) plain (.tree ⟨0, 7, 7, false, false, 15⟩) = true ∧ treeClosed ((withTile {}).seen 0) ⟨0, 7, 7, false, false, 15⟩ = some 28 ∧
    isReady (withTile opened) busyHead (.tree ⟨0, 7, 6, false, false, 15⟩) = true ∧ treeClosed ((withTile opened).seen 0) ⟨0, 7, 6, false, false, 15⟩ = none ∧
    isReady (withTile { opened with iq := [(0, [{ payload := 0, poison := true }, flit 0])] }) busyHead (.tree ⟨0, 7, 0, true, true, 15⟩) = true ∧
    treeClosed opened ⟨0, 7, 0, true, true, 15⟩ = none ∧
    isReady (withTile { opened with iq := [(0, partials)] }) busyHead (.tree ⟨0, 7, 0, true, true, 1⟩) = true ∧
    treeClosed opened ⟨0, 7, 0, true, true, 1⟩ = none ∧ (∀ l ∈ maskLanes 0 1, (partialLane 1 1 l).isOpen = true) := by decide +kernel

/-- Every word of an unwritten tile memory is clean. -/
theorem wit_TileMarks : TileMarks (withTile rich) 0 := fun _ => rfl

/-- A poisoned flit at the head of IQ0. -/
def sick : Tile := { rich with iq := [(0, [{ payload := 0, poison := true }, flit 0, flit 1])] }

theorem wit_TileMemoryAccesses :
    ([.ld ⟨0, 0, 31, true, 0⟩, .ld ⟨1, 0, 63, false, 0x3FFF⟩, .ld ⟨3, 63, 0, false, 0⟩] : List TOp).all (isReady (withTile rich) plain) = true ∧
    rich.gPoison 63 = false ∧
    isReady (withTile sick) busyHead (.ldx ⟨0, false, 63, true⟩) = true ∧ sick.gPoison 63 = false ∧ (sick.head 0).any (·.poison) = true ∧
    isReady (withTile rich) busyHead (.ldx ⟨0, true, 0, false⟩) = true ∧ (rich.head 0).any (fun f => !f.poison) = true ∧
    ((((withTile rich).txOf busyHead (.ldx ⟨0, true, 0, false⟩)).upd fun t => t.popped 0).ldxRows true 0
      ((List.range 16).map fun i => fld (flit 0).payload.toNat (16 * i) 16)).2.stop = none := by decide +kernel

theorem wit_Stores :
    let hurt : Tile := { rich with gTag := 1, split := 0x400 }
    let whole : Tile := { rich with gTag := 1, split := 0 }
    ([hurt, whole].all fun t => isReady (withTile t) plain (.st ⟨3, 1, 0, false, 0⟩)) = true ∧ hurt.gPoison 1 = false ∧
    (stData hurt ⟨3, 1, 0, false, 0⟩).2 = true ∧
    ([hurt, whole].map fun t => t.rowW (stAddr t ⟨3, 1, 0, false, 0⟩ / 64)) = [true, false] ∧
    isReady (withTile rich) busyHead (.st ⟨4, 63, 0, true, 0⟩) = true ∧ rich.queue 0 = flit 0 :: flit 1 :: (rich.queue 0).drop 2 ∧
    (flit 0).epoch = rich.epoch.cur ∧ (flit 0).poison = false := by decide +kernel

theorem wit_SendsFlits :
    ([.send ⟨3, 3, true, 7, 0, 0, 31, 0, false⟩, .send ⟨0, 0, false, 0, 1, 63, 0, 0, false⟩, .send ⟨0, 0, false, 0, 2, 7, 0, 0, false⟩,
      .send ⟨0, 0, true, 0, 3, 0, 0, 31, true⟩, .send ⟨0, 0, true, 0, 4, 0, 0, 2, false⟩] : List TOp).all (isReady (withTile rich) busyHead) = true ∧
    (sendList rich ⟨3, 3, true, 7, 0, 0, 31, 0, false⟩).length = rich.credit 3 ∧ flitCount 0 = rich.credit 0 ∧
    [flit 0, flit 1].length = flitCount 2 ∧ rich.queue 0 = [flit 0, flit 1] ++ (rich.queue 0).drop 2 := by decide +kernel

/-- A tile whose flag 63 is done. -/
def flagged : Tile := { flags := [(63, .done 0xFFFF)] }

theorem wit_FlagsAndBulk :
    ([.syncArrive ⟨0, 4, true, 0, 0xFFFF⟩, .syncArrive ⟨0, 0, false, 63, 0⟩, .syncWait 63 0, .bulkRead ⟨3, 0, 63, 63, true⟩,
      .bulkWrite ⟨0, 63, 0, 0, false⟩, .bulkWait 3 63 true] : List TOp).all (isReady (withTile flagged) plain) = true ∧
    flagged.flag 63 = .done 0xFFFF ∧ flagged.gPoison 63 = false ∧ flagged.gPoison 0 = false := by decide +kernel

theorem wit_ControlResults :
    ([.lcSetI 3 true 7 7 0xFFFF, .lcSetG 0 false 0 0 63, .lcDec 3 true 1 2, .ctlP ⟨0, 5, 7, 7, 63, 63, 0⟩, .ctlP ⟨1, 5, 0, 0, 63, 0, 0xFFFF⟩,
      .ctlP ⟨2, 3, 7, 0, 7, 7, 0⟩, .ctlP ⟨4, 1, 0, 7, 0, 0, 0⟩, .alu 10 63 0 63, .alui 0 0 63 0xFFFFFF] : List TOp).all
      (isReady (withTile {}) plain) = true ∧
    isReady (withTile rich) busyHead (.ctlP ⟨3, 4, 7, 0, 0, 0, 0⟩) = true ∧ (rich.head 0).any (fun f => !f.poison) = true ∧
    ({} : Tile).gPoison 63 = false := by decide +kernel

/-- A tile at RUN = 1 whose store holds a NOP at 511. -/
def running : Tile := { ctrl := { run := true }, istore := [(511, TInstr.word ⟨⟨0, 0, 0, 0, 0⟩, .nop 0⟩)] }

theorem wit_InstructionIssue :
    (withTile {}).isPresent 0 = true ∧ ({} : Tile).ctrl.run = false ∧
    ({} : Tile).ctrl.step = false ∧ (withTile {}).sliceRuns (cantonOf 0) = false ∧ ({ ctrl := { step := true } } : Tile).ctrl.step = true ∧ [((0 : Fin 5), (15 : Fin 16))] ≠ [] ∧ select {} false [] ({} : Tile).istore = none ∧
    select { ctrl := { run := true } } false [] ({} : Tile).istore = none ∧
    (select running false [] running.istore).map (fun q => (q.1, q.2.2)) = some (511, .go ⟨⟨0, 0, 0, 0, 0⟩, .nop 0⟩) ∧
    (((withTile running).tx 0 0 0).count 0x01 1).skips (.nop 0) = false ∧ running.ctrl.run = true ∧
    (select { running with ctrl := {} } false [] running.istore).isSome = true ∧
    [(0, 1), (511, 2)].Pairwise (fun (a b : Nat × Nat) => a.1 < b.1) ∧
    triggered {} ⟨1, 0, 0, 0, 0⟩ = false ∧ triggered {} plain.hd = true ∧ TOp.legal plain.hd (.vsfn ⟨5, 0, 0, 0⟩) = false ∧
    isReady (withTile { gTag := 1 }) plain (.st ⟨3, 0, 1, false, 0⟩) = true ∧ ({ gTag := 1 } : Tile).gPoison 0 = true ∧
    isReady (withTile { gTag := 1 }) plain (.bulkRead ⟨0, 0, 1, 0, false⟩) = true := by decide +kernel

/-! ### Witnesses: fabric, mesh, slices -/

/-- Slice n covers canton 0 alone, in a PHASE. -/
def sliced (phase : BitVec 4) (s : State := {}) : State := s.setSlice 0 { loaded := true, cw := 1, ch := 1, phase := phase }
/-- A tile whose IQ4 starts with a flit of another epoch. -/
def foreign : State := withTile { iq := [(4, [{ payload := 0, epoch := 15 }])] }

theorem wit_EpochProbeSplit :
    (({} : State).seen 0).foreignHead 4 = false ∧ (foreign.seen 0).foreignHead 4 = true ∧
    ((foreign.setCanton 0 { watch := .purging }).canton (cantonOf 0)).watch = .purging ∧
    ((sliced 2 foreign).seen 0).foreignHead 4 = true ∧ ((sliced 2 foreign).canton (cantonOf 0)).watch ≠ .purging ∧
    (sliced 2 foreign).sliceOf (cantonOf 0) = some 0 ∧ ((sliced 2 foreign).slice 0).phase ≠ 6 ∧
    foreign.isPresent 0 = true ∧ (foreign.tile 0).ctrl.run = false ∧ ((withTile running).tile 0).ctrl.run = true ∧
    (({} : State).tile 0).status.probe = false ∧ (({} : State).tile 0).blocked < 4096 ∧
    (({ ctrl := { probeEn := true }, blocked := 4096 } : Tile).ctrl.probeEn && decide (4096 ≤ ({ blocked := 4096 } : Tile).blocked)) = true := by decide +kernel

/-- Tile 63, at the east edge of canton 0, with a flit and a credit message on their way from tile 64. -/
def seam (share : W64) : State := (({} : State).setRouter 64 { wire := [(3, [(flit 1).wire])], credMsg := [(3, [7])] }).setRouter 63 { share := [(1, share)] }

theorem wit_RouterNetworks :
    ({} : State).online 99 = false ∧ (joinedCanton 99).online 99 = true ∧
    ((({} : State).setRouter 0 { slots := [(0, 0x7F)] }).router 0).tblCause 0 ≠ 0 ∧
    ((withTile running).tile 0).ctrl.run = true ∧ ((withTile {}).tile 0).ctrl.run = false ∧
    ((({} : State).setCanton 0 { slot := 1 }).canton 0).slot ≠ 0 ∧ (({} : State).canton 0).slot = 0 ∧ (({} : State).canton 0).watch ≠ .purging ∧
    cantonNeighbour 0 1 = some 1 ∧ (joinedCanton 1).online 1 = true ∧ ({} : State).online 1 = false ∧
    tileNeighbour 63 1 = some 64 ∧ seamDir 63 1 = true ∧ SMap.get [] ((seam 0).router 64).wire (opp 1) = [(flit 1).wire] ∧
    ((flit 1).wire.disturb { side := 0x20 } {}).flit = none ∧ ((flit 1).wire.disturb { data := 1 } {}).flit = some (flit 0) ∧
    ((flit 1).wire.disturb { data := 1 } {}).ok = false ∧ ((seam 0).router 63).purges (flit 1) = false ∧
    ((({} : State).setRouter 63 { purge := true, epoch := 1 }).router 63).purges (flit 1) = true ∧
    ((seam 0).router 63).shareOf 1 0 ≤ (SMap.get [] ((seam 0).router 63).seamQ 8).length ∧
    SMap.get [] ((seam 0).router 64).credMsg (opp 1) = [7] ∧ SMap.get 0 ((seam 0).router 63).pend (5 + 8 * 1 + 7) < 32 ∧
    ((seam 0).router 63).tblCause 63 = 0 ∧ ((seam 4).router 63).tblCause 63 = 0 ∧
    (SMap.get [] ((seam 4).router 63).seamQ 8).length < ((seam 4).router 63).shareOf 1 0 ∧
    ((seam 0xFFFFFFFFFFFFFFFF).router 63).tblCause 63 ≠ 0 ∧
    (let s := (seam 0).setRouter 63 { pend := [(20, 32)] }
     32 ≤ SMap.get 0 (s.router 63).pend (5 + 8 * 1 + 7) ∧ SMap.get [] (s.router 64).credMsg (opp 1) = [7]) := by decide +kernel

/-- A packet of one flit. -/
def mflit (vc : BitVec 2) : MFlit := { vc := vc, lane := false, head := true, tail := true, data := 0 }
/-- Cluster 1 has sent a flit with number n towards cluster 0. -/
def sent (n : BitVec 6) : State := ({} : State).setMrouter 1 { wire := [(3, [(n, mflit 0)])] }

theorem wit_MeshLinkFlits :
    clusterNeighbour 0 1 = some 1 ∧ SMap.get [] ((sent 0).mrouter 1).wire (opp 1) = [(0, mflit 0)] ∧ SMap.get 0 ((sent 0).mrouter 0).expect 1 = 0 ∧
    qIx 1 0 false ∉ ((sent 0).mrouter 0).skip ∧ qIx 1 0 false ∈ (((sent 0).setMrouter 0 { skip := [qIx 1 0 false] }).mrouter 0).skip ∧
    (({} : State).mrouter 0).unreceived 1 = [] ∧
    (63 : BitVec 6) ≠ SMap.get 0 ((sent 63).mrouter 0).expect 1 ∧ clusterNeighbour 0 0 = none ∧
    SMap.get 0 ((joinedCanton 0).mrouter 0).fails 1 ≤ 8 ∧ (joinedCanton 0).routerUp 1 = true ∧ ({} : State).routerUp 1 = false ∧
    8 < SMap.get 0 ((({} : State).setMrouter 0 { fails := [(1, 9)] }).mrouter 0).fails 1 ∧ (({} : State).mrouter 0).linkFail.getLsbD 1 = false := by decide +kernel

/-- Cluster 0 on the networks with a router state. -/
def meshed (m : MeshRouter) : State := (joinedCanton 0).setMrouter 0 m

theorem wit_MeshRouting :
    ({} : State).routerUp 4799 = false ∧ (meshed { linkFail := 2 }).routerUp 0 = true ∧
    (let s := meshed { linkFail := 2 }; (s.setMrouter 0 (s.mrouter 0).intake).linkUp 0 1) = false ∧
    (let s := meshed {}; (s.setMrouter 0 (s.mrouter 0).intake).linkUp 0 1) = true ∧
    (let s := meshed { q := [(28, [mflit 2])] }; let s1 := s.setMrouter 0 (s.mrouter 0).intake;
      (rrPick (s1.ready 0 4) pennantQueues (SMap.get 0 (s1.mrouter 0).rrP 4)).isSome && decide (popcount 16 (SMap.get 0 (s1.mrouter 0).hist 4).toNat < 8)) = true ∧
    8 ≤ popcount 16 (SMap.get 0 ((meshed { hist := [(4, 0xFF)] }).mrouter 0).hist 4).toNat ∧
    SMap.get 0 ((meshed { prog := [(4, 1)] }).mrouter 0).prog 4 ≠ 0 ∧
    (let s := meshed {}; let s1 := s.setMrouter 0 (s.mrouter 0).intake;
      rrPick (s1.ready 0 4) pennantQueues (SMap.get 0 (s1.mrouter 0).rrP 4) = none ∧ SMap.get 0 (s1.mrouter 0).prog 4 = 0 ∧
      rrPick (s1.ready 0 4) bulkQueues (SMap.get 0 (s1.mrouter 0).rr 4) = none) ∧
    (let s := meshed { q := [(24, [mflit 0])] }; let s1 := s.setMrouter 0 (s.mrouter 0).intake;
      rrPick (s1.ready 0 4) pennantQueues (SMap.get 0 (s1.mrouter 0).rrP 4) = none ∧ SMap.get 0 (s1.mrouter 0).prog 4 = 0 ∧
      rrPick (s1.ready 0 4) bulkQueues (SMap.get 0 (s1.mrouter 0).rr 4) = some 24 ∧ (s1.mrouter 0).queue 24 = [mflit 0] ∧ s1.ready 0 4 24 = true) ∧
    rrPick (fun x => x = 3) [1, 3] 3 = some 3 ∧ 3 ∈ [1, 3] ∧
    (joinedCanton 0).wptEntry [] 0 = 0 := by decide +kernel

/-- A packet arrived at cluster 0's sequencer, and a request of it. -/
def arrivedPacket (p : Packet) (r : List Request := []) (s : State := {}) : State :=
  { s.setMrouter 0 { arrived := [(4, [p.flits])] } with requests := r }
/-- A BULK request and a prefetcher's, of cluster 0 with TID 5 for bay 0. -/
def bulkReq (w : Bool) : Request := { cluster := 0, tid := 5, write := w, addr := 0, rows := 1, local_ := 0, for_ := .bulk 0 0, op := 0, slice := 0 }
def pfReq : Request := { bulkReq false with for_ := .prefetch 15 }
/-- A row of a host DMA, asked by the sequencer and by the attachment of cluster 0. -/
def dmaReq (w port : Bool) : Request := { bulkReq w with port := port, for_ := .dma 0 0 0 [] }
/-- Bay 0's clock has failed. -/
def stoppedBay : State := withFields [(fCkmDomBayFail, 0, 1), (fBayStatState, bayCanton 0, 2)]

theorem wit_MeshPackets :
    (({} : State).takePacket 0 0 1).1 = none ∧ (({} : State).takePacket 0 1 2).1 = none ∧ (({} : State).takePacket 0 0 3).1 = none ∧
    (({} : State).takePacket 0 0 4).1 = none ∧
    (let q := (arrivedPacket { typ := 1, src := 1, dst := 0, rows := 1 } [] stoppedBay).takePacket 0 0 1;
      q.1.any (fun p => q.2.packetWaits p)) = true ∧
    (let q := (arrivedPacket { typ := 1, src := 1, dst := 0, rows := 1 }).takePacket 0 0 1; q.1.any (fun p => !(q.2.packetWaits p))) = true ∧
    (let q := (arrivedPacket { typ := 2, src := 1, dst := 0, rows := 1, body := [(0, false)] } [] stoppedBay).takePacket 0 0 2;
      q.1.any (fun p => q.2.packetWaits p)) = true ∧
    (let q := (arrivedPacket { typ := 2, src := 1, dst := 0, rows := 1, body := [(0, false)] }).takePacket 0 0 2;
      q.1.any (fun p => !(q.2.packetWaits p))) = true ∧
    ([3, 4].all fun t => let q := (arrivedPacket { typ := t, src := 1, dst := 0, tid := 5 }).takePacket 0 0 t;
      q.1.any (fun p => (q.2.takeRequest 0 false (p.tid)).1.isNone)) = true ∧
    ([(0, bulkReq false), (2, bulkReq false), (3, bulkReq false), (0, pfReq)].all fun (t : Nat × Request) =>
      let q := (arrivedPacket { typ := 3, src := 1, dst := 0, tid := 5, status := t.1 } [t.2]).takePacket 0 0 3;
      q.1.any (fun p => p.status = t.1 && (q.2.takeRequest 0 false (p.tid)).1 = some t.2)) = true ∧
    ([(3, 0), (2, 0), (2, 1), (0, 1)].all fun (t : Nat × Nat) =>
      let q := (arrivedPacket { typ := 4, src := 1, dst := 0, tid := 5, status := t.1, rows := t.2 } [bulkReq true]).takePacket 0 0 4;
      q.1.any (fun p => p.status = t.1 && p.rows = t.2 && (q.2.takeRequest 0 false (p.tid)).1 = some (bulkReq true))) = true ∧
    ([bulkReq false].find? fun r => r.cluster = 0 && r.tid = 5) = some (bulkReq false) ∧
    ([3, 4].all fun t => let q := (arrivedPacket { typ := t, src := 1, dst := 0, tid := 5 } [dmaReq (t = 4) false]).takePacket 0 0 t;
      q.1.any (fun p => (q.2.takeRequest 0 false p.tid).1 = some (dmaReq (t = 4) false))) = true ∧
    (({} : State).nearDue 0 false = none) ∧ ({ ({} : State) with requests := [{ bulkReq true with near := true }] } : State).nearDue 0 true =
      some { bulkReq true with near := true } ∧
    (withFields [(fBayStatRetrainAct, bayCanton 0, 1)]).timersHeld 0 = true ∧ ({} : State).timersHeld 0 = false := by decide +kernel

/-! ### Witnesses: slices and their handshakes -/

/-- A pennant has arrived at its destination. -/
def delivered (p : Pennant) (s : State := {}) : State :=
  let k := p.dst % 2 ^ 13
  let m := s.mrouter k
  s.setMrouter k { m with arrived := SMap.put [] m.arrived (if p.dst / 2 ^ 13 = 0 then 4 else 5) [[p.flit]] }
/-- A pennant of the ensign complex with a message waits for the controller of canton c. -/
def told (c : Nat) (m : QMsg) (s : State := {}) : State :=
  delivered { code := m.code, src := ensignNode, dst := controllerNode c, arg := m.arg } s
/-- The answer of canton c's controller waits for the ensign complex. -/
def answered (c : Nat) (a : QAck) (s : State := {}) : State :=
  delivered { code := 2, src := controllerNode c, dst := ensignNode, arg := a.arg } s
/-- A pennant is taken, and f holds of it. -/
def hands (s : State) (src dst : Nat) (mine f : Pennant → Bool) : Bool := (s.takePennant src dst mine).1.any f
/-- Hears as a check: f holds of the message taken and the state after it. -/
def hears (s : State) (c op : Nat) (f : QMsg → State → Bool) : Bool := (s.hear c op).1.any fun m => f m (s.hear c op).2

/-- The check finds what Hears asks. -/
theorem hears_sound (s : State) (c op : Nat) (f : QMsg → State → Bool) (h : hears s c op f = true) :
    ∃ m q, s.Hears c op m q ∧ f m q = true := by
  simp only [hears, Option.any_eq_true] at h
  obtain ⟨m, h1, h2⟩ := h
  exact ⟨m, _, Prod.ext h1 rfl, h2⟩

/-- A check of the answer finds what HearsAck asks. -/
theorem hearsAck_sound (s : State) (c : Nat) (h : (s.hearAck c).1.isSome = true) : ∃ a q, s.HearsAck c a q := by
  obtain ⟨a, h1⟩ := Option.isSome_iff_exists.mp h
  exact ⟨a, _, Prod.ext h1 rfl⟩

/-- Slice n covers all cantons and runs. -/
def wide (n : Nat) (s : State := {}) : State := s.setSlice n { loaded := true, cw := 10, ch := 10, phase := 2 }

theorem wit_ControllerPennants :
    (let p : Pennant := { code := 255, src := 65535, dst := 65535, wpt := 8191, seq := 255, arg := 2 ^ 56 - 1 }
     p.code < 256 ∧ p.src < 65536 ∧ p.dst < 65536 ∧ p.wpt < 8192 ∧ p.seq < 256 ∧ p.arg < 2 ^ 56 ∧ pennantOf p.flit = p) ∧
    (let m : QMsg := ⟨15, 5, 15⟩; m.slice < 16 ∧ m.op ≤ 5) ∧ (let a : QAck := ⟨15, 5, 255, 2 ^ 32 - 1⟩; a.slice < 16 ∧ 1 ≤ a.op ∧ a.op ≤ 5 ∧ a.state < 256 ∧ a.discards < 2 ^ 32) ∧
    ((({} : State).canton 0).wptOf 4799).testBit 14 = false ∧
    hands (delivered { code := 6, src := 4799, dst := ensignNode }) 4799 ensignNode (fun p => p.code = 6) (fun p => !p.reserved) = true ∧
    hands (delivered { code := 6, src := 4799, dst := ensignNode }) 4799 ensignNode (fun p => p.code = 7) (fun _ => true) = false ∧
    ({ code := 0xFF, src := 4799, dst := ensignNode } : Pennant).reserved = true ∧ SMap.get 0 ({} : State).pennIn (65536 * 4799 + ensignNode) = 0 ∧
    SMap.get 0 ({} : State).pennIn (65536 * 4799 + ensignNode) ≠ ({ code := 6, src := 4799, dst := ensignNode, seq := 1 } : Pennant).seq ∧
    hears (told 0 ⟨0, 1, 0⟩ (wide 0)) 0 1 (fun m q => (q.slice m.slice).holds 0) = true ∧
    hears (told 99 ⟨15, 1, 0⟩) 99 1 (fun m q => !((q.slice m.slice).holds 99)) = true ∧ (({} : State).hear 0 1).1 = none ∧
    ([2, 3, 4, 5].all fun op => hears (told 99 ⟨15, op, 3⟩ (wide 15)) 99 op fun m _ => m = ⟨15, op, 3⟩) = true ∧
    ((({} : State).setCanton 0 { watch := .stopping }).canton 0).watch = .stopping ∧ ({} : State).atRest 0 = true ∧
    (({} : State).canton 0).watch ≠ .stopping ∧ (({} : State).tile 0).status.probe = false := by decide +kernel

/-- Canton c watches slice 0. -/
def watching (w : Watch) (s : State := {}) : State := s.setCanton 0 { watch := w }

theorem wit_DrainedCondition :
    ((watching .draining (withTile {})).canton 0).watch = .draining ∧ (watching .draining (withTile {})).drainedNow 0 0 = true ∧
    ((watching .drained (withTile rich)).canton 0).watch = .drained ∧ (watching .drained (withTile rich)).drainedNow 0 0 = false ∧
    (({} : State).canton 0).watch ≠ .draining ∧ (({} : State).canton 0).watch ≠ .drained ∧
    0 ∈ tilesOf 0 ∧ (watching .draining (withTile {})).isPresent 0 = true := by decide +kernel

/-- A descriptor of ring 0 whose first bytes are given. -/
def descOf (bs : List Byte) : Desc := ⟨0, 0, bs ++ List.replicate (64 - bs.length) 0, false⟩
/-- Ring r is active in the operational engine and its next descriptor is given. -/
def queued (r : RingIx) (bs : List Byte) (s : State := {}) : State :=
  let q := withFields [(fGlbEngineStateState, 0, 5)] s
  (q.setRing r { q.ring r with state := 1, enable := true }).updHost fun h => { h with descs := [{ descOf bs with ring := r }] }
/-- A descriptor is taken, and f holds of it and the state after. -/
def taken (s : State) (r : RingIx) (p : Desc → Bool) (f : Desc → State → Bool) : Bool := (s.take r p).any fun q => f q.1 q.2

/-- The check finds the descriptor. -/
theorem taken_sound (s : State) (r : RingIx) (p : Desc → Bool) (f : Desc → State → Bool) (h : taken s r p f = true) :
    ∃ d s1, s.take r p = some (d, s1) ∧ f d s1 = true := by
  simp only [taken, Option.any_eq_true] at h
  obtain ⟨⟨d, s1⟩, h1, h2⟩ := h
  exact ⟨d, s1, h1, h2⟩

/-- Slice 0 in PHASE 1 or another, over canton 0. -/
def loaded (x : Slice) (s : State := {}) : State := s.setSlice 0 { x with loaded := true, cw := 1, ch := 1 }
/-- A RUN of slice 0 with a time limit. -/
def ran (limit : Byte) : RunSt := { desc := descOf [2, 0, 0, 0, 0, 0, 0, 0, limit] }
/-- A RECONFIGURE in progress. -/
def rconf (limit : Byte) (purge : Bool) (step : Nat) : ReconfSt := { desc := some (descOf [3, 0, 0, 0, 0, 0, 0, 0, limit]), purge := purge, config := 0, epoch := 1, step := step, was := 1 }

theorem wit_SliceRuns :
    taken (queued 4095 [2]) 4095 (fun d => d.op = 0x02) (fun d s => (s.slice d.slice).loaded = false) = true ∧
    taken (queued 0 [2] (loaded { phase := 2 })) 0 (fun d => d.op = 0x02) (fun d s => (s.slice d.slice).phase ≠ 1) = true ∧
    taken (queued 0 [2] (loaded { phase := 1 })) 0 (fun d => d.op = 0x02)
      (fun d s => (s.slice d.slice).loaded && (s.slice d.slice).phase = 1 && !(s.slice d.slice).cantons.isEmpty) = true ∧
    hears (told 1 ⟨0, 0, 0⟩ (loaded { phase := 2 })) 1 0 (fun m q => !((q.slice m.slice).holds 1)) = true ∧
    hears (told 0 ⟨0, 0, 0⟩ (loaded { phase := 2 })) 0 0 (fun m q => (q.slice m.slice).holds 0 && (q.slice m.slice).phase = 2) = true ∧
    hears (told 0 ⟨0, 0, 0⟩ (loaded { phase := 1 })) 0 0 (fun m q => (q.slice m.slice).holds 0 && (q.slice m.slice).phase ≠ 2) = true ∧
    hears (told 0 ⟨0, 0, 0⟩ ((loaded { phase := 2 }).setCanton 0 { watch := .drained })) 0 0 (fun _ q => (q.canton 0).watch = .drained) = true ∧
    ((answered 99 ⟨0, 1, 0, 0⟩).hearAck 99).1 = some ⟨0, 1, 0, 0⟩ ∧ (({} : State).hearAck 99).1 = none ∧
    ((loaded { reconf := some (rconf 1 false 4) }).slice 0).owesReply 0 = false ∧ (rconf 1 false 4).wants = 3 ∧
    (∀ e ∈ ((loaded {}).slice 0).cantons, e ∈ [0]) ∧ (∃ e ∈ ((wide 0).slice 0).cantons, e ∉ [0]) ∧
    (let s := (loaded { run := some (ran 0) }).setSlice 15 { run := some (ran 1), endFlag := 63 }
     (s.slice 0).run = some (ran 0) ∧ (s.slice 0).endFlag = 0xFF ∧ (ran 0).desc.fld 8 4 = 0 ∧
     (s.slice 15).run = some (ran 1) ∧ (s.slice 15).endFlag ≠ 0xFF ∧ (s.round 15 63).toTake = [] ∧ (ran 1).desc.fld 8 4 ≠ 0 ∧
     ((s.setRound 15 63 { s.round 15 63 with toTake := [0] }).round 15 63).toTake ≠ [] ∧ (s.slice 1).run = none ∧ (s.slice 0).reconf = none) ∧
    (rconf 1 true 0).purge = true ∧ 5 ≤ (rconf 1 false 5).step ∧ (rconf 0 false 4).desc.any (fun d => d.fld 8 4 = 0) = true ∧
    (rconf 1 false 4).purge = false ∧ (rconf 1 false 4).step < 5 ∧ (rconf 1 false 4).desc.any (fun d => d.fld 8 4 ≠ 0) = true ∧
    ((loaded { reconf := some (rconf 1 false 4) }).slice 0).reconf = some (rconf 1 false 4) ∧ ({ rconf 0 false 3 with desc := none } : ReconfSt).desc = none := by decide +kernel

/-- An image whose one section is a SLICE record of canton 0. -/
def smallImage : List Byte :=
  List.replicate 12 0 ++ [1, 0, 0, 0, 64] ++ List.replicate 47 0 ++ [1] ++ List.replicate 7 0 ++ [96] ++ List.replicate 7 0 ++ [48] ++
  List.replicate 17 0 ++ [1, 1] ++ List.replicate 44 0

theorem wit_SliceDescriptors :
    ([0, 1, 2, 255].all fun k => let s := hosted (queued 0 ([1] ++ List.replicate 15 0 ++ [k]))
      taken s 0 (fun d => d.op = 0x01 && !(s.loadWaits d false)) (fun d _ => d.byte 16 = k.toNat)) = true ∧
    (queued 0 [1]).loadWaits (descOf [1]) false = true ∧ (queued 0 [1]).host.master = false ∧
    (let s := queued 0 [4] (loaded {}); taken s 0 (fun d => d.op = 0x04 && (s.slice d.slice).reconf.isNone) (fun d s => (s.slice d.slice).loaded) = true ∧
      taken s 0 (fun d => d.op = 0x04 && (s.slice d.slice).reconf.isNone) (fun d s => (s.sliceUp d.slice).isEmpty) = true ∧
      (joinedCanton 0 s).sliceUp 0 = [0] ∧ (∃ c ∈ (joinedCanton 0 s).sliceUp 0, SMap.get 0 (rconf 0 true 2).replies c ≠ 1) ∧
      (∀ c ∈ (joinedCanton 0 s).sliceUp 0, SMap.get 0 ({ rconf 0 true 2 with replies := [(0, 1)] } : ReconfSt).replies c = 1)) ∧
    (rconf 0 true 2).goal = .switch ∧ Goal.unload ≠ .switch ∧
    taken (queued 0 [4]) 0 (fun d => d.op = 0x04 && (({} : State).slice d.slice).reconf.isNone) (fun d s => !(s.slice d.slice).loaded) = true ∧
    ([1, 2].all fun k => taken (queued 0 ([3] ++ List.replicate 16 0 ++ [k])) 0 (fun d => d.op = 0x03 && d.byte 17 = k.toNat) (fun _ _ => true)) = true ∧
    (({} : State).slice (descOf []).slice).loaded = false ∧ ((loaded { reconf := some (rconf 0 true 0) }).slice 0).reconf.isSome = true ∧
    (let s := loaded { clean := 2, image := smallImage }; let d := descOf (List.replicate 18 0 ++ [1]); let x := s.slice d.slice
     x.loaded = true ∧ x.reconf = none ∧ BitVec.ofNat 4 ((descOf []).byte 18) = x.cur ∧ BitVec.ofNat 4 (d.byte 18) ≠ x.cur ∧
     x.clean.getLsbD (BitVec.ofNat 4 (d.byte 18)).toNat = true ∧ x.clean.getLsbD 15 = false ∧
     (x.img.any fun m => let q := s.rotate (s.tablesOf (m.records x.shifts (d.byte 16)) (s.sliceTiles d.slice))
       m.configs.contains (d.byte 16) && q.2.isNone && tablesOk x.holds q.1) = true ∧
     (x.img.any fun m => !(m.configs.contains 15)) = true) := by decide +kernel

/-! ### Witnesses: the host interface -/

/-- Ring 0 with a context. -/
def ringed (x : Ring) (s : State := {}) : State := s.setRing 0 x

theorem wit_Rings :
    ({} : State).host.decodes = false ∧ (hosted {}).host.decodes = true ∧
    (let s := ringed { state := 1 } (hosted {}); let r := s.ring 0
     (0 : W32) = r.sqTail ∧ r.state ≠ 0 ∧ (16 : W32) ≠ r.sqTail ∧ r.state = 1 ∧ modSub 32 16 r.sqFetch.toNat ≤ r.n ∧ r.n < modSub 32 17 r.sqFetch.toNat ∧
     (0xFFFFFFF0 : W32) ≠ r.cqHead ∧ modSub 32 r.cqProd.toNat 0xFFFFFFF0 ≤ r.n ∧ r.n < modSub 32 r.cqProd.toNat 0xFFFFFFEF ∧
     s.host.descs = [] ∧ s.txnState ≠ 1) ∧
    (({} : State).ring 4095).state = 0 ∧ ((ringed { state := 2 }).ring 0).state = 2 ∧ ((ringed { state := 3 }).ring 0).state ≠ 2 ∧
    ((ringed { log2 := 4 }).ring 0).log2.toNat = 4 ∧ ((ringed { log2 := 16 }).ring 0).log2.toNat = 16 ∧
    ((ringed { log2 := 3 }).ring 0).log2.toNat < 4 ∧ 16 < ((ringed { log2 := 17 }).ring 0).log2.toNat := by decide +kernel

/-- One descriptor waits in ring 0 of host memory, a NOP. -/
def toFetch (b : Byte) : State := (ringed { state := 1, sqTail := 1 } (hosted {})).updHost fun h => { h with mem := writeCells h.mem 0 [b] }

theorem wit_DescriptorsTaken :
    ({} : State).host.master = false ∧ (hosted {}).host.master = true ∧ (hosted {}).nextRing = none ∧ (toFetch 0).host.master = true ∧
    (toFetch 0).nextRing = some 0 ∧ (⟨0, 0, (toFetch 0).hostRead 0 64, false⟩ : Desc).ok = true ∧ (toFetch 0).engine ≠ 8 ∧
    (⟨0, 0, (toFetch 0xFF).hostRead 0 64, false⟩ : Desc).ok = false ∧
    taken (queued 0 [2, 2]) 0 (fun d => d.op = 0x02) (fun d _ => d.order && namesSlice d.op) = true ∧
    (({} : State).take 0 fun _ => true) = none ∧ ({} : State).engine ≠ 5 ∧ ({} : State).engine ≠ 6 := by decide +kernel

theorem wit_CompletionWritten : (hosted {}).host.master = true ∧ (hosted {}).host.held = [] := by decide +kernel

theorem wit_PlainDescriptors :
    ([0x00, 0x07, 0x0A].all fun b => taken (queued 0 [b]) 0 (fun d => d.op = b.toNat) (fun _ _ => true)) = true ∧
    taken (queued 0 ([9] ++ List.replicate 15 0 ++ [8])) 0 (fun d => d.op = 0x09)
      (fun d s => d.fld 32 8 < (s.sweep (d.byte 16) (d.byte 17 = 1) d.slice).length) = true ∧
    taken (queued 0 ([9] ++ List.replicate 15 0 ++ [8] ++ List.replicate 16 0 ++ [0, 0, 0xFF])) 0 (fun d => d.op = 0x09)
      (fun d s => (s.sweep (d.byte 16) (d.byte 17 = 1) d.slice).length ≤ d.fld 32 8) = true ∧
    ([1, 2].all fun ph => taken (queued 0 [8] (loaded { phase := ph })) 0 (fun d => d.op = 0x08 && d.byte 16 = 0)
      (fun d s => (s.slice d.slice).phase = ph)) = true ∧
    ([1, 2].all fun ph => [0, 1].all fun b => taken (queued 0 ([8] ++ List.replicate 15 0 ++ [1, b]) (loaded { phase := ph })) 0
      (fun d => d.op = 0x08 && d.byte 16 = 1) (fun d s => (s.slice d.slice).phase = ph && d.byte 17 = b.toNat)) = true ∧
    leAt 0 4 [] ≠ 0x504B4357 ∧ leAt 60 4 [] ≠ 0x5EA10D1F := by decide +kernel

/-- The transaction in a state. -/
def txning (v : Nat) (s : State := {}) : State := withFields [(fTxnStatState, 0, v)] s
/-- Every canton asked is 99. -/
def asking (s : State := {}) : State := s.updTxn fun t => { t with asked := [99] }

theorem wit_Transactions :
    (hosted (txning 1)).host.decodes = true ∧ (txning 1).txnState = 1 ∧ (txning 2).txnState = 2 ∧ (hosted {}).txnState = 0 ∧ (hosted {}).engine ≠ 8 ∧
    ([0x10, 0x11, 0x12, 0x13].all fun b => taken (queued 0 [b]) 0 (fun d => d.op = b.toNat) (fun _ s => !(s.ownsTxn (some 0)))) = true ∧
    taken (queued 0 [0x11] (withFields [(fTxnStatOwnerRing, 0, 1)] (txning 1))) 0 (fun d => d.op = 0x11) (fun _ s => s.ownsTxn (some 0)) = true ∧
    (hosted (txning 1)).ownsTxn none = true ∧ (hosted {}).ownsTxn none = false ∧ (txning 2).host.txn.apply = [] ∧
    (txning 2).host.txn.refusedBy = none ∧
    ((txning 2).updTxn fun t => { t with votes := [(7, some (true, 4, 0))] }).host.txn.refusedBy = some (7, 4, 0) ∧
    ({} : State).host.txn.desc = none ∧
    (let s := delivered { code := 4, src := ensignNode, dst := controllerNode 99, arg := 0 } (txning 2)
     s.txnTag = 0 ∧ s.txnState = 2 ∧ hands s ensignNode (controllerNode 99) (fun p => p.code = 4) (fun p => p.byte 0 = 0) = true ∧
     ((s.canton 99).wptOf (ensignNode % 2 ^ 13)).testBit 14 = false ∧
     hands (delivered { code := 4, src := ensignNode, dst := controllerNode 99, arg := 1 } s) ensignNode (controllerNode 99) (fun p => p.code = 4)
       (fun p => p.byte 0 ≠ s.txnTag) = true) ∧
    (let s := delivered { code := 5, src := controllerNode 99, dst := ensignNode, arg := voteArg 0 (some (65535, 6)) } (asking (txning 2))
     99 ∈ s.host.txn.asked ∧ 98 ∉ s.host.txn.asked ∧ s.host.txn.apply = [] ∧
     hands s (controllerNode 99) ensignNode (fun p => p.code = 5) (fun p => p.byte 0 = s.txnTag && p.vote = (true, 6, 65535)) = true) ∧
    (({} : State).takePennant ensignNode (controllerNode 0) (fun p => p.code = 4)).1 = none ∧ (255 < 256 ∧ 65535 < 65536) ∧
    (let s := (withFields [(fCanHalEtreeValid, 99, 1)] (joinedCanton 99)).updTxn fun t => { t with stage := [⟨0x400000 + 99 * 0x10000, 1, 1⟩] }
     s.engine ≠ 8 ∧ s.fbit fTxnStatOverflow = false ∧ s.host.txn.stage ≠ [] ∧ (∀ e ∈ s.host.txn.stage, s.reached (entryCanton e.off) = true) ∧
     (∀ e ∈ s.host.txn.stage, ((s.canton 40).wptOf (controllerNode (entryCanton e.off) % 2 ^ 13)).testBit 14 = false) ∧
     s.reached 99 = true ∧ 99 ∉ s.host.txn.lost ∧ (s.canton 99).slot = 0 ∧ ((s.setCanton 99 { s.canton 99 with slot := 15 }).canton 99).slot ≠ 0) ∧
    (∀ e ∈ (({} : State).updTxn fun t => { t with stage := [⟨0x400000, 1, 1⟩] }).host.txn.stage, ({} : State).reached (entryCanton e.off) = false) ∧
    0 ∉ ({} : State).host.txn.apply ∧ ({} : State).reached 0 = false ∧
    0 ∈ (({} : State).updTxn fun t => { t with apply := [0] }).host.txn.apply ∧ (∃ c ∈ (asking {}).host.txn.asked, SMap.get none (asking {}).host.txn.votes c = none) ∧
    (let s := (asking {}).updTxn fun t => { t with votes := [(99, some (false, 0, 0))] }
     (∀ c ∈ s.host.txn.asked, SMap.get none s.host.txn.votes c ≠ none) ∧ s.host.txn.refusedBy = none ∧ s.host.txn.asked ≠ []) := by decide +kernel

theorem wit_HostAccesses :
    ({} : State).host.decodes = false ∧ (hosted {}).host.decodes = true ∧ (hosted {}).accRefused = 0 ∧ (hosted {}).host.accWrites.length < 16 ∧
    (withFields [(fTileAccAddrSpace, 0, 10)] (hosted {})).accRefused ≠ 0 ∧
    (let s := withFields [(fTileAccAddrTile, 0, 63)] (hosted (joinedCanton 0 { present := [(0, 0x8000000000000000)] }))
     s.accRefused = 0 ∧ s.host.accWrites = [] ∧ s.accCheck (s.fbit fTileAccAddrPhys) (s.fget fTileAccAddrTile) 0 0 false = (0, false) ∧
     (s.accTile (s.fbit fTileAccAddrPhys) (s.fget fTileAccAddrTile)).isSome = true) ∧
    (hosted {}).host.linkUp = true ∧ ({} : State).host.linkUp = false ∧ (0xFFC : BitVec 38).toNat = 4 * 0x3FF ∧ HostSpace.bar0 ≠ .config ∧
    (0x10000 : BitVec 38).toNat % 8 = 0 ∧ (0x10000 : BitVec 38).toNat ≠ 0x308 ∧ (0x10000 : BitVec 38).toNat ≠ 0x70040 ∧ ({} : State).windowUp 0x10000 = true ∧
    (262136 : BitVec 38).toNat = 64 * (4095 : RingIx).val + 8 * 7 ∧
    (let s := withFields [(fBayStatState, bayCanton 0, 2), (fCkmDomBayFail, 0, 1)] (hosted {}); s.host.decodes = true ∧ s.rowsWait 0 1 = true) ∧
    (hosted {}).rowsWait 0 1 = false ∧
    ((ringed { irqTime := 1, unsignalled := 1 }).ring 0).irqTime ≠ 0 ∧ ((ringed { irqTime := 1, unsignalled := 1 }).ring 0).unsignalled ≠ 0 ∧
    (({} : State).ring 0).irqTime = 0 ∧ (({} : State).ring 0).unsignalled = 0 ∧ (0 ≠ 4 ∧ 0 ≠ 8) ∧ 4 % 8 ≠ 0 ∧
    ({} : State).gated 0x100 = false ∧ ({} : State).windowUp 0x200000 = false ∧ ({} : State).gated 0x100000 = true ∧
    (txning 1).txnState = 1 ∧ (txning 1).fbit fTxnStatOwnerRing = false ∧ (txning 1).host.txn.stage.length < 4096 ∧ ({} : State).txnState ≠ 1 := by decide +kernel

theorem wit_HostResets :
    ({} : State).mgmt.pgood = false ∧ (({} : State).updHost fun h => { h with pcieLost := true }).host.pcieLost = true ∧
    (island {}).mgmt.pgood = true ∧ (island {}).host.pcieLost = false ∧ ({} : State).host.linkUp = false ∧ (hosted {}).host.linkUp = true ∧
    ({ d3 := false, mse := true, bme := true, msixEn := true, msixMask := false, speed := 1, width := 1, flit := false } : PcieState).bme = true ∧
    (loaded {}).sliceUp 0 = [] ∧ (joinedCanton 0 (loaded {})).sliceUp 0 = [0] ∧ (txning 1).txnState = 1 := by decide +kernel

/-- Flag f of slice 0 has a round with every participant arrived. -/
def roundAt (f : Nat) : State := (loaded {} (withTile {})).setRound 0 f { op := some 4, acc := 7 }

theorem wit_HalyardRounds :
    ({} : State).roundFull 0 63 = false ∧ (roundAt 63).roundFull 0 63 = true ∧ (roundAt 0).roundFull 0 0 = true ∧
    cantonNeighbour 0 0 = none ∧ cantonNeighbour 0 1 = some 1 ∧ cantonNeighbour 99 0 = some 89 ∧ 0 ∈ (roundAt 63).sliceTiles 0 ∧
    (((roundAt 63).setTile 0 { flags := [(63, .arrived)] }).tile 0).flag 63 = .arrived ∧ (62 : Nat) ≠ 63 ∧ 1 ∉ (roundAt 63).sliceTiles 0 := by decide +kernel

/-! ### Witnesses: stores -/

/-- A tile that sends to its own IQ0, which is full, and has no credit left. -/
def knotted (flags : W16) : State :=
  (({ present := [(0, 1)], tiles := [(0, { iq := [(0, (List.range 16).map flit)], cred := [], status := { probe := true } })] } : State).setRouter 0
    { slots := [(4, 5)] }).setSlice 0 { loaded := true, cw := 1, ch := 1, phase := 2, flags := flags, probes := [0] }
/-- IQ0 of tile 0 spills into a pool of 64 entries. -/
def spilling (z : SpillQ) (s : State) : State := s.setCluster 0 { spillKib := 4, spillQs := [z] }
/-- A flit of tile 0 stands in the first entry of its pool. -/
def pooled : State :=
  let s := spilling { tile := 0, queue := 0, slots := [0], seqIn := 1, owed := 1 } (withTile {})
  s.updMem (·.putRow ((s.cluster 0).poolAddr 0 0) (poolEntry (flit 9) 0 0 0) 0)

theorem wit_DeadlockAndSpill :
    (let s := delivered { code := 6, src := clusterOf 0, dst := ensignNode, arg := ({} : Tile).probeArg 0 }
     let mine (p : Pennant) : Bool := p.code = 6 && p.byte 0 % 64 = localTile 0
     hands (loaded {} s) (clusterOf 0) ensignNode mine (fun _ => true) = true ∧ (loaded {} s).sliceOf (cantonOf 0) = some 0 ∧
     s.sliceOf (cantonOf 0) = none ∧ (s.takePennant (clusterOf 0) ensignNode fun p => p.code = 7).1 = none ∧ (47 < 48)) ∧
    (({} : State).tile 0).status.probe = false ∧ ((withTile { status := { probe := true } }).tile 0).status.probe = true ∧
    ({} : State).deadlocks 15 = [] ∧
    (knotted 0).deadlocks 0 = [(⟨0, 0, some 0⟩, [0])] ∧ ((knotted 0).slice 0).phase ≠ 6 ∧ ((knotted 2).slice 0).flags.getLsbD 1 = true ∧
    ((knotted 0).slice 0).flags.getLsbD 1 = false ∧ (knotted 0).chooseSpill ((knotted 0).deadlocks 0) = some (0, 0, [0]) ∧
    (spilling { tile := 0, queue := 0 } (knotted 0)).chooseSpill ((knotted 0).deadlocks 0) = none ∧
    ((knotted 0).cluster (clusterOf 0)).spillQs.length < 16 ∧ (({} : State).cluster (clusterOf 0)).spillOf 0 0 = none ∧
    (let s := spilling { tile := 0, queue := 0 } (withTile rich)
     (s.cluster (clusterOf 0)).spillOf 0 0 = some { tile := 0, queue := 0 } ∧ s.spillMoves (cantonOf 0) = true ∧
     ((s.tile 0).queue 0).drop 0 = flit 0 :: ((s.tile 0).queue 0).drop 1 ∧ SMap.get 0 (s.router 0).pend 0 < 32 ∧
     32 ≤ SMap.get 0 ((s.setRouter 0 { pend := [(0, 32)] }).router 0).pend 0 ∧ (s.cluster (clusterOf 0)).poolFree = some 0) ∧
    (({} : State).setCanton 0 { watch := .stopping }).spillMoves (cantonOf 0) = false ∧ (({} : State).cluster 0).poolFree = none ∧
    (let z : SpillQ := { tile := 0, queue := 0, slots := [0], seqIn := 1, owed := 1 }
     let b := pooled.mem.bytes ((pooled.cluster (clusterOf 0)).poolAddr (clusterOf 0) 0) 64
     (pooled.cluster (clusterOf 0)).spillOf 0 0 = some z ∧ z.slots = 0 :: [] ∧ z.owed ≠ 0 ∧ pooled.spillMoves (cantonOf 0) = true ∧
     pooled.mem.marks = [] ∧ leAt 34 1 b = localTile 0 ∧ leAt 35 1 b = 0 ∧ leAt 36 4 b = z.seqOut.toNat) ∧
    (let s := (loaded {} (withTile rich)).setCluster 0 { spillQs := [{ tile := 0, queue := 0 }] }
     s.sliceOf (cantonOfCluster 0) = some 0 ∧ (s.cluster 0).poolFree = none ∧
     ((s.cluster 0).spillQs.any fun z => decide (z.kept < ((s.tile z.tile).queue z.queue).length)) = true) ∧
    ((spilling { tile := 0, queue := 0 } {}).cluster 0).poolFree ≠ none := by decide +kernel

/-- Bay b is ready. -/
def bayUp (b : Nat) (s : State := {}) : State := withFields [(fBayStatState, bayCanton b, 2)] s
/-- A prefetcher that may issue. -/
def pfReady : Prefetcher := { enable := true, started := true, depth := 1 }
/-- Cluster 4799 is owned by slice 15 and its prefetcher 15 may issue. -/
def fetching (p : Prefetcher) (s : State := {}) : State := s.setCluster 4799 { owned := true, owner := 15, pf := [(15, p)], cacheBanks := 1 }

theorem wit_BaysAndClasses :
    ({} : State).nextChannel (bayCanton 0) = none ∧ ({} : State).fget fBayStatState (bayCanton 0) ≠ 2 ∧
    (withFields [(fBayStatRetrainAct, bayCanton 39, 0x80000000)] (bayUp 39)).nextChannel (bayCanton 39) = some 31 ∧
    (withFields [(fBayStatRetrainAct, bayCanton 39, 0x80000000)] (bayUp 39)).fget fBayStatState (bayCanton 39) = 2 ∧
    (joinedCanton (bayCanton 39)).online (bayCanton 39) = true ∧ (({} : State).region 39 127).owned = false ∧ (({} : State).region 39 127).classW ≠ true ∧
    (({} : State).region 39 127).classW = false ∧ ((({} : State).setRegion 0 0 { owned := true }).region 0 0).owned = true ∧
    (withFields [(fBayCfgAuto, bayCanton 0, 0)]).fbit fBayCfgAuto (bayCanton 0) = false ∧
    (joinedCanton 99).online (cantonOfCluster 4799) = true ∧ ({} : State).online (cantonOfCluster 0) = false ∧
    ((fetching pfReady).cluster 4799).owned = true ∧ (({} : State).cluster 0).owned = false ∧ ((({} : State).cluster 0).pfOf 0).ready = false ∧
    (((fetching pfReady).cluster 4799).pfOf 15).ready = true ∧ (fetching pfReady).mapped 0 = false ∧
    (let s := bayUp 0 ((fetching pfReady).setRegion 0 0 { owned := true, owner := 15, cache := true })
     let row := ((s.cluster 4799).pfOf 15).row
     0 ≤ row ∧ row.toNat * 64 < 0x050000000000 ∧ s.mapped (row.toNat * 64) = true ∧ (s.ownership 0).owned = true ∧ (s.ownership 0).owner = 15 ∧
     s.cacheable 15 4799 0 = true) ∧
    ({ pfReady with innerM1 := 1, icur := 1, innerStride := 0xFFFFFFFF } : Prefetcher).row < 0 ∧
    0x050000000000 ≤ ({ pfReady with base := 0x1400000000 } : Prefetcher).row.toNat * 64 ∧
    pfReady.rcur = pfReady.rowsM1 ∧ pfReady.icur = pfReady.innerM1 ∧ pfReady.ocur = pfReady.outerM1 ∧ pfReady.wrap = false ∧
    ({ pfReady with rowsM1 := 63, rcur := 62 } : Prefetcher).rcur ≠ 63 := by decide +kernel

/-- A DMA within the engine, a SCRUB of cluster 0. -/
def dmaBytes : List Byte := [5] ++ List.replicate 31 0 ++ [64, 0, 0, 0, 1]
def scrubBytes : List Byte := [6] ++ List.replicate 17 0 ++ [1]
/-- Entries of a DMA in queue 31 of cluster 4799. -/
def dmaLine (n : Nat) : State :=
  (({} : State).setDmaq 4799 31 { entries := List.replicate n { feeder := .host 0 0, left := 0 } }).updHost fun h => { h with dma := [{ ring := 0, num := 0 }] }

theorem wit_DmaStore : ∀ ring num, Feeder.store (.cluster 0) ≠ .host ring num := fun _ _ h => nomatch h

theorem wit_DmaAndScrub :
    (let s := queued 0 dmaBytes
     taken s 0 (fun d => d.op = 0x05 && (d.byte 36 ≠ 0 || s.host.master) &&
       d.runners.all fun k => s.dmaRoom k ((0 : RingIx).val % 16)) (fun _ _ => true) = true) ∧
    (({} : State).dmaq 0 0).entries = [] ∧ ((dmaLine 2).dmaq 4799 31).entries = [{ feeder := .host 0 0, left := 0 }, { feeder := .host 0 0, left := 0 }] ∧
    (let s := ({} : State).setDmaq 0 0 { entries := [{ feeder := .host 0 0, left := 1 }] }; ∃ e ∈ (s.dmaq 0 0).entries.head?, e.left ≠ 0) ∧
    ((dmaLine 2).setDmaq 4799 31 { entries := [{ feeder := .host 0 0, left := 0 }] }).dmaLeft (.host 0 0) = true ∧
    ((dmaLine 1).setDmaq 4799 31 { entries := [] }).dmaLeft (.host 0 0) = false ∧
    (let j : DmaJob := { ring := 0, num := 0 }; j.compAddr = 0 ∧ j.failed = none ∧ ({ j with failed := some 1 } : DmaJob).failed = some 1) ∧
    ((dmaLine 1).updHost fun h => { h with descs := [descOf []] }).host.descs.any (fun d => d.ring = 0 && d.num = 0) = true ∧
    (dmaLine 1).host.dma.find? (fun j => j.ring = 0 && j.num = 0) = some { ring := 0, num := 0 } ∧
    (let s := queued 0 scrubBytes
     taken s 0 (fun d => d.op = 0x06 && !(d.targets.any s.targetBusy) && d.targets.all s.storeRoom) (fun d s => !(d.targets.any s.targetOwned)) = true) ∧
    (let s := queued 0 scrubBytes (({} : State).setCluster 0 { owned := true })
     taken s 0 (fun d => d.op = 0x06 && !(d.targets.any s.targetBusy) && d.targets.all s.storeRoom) (fun d s => d.targets.any s.targetOwned) = true) ∧
    (bayUp 39).targetUp (.region 39 127) = true ∧ (joinedCanton 99).targetUp (.cluster 4799) = true ∧
    (({} : State).cluster 0).scrubbing = false ∧ ((({} : State).setCluster 0 { scrubbing := true }).cluster 0).scrubbing = true ∧
    (({} : State).region 0 0).scrubbing = false ∧ ((({} : State).setRegion 39 127 { scrubbing := true }).region 39 127).scrubbing = true := by decide +kernel

/-! ### Witnesses: ports -/

/-- Port p clocked, its canton joined, its link up. -/
def portUp (p : Nat) (s : State := {}) : State := withFields [(fPrtClkEnEn, 0, 0xFFFFF), (fPrtLinkStatState, p, 2)] (joinedCanton (portCanton p) s)
/-- A message of a type for a step. -/
def msgOf (typ : Byte) (step : BitVec 48) (body : List Byte := []) : WxtMsg :=
  { peer := 0, framed := true, ver := 1, typ := typ, rel := true, syn := false, fin := false, replica := 0, shard := 0, flow := 0, seq := 0
    step := step, body := body }
/-- An engine in a state. -/
def engined (p st : Nat) (s : State := {}) : State := withFields [(fPrtUeStatState, p, st)] s
/-- A chunk of one group from element 0. -/
def chunkBody : List Byte := List.replicate 10 0 ++ [1] ++ List.replicate 1029 0
/-- The engine of port 19 receives step 1, expecting an element. -/
def receiving (e : Nat) : State :=
  withFields [(fPrtUeShardStripes, 19, 8)] (engined 19 2 (({} : State).setPort 19 { bound := [(1, 0, 0)], expect := e }))

theorem wit_WxtFrames :
    (let m := msgOf 2 1 chunkBody
     64 ≤ (portUp 19).frameSize 19 m ∧ (portUp 19).frameSize 19 m ≤ 9216 ∧ m.line.fcs = true ∧ (portUp 19).frameSize 19 (msgOf 2 1) ≤ 9216 ∧
     ({ m with line := { fcs := false } } : WxtMsg).line.fcs = false ∧ ({ m with dst := 1 } : WxtMsg).dst ≠ (portUp 19).ownIp 19 ∧
     ({ m with udp := 0 } : WxtMsg).udp.toNat ≠ (portUp 19).fget fPrtWxtCtrlUdpPort 19 ∧ ({ m with sumOk := false } : WxtMsg).sumOk = false ∧
     ({ m with sumZero := true } : WxtMsg).sumZero = true ∧ (withFields [(fPrtNetCfgIpv6, 19, 0)]).fbit fPrtNetCfgIpv6 19 = false ∧ m.dst = (portUp 19).ownIp 19 ∧
     m.udp.toNat = (portUp 19).fget fPrtWxtCtrlUdpPort 19) ∧ beAt 13 1 [0, 0, 0, 0, 0, 0, 0, 0, 0, 0, 0, 0, 0, 1] % 2 = 1 ∧ strayTyp 0 = true := by decide +kernel

theorem wit_WxtMessages :
    ({} : State).portOn 0 = false ∧ ({} : State).linkIsUp 0 = false ∧ (portUp 19).portOn 19 = true ∧ (portUp 19).linkIsUp 19 = true ∧
    (portUp 19).fbit fPrtWxtCtrlEn 19 = false ∧ ({ msgOf 2 0 with framed := false } : WxtMsg).framed = false ∧ (msgOf 1 0).rel = looseTyp (msgOf 1 0).typ ∧
    ({} : State).refusal 0 { msgOf 2 0 with ver := 2 } = some (5, 2) ∧ ({} : State).refusal 0 (msgOf 0x0B 0) = some (6, 0x0B) ∧
    ({} : State).refusal 0 (msgOf 2 0) = some (1, 0) ∧ beAt 0 1 [1, 0] = 1 ∧ beAt 1 1 [1, 0] % 2 = 0 ∧ beAt 0 1 [0] ≠ 1 ∧
    (0 : W32).toNat < 1 ∧ (msgOf 2 0).step.toNat ≤ ({} : State).cstep 0 ∧ ({} : State).cstep 0 < (msgOf 2 1).step.toNat ∧
    (engined 19 1).ueState 19 = 1 ∧ (engined 19 2).ueState 19 = 2 ∧ (msgOf 2 2).step.toNat ≠ (engined 19 2).cstep 19 + 1 ∧
    (engined 0 3).ueState 0 = 3 ∧ (msgOf 2 2).step.toNat = (engined 0 3).cstep 0 + 2 ∧ (engined 0 4).ueState 0 = 4 ∧
    (msgOf 2 1).step.toNat = (engined 0 4).cstep 0 + 1 ∧ ((engined 0 4).port 0).boundElse (msgOf 2 1) = false ∧
    (((engined 0 4).setPort 0 { bound := [(1, 1, 0)] }).port 0).boundElse (msgOf 2 1) = true ∧ ({} : State).ueState 0 = 0 ∧ 5 ≤ (engined 0 5).ueState 0 ∧ 8 ≤ (engined 0 8).ueState 0 ∧
    (let m := msgOf 2 1 chunkBody
     (receiving 0).ueState 19 = 2 ∧ m.step.toNat = (receiving 0).cstep 19 + 1 ∧ beAt 13 1 m.body % 2 = 0 ∧ ((receiving 0).port 19).boundElse m = false ∧
     ((receiving 0).port 19).boundElse { m with flow := 1 } = true ∧ 4 * 256 ≤ 8192 ∧ 0 % 256 = 0 ∧ 256 % 256 = 0 ∧
     beAt 0 8 m.body = 0 ∧ beAt 8 4 m.body = 256 ∧ beAt 12 1 m.body = 0 ∧ beAt 13 1 m.body = 0 ∧ m.body.length = 16 + 4 * 256 ∧
     ((receiving 0).port 19).expect = 0 ∧ 0 + 256 ≤ 32 * (receiving 0).ueStripes 19 ∧ ((receiving 256).port 19).expect ≠ 0) ∧
    ({} : State).fbit fPrtWxtCtrlWpushEn 0 = false ∧ (engined 0 6).ueState 0 = 6 := by decide +kernel

/-- A flow in, and a frame in flight with its timeouts. -/
def inFlow (n : Nat) : FlowIn := { peer := 0, flow := 0, express := false, cum := 0, unacked := n, owed := n ≠ 0 }
def frame (n : Nat) : TxFrame := { seq := 0, bytes := [], timeouts := n }

theorem wit_PortTimersAndLinks :
    (({} : State).port 0).flowIn 0 0 = none ∧
    (let s := (portUp 19).setPort 19 { flowsIn := [inFlow 1] }
     (s.port 19).flowIn 0 0 = some (inFlow 1) ∧ (inFlow 1).owed = true ∧ s.portOn 19 = true ∧ s.linkIsUp 19 = true) ∧ (inFlow 0).owed = false ∧
    ({} : State).portOn 0 = false ∧ ((({} : State).port 0).out true).buf.find? (fun t => t.seq = 0) = none ∧
    (let s := withFields [(fPrtWxtCtrlRetryMax, 19, 2)] ((portUp 19).setPort 19 { express := { buf := [frame 1] }, bulk := { buf := [frame 0] } })
     s.portOn 19 = true ∧ s.linkIsUp 19 = true ∧ ((s.port 19).out true).buf.find? (fun t => t.seq = 0) = some (frame 1) ∧
     max 1 (s.fget fPrtWxtCtrlRetryMax 19) ≤ (frame 1).timeouts + 1 ∧ ((s.port 19).out false).buf.find? (fun t => t.seq = 0) = some (frame 0) ∧
     (frame 0).timeouts + 1 < max 1 (s.fget fPrtWxtCtrlRetryMax 19)) ∧
    (withFields [(fGlbEngineStateState, 0, 5), (fPrtWxtCtrlEn, 19, 1)] (portUp 19)).mayStart 19 false = true ∧
    (let s := withFields [(fGlbEngineStateState, 0, 5), (fPrtWxtCtrlEn, 19, 1)] ((portUp 19).setPort 19 { paused := 0xFF }); s.mayStart 19 false = false ∧ s.helloOk 19 = true) ∧
    (({} : State).port 0).gx = none ∧ (({} : State).port 0).ctl = [] ∧ ({} : State).fget fCkmTportPort = 0 ∧ (0 : Nat) ≠ 19 ∧
    ({} : State).helloOk 0 = false ∧ (withFields [(fGlbEngineStateState, 0, 5), (fPrtWxtCtrlEn, 19, 1)] (portUp 19)).helloOk 19 = true ∧
    ((({} : State).setPort 0 { helloSent := true }).port 0).helloSent = true ∧ (({} : State).port 0).late = false ∧ ({} : State).fbit fPrtWxtStatRegistered 0 = false ∧
    (({} : State).port 0).express.wait = [] ∧ (({} : State).port 0).bulk.wait = [] ∧
    ({} : State).fget fPrtLinkStatState 0 = 0 ∧ (withFields [(fPrtLinkStatState, 19, 1)] (portUp 19)).fget fPrtLinkStatState 19 = 1 ∧
    (withFields [(fPrtLinkStatState, 19, 3)] (portUp 19)).fget fPrtLinkStatState 19 = 3 ∧ ((portUp 19).fget fCkmDomPtxFail).testBit 19 = false ∧
    ((withFields [(fCkmDomPtxFail, 0, 1)]).fget fCkmDomPtxFail).testBit 0 = true ∧
    (withFields [(fPrtLinkCtrlLinkEn, 19, 1)] (portUp 19)).fbit fPrtLinkCtrlLinkEn 19 = true := by decide +kernel

theorem wit_PortControlFrames :
    ({} : State).portOn 0 = false ∧ (portUp 0).portOn 0 = true ∧ (portUp 0).linkIsUp 0 = true ∧ ((portUp 0).port 0).express.wait = [] ∧ ((portUp 0).port 0).bulk.wait = [] ∧
    (let s := withFields [(fPrtPfcXoffKib, 19, 0), (fPrtNetCfgPfcEn, 19, 1)] ((portUp 19).setPort 19 { pauseSent := true })
     (s.port 19).pauseSent = true ∧ s.aboveXoff 19 = true ∧ s.fbit fPrtNetCfgPfcEn 19 = true ∧ s.linkIsUp 19 = true) ∧
    (({} : State).port 0).pauseSent = false ∧ ({} : RxLine).fcs = true ∧ ({ fcs := false } : RxLine).fcs = false ∧
    64 ≤ (64 : W16).toNat ∧ (9216 : W16).toNat ≤ 9216 ∧ (63 : W16).toNat < 64 ∧ 9216 < (9217 : W16).toNat ∧ ((portUp 0).port 0).gx = none ∧ (portUp 0).fget fPrtEsmcSsm 0 ≠ (if (portUp 0).fget fPrtEsmcSsm 0 = 15 then 0 else 15) := by decide +kernel

/-! ### Witnesses: engines of the ports, clocks, bring-up -/

/-- The engine of port 19 is in BUSY with a command. -/
def busyUe (op : Nat) (x : Port := {}) : State := withFields [(fPrtUeCmdOp, 19, op)] (engined 19 8 (({} : State).setPort 19 x))

theorem wit_UpdateEngine :
    ({} : State).groupReady 0 = false ∧ ({} : State).ueState 0 ≠ 2 ∧
    (let s := withFields [(fPrtUeShardStripes, 19, 8)] (engined 19 2 (({} : State).setPort 19 { grad := List.replicate 256 0 }))
     s.groupReady 19 = true ∧ (s.groupFault 19 0 0).1 ≠ none ∧ (s.port 19).grad ≠ []) ∧
    (let s := withFields [(fPrtUeCfgDigestN, 19, 2)] (engined 19 2)
     s.ueState 19 = 2 ∧ (s.port 19).grad = [] ∧ s.ueStripes 19 ≤ 8 * (s.port 19).group ∧ (s.port 19).stepNf = 0 ∧ (s.port 19).stepOv = 0 ∧
     s.digestStep 19 (s.cstep 19 + 1) = false ∧ s.digestStep 19 2 = true) ∧ (engined 0 4).ueState 0 = 4 ∧ ({} : State).ueState 0 ≠ 4 ∧
    ({} : State).sliceOf (portCanton 0) = none ∧
    (let s := (({} : State).setSlice 0 { loaded := true, cw := 10, ch := 10 }).setRound 0 0 { toTake := [portCanton 19] }
     s.sliceOf (portCanton 19) = some 0 ∧ s.fbit fPrtGxCtrlGxEn 19 = false ∧
     (withFields [(fPrtGxCtrlGxEn, 19, 1)] s).fbit fPrtGxCtrlGxEn 19 = true ∧ portCanton 19 ∈ (s.round 0 (s.fget fPrtGxCtrlGxFlag 19)).toTake ∧
     portCanton 0 ∉ (s.round 0 (s.fget fPrtGxCtrlGxFlag 0)).toTake) ∧
    ([1, 2, 3, 4, 5].all fun op => (busyUe op).cmdWaits 19 op && !((busyUe 0).cmdWaits 19 op)) = true ∧
    ((busyUe 4 { was := 6 }).port 19).was = 6 ∧ (({} : State).port 0).cmdEnd = none ∧ ({} : State).ueState 0 ≠ 8 ∧
    ([⟨0, 4, false⟩, ⟨0, 6, true⟩, ⟨1, 1, true⟩].all fun e => ((busyUe 1 { cmdEnd := some e }).port 19).cmdEnd = some e) = true ∧ 15 < 16 ∧ (busyUe 1).ueState 19 = 8 ∧ (({} : State).port 0).enabling = false ∧
    (withFields [(fCkmDomBayFail, 0, 2 ^ homeBay 19)]).bayWaits 19 = true ∧ (busyUe 0).ueState 19 = 8 ∧
    (let s := busyUe 0 { enabling := true }
     s.ueState 19 = 8 ∧ (s.port 19).enabling = true ∧ s.bayWaits 19 = false ∧ (s.scan 19).1 = 0 ∧
     (s.scan 19).2.fbit fPrtUeScanInvalid 19 = false ∧ (s.scan 19).2.fget fPrtUeScanSpread 19 = 0) ∧
    (let s := withFields [(fPrtUeShardStripes, 19, 8)] (busyUe 0 { enabling := true })
     (s.scan 19).1 ≠ 0 ∨ (s.scan 19).2.fbit fPrtUeScanInvalid 19 = true) := by decide +kernel

/-- The refresh of port 19 stands at an entry, one of its copies in a queue or none. -/
def refreshing (st : Nat) (at_ : Option Nat) (copies : Nat) : State :=
  (engined 19 st (({} : State).setPort 19 { refreshAt := at_ })).setDmaq 0 28 { entries := List.replicate copies { feeder := .port 19 0 } }

theorem wit_Refresh :
    (refreshing 4 (some 0) 1).ueState 19 ≠ 8 ∧ ((refreshing 4 (some 0) 1).refreshOn 19).refreshed 19 = false ∧ ((refreshing 4 none 1).port 19).refreshAt = none ∧
    (let s := refreshing 4 none 0; let s1 := s.refreshOn 19; (s1.port 19).refreshAt.isSome = false ∧ s1.refreshed 19 = true ∧ s1.ueState 19 = 4) ∧
    (let s := refreshing 4 (some 0) 0; let s1 := s.refreshOn 19
     (s1.port 19).refreshAt.isSome = true ∧ s1.refreshed 19 = true ∧ ((s1.setPort 19 { s1.port 19 with refreshAt := none }).refreshArrive 19).ueState 19 = 4) ∧
    (let s := refreshing 2 none 0; (s.refreshOn 19).refreshed 19 = true ∧ (s.refreshOn 19).ueState 19 ≠ 4) ∧
    (let s : State := ({} : State).setPort 19 { gx := some ⟨1, 0, 0, 0⟩ }; (s.port 19).gx = some ⟨1, 0, 0, 0⟩) ∧
    (let s : State := ({} : State).setPort 19 { gx := some ⟨1, 0, 0, 32⟩, bulk := { wait := [(1, 0, [])] } }
     (s.port 19).gx = some ⟨1, 0, 0, 32⟩ ∧ (s.port 19).bulk.wait ≠ []) := by decide +kernel

/-- The reference has a source, and both candidates are ready or not. -/
def refOn (src ready : Nat) : State :=
  withFields [(fCkmRefSelActive, 0, src), (fCkmRefStatJudge, 0, 1), (fCkmRefStatReadyXtal, 0, ready), (fCkmRefStatReadyTp, 0, ready)]
/-- A legacy switch stands still. -/
def haltedRef : State := withFields [(fCkmRefSelBusy, 0, 1), (fCkmRefSelLegacy, 0, 1)]

theorem wit_ReferenceSwitches :
    2 ≤ (2 : BitVec 2).toNat ∧ 2 ≤ (3 : BitVec 2).toNat ∧ (1 : BitVec 2).toNat < 2 ∧ ({} : State).fbit fCkmRefSelBusy = false ∧ haltedRef.fbit fCkmRefSelBusy = true ∧
    (refOn 1 1).active = (1 : BitVec 2).toNat ∧ (refOn 2 1).active ≠ (0 : BitVec 2).toNat ∧ ({} : State).fbit fCkmRefStatJudge = false ∧
    (refOn 2 0).fbit fCkmRefStatJudge = true ∧ (refOn 2 0).ready_ 0 = false ∧ (refOn 0 1).ready_ 1 = true ∧ (refOn 0 1).active ≠ (1 : BitVec 2).toNat ∧
    (refOn 0 1).active < 2 ∧ ({} : State).stopped = false ∧ haltedRef.stopped = true ∧
    (let s := withFields [(fCkmRefSelActive, 0, 1)] haltedRef; s.stopped = true ∧ s.active = b2n true) := by decide +kernel

theorem wit_ClockJudging :
    ({} : State).fbit fCkmRefStatJudge = false ∧ (refOn 0 1).fbit fCkmRefStatJudge = true ∧
    (withFields [(fCkmRefStatPassXtal, 0, 15)]).fget fCkmRefStatPassXtal = 15 ∧ ({} : State).fget fCkmRefStatPassXtal < 15 ∧
    (refOn 1 1).active = 1 ∧ (refOn 2 1).active ≠ 0 ∧ ({} : State).stopped = false ∧ ({} : State).active = 2 ∧ (refOn 0 1).active ≠ 2 ∧
    (withFields [(fCkmDomMgtOnRc, 0, 1)]).onRc = true ∧ (withFields [(fCkmDomMgtOnRc, 0, 0)]).onRc = false ∧
    (24250 : W32).toNat = 24250 ∧ (25751 : W32).toNat = 25751 ∧
    ((({} : State).updMgmt fun m => { m with xtalPass := 15 }).mgmt.xtalPass, ({} : State).mgmt.fellBack) = (15, false) ∧
    (({} : State).updMgmt fun m => { m with fellBack := true }).mgmt.fellBack = true ∧
    (let s := withFields [(fCkmDomMgtOnRc, 0, 1)] (({} : State).updMgmt fun m => { m with xtalPass := 16 }); s.onRc = true ∧ s.mgmt.xtalPass = 16) := by decide +kernel

theorem wit_ClockDomains :
    ({} : State).linkIsUp 0 = false ∧ (portUp 19).linkIsUp 19 = true ∧
    ((withFields [(fCkmDomPtxFail, 0, 0x80000)]).fget fCkmDomPtxFail).testBit 19 = true ∧ (({} : State).fget fCkmDomPtxFail).testBit 0 = false ∧
    (withFields [(fPrtLinkCtrlLinkEn, 19, 1)]).fbit fPrtLinkCtrlLinkEn 19 = true ∧
    ((withFields [(fCkmDomBayFail, 0, 0x8000000000)]).fget fCkmDomBayFail).testBit 39 = true ∧ (({} : State).fget fCkmDomBayFail).testBit 0 = false ∧
    (({} : State).updHost fun h => { h with pcieLost := true }).host.pcieLost = true ∧ ({} : State).mgmt.pgood = false ∧
    (island {}).host.pcieLost = false ∧ (island {}).mgmt.pgood = true ∧ (island {}).engine ≠ 8 ∧ (island {}).engine ≠ 7 ∧
    ({} : State).online 0 = false ∧ (joinedCanton 99).online 99 = true ∧ (({} : State).canton 99).slot = 0 ∧ ((joinedCanton 99).canton 99).slot = 0 ∧
    ((({} : State).setCanton 99 { slot := 15 }).canton 99).slot ≠ 0 ∧ (portUp 0).linkIsUp 0 = true ∧ (portUp 0).fget fCkmTportPort = 0 ∧
    (portUp 19).fget fCkmTportPort ≠ 19 ∧ (withFields [(fCkmRefSelActive, 0, 1)] (portUp 0)).active = 1 := by decide +kernel

/-- What the hardware of a canton shows: the failing step and the directions that lock. -/
def shows (fail lock : BitVec 4) : WaveIn := ⟨fail, lock, [], [], []⟩
/-- Canton 99 has a locked neighbour in the west. -/
def nextTo (s : State := {}) : State := withFields [(fCanClkStatLocked, 98, 1)] (joinedCanton 98 s)

theorem wit_CantonPower :
    ({} : State).online 0 = false ∧ (joinedCanton 99).online 99 = true ∧ (99 : Nat) ≠ 40 ∧ ({} : State).host.decodes = false ∧ (hosted {}).host.decodes = true ∧
    (hosted {}).online 0 = false ∧ ((({} : State).setCanton 0 { retired := true }).canton 0).retired = true ∧ (({} : State).canton 0).retired = false ∧
    (hosted (joinedCanton 99)).online 99 = true ∧ (hosted (joinedCanton 99)).sliceOf 99 = none ∧
    ([1, 2, 3, 6].all fun ph => let s := joinedCanton 99 (wide 3 |>.setSlice 3 { loaded := true, cw := 10, ch := 10, phase := BitVec.ofNat 4 ph })
      s.online 99 && s.sliceOf 99 = some 3 && (s.slice 3).phase.toNat = ph) = true ∧
    ({} : State).ledgerRetired 0 = false ∧ (withFields [(fCanBruStatFailed, 0, 1)]).fbit fCanBruStatFailed 0 = true ∧ ({} : State).fbit fCanBruStatFailed 0 = false ∧
    (let s := hosted (nextTo (({} : State).setCanton 99 { powered := true, isolated := true }))
     ((s.canton 99).powered && (s.canton 99).isolated) = true ∧ s.online 99 = false ∧ (s.disown 99).lockDir 99 (shows 0 0).lock = none ∧
     (s.disown 99).lockDir 99 (shows 0 15).lock = some 3 ∧ (shows 0 15).fail = 0 ∧ (shows 7 15).fail ≠ 0) ∧
    (let s := hosted (({} : State).setCanton 40 { powered := true, isolated := true })
     ((s.canton 40).powered && (s.canton 40).isolated) = true ∧ s.online 40 = false ∧ (s.canton 40).retired = false ∧ s.ledgerRetired 40 = false ∧
     s.fbit fCanBruStatFailed 40 = false) ∧
    ((({} : State).canton 0).powered && (({} : State).canton 0).isolated) = false ∧ (({} : State).canton 0).offByPlan = false ∧
    ((({} : State).setCanton 0 { offByPlan := true }).canton 0).offByPlan = true ∧
    ((({} : State).setCanton 0 { offByPlan := true, offHot := true, temp := 1279 }).canton 0).temp.toInt < 80 * 16 ∧
    ((({} : State).setCanton 0 { offByPlan := true, offHot := true, temp := 1280 }).canton 0).offHot = true ∧ 80 * 16 ≤ (1280 : W16).toInt := by decide +kernel

/-- The island with PWR_EN samples in a row. -/
def sampled (high low : Nat) (main : Bool) : State := (island {}).updMgmt fun m => { m with enHigh := high, enLow := low, mainOn := main }

theorem wit_PowerSupplies :
    (island {}).mgmt.cond = .operating ∧ ({} : State).mgmt.cond ≠ .operating ∧ (sampled 8 0 false).mgmt.enHigh < 9 ∧ 9 ≤ (sampled 9 0 false).mgmt.enHigh ∧
    (sampled 9 0 false).mgmt.mainOn = false ∧ (sampled 9 0 false).mgmt.enArmed = true ∧ ((sampled 9 0 false).updMgmt fun m => { m with enArmed := false }).mgmt.enArmed = false ∧
    (sampled 9 0 false).mgmt.hoistOk = true ∧ (sampled 9 0 false).mgmt.thermtrip = false ∧
    (sampled 9 0 false).mgmt.ensignOk = true ∧ 2 ≤ (sampled 0 2 true).mgmt.enLow ∧ (sampled 0 2 true).mgmt.mainOn = true := by decide +kernel

/-- The wave stands at a slot, in an engine state. -/
def waving (slot st : Nat) (s : State := {}) : State := withFields [(fGlbEngineStateState, 0, st)] ((island s).updMgmt fun m => { m with waveSlot := slot })

theorem wit_BringUpWave :
    ({} : State).mgmt.pgood = false ∧ (waving 0 1).mgmt.pgood = true ∧ startSlot 40 = 0 ∧ startSlot 99 = 99 ∧ startSlot 0 ≠ 0 ∧
    (waving 0 1).stage_ = 1 ∧ (waving 99 2).stage_ = 2 ∧
    (let s := waving 100 2 (withFields [(fCanBruStatFailStep, 99, 4)] (nextTo {}))
     100 ≤ s.mgmt.waveSlot ∧ s.stage_ = 2 ∧ s.waveOver = false ∧ (List.range 100).find? s.retriable = some 99) ∧
    (shows 1 0).fail = 1 ∧ ({} : State).fget fGlbEngineStateJoined = 0 ∧ (withFields [(fGlbEngineStateJoined, 0, 100)]).fget fGlbEngineStateJoined ≠ 0 ∧
    ({} : State).engine ≠ 7 ∧ 1 ∉ tilesOf 99 ∧ 0 ∈ tilesOf 0 := by decide +kernel

theorem wit_BringUpEnds :
    ({} : State).online (bayCanton 0) = false ∧ (joinedCanton (bayCanton 39)).online (bayCanton 39) = true ∧
    ((({} : State).setCanton 0 { noBay := true, noPort := true }).canton 0).noBay = true ∧ ((joinedCanton (bayCanton 39)).canton (bayCanton 39)).noBay = false ∧
    (({} : State).mgmt.joinOrder.find? ({} : State).bayUntrained ≠ some (bayCanton 0)) ∧
    (let s := (joinedCanton (bayCanton 39)).updMgmt fun m => { m with joinOrder := [40, bayCanton 39] }
     s.mgmt.joinOrder.find? s.bayUntrained = some (bayCanton 39) ∧ s.fget fBayStatFailedCh (bayCanton 39) = 0) ∧
    (let s := (joinedCanton (portCanton 19)).updMgmt fun m => { m with joinOrder := [40, portCanton 19] }
     s.mgmt.joinOrder.find? s.portWaits = some (portCanton 19)) ∧ ({} : State).mgmt.joinOrder.find? ({} : State).portWaits ≠ some (portCanton 0) ∧
    (waving 0 3).trained = true ∧ (let s := waving 0 3 (withFields [(fBayStatState, bayCanton 39, 1)] (joinedCanton (bayCanton 39))); s.trained = false) ∧
    ({} : State).fget fBayStatState (bayCanton 0) ≠ 1 ∧
    (withFields [(fBayStatState, bayCanton 39, 1)]).fget fBayStatState (bayCanton 39) = 1 ∧
    ({} : State).online (portCanton 0) = false ∧ (joinedCanton (portCanton 19)).online (portCanton 19) = true ∧
    ((joinedCanton (portCanton 19)).canton (portCanton 19)).noPort = false ∧ ({} : State).mgmt.portInit.getLsbD 19 = false ∧
    (({} : State).updMgmt fun m => { m with portInit := 1 }).mgmt.portInit.getLsbD 0 = true ∧
    ({} : State).stage_ ≠ 3 ∧ (waving 0 3).engine = 3 := by decide +kernel

/-! ### Witnesses: errors, management -/

/-- A record, and the ring with a record waiting. -/
def rec0 : Rec := { cls := 7, canton := 0, cluster := 0, tile := 0, site := 0, slice := 0 }
def ringWaits (prod head : Nat) (en irq : Nat := 1) : State :=
  withFields [(fErrRingCfgEnable, 0, en), (fErrRingCfgLog2Entries, 0, 4), (fErrRingCfgIrqEn, 0, irq), (fErrRingPtrProd, 0, prod), (fErrRingPtrHead, 0, head)]
    { (hosted {}) with err := { ensign := [rec0], unsignalled := 1 } }

theorem wit_ErrorRing :
    ({} : State).host.decodes = false ∧ (hosted {}).host.decodes = true ∧ (hosted {}).fbit fErrRingCfgEnable = false ∧
    (0x400 : W64).toNat / 256 % 16 = 4 ∧ (0xC00 : W64).toNat / 256 % 16 = 12 ∧ (0x300 : W64).toNat / 256 % 16 < 4 ∧ 12 < (0xD00 : W64).toNat / 256 % 16 ∧
    (let s := ringWaits 16 1 1 0
     modSub 32 (s.fget fErrRingPtrProd) (0 : W32).toNat ≤ 2 ^ s.fget fErrRingCfgLog2Entries ∧
     2 ^ s.fget fErrRingCfgLog2Entries < modSub 32 (s.fget fErrRingPtrProd) (17 : W32).toNat ∧ s.fbit fErrRingCfgEnable = true ∧ s.err.ensign = rec0 :: [] ∧
     s.fbit fErrRingCfgIrqEn = false ∧ s.host.master = true ∧ s.host.held = [] ∧
     modSub 32 (s.fget fErrRingPtrProd) (s.fget fErrRingPtrHead) < 2 ^ s.fget fErrRingCfgLog2Entries) ∧
    2 ^ (ringWaits 16 0).fget fErrRingCfgLog2Entries ≤ modSub 32 ((ringWaits 16 0).fget fErrRingPtrProd) ((ringWaits 16 0).fget fErrRingPtrHead) ∧
    ({} : State).err.ensign = [] ∧ (ringWaits 0 0).fbit fErrRingCfgIrqEn = true ∧ (ringWaits 0 0).err.unsignalled ≠ 0 ∧ ({} : State).err.unsignalled = 0 := by
  decide +kernel

/-- A unit that waits for a replay or for its retirement. -/
def unit0 : PendingUnit := { unit := rec0.unitOf, record := rec0 }

/-- A pennant of a code has arrived at the ensign complex. -/
def noted (src code : Nat) : State := delivered { code := code, src := src, dst := ensignNode }

theorem wit_RecordsAndRetirement :
    hands (noted (controllerNode 99) 7) (controllerNode 99) ensignNode (fun p => p.code = 7) (fun _ => true) = true ∧
    hands (noted (portNode 19) 7) (portNode 19) ensignNode (fun p => p.code = 7) (fun _ => true) = true ∧
    (({} : State).takePennant (controllerNode 99) ensignNode fun p => p.code = 7).1 = none ∧ (({} : State).source (cantonSrc 99)).held = [] ∧
    (let s : State := ({} : State).report (cantonSrc 99) rec0
     (s.takePennant (controllerNode 99) ensignNode fun p => p.code = 7).1 = none ∧ (s.source (cantonSrc 99)).held ≠ []) ∧
    (List.replicate 63 rec0).length < 64 ∧ (∀ x ∈ [rec0] ++ [rec0], x.disp.toNat ≤ rec0.disp.toNat) ∧
    (loaded { phase := 2 }).idle (cantonOf 0) = false ∧ ({} : State).idle (cantonOf 0) = true ∧ (joinedCanton 0).idle (cantonOf 0) = true ∧ (joinedCanton 0).online (cantonOf 0) = true ∧
    ({} : State).online (cantonOf 0) = false ∧ (loaded { phase := 1 }).idle (cantonOf 0) = true ∧
    ((joinedCanton 0).fetch (cantonSrc (cantonOf 0))).replayOf 0 = none ∧ ({} : State).replayOf 0 = none ∧
    (let s : State := joinedCanton 0 { err := { replays := [unit0] } }
     (s.fetch (cantonSrc (cantonOf 0))).replayOf 0 = some unit0 ∧ s.replayOf 0 = some unit0) ∧
    siteCls rec0.cls = true ∧ (3 ≤ ({ err := { detections := [⟨rec0.unitOf, 0, 2⟩, ⟨rec0.unitOf, 0, 1⟩] } } : State).unitCount rec0.unitOf) ∧
    (∀ q ∈ [unit0], ({} : State).mayRetire q = false) ∧
    (let s : State := joinedCanton 0 { err := { retire := [unit0] } }; s.err.retire.find? s.mayRetire = some unit0) := by decide +kernel

/-- Slice 0 was stopped by a fault that a record names. -/
def stoppedBy (r : Rec) (auto : Nat) (last : SMap (Option RecUnit) := []) : State :=
  withFields [(fErrRecovCtrlAuto, 0, auto)] (loaded { phase := 6 } { err := { stopRec := [(0, some r)], lastStop := last } })
/-- The state before recovery, as the rule builds it. -/
def asked (s : State) : State := ((s.slice 0).cantons.map cantonSrc ++ ((List.range 20).filter (s.boundUe 0)).map portSrc).foldl State.fetch s
/-- ACTION of the retirement step. -/
def actionOf (s : State) (r : Rec) : Byte :=
  let f := asked s
  let m : State := { f with err := { f.err with lastStop := SMap.put none f.err.lastStop 0 (some r.unitOf) } }
  ((m.recoverClassify r true).recoverRetire 0 []).1

theorem wit_RecoveryAndLoss :
    (({} : State).slice 0).loaded = false ∧ ((stoppedBy rec0 1).slice 0).loaded = true ∧ ((stoppedBy rec0 1).slice 0).phase = 6 ∧
    (∀ p ∈ List.range 20, (stoppedBy rec0 1).boundUe 0 p = false ∨ (stoppedBy rec0 1).ueState p ≠ 4) ∧
    (let s := withFields [(fPrtUeStatState, 19, 4), (fPrtUeCtrlEn, 19, 1)] (stoppedBy rec0 1); s.boundUe 0 19 = true ∧ s.ueState 19 = 4) ∧
    SMap.get none (asked (stoppedBy rec0 1)).err.stopRec 0 = some rec0 ∧ actionOf (stoppedBy rec0 1) rec0 ≠ 11 ∧
    (((asked (stoppedBy rec0 1)).fget fErrRecovCtrlAuto).testBit 0) = true ∧ (asked (stoppedBy rec0 1)).repeats 0 rec0 = false ∧
    (asked (stoppedBy rec0 1 [(0, some rec0.unitOf)])).repeats 0 rec0 = true ∧ actionOf (stoppedBy rec0 0) rec0 ≠ 11 ∧
    (((asked (stoppedBy rec0 0)).fget fErrRecovCtrlAuto).testBit 0) = false ∧ countedCls 0x16 = false ∧
    (({} : State).canton 0).powered = false ∧ ((joinedCanton 99).canton 99).powered = true ∧ ({} : State).mgmt.pgood = false ∧
    (waving 0 8).engine = 8 ∧ (island {}).mgmt.pgood = true ∧ (island {}).engine ≠ 8 ∧ (island {}).mgmt.restartNs = none ∧
    (let s := (island {}).updMgmt fun m => { m with restartNs := some 0 }; s.mgmt.restartNs = some 0 ∧ s.engineNs < 0 + 3600000000000) ∧
    ({} : State).mgmt.restarting = false ∧
    (let s := (waving 0 7).updMgmt fun m => { m with restarting := true }; s.mgmt.restarting = true ∧ s.engine = 7 ∧ s.host.pcieLost = false) ∧
    ({} : State).mgmt.cond ≠ .operating ∧ (island {}).mgmt.cond = .operating ∧ (island {}).mgmt.hoistOk = true ∧
    ({} : State).err.ledger.a.length * 10 < 131072 * 9 := by decide +kernel

/-- A ledger whose half is nine tenths full. -/
theorem wit_LedgerFull : 131072 * 9 ≤ (List.replicate 117965 ({ kind := 3 } : LedgerEntry)).length * 10 := by rw [List.length_replicate]; decide

theorem wit_ManagementPaths :
    ({} : State).smbusOn = false ∧ (island {}).smbusOn = true ∧ ([] : List Byte).length < 2 ∧ 255 < (List.replicate 256 (0 : Byte)).length ∧
    ((island {}).updMgmt fun m => { m with busy := true }).mgmt.busy = true ∧ (island {}).mgmt.busy = false ∧ (List.replicate 253 (0 : Byte)).length ≤ 253 ∧
    (withFields [(fMgtStatThermEvent, 0, 1)] (island {})).alertLow = true ∧ ((island {}).smbusOn && (island {}).alertLow) = false ∧
    ({} : State).uartOn = false ∧ (island {}).uartOn = true ∧ (∀ b ∈ [(32 : Byte)], b = 32) ∧ ({} : State).mgmt.cond ≠ .operating ∧
    (island {}).mgmt.cond = .operating := by decide +kernel

/-- Both paths take a request in the island at work. -/
theorem wit_takes (tag : Byte) : (∃ s0, (island {}).Takes (.smbus tag) s0) ∧ ∃ s0, (island {}).Takes .uart s0 :=
  ⟨⟨_, by decide +kernel, by decide +kernel, rfl⟩, ⟨_, by decide +kernel, rfl⟩⟩

theorem wit_ManagementOperations :
    ({} : State).err.bmc = [] ∧ (99 : Byte).toNat < 100 ∧ 100 < (101 : Byte).toNat ∧ ({ err := { bmc := [rec0] } } : State).err.bmc = rec0 :: [] ∧
    regReadable 0x20 = false ∧ regReadable 0x18 = true ∧ regReadable 0x20000 = true ∧ regReadable 0x60000 = false ∧ regReadable 0x8FFF8 = true ∧
    ({} : State).flashGated 0x18 = false ∧ (0 : W32) ≠ 0x30010 ∧ (island {}).fbit fMgtClkEnFlash = true ∧
    (0x08820010 : W32).toNat % 16 = 0 ∧ (List.replicate 240 (0 : Byte)) ≠ [] ∧ (List.replicate 240 (0 : Byte)).length ≤ 240 ∧
    (0x08820010 : W32).toNat % 256 + 240 ≤ 256 ∧ (island {}).flashBar 0x08820010 = 0 ∧ (island {}).flashBar 0x0881FFFF = 2 ∧ (island {}).flashBar 0x07FFFFFF = 3 ∧
    (0x08820000 : W32).toNat % 65536 = 0 ∧ (island {}).flashBar 0x08820000 = 0 ∧ 1 ≤ (1 : Byte).toNat ∧ (240 : Byte).toNat ≤ 240 ∧
    (island {}).mgmt.cond = .operating ∧ (withFields [(fMgtStatLockout, 0, 1)]).fbit fMgtStatLockout = true ∧ (island {}).fbit fMgtStatLockout = false ∧
    (island {}).unlocks (leBytes 8 0) = false ∧
    (let s : State := { (({} : State).updMgmt fun m => { m with nonce := some (0, 0) }) with refcyc := 9375000001 }
     s.mgmt.nonce = some (0, 0) ∧ 0 + 60000000000 < s.engineNs) := by decide +kernel

/-- The right response to a NONCE is always there to give. -/
theorem wit_unlock (r : W64) (h : leBytes 8 r.toNat = ({} : State).mgmt.expected 0) :
    ((island {}).updMgmt fun m => { m with nonce := some (0, 0) }).unlocks (leBytes 8 r.toNat) = true := by
  rw [h]; decide +kernel

theorem wit_FlashRegisters :
    ({} : State).host.decodes = false ∧ (hosted {}).host.decodes = true ∧ (withFields [(fMgtClkEnFlash, 0, 0)]).fbit fMgtClkEnFlash = false ∧
    (hosted {}).fbit fMgtClkEnFlash = true ∧ (hosted {}).fbit fMgtFlashCmdBusy = false ∧ (withFields [(fMgtFlashCmdBusy, 0, 1)]).fbit fMgtFlashCmdBusy = true ∧
    (let s := withFields [(fMgtFlashAddrAddr, 0, 0x08820000)] (hosted {}); s.flashBar (s.fget fMgtFlashAddrAddr / 256 * 256) = 0 ∧
      s.flashBar (s.fget fMgtFlashAddrAddr / 65536 * 65536) = 0) ∧ (hosted {}).flashBar ((hosted {}).fget fMgtFlashAddrAddr / 256 * 256) ≠ 0 ∧
    ({} : State).mgmt.flashQ = [] ∧
    (({} : State).updMgmt fun m => { m with flashQ := [⟨none, .program 0x08820000 [0], 0⟩] }).mgmt.flashQ = ⟨none, .program 0x08820000 [0], 0⟩ :: [] ∧
    (({} : State).updMgmt fun m => { m with flashQ := [⟨none, .erase 0x08820000, 0⟩] }).mgmt.flashQ = ⟨none, .erase 0x08820000, 0⟩ :: [] := by decide +kernel

/-- Canton c at a temperature in 1/16 °C, with a thermal request. -/
def heated (c : Nat) (t : W16) (r : BitVec 2 := 0) : State := ({} : State).setCanton c { powered := true, joined := true, temp := t, thermReq := r }

theorem wit_ThermalAndPower :
    ({} : State).mgmt.cond ≠ .operating ∧ (island {}).mgmt.cond = .operating ∧ (1599 : W16).toInt < 100 * 16 ∧ 30 * 16 < (481 : W16).toInt ∧
    (island {}).mgmt.inletHot = false ∧ 28 * 16 < (449 : W16).toInt ∧ (480 : W16).toInt ≤ 30 * 16 ∧ (448 : W16).toInt ≤ 28 * 16 ∧
    (heated 99 1360 1).online 99 = true ∧ ((heated 99 1360 1).canton 99).temp.toInt = 85 * 16 ∧ ((heated 99 1360 1).canton 99).thermReq ≠ 0 ∧
    ((heated 99 1359).canton 99).temp.toInt < 85 * 16 ∧ (heated 99 1359).bayHot 99 95 = false ∧
    ((heated 99 1279 3).canton 99).temp.toInt < 80 * 16 ∧ (heated 99 1279 3).bayHot 99 90 = false ∧ (99 : Nat) ≠ 40 ∧
    (heated 99 1279 3).planLate 99 = false ∧ (heated 99 1600).planLate 99 = false ∧ ((heated 99 1600).canton 99).thermReq = 0 ∧
    (let s : State := { (({} : State).setCanton 99 { powered := true, joined := true, planNs := some 0 }) with refcyc := 156250000 }
     s.online 99 = true ∧ s.planLate 99 = true) ∧
    ((heated 99 1600).canton 99).temp.toInt = 100 * 16 ∧ ((heated 99 1647).canton 99).temp.toInt < 103 * 16 ∧ 103 * 16 ≤ ((heated 99 1648).canton 99).temp.toInt ∧
    (let s := (heated (bayCanton 39) 0).setCanton (bayCanton 39) { powered := true, joined := true, bayTemp := 1520 }; s.bayHot (bayCanton 39) 95 = true) ∧
    (island {}).mgmt.thermtrip = false ∧ ({} : State).mgmt.cond = .reset ∧ ({} : State).mgmt.thermtrip = false ∧
    (({} : State).updMgmt fun m => { m with cond := .unpowered }).mgmt.cond = .unpowered ∧ (({} : State).updMgmt fun m => { m with thermtrip := true }).mgmt.thermtrip = true ∧ ({} : State).mgmt.mainOn = false ∧
    (island {}).mgmt.mainOn = true ∧ (22310 : W16).toNat ≤ (island {}).cap ∧ 97 * (island {}).cap ≤ 100 * (22310 : W16).toNat ∧
    (island {}).cap < (23001 : W16).toNat ∧ 100 * (22309 : W16).toNat < 97 * (island {}).cap ∧
    ((List.range 100).filter fun c => (island {}).online c && ((island {}).canton c).capReq ≠ 3) = [] ∧ (island {}).fget fPwrCapWatts = 0 ∧
    ({} : State).host.decodes = false ∧ (hosted {}).host.decodes = true ∧ (island {}).smbusOn = true ∧ (island {}).uartOn = true ∧
    SMap.wf {} (hosted {}).mgmt.counters = true := by decide +kernel

/-! ### Witnesses: the whole machine -/

/-- Reset has the invariant. -/
theorem reset_inv : State.reset.MemOk := ⟨by decide +kernel, by decide +kernel, by decide +kernel⟩
theorem wit_StepIdle : ({} : State).pending = [] ∧ haltedRef.pending = [] ∧ ({} : State).active = 2 ∧ (refOn 0 1).active ≠ 2 := by decide +kernel
theorem wit_QueueUntouched : Does (.sqTailDoorbell 0 0) {} {} := by rfl
theorem wit_MemoriesKeepTheirForm : State.reset.MemOk ∧ ∃ t, step State.reset = .next t := ⟨reset_inv, _, rfl⟩
theorem wit_TileWordsUnique : decodeWord 0x0006400000000000 = .instr ⟨⟨0, 0, 0, 0, 0⟩, .movi 0 false 0⟩ := by decide +kernel
theorem wit_CheckCode : (7 : Byte).toNat = eccCheck 1 ∧ (0 : Byte).toNat = eccCheck 0 ∧ 63 < 64 := by decide +kernel
theorem wit_OperandsNormalized :
    (0 < 1 ∧ 2 ^ (1 - 1) ≤ 1 ∧ 1 < 2 ^ 1) ∧ (0 < 16 ∧ 2 ^ (16 - 1) ≤ 0xFFFF ∧ 0xFFFF < 2 ^ 16) ∧ (2 ^ (17 - 1) ≤ 0x1FFFF ∧ 0x1FFFF < 2 ^ 17) ∧
    (decodeElem [] 3 0x01 0).hi.cls = 1 ∧ (decodeElem [] 0x0F (0xFF7F + 0x00807F7F * 2 ^ 256) 0).hi.cls = 1 := by decide +kernel
theorem wit_TileCoordinates : 639 < 640 ∧ 359 < 360 ∧ clusterOf (640 * 359 + 639) = 4799 := by decide +kernel

/-! ### Tests: worked examples of the spec -/

/-- The word that one field's value gives at its lowest bit. -/
def at_ (lo v : Nat) : Nat := v * 2 ^ lo
/-- A word from its common fields (R124: QMASK 59, OMASK 55, PSEL 52, OPCODE 46, PS 3, PC 0) and its class-specific fields. -/
def wordOf (qmask omask psel opcode ps pc : Nat) (fs : List (Nat × Nat)) : W64 :=
  BitVec.ofNat 64 (at_ 59 qmask + at_ 55 omask + at_ 52 psel + at_ 46 opcode + (fs.map fun f => at_ f.1 f.2).sum + at_ 3 ps + at_ 0 pc)
/-- A head with a queue, an output, a predicate and a rider. -/
def hd1 : Head := ⟨0x11, 0x9, 5, 3, 6⟩

/-- GMAC (R138), CLOSE (R144), TREE (R147): each field at its bits. -/
theorem test_words_group :
    decodeWord (wordOf 0x11 9 5 0x08 3 6 [(41, 0x12), (36, 0x0B), (33, 5), (29, 9), (27, 1), (24, 6), (23, 1), (22, 0), (21, 1), (20, 0), (19, 1), (15, 13), (11, 6), (8, 5)]) =
      .instr ⟨hd1, .gmac ⟨0x12, 0x0B, 5, 9, 1, 6, true, false, true, false, true, 13, 6, 5⟩⟩ ∧
    decodeWord (wordOf 0 0 0 0x09 0 0 [(43, 6), (39, 9), (34, 0x14), (32, 1), (30, 2), (29, 0), (28, 1), (25, 5), (23, 3), (22, 1), (19, 6)]) =
      .instr ⟨⟨0, 0, 0, 0, 0⟩, .close ⟨6, 9, 0x14, 1, 2, false, true, 5, 3, true, 6⟩⟩ ∧
    decodeWord (wordOf 0 0 0 0x0A 0 0 [(43, 6), (40, 3), (37, 4), (36, 1), (35, 0), (31, 9)]) =
      .instr ⟨⟨0, 0, 0, 0, 0⟩, .tree ⟨6, 3, 4, true, false, 9⟩⟩ := by decide +kernel

/-- VOP (R149), VSFN (R151), VRED (R152), VCVT (R153). -/
theorem test_words_vector :
    decodeWord (wordOf 0 0 0 0x10 0 0 [(41, 0x0C), (38, 1), (35, 2), (32, 3), (29, 4), (28, 1), (27, 0), (22, 17), (17, 30), (14, 5)]) =
      .instr ⟨⟨0, 0, 0, 0, 0⟩, .vop ⟨0x0C, 1, 2, 3, 4, true, false, 17, 30, 5⟩⟩ ∧
    decodeWord (wordOf 0 0 0 0x11 0 0 [(43, 4), (40, 1), (37, 2), (34, 3)]) = .instr ⟨⟨0, 0, 0, 0, 0⟩, .vsfn ⟨4, 1, 2, 3⟩⟩ ∧
    decodeWord (wordOf 0 0 0 0x12 0 0 [(44, 3), (41, 1), (38, 2), (35, 7)]) = .instr ⟨⟨0, 0, 0, 0, 0⟩, .vred ⟨3, 1, 2, 7⟩⟩ ∧
    decodeWord (wordOf 0 0 0 0x13 0 0 [(43, 0), (38, 0x15), (31, 1), (28, 6)]) = .instr ⟨⟨0, 0, 0, 0, 0⟩, .vcvtFrom ⟨0x15, 1, 6⟩⟩ ∧
    decodeWord (wordOf 0 0 0 0x13 0 0 [(43, 1), (38, 0x10), (36, 1), (34, 2), (31, 1), (28, 6)]) =
      .instr ⟨⟨0, 0, 0, 0, 0⟩, .vcvtTo ⟨0x10, 1, 2, 1, 6⟩⟩ := by decide +kernel

/-- The forms of MOV (R154) and MOVI (R155). -/
theorem test_words_mov :
    decodeWord (wordOf 0 0 0 0x18 0 0 [(42, 0), (36, 63), (30, 1)]) = .instr ⟨⟨0, 0, 0, 0, 0⟩, .movGG 63 1⟩ ∧
    decodeWord (wordOf 0 0 0 0x18 0 0 [(42, 1), (36, 7), (30, 2)]) = .instr ⟨⟨0, 0, 0, 0, 0⟩, .movVV 7 2⟩ ∧
    decodeWord (wordOf 0 0 0 0x18 0 0 [(42, 2), (27, 4), (22, 30), (17, 3)]) = .instr ⟨⟨0, 0, 0, 0, 0⟩, .movVIq 4 30 3⟩ ∧
    decodeWord (wordOf 0 0 0 0x18 0 0 [(42, 3), (36, 33), (27, 4)]) = .instr ⟨⟨0, 0, 0, 0, 0⟩, .movGIq 33 4⟩ ∧
    decodeWord (wordOf 0 0 0 0x18 0 0 [(42, 4), (36, 5), (30, 34), (12, 30), (11, 1)]) = .instr ⟨⟨0, 0, 0, 0, 0⟩, .movLaneG 5 34 30 true⟩ ∧
    decodeWord (wordOf 0 0 0 0x18 0 0 [(42, 5), (36, 34), (30, 5), (12, 30)]) = .instr ⟨⟨0, 0, 0, 0, 0⟩, .movGLane 34 5 30⟩ ∧
    decodeWord (wordOf 0 0 0 0x18 0 0 [(42, 6), (30, 34), (10, 0x5A)]) = .instr ⟨⟨0, 0, 0, 0, 0⟩, .movTableG 34 0x5A⟩ ∧
    decodeWord (wordOf 0 0 0 0x18 0 0 [(42, 7), (36, 34), (10, 0x5A)]) = .instr ⟨⟨0, 0, 0, 0, 0⟩, .movGTable 34 0x5A⟩ ∧
    decodeWord (wordOf 0 0 0 0x19 0 0 [(40, 34), (39, 1), (6, 0x80000001)]) = .instr ⟨⟨0, 0, 0, 0, 0⟩, .movi 34 true 0x80000001⟩ := by decide +kernel

/-- LD (R156), ST (R157), LDX (R158), SEND (R159), SYNC (R161), BULK (R162). -/
theorem test_words_move :
    decodeWord (wordOf 0 0 0 0x20 0 0 [(43, 3), (37, 34), (31, 5), (30, 1), (16, 0x2001)]) = .instr ⟨⟨0, 0, 0, 0, 0⟩, .ld ⟨3, 34, 5, true, 0x2001⟩⟩ ∧
    decodeWord (wordOf 0 0 0 0x22 0 0 [(43, 4), (37, 34), (31, 3), (30, 0), (16, 1)]) = .instr ⟨⟨0, 0, 0, 0, 0⟩, .st ⟨4, 34, 3, false, 1⟩⟩ ∧
    decodeWord (wordOf 0 0 0 0x21 0 0 [(43, 4), (42, 1), (36, 34), (35, 1)]) = .instr ⟨⟨0, 0, 0, 0, 0⟩, .ldx ⟨4, true, 34, true⟩⟩ ∧
    decodeWord (wordOf 0 0 0 0x28 0 0 [(44, 3), (42, 1), (41, 1), (38, 5), (35, 0), (29, 0), (24, 30), (19, 2), (18, 0)]) =
      .instr ⟨⟨0, 0, 0, 0, 0⟩, .send ⟨3, 1, true, 5, 0, 0, 30, 2, false⟩⟩ ∧
    decodeWord (wordOf 0 0 0 0x30 0 0 [(44, 0), (38, 63), (35, 4), (34, 1), (28, 0), (12, 0x8001)]) =
      .instr ⟨⟨0, 0, 0, 0, 0⟩, .syncArrive ⟨63, 4, true, 0, 0x8001⟩⟩ ∧
    decodeWord (wordOf 0 0 0 0x30 0 0 [(44, 1), (38, 63), (28, 34)]) = .instr ⟨⟨0, 0, 0, 0, 0⟩, .syncWait 63 34⟩ ∧
    decodeWord (wordOf 0 0 0 0x34 0 0 [(44, 0), (42, 2), (36, 34), (30, 35), (24, 1), (23, 1)]) = .instr ⟨⟨0, 0, 0, 0, 0⟩, .bulkRead ⟨2, 34, 35, 1, true⟩⟩ ∧
    decodeWord (wordOf 0 0 0 0x34 0 0 [(44, 1), (42, 3), (36, 34), (30, 35), (24, 63)]) = .instr ⟨⟨0, 0, 0, 0, 0⟩, .bulkWrite ⟨3, 34, 35, 63, false⟩⟩ ∧
    decodeWord (wordOf 0 0 0 0x34 0 0 [(44, 2), (42, 1), (30, 35)]) = .instr ⟨⟨0, 0, 0, 0, 0⟩, .bulkWait 1 35 false⟩ := by decide +kernel

/-- CTL.LC (R164), CTL.P (R165), CTL.ALU and CTL.ALUI (R166), NOP (R167); VOID and reserved words (R126). -/
theorem test_words_ctl :
    decodeWord (wordOf 0 0 0 0x38 0 0 [(43, 0), (41, 2), (40, 1), (37, 5), (34, 6), (12, 0x8001)]) = .instr ⟨⟨0, 0, 0, 0, 0⟩, .lcSetI 2 true 5 6 0x8001⟩ ∧
    decodeWord (wordOf 0 0 0 0x38 0 0 [(43, 1), (41, 2), (37, 5), (34, 6), (28, 34)]) = .instr ⟨⟨0, 0, 0, 0, 0⟩, .lcSetG 2 false 5 6 34⟩ ∧
    decodeWord (wordOf 0 0 0 0x38 0 0 [(43, 2), (41, 3), (40, 1), (37, 5)]) = .instr ⟨⟨0, 0, 0, 0, 0⟩, .lcDec 3 true 5 0⟩ ∧
    decodeWord (wordOf 0 0 0 0x39 1 2 [(43, 1), (40, 5), (37, 3), (34, 4), (28, 34), (22, 0), (6, 0x8001)]) =
      .instr ⟨⟨0, 0, 0, 1, 2⟩, .ctlP ⟨1, 5, 3, 4, 34, 0, 0x8001⟩⟩ ∧
    decodeWord (wordOf 0 0 0 0x3A 0 0 [(42, 7), (36, 33), (30, 34), (24, 35)]) = .instr ⟨⟨0, 0, 0, 0, 0⟩, .alu 7 33 34 35⟩ ∧
    decodeWord (wordOf 0 0 0 0x3B 0 0 [(42, 1), (36, 33), (30, 34), (6, 0x800001)]) = .instr ⟨⟨0, 0, 0, 0, 0⟩, .alui 1 33 34 0x800001⟩ ∧
    decodeWord (wordOf 1 0 0 0x01 0 0 [(41, 1)]) = .instr ⟨⟨1, 0, 0, 0, 0⟩, .nop 1⟩ ∧
    decodeWord 0 = .void ∧ decodeWord (wordOf 0 0 0 0x02 0 0 []) = .bad ∧ decodeWord (wordOf 0 0 0 0x3F 0 0 []) = .bad ∧
    decodeWord (wordOf 0 0 0 0x19 0 0 [(38, 1)]) = .bad := by decide +kernel

/-- The check code's example (R491, the example after R97). -/
theorem test_check_code : eccCheck 1 = 0x07 ∧ eccFix 0x07 1 = some 0 := by decide +kernel

/-- Example 1 of "Number formats": FP32 splits into two pieces. -/
theorem test_decode_fp32 :
    decodeElem [] 0 0x3FAAAAAB 0 = ⟨⟨1, false, 0xAAA0, 0⟩, ⟨1, false, 0xAAB0, -12⟩⟩ ∧
    (decodeElem [] 0 0x00000003 0).hi = ⟨1, false, 0xC000, -148⟩ ∧ (decodeElem [] 0 0x00000003 0).lo.cls = 0 := by decide +kernel

/-- Example 2: elements of an MXFP8 E4M3 block with SCALE 0x7C. -/
theorem test_decode_mx :
    let r := 0x7E8000FF834A + 0x00A1B27C * 2 ^ 256
    (decodeElem [] 0x10 r 0).hi = ⟨1, false, 0xA000, -1⟩ ∧ (decodeElem [] 0x10 r 1).hi = ⟨1, true, 0xC000, -11⟩ ∧
    (decodeElem [] 0x10 r 2).hi.cls = 3 ∧ (decodeElem [] 0x10 r 3).hi = ⟨0, false, 0, 0⟩ ∧ (decodeElem [] 0x10 r 4).hi = ⟨0, true, 0, 0⟩ ∧
    (decodeElem [] 0x10 r 5).hi = ⟨1, false, 0xE000, 5⟩ ∧ (decodeElem [] 0x10 (r + 0x83 * 2 ^ 256) 3).hi.cls = 3 := by decide +kernel

/-- Examples 3 and 4: a T4 record of table 3, a ZP8 element. -/
theorem test_decode_scaled :
    (let tab : DecodeTables := [(16 * 3 + 2, (0x0001, false)), (16 * 3 + 9, (0x3A00, false))]; let r := 0x29 + 0x00008103 * 2 ^ 128
     (decodeElem tab 0x0D r 0).hi = ⟨1, false, 0xC000, 1⟩ ∧ (decodeElem tab 0x0D r 1).hi = ⟨1, false, 0x8000, -22⟩) ∧
    (decodeElem [] 0x0F (0xF65D + 0x00F63CA0 * 2 ^ 256) 0).hi = ⟨1, false, 0x80C0, 1⟩ ∧
    (decodeElem [] 0x0F (0xF65D + 0x00F63CA0 * 2 ^ 256) 1).hi = ⟨0, false, 0, 0⟩ := by decide +kernel

/-- The group of Example 1 of "Exact Groups": BF16 with FP8 E4M3. -/
def group1 : GroupResult :=
  group ((List.range 32).map (decodeElem [] 1 0x2DC02B80BF004040)) ((List.range 32).map (decodeElem [] 3 0x3038304A))

/-- Example 1: the result 14.75 + 1.5·2^-37, one product shed, both residues 14. -/
theorem test_group : group1.val = .fin 0x00760000000060000000 (-67) ∧ group1.shed = 1 ∧ group1.resExp = 14 ∧ group1.resAct = 14 := by decide +kernel

/-- Examples 2 and 3: three groups into a lane, and its conversions. -/
theorem test_lane :
    let l := ((({} : Lane).act 0 false group1 false).act 1 false ⟨.fin 1 24, 0, 0, 0⟩ false).act 1 false ⟨.fin (-1) 24, 0, 0, 0⟩ false
    l.hi = 0x41600000 ∧ l.lo = 0x3F400000 ∧ (convElem 1 0 0 l.src).bits = 0x416C ∧ (convElem 2 0 0 l.src).bits = 0x4B60 ∧
    (convElem 3 0 0 l.src).bits = 0x57 ∧ (convElem 3 1 0 l.src).bits = 0x56 ∧ (convElem 9 0 0 l.src).bits = 0x0F := by decide +kernel

/-- Example 4: an INT lane of 300 into INT8, UINT8 and INT16. -/
theorem test_int_lane :
    let l : Lane := ({ isOpen := true, intMode := true } : Lane).setInt 300
    convElem 9 0 0 l.src = { bits := 0x7F, ovf := true } ∧ convElem 9 0 1 l.src = { bits := 0x2C, ovf := true } ∧
    convElem 0x0B 0 0 l.src = { bits := 0xFF, ovf := true } ∧ convElem 0x0B 0 1 l.src = { bits := 0x2C, ovf := true } ∧
    convElem 8 0 0 l.src = { bits := 0x012C } := by decide +kernel

/-- Example 2 of "The Tile": RCP(3.0). -/
theorem test_rcp : sfn32 0 0x40400000 = 0x3EAAAAAB := by decide +kernel

/-- Example 1 of "Wafer map": tile T(517, 203). -/
theorem test_tile_place : 203 * 640 + 517 = 130437 ∧ clusterOf 130437 = 2704 ∧ cantonOf 130437 = 58 ∧ localTile 130437 = 45 := by decide +kernel

/-- Example 2 of "Parameter Update": elements 30 and 31 under rule 2, the BLOCK, its CHK, and DIG. -/
theorem test_update :
    let h : Hyper := ⟨2, 0x3D000000, 0x3F000000, 0x3F400000, 0x35800000, 0x3C800000, 0x3F800000, 0x3F800000⟩
    h.apply 0x3FC00000 0x3E800000 0x3E800000 0x3F000000 = (0x3FBBE800, 0x3EC00000, 0x3E800000) ∧
    h.apply 0xBF3E0000 0 0 0xBE800000 = (0xBF2DE848, 0xBE000000, 0x3C800000) ∧
    blockData 0x15 true (List.replicate 30 0 ++ [0x3FBBE800, 0xBF2DE848]) = List.replicate 30 0 ++ [0x5E, 0xD4, 0x7F] ∧
    chkOf (List.replicate 30 0 ++ [0x5E, 0xD4, 0x7F]) = 0x3641F5 ∧ crc64 0 (List.replicate 30 0 ++ [0x5E, 0xD4, 0x7F]) = 0x1DDAB3E302F3E36E := by decide +kernel

/-! ### Tests: well-formed commands -/

/-- An ill-formed command for each check is refused, and its neighbour at the boundary is not. -/
theorem test_wf_tile : (Instr.tileStep 0 false [] [⟨8, 0, .decode, false, 0, 0⟩]).wf = false ∧ (Instr.tileStep 0 false [] [⟨7, 0, .decode, false, 0, 0⟩]).wf = true ∧
    (Instr.tileIssueCycle 0 false [] [⟨8, 0, .decode, false, 0, 0⟩]).wf = false ∧ (Instr.gmac plain (gmac0 0 0) [⟨8, 0, .decode, false, 0, 0⟩]).wf = false ∧
    (Instr.close plain ⟨0, 1, 0, 0, 0, false, false, 0, 0, false, 0⟩ [⟨8, 0, .decode, false, 0, 0⟩]).wf = false ∧
    (Instr.tree plain ⟨0, 0, 0, false, false, 1⟩ [⟨8, 0, .decode, false, 0, 0⟩]).wf = false := by decide +kernel
theorem test_wf_host : (Instr.stagedRegWrite 0 0 0).wf = false ∧ (Instr.registerWrite 0 0 0).wf = false ∧ (Instr.registerWrite 0 1 0).wf = true ∧
    (Instr.bar4Read .bar4 0 0 false).wf = false ∧ (Instr.bar4Read .bar4 (BitVec.allOnes 38) 2 false).wf = false ∧
    (Instr.bar4Read .bar4 (BitVec.allOnes 38) 1 false).wf = true ∧ (Instr.bar4Read .bar0 (BitVec.allOnes 38) 1 false).wf = false := by decide +kernel
theorem test_wf_wave : (Instr.rejoin 0 ⟨9, 0, [], [], []⟩).wf = false ∧ (Instr.waveSlotStart 0 ⟨8, 0, [0x40000000], [], []⟩).wf = false ∧
    (Instr.waveSlotStart 0 ⟨8, 0, [], [], [(0, 0x30000000)]⟩).wf = false ∧ (Instr.waveSlotStart 0 ⟨8, 0, [0x30000000], [], [(0, 0x50000000)]⟩).wf = true ∧
    (Instr.bayTrain 0 [(1, 0), (1, 0)]).wf = false ∧ (Instr.bayTrain 0 [(1, 0), (0, 0)]).wf = true ∧ (Instr.retire [(0, 0)]).wf = false ∧
    (Instr.sliceRecovery 0 false [(0, 0)] 0).wf = false := by decide +kernel
theorem test_wf_manage : (Instr.smbReq (List.replicate 256 0) true 0).wf = false ∧ (Instr.flashProg .uart 0 (List.replicate 241 0)).wf = false ∧
    (Instr.flashRead .uart 0 241).wf = false ∧ (Instr.uartLine [0x0A] 0).wf = false ∧ (Instr.uartLine [0x5A] 0).wf = true ∧
    (Instr.powerCapTick 0 []).wf = false ∧ (Instr.powerCapTick 0 (List.replicate 100 0)).wf = true := by decide +kernel

/-! ### Tests: commands -/

/-- f holds of the state after a command. -/
def after (c : Instr) (s : State) (f : State → Bool) : Bool :=
  match exec c s with
  | .next t => f t
  | _ => false

/-- R155: MOVI sign-extends; with HIGH it keeps the low half. -/
theorem test_movi : after (.movi plain 5 false 0x80000000) (withTile {}) (fun t => (t.tile 0).getG 5 = 0xFFFFFFFF80000000) = true ∧
    after (.movi plain 5 true 0x12345678) (withTile { g := [(5, 0x80000000)] }) (fun t => (t.tile 0).getG 5 = 0x1234567880000000) = true := by decide +kernel
/-- R166: CTL.ALU subtracts its second operand from its first, modulo 2^64; CTL.ALUI sign-extends its immediate. -/
theorem test_alu : after (.ctlAlu plain 1 2 0 1) (withTile { g := [(0, 3), (1, 5)] }) (fun t => (t.tile 0).getG 2 = 0xFFFFFFFFFFFFFFFE) = true ∧
    after (.ctlAlui plain 0 0 0 0xFFFFFF) (withTile { g := [(0, 3)] }) (fun t => (t.tile 0).getG 0 = 2) = true := by decide +kernel
/-- R164: DEC leaves 0 unchanged; PD follows the counter, PE is its opposite. -/
theorem test_lc : after (.lcDec plain 3 false 1 2) (withTile {}) (fun t => SMap.get 0 (t.tile 0).lc 3 = 0 && !((t.tile 0).getP 1) && (t.tile 0).getP 2) = true ∧
    after (.lcDec plain 3 false 1 2) (withTile { lc := [(3, 2)] }) (fun t => SMap.get 0 (t.tile 0).lc 3 = 1 && (t.tile 0).getP 1 && !((t.tile 0).getP 2)) = true := by decide +kernel
/-- R125: PC acts before PS, and P0 is never written. -/
theorem test_rider : after (.movGG ⟨0, 0, ⟨0, 0, 0, 3, 3⟩⟩ 0 0) (withTile {}) (fun t => (t.tile 0).getP 3) = true ∧
    after (.movGG ⟨0, 0, ⟨0, 0, 0, 0, 5⟩⟩ 0 0) (withTile { pred := 0x20 }) (fun t => !((t.tile 0).getP 5)) = true := by decide +kernel
/-- R156, R157: a word stored is the word loaded; the offset is signed and the address is taken modulo 2^16. -/
theorem test_store_load : after (.st plain ⟨3, 0, 1, false, 0x3FF8⟩) (withTile { g := [(1, 0x1122334455667788)] })
      (fun t => t.mem.byte (tileBase 0 + 0xFFF8) = 0x88 && t.mem.byte (tileBase 0 + 0xFFFF) = 0x11 &&
        after (.ld plain ⟨3, 0, 2, false, 0x3FF8⟩) t fun u => (u.tile 0).getG 2 = 0x1122334455667788) = true := by decide +kernel
/-- R154, R98: a flit popped into G gives its low 8 bytes. -/
theorem test_pop : after (.movGIq busyHead 7 0) (withTile rich) (fun t => (t.tile 0).getG 7 = 0 && ((t.tile 0).queue 0).length = 15) = true ∧
    after (.movVIq busyHead 0 31 2) (withTile rich) (fun t => (t.tile 0).quarter 0 = leBytes 32 1 && ((t.tile 0).queue 0).length = 14) = true := by decide +kernel
/-- R161: ARRIVE sets the flag; WAIT reads the result and returns it to IDLE. -/
theorem test_sync : after (.syncArrive plain ⟨9, 4, true, 0, 7⟩) (withTile {}) (fun t => (t.tile 0).flag 9 = .arrived) = true ∧
    after (.syncWait plain 9 1) (withTile { flags := [(9, .done 0x8001)] }) (fun t => (t.tile 0).flag 9 = .idle && (t.tile 0).getG 1 = 0x8001) = true := by decide +kernel
/-- R343, R352: a doorbell more than N ahead puts the ring in ERROR with cause 1. -/
theorem test_doorbell : after (.sqTailDoorbell 0 17) (ringed { state := 1 } (hosted {})) (fun t => (t.ring 0).state = 3 && (t.ring 0).cause = 1) = true ∧
    after (.sqTailDoorbell 0 16) (ringed { state := 1 } (hosted {})) (fun t => (t.ring 0).state = 1 && (t.ring 0).sqTail = 16) = true := by decide +kernel
/-- R353, R355, R360: a NOP is fetched and completed; its completion stands in host memory and CQ_PROD advances. -/
theorem test_nop : after (.descriptorFetch true) (toFetch 0) (fun t => t.host.descs.length = 1 && (t.ring 0).sqFetch = 1 &&
    after (.descNop 0) t fun u => u.host.descs.isEmpty && (u.ring 0).cqProd = 1) = true := by decide +kernel
/-- R384, R382: an idle step counts one reference cycle, 25 in holdover, and none in a legacy stop. -/
theorem test_tick : (match step (refOn 1 1) with | .next t => t.refcyc = 1 | _ => false) = true ∧
    (match step {} with | .next t => t.refcyc = 25 | _ => false) = true ∧
    (match step haltedRef with | .next t => t.refcyc = 0 | _ => false) = true := by decide +kernel
/-- R381: a native switch to a ready candidate makes it the reference. -/
theorem test_native : after (.nativeSwitch 1 .done) (refOn 0 1) (fun t => t.active = 1 && t.fget fCkmRefSelResult = 0) = true ∧
    after (.nativeSwitch 0 .done) (refOn 2 0) (fun t => t.active = 2 && t.fget fCkmRefSelResult = 1) = true := by decide +kernel
/-- R399: the tenth high sample of PWR_EN closes main power. -/
theorem test_power : after (.pwrEnSample true true true true) (sampled 9 0 false) (fun t => t.mgmt.mainOn && t.mgmt.pgood) = true ∧
    after (.pwrEnSample true true true true) (sampled 8 0 false) (fun t => !t.mgmt.mainOn) = true := by decide +kernel
/-- R456, R457: programming clears bits and never sets them. -/
theorem test_flash : after (.flashCommandEnd []) (({} : State).updMgmt fun m =>
      { m with flash := [(0x08820000, 0xF0)], flashQ := [⟨none, .program 0x08820000 [0x3C], 0⟩] })
    (fun t => SMap.get 0xFF t.mgmt.flash 0x08820000 = 0x30 && t.fget fMgtFlashCmdStatus = 4) = true := by decide +kernel

/-! ### Tests: reset -/

/-- R34, R96, R348: at reset no canton is powered, the stores are VOID, the descriptive registers hold their constants. -/
theorem test_reset : State.reset.online 40 = false ∧ State.reset.engine = 1 ∧ State.reset.pending = [] ∧
    State.reset.readReg 0x100 = 0x0000020404000840 ∧ decodeWord (SMap.get 0 (State.reset.tile 0).istore 0) = .void := by decide +kernel
/-- The state at reset is in the form that every step keeps. -/
theorem test_reset_memory : State.reset.MemOk := reset_inv

/-- R483: a module in Reset drives two pins; with main power good PGOOD is high. -/
theorem test_pins :
    ({} : State).pin .pgood = .released ∧ ({} : State).pin .clkreqN = .low ∧ (island {}).mainPowerSeen = (island {}).mgmt.pgood ∧
    (({} : State).updMgmt fun m => { m with thermtrip := true }).pin .thermtripN = .low := by decide +kernel

end Sys2Proof.Tests
end

section
/-! SUPPORT. Frames compose, and a field of window 0 after another is set (R8, R10). -/
namespace Sys2Proof.Machine

theorem Part.same_trans {s t u : State} (p : Part) (h : Part.same s t p) (k : Part.same t u p) : Part.same s u p := by
  cases p <;> exact Eq.trans k h

theorem Only.refl (ps : List Part) (s : State) : Only ps s s := fun p _ => by cases p <;> rfl

theorem Only.trans {ps : List Part} {s t u : State} (h : Only ps s t) (k : Only ps t u) : Only ps s u :=
  fun p hp => p.same_trans (h p hp) (k p hp)

theorem Only.setReg (s : State) (o : Nat) (v : W64) : Only [.regs] s (s.setReg o v) := by
  intro p hp
  cases p
  case regs => simp at hp
  all_goals rfl

theorem Only.fset (s : State) (f : Fld) (v i : Nat) : Only [.regs] s (s.fset f v i) := Only.setReg _ _ _

theorem Only.updHost (s : State) (f : HostIf → HostIf) : Only [.host] s (s.updHost f) := by
  intro p hp
  cases p
  case host => simp at hp
  all_goals rfl

theorem OnlyRegs.setReg (s : State) (o : Nat) (v : W64) : OnlyRegs [o] s (s.setReg o v) :=
  fun j hj => State.reg_setReg_ne s o j v (by simpa using hj)

theorem OnlyRegs.fset (s : State) (f : Fld) (v i : Nat) : OnlyRegs [f.off + i * 0x10000] s (s.fset f v i) :=
  OnlyRegs.setReg _ _ _

@[simp] theorem State.updHost_host (s : State) (g : HostIf → HostIf) : (s.updHost g).host = g s.host := rfl

/-- A field of window 0 reads as it was set. -/
theorem State.fget_fset_self (s : State) (f : Fld) (v : Nat) (hf : f.lo + f.n ≤ 64) :
    (s.fset f v).fget f = v % 2 ^ f.n := s.fget_fset_same f v 0 hf

/-- A field of window 0 in another register, or of other bits of the same, keeps its value. -/
theorem State.fget_fset_other (s : State) (f g : Fld) (v : Nat) (hf : f.lo + f.n ≤ 64)
    (h : g.off ≠ f.off ∨ g.lo + g.n ≤ f.lo ∨ f.lo + f.n ≤ g.lo) : (s.fset f v).fget g = s.fget g := by
  by_cases ho : g.off = f.off
  · exact s.fget_fset_disjoint f g v 0 0 hf (by rw [ho]) (h.resolve_left (not_not_intro ho))
  · exact s.fget_fset_reg f g v 0 0 (by simpa using ho)

end Sys2Proof.Machine
end

section
/-! SUPPORT. What the host's windows do (R122, R343 to R345, R350, R352, R365, R367): reads of configuration space, BAR0,
BAR2 and BAR4, indirect access, and writes of BAR0. -/
namespace Sys2Proof.Machine

/-! ### Bytes -/

theorem leBytes_length (n x : Nat) : (leBytes n x).length = n := by
  induction n generalizing x with
  | zero => rfl
  | succ n ih => rw [leBytes, List.length_cons, ih]

/-- A read of all 8 bytes of an aligned word returns them all. -/
theorem leBytes_part (x o : Nat) (h : o % 8 = 0) : ((leBytes 8 x).drop (o % 8)).take 8 = leBytes 8 x := by
  rw [h, List.drop_zero]
  exact List.take_of_length_le (leBytes_length 8 x).le

theorem padTo_length (n : Nat) (xs : List Byte) : (padTo n xs).length = n := by
  rw [padTo, List.length_take, List.length_append, List.length_replicate]
  omega

/-! ### Reads of configuration space, BAR0 and BAR2 -/

theorem bar4Read_undecoded (s : State) (sp : HostSpace) (o : BitVec 38) (n : BitVec 13) (b : Bool)
    (hd : s.host.decodes = false) (hsp : sp ≠ .config) : Does (.bar4Read sp o n b) s s := by
  show execBar4Read sp o n b s = _
  cases sp
  case config => exact absurd rfl hsp
  all_goals simp only [execBar4Read, hd, Bool.not_false, Bool.true_or, if_true]

theorem configRead_unlinked (s : State) (o : BitVec 38) (n : BitVec 13) (b : Bool) (hl : s.host.linkUp = false) :
    Does (.bar4Read .config o n b) s s := by
  show execBar4Read .config o n b s = _
  simp only [execBar4Read, hl, Bool.false_eq_true, if_false]

/-- R343: an aligned word of configuration space. -/
theorem configRead_word (s : State) (o : BitVec 38) (b : Bool) (i : Nat) (hl : s.host.linkUp = true)
    (ho : o.toNat = 4 * i) : Does (.bar4Read .config o 4#13 b) s (s.readsBack (leBytes 4 (s.configWord i).toNat)) := by
  have hm : (4#13).toNat = 4 := rfl
  have ha : 4 * i % 4 = 0 := by omega
  have hq : 4 * i / 4 = i := by omega
  show execBar4Read .config o 4#13 b s = _
  simp only [execBar4Read, hl, ho, hm, ha, hq, if_true, Nat.zero_add, Nat.reduceAdd, Nat.reduceDiv, List.range_one,
    List.flatMap_cons, List.flatMap_nil, List.append_nil, Nat.add_zero, List.drop_zero]
  rw [List.take_of_length_le (leBytes_length _ _).le]

/-- R345: a size or an alignment that BAR0 and BAR2 do not have. -/
theorem barRead_missized (s : State) (sp : HostSpace) (o : BitVec 38) (n : BitVec 13) (b : Bool)
    (hd : s.host.decodes = true) (hsp : sp = .bar0 ∨ sp = .bar2) (hn : (n ≠ 4 ∧ n ≠ 8) ∨ o.toNat % n.toNat ≠ 0) :
    Does (.bar4Read sp o n b) s ((s.fset fHifStatSizeSeen 1).readsBack (List.replicate n.toNat 0)) := by
  have h4 : n.toNat = 4 → n = 4 := fun h => BitVec.eq_of_toNat_eq h
  have h8 : n.toNat = 8 → n = 8 := fun h => BitVec.eq_of_toNat_eq h
  have hs : ((decide (n.toNat = 4) || decide (n.toNat = 8)) && decide (o.toNat % n.toNat = 0)) = false := by
    simp only [Bool.and_eq_false_iff, Bool.or_eq_false_iff, decide_eq_false_iff_not]
    tauto
  show execBar4Read sp o n b s = _
  rcases hsp with rfl | rfl <;>
    simp only [execBar4Read, fillBytes, hd, hs, Bool.not_true, Bool.not_false, Bool.false_eq_true, if_true, if_false]

/-- The 8 bytes of an aligned BAR0 register other than TILE_ACC_DATA and MGT_FLASH_DATA. -/
theorem bar0Read_word (s : State) (o : BitVec 38) (b : Bool) (hd : s.host.decodes = true) (ha : o.toNat % 8 = 0) :
    Does (.bar4Read .bar0 o 8#13 b) s
      ((s.bar0Read o.toNat b).2.readsBack (leBytes 8 (s.bar0Read o.toNat b).1.toNat)) := by
  have hm : (8#13).toNat = 8 := rfl
  have hq : o.toNat / 8 * 8 = o.toNat := by omega
  show execBar4Read .bar0 o 8#13 b s = _
  simp only [execBar4Read, hd, hm, ha, hq, Bool.not_true, Bool.false_eq_true, if_false, decide_true, Bool.or_true,
    Bool.and_self]
  rw [← ha, leBytes_part _ _ ha]

theorem State.bar0Read_plain (s : State) (o : Nat) (late : Bool) (h1 : o ≠ 0x308) (h2 : o ≠ 0x70040) :
    s.bar0Read o late = if s.gated o || s.windowUp o then (s.readReg o, s) else (0, s.fset fHifStatOfflineSeen 1) := by
  unfold State.bar0Read
  rw [if_neg h1, if_neg (by simp [h2])]

theorem State.readReg_gated (s : State) (o : Nat) (h : s.gated o = true) : s.readReg o = 0 := by
  unfold State.readReg
  rw [if_pos (by simp [h])]

/-- The tail, head, fetch and completion pointers of a ring, by the place of their word in the ring's 64 B of BAR2 (R352). -/
def Ring.bar2 (x : Ring) (j : Nat) : W32 :=
  if j = 0 then x.sqTail else if j = 1 then x.cqHead else if j = 2 then x.sqFetch else if j = 3 then x.cqProd else 0

theorem State.bar2Word_toNat (s : State) (r j : Nat) (hj : j < 8) :
    (s.bar2Word (64 * r + 8 * j)).toNat = ((s.ring r).bar2 j).toNat := by
  have hr : (64 * r + 8 * j) / 64 = r := by omega
  have hm : (64 * r + 8 * j) % 64 = 8 * j := by omega
  have hz : ∀ w : W32, (w.zeroExtend 64).toNat = w.toNat := fun w => BitVec.toNat_setWidth_of_le (by decide)
  unfold State.bar2Word
  rw [hr, hm, hz]
  interval_cases j <;> rfl

theorem bar2Read_word (s : State) (r : RingIx) (o : BitVec 38) (j : Nat) (b : Bool) (hd : s.host.decodes = true)
    (ho : o.toNat = 64 * r.val + 8 * j) (hj : j < 8) :
    Does (.bar4Read .bar2 o 8#13 b) s (s.readsBack (leBytes 8 ((s.ring r).bar2 j).toNat)) := by
  have hm : (8#13).toNat = 8 := rfl
  have ha : (64 * r.val + 8 * j) % 8 = 0 := by omega
  have hq : (64 * r.val + 8 * j) / 8 * 8 = 64 * r.val + 8 * j := by omega
  show execBar4Read .bar2 o 8#13 b s = _
  simp only [execBar4Read, hd, hm, ho, ha, hq, Bool.not_true, Bool.false_eq_true, if_false, decide_true, Bool.or_true,
    Bool.and_self]
  rw [← ha, leBytes_part _ _ ha, State.bar2Word_toNat s r j hj]

/-! ### The readback window (R350) -/

theorem State.bar4Rows_length (s : State) (a m : Nat) : (s.bar4Rows a m).1.length = 64 * m := by
  induction m generalizing s a with
  | zero => rfl
  | succ m ih =>
    have hrow : ∀ r : RowOut, (if r.status = 1 || r.status = 3 then fillBytes 64 0 else padTo 64 r.data).length = 64 := by
      intro r
      split
      · exact List.length_replicate
      · exact padTo_length _ _
    rw [State.bar4Rows, List.length_append, ih, hrow]
    omega

/-- A read of n bytes of BAR4: a is the engine address of its first, m the rows that it touches. -/
theorem bar4Read_rows (s : State) (o : BitVec 38) (n : BitVec 13) (hd : s.host.decodes = true) (a m : Nat)
    (ha : s.fget fHifWinBaseBase * 2 ^ 38 + o.toNat = a) (hm : (a % 64 + n.toNat + 63) / 64 = m) :
    (s.rowsWait (a / 64 * 64) m = true → Does (.bar4Read .bar4 o n false) s s) ∧
    (∀ late, late = true ∨ s.rowsWait (a / 64 * 64) m = false → Does (.bar4Read .bar4 o n late) s
      ((s.bar4Rows (a / 64 * 64) m).2.readsBack (((s.bar4Rows (a / 64 * 64) m).1.drop (a % 64)).take n.toNat))) ∧
    (((s.bar4Rows (a / 64 * 64) m).1.drop (a % 64)).take n.toNat).length = n.toNat := by
  refine ⟨fun hw => ?_, fun late hw => ?_, ?_⟩
  · show execBar4Read .bar4 o n false s = _
    simp only [execBar4Read, State.bar4Waits, ha, hm, hw, Bool.not_false, Bool.and_self, Bool.or_true, if_true]
  · have hgo : (s.rowsWait (a / 64 * 64) m && !late) = false := by
      rcases hw with h | h <;> simp [h]
    show execBar4Read .bar4 o n late s = _
    simp only [execBar4Read, State.bar4Waits, State.bar4, ha, hm, hd, hgo, Bool.not_true, Bool.or_self,
      Bool.false_eq_true, if_false]
  · rw [List.length_take, List.length_drop, State.bar4Rows_length]
    omega

theorem bar4Write_discards (s : State) (hd : s.host.decodes = true) :
    Does .bar4Write s (s.fset fHifStatBar4WrSeen 1) := by
  show execBar4Write s = _
  simp only [execBar4Write, hd, if_true]

/-! ### Indirect access (R122) -/

/-- The posted write that a write of TILE_ACC_DATA makes. -/
def State.accPost (s : State) (v : W64) : AccWrite :=
  { space := BitVec.ofNat 5 (s.fget fTileAccAddrSpace), phys := s.fbit fTileAccAddrPhys,
    tile := BitVec.ofNat 19 (s.fget fTileAccAddrTile), offset := BitVec.ofNat 13 (s.fget fTileAccAddrOffset), data := v }

theorem tileAccWrite_posts (s : State) (v : W64) (hd : s.host.decodes = true) (hr : s.accRefused = 0)
    (hl : s.host.accWrites.length < 16) :
    Does (.tileAccWrite v) s
      (((s.updHost fun h => { h with accWrites := h.accWrites ++ [s.accPost v] }).accStep).accBusy) := by
  show execTileAccWrite v s = _
  simp only [execTileAccWrite, hd, hr, Nat.not_le.mpr hl, ne_eq, not_true_eq_false, Bool.not_true, Bool.false_eq_true,
    if_false]
  rfl

theorem State.accStep_only (s : State) : Only [.regs] s s.accStep := by
  unfold State.accStep
  split
  · exact Only.fset _ _ _ _
  · exact Only.refl _ _

theorem State.accBusy_set (s : State) (h : s.host.accWrites ≠ []) : s.accBusy.fbit fTileAccStatBusy = true := by
  have hb : b2n (!s.host.accWrites.isEmpty) = 1 := by simpa [b2n] using h
  rw [State.fbit, State.accBusy, hb, State.fget_fset_self _ _ _ (by decide)]
  rfl

theorem State.accEnd_only (s : State) (err off : Nat) : Only [.regs] s (s.accEnd err off) := by
  unfold State.accEnd
  dsimp only
  split
  · exact Only.fset _ _ _ _
  · exact ((Only.fset _ _ _ _).trans (Only.fset _ _ _ _)).trans (Only.fset _ _ _ _)

theorem State.accEnd_err (s : State) (err off : Nat) : (s.accEnd err off).fget fTileAccStatErr = err % 2 ^ 8 := by
  unfold State.accEnd
  dsimp only
  split
  · exact State.fget_fset_self _ _ _ (by decide)
  · simp (disch := decide) only [State.fget_fset_self, State.fget_fset_other]

theorem State.accRefused_lt (s : State) : s.accRefused < 2 ^ 8 := by
  unfold State.accRefused
  split
  · decide
  · split <;> decide

theorem tileAccRead_does (s : State) (late : Bool) (hd : s.host.decodes = true) :
    Does (.tileAccRead late) s ((s.tileAccRead late).2.readsBack (leBytes 8 (s.tileAccRead late).1.toNat)) := by
  show execTileAccRead late s = _
  simp only [execTileAccRead, hd, Bool.not_true, Bool.false_eq_true, if_false]

theorem State.tileAccRead_refused (s : State) (late : Bool) (h : s.accRefused ≠ 0) :
    s.tileAccRead late = (0, s.accEnd s.accRefused (s.fget fTileAccAddrOffset)) := by
  unfold State.tileAccRead
  exact if_pos h

/-- A read that leaves the register at once and that its tile accepts. -/
theorem State.tileAccRead_accepted (s : State) (k t : Nat) (hr : s.accRefused = 0) (hw : s.host.accWrites = [])
    (hc : s.accCheck (s.fbit fTileAccAddrPhys) (s.fget fTileAccAddrTile) (s.fget fTileAccAddrSpace)
      (s.fget fTileAccAddrOffset) false = (0, false))
    (ht : s.accTile (s.fbit fTileAccAddrPhys) (s.fget fTileAccAddrTile) = some (k, t)) :
    let q := s.accStep.accRead t (s.fget fTileAccAddrSpace) (s.fget fTileAccAddrOffset)
    s.tileAccRead false = (if q.1 = 0 then q.2.getSpace t (s.fget fTileAccAddrSpace) (s.fget fTileAccAddrOffset) else 0,
      q.2.accEnd q.1 (s.fget fTileAccAddrOffset)) := by
  unfold State.tileAccRead
  simp only [hr, hw, hc, ht, ne_eq, not_true_eq_false, if_false, List.length_nil, List.range_zero, List.foldl_nil,
    Bool.false_eq_true]

/-! ### Interrupts (R365) -/

theorem HostIf.signal_rings (h : HostIf) (v : Nat) : (h.signal v).rings = h.rings := by
  unfold HostIf.signal HostIf.post
  split
  · rfl
  · dsimp only
    split <;> rfl

theorem State.ringSignal_only (s : State) (r : Nat) : Only [.host] s (s.ringSignal r) :=
  (Only.updHost s _).trans (Only.updHost _ _)

/-- A ring that signals has nothing left to signal, and keeps the rest; every other ring is as it was. -/
theorem State.ringSignal_ring (s : State) (r i : Nat) :
    (s.ringSignal r).ring i = if i = r then { s.ring r with unsignalled := 0 } else s.ring i := by
  have hr : (s.ringSignal r).ring i = (s.setRing r { s.ring r with unsignalled := 0 }).ring i := by
    rw [State.ring, State.ringSignal, State.msi, State.updHost_host, HostIf.signal_rings]
    rfl
  rw [hr]
  split
  · next h => rw [h]; exact SMap.get_put_same _ _ _ _
  · next h => exact SMap.get_put_ne _ _ _ _ _ h

theorem irqTimeExpiry_does (s : State) (r : RingIx) :
    Does (.irqTimeExpiry r) s
      (if (s.ring r).irqTime ≠ 0 && (s.ring r).unsignalled ≠ 0 then s.ringSignal r else s) := rfl

/-! ### Writes of BAR0 (R10, R345, R367) -/

theorem State.barWrite_missized (s : State) (off n : Nat) (v : W64) (hd : s.host.decodes = true)
    (hn : (n ≠ 4 ∧ n ≠ 8) ∨ off % n ≠ 0) : s.barWrite off n v = s.fset fHifStatSizeSeen 1 := by
  unfold State.barWrite
  rw [hd, if_neg (by decide), if_pos]
  simp only [Bool.not_eq_true', Bool.and_eq_false_iff, Bool.or_eq_false_iff, decide_eq_false_iff_not]
  exact hn

/-- A write of all 8 bytes of an aligned register. -/
theorem State.barWrite_word (s : State) (off : Nat) (v : W64) (hd : s.host.decodes = true) (ha : off % 8 = 0) :
    s.barWrite off 8 v =
      let mask := maskOf (regSpec off).tx &&& maskOf (2 ^ 64 - 1)
      if s.gated off then s.stageBar off mask v
      else if s.windowUp off then (s.writeReg off (maskOf (2 ^ 64 - 1)) v).stageBar off mask v
      else s.fset fHifStatOfflineSeen 1 := by
  have hq : off / 8 * 8 = off := by omega
  unfold State.barWrite
  simp only [hd, ha, hq, Bool.not_true, Bool.false_eq_true, if_false, decide_true, Bool.or_true,
    Bool.and_self, if_true]
  cases s.windowUp off <;> simp

theorem State.stageBar_gated (s : State) (off : Nat) (mask v : W64) (hg : s.gated off = true)
    (h : s.txnState ≠ 1 ∨ s.fbit fTxnStatOwnerRing = true) : s.stageBar off mask v = s := by
  have hopen : (decide (s.txnState = 1) && !(s.fbit fTxnStatOwnerRing)) = false := by
    rcases h with h | h <;> simp [h]
  simp only [State.stageBar, hopen, hg, Bool.false_eq_true, if_false, if_true, ite_self]

theorem State.stageBar_unstaged (s : State) (off : Nat) (mask v : W64) (hm : mask ≠ 0) (h : s.txnState ≠ 1)
    (hg : s.gated off = false) : s.stageBar off mask v = s.fset fTxnStatUnstagedSeen 1 := by
  unfold State.stageBar
  rw [if_neg hm, if_neg (by simp [h]), if_neg (by simp [hg])]

/-- R367: an entry is staged in the transaction that TXN_CTRL opened, and counted. -/
theorem State.stageBar_staged (s : State) (off : Nat) (mask v : W64) (hm : mask ≠ 0) (h1 : s.txnState = 1)
    (ho : s.fbit fTxnStatOwnerRing = false) (hl : s.host.txn.stage.length < 4096) :
    (s.stageBar off mask v).host.txn.stage = s.host.txn.stage ++ [⟨off, mask, v⟩] ∧
    (s.stageBar off mask v).fget fTxnStatCount = (s.host.txn.stage.length + 1) % 2 ^ fTxnStatCount.n := by
  unfold State.stageBar State.stage
  rw [if_neg hm, if_pos (by simp [h1, ho]), if_pos hl]
  exact ⟨rfl, State.fget_fset_self _ _ _ (by decide)⟩

/-! ### The bits of a plain register (R10) -/

theorem maskOf_bit (n b : Nat) (h : b < 64) : (maskOf n).getLsbD b = n.testBit b := by
  rw [maskOf, BitVec.getLsbD_ofNat, decide_eq_true h, Bool.true_and]

theorem mergeW_bit (old mask v : W64) (b : Nat) (h : b < 64) :
    (mergeW old mask v).getLsbD b = if mask.getLsbD b then v.getLsbD b else old.getLsbD b := by
  simp only [mergeW, BitVec.getLsbD_or, BitVec.getLsbD_and, BitVec.getLsbD_not, decide_eq_true h, Bool.true_and]
  cases mask.getLsbD b <;> simp

theorem State.putBits_reg (s : State) (off : Nat) (mask v : W64) : (s.putBits off mask v).reg off =
    (mergeW (s.reg off) (mask &&& maskOf (regSpec off).rw) v &&& ~~~(v &&& mask &&& maskOf (regSpec off).w1c)) |||
      (v &&& mask &&& maskOf (regSpec off).ws) := State.reg_setReg_same _ _ _

/-- R10: a WS bit is set and a W1C bit cleared where a 1 is written, an RW bit takes what is written, and every other
bit keeps its value. -/
theorem State.putBits_bit (s : State) (off : Nat) (mask v : W64) (b : Nat) (h : b < 64) :
    ((s.putBits off mask v).reg off).getLsbD b =
      if mask.getLsbD b && v.getLsbD b && (regSpec off).ws.testBit b then true
      else if mask.getLsbD b && v.getLsbD b && (regSpec off).w1c.testBit b then false
      else if mask.getLsbD b && (regSpec off).rw.testBit b then v.getLsbD b
      else (s.reg off).getLsbD b := by
  rw [State.putBits_reg]
  simp only [BitVec.getLsbD_or, BitVec.getLsbD_and, BitVec.getLsbD_not, mergeW_bit _ _ _ _ h, maskOf_bit _ _ h,
    decide_eq_true h, Bool.true_and]
  generalize mask.getLsbD b = m, v.getLsbD b = x, (s.reg off).getLsbD b = old, (regSpec off).rw.testBit b = rw,
    (regSpec off).w1c.testBit b = w1c, (regSpec off).ws.testBit b = ws
  decide +revert

end Sys2Proof.Machine
end

section
/-! The statements of the scope: the queue's front, transactions, the host's accesses. -/
open Sys2Proof Sys2Proof.Machine

/-- Settles O1: the two sides unfold to the same command on the same state. -/
theorem stepRunsFront : Obligations.StepRunsFront := fun _ _ => rfl

/-- Refutes O36: starting a commit sets the cantons asked and empties the votes, but leaves the list of the cantons that
still have to apply as it stands. The clause that finds the list empty asks nothing of it before, and fails of a state
outside any commit in which canton 40, powered, joined and in the engine-wide tree, still stands in it. -/
theorem not_transactions : ¬ Obligations.Transactions := by
  unfold Obligations.Transactions
  rintro ⟨_, _, _, _, _, _, hstart, _⟩
  obtain ⟨_, _, _, happly, _⟩ := hstart
    { cantons := [(40, { powered := true, joined := true })]
      regs := [(0x688110, 0xA000#64)]
      host := { txn := { stage := [⟨0x50020, 1, 1⟩], apply := [40] } } }
    (by decide +kernel) (by decide +kernel) (by decide +kernel) (by decide +kernel)
  exact absurd happly (by decide +kernel)

/-- Settles O37: each clause by the lemma of its window, of indirect access, or of a register write. -/
theorem hostAccesses : Obligations.HostAccesses := by
  unfold Obligations.HostAccesses
  refine ⟨?_, ?_, barRead_missized, ?_, bar2Read_word, ?_, ?_, ?_, fun _ _ => rfl, ?_, ?_, fun _ _ _ _ => ⟨rfl, rfl⟩, ?_, ?_,
    fun s off n v => s.barWrite_missized off n v, ?_, ?_, State.putBits_bit, ?_, State.stageBar_staged, State.stageBar_unstaged⟩
  · intro s o n v b hd
    refine ⟨fun sp => bar4Read_undecoded s sp o n b hd, ?_, ?_, ?_⟩
    · show execBar4Write s = _
      simp only [execBar4Write, hd, Bool.false_eq_true, if_false]
    · show execTileAccWrite v s = _
      simp only [execTileAccWrite, hd, Bool.not_false, if_true]
    · show execTileAccRead b s = _
      simp only [execTileAccRead, hd, Bool.not_false, if_true]
  · intro s o n b
    exact ⟨configRead_unlinked s o n b, configRead_word s o b⟩
  · intro s o b hd ha h1 h2
    have hread := bar0Read_word s o b hd ha
    rw [s.bar0Read_plain _ b h1 h2] at hread
    refine ⟨fun hg => ?_, fun hg hw => ?_, fun hg hw => ?_⟩
    · rw [if_pos (by simp [hg]), s.readReg_gated _ hg] at hread
      exact hread
    · rwa [if_pos (by simp [hw])] at hread
    · rwa [if_neg (by simp [hg, hw])] at hread
  · intro s hd
    exact ⟨_, bar4Write_discards s hd, by rw [State.fbit, State.fget_fset_self _ _ _ (by decide)]; rfl,
      Only.fset _ _ _ _, OnlyRegs.fset s fHifStatBar4WrSeen 1 0⟩
  · intro s o n late hd
    obtain ⟨hwait, hread, hlen⟩ := bar4Read_rows s o n hd _ _ rfl rfl
    exact ⟨hwait, hread late, hlen⟩
  · intro s v hd hr hl
    refine ⟨_, tileAccWrite_posts s v hd hr hl, ?_⟩
    generalize hu : (s.updHost fun h => { h with accWrites := h.accWrites ++ [s.accPost v] }) = u
    have hstep := u.accStep_only
    have hbusy : Only [.regs] u.accStep u.accStep.accBusy := Only.fset _ _ _ _
    have hall := hstep.trans hbusy
    refine ⟨⟨s.accPost v, ?_, rfl, rfl⟩, ?_, ?_, ?_, ?_⟩
    · rw [hall .host (by simp), ← hu]; rfl
    · apply State.accBusy_set
      rw [hstep .host (by simp), ← hu]
      simp
    · rw [hall .host (by simp), ← hu]; rfl
    · rw [hall .mem (by simp), ← hu]; rfl
    · rw [hall .tiles (by simp), ← hu]; rfl
  · intro s b hd hr
    have hread := tileAccRead_does s b hd
    have hend := s.accEnd_only s.accRefused (s.fget fTileAccAddrOffset)
    rw [s.tileAccRead_refused b hr] at hread
    refine ⟨_, hread, ?_, rfl, hend .mem (by simp), hend .tiles (by simp)⟩
    exact (s.accEnd_err _ _).trans (Nat.mod_eq_of_lt s.accRefused_lt)
  · intro s k t hd hr hw w sp hc ht q
    have hread := tileAccRead_does s false hd
    rwa [s.tileAccRead_accepted k t hr hw hc ht] at hread
  · intro s r
    refine ⟨fun ht hu => ⟨s.ringSignal r, ?_, ?_, fun i hi => ?_, s.ringSignal_only r⟩, fun h => ?_⟩
    · rw [irqTimeExpiry_does s r, if_pos (by simp only [ht, hu, ne_eq, not_false_eq_true, decide_true, Bool.and_self])]
    · rw [s.ringSignal_ring, if_pos rfl]
    · rw [s.ringSignal_ring, if_neg hi]
    · rw [Does, irqTimeExpiry_does s r, if_neg]
      rcases h with h | h <;> simp [h]
  · intro s off n v hd
    simp only [State.barWrite, hd, Bool.not_false, if_true]
  · intro s off v hd ha hg hw
    rw [s.barWrite_word off v hd ha]
    simp only [hg, hw, Bool.false_eq_true, if_false]
  · intro s off v hd ha hg h
    rw [s.barWrite_word off v hd ha]
    simp only [hg, if_true]
    exact s.stageBar_gated _ _ _ hg h
  · intro s off mask v
    exact ⟨Only.setReg _ _ _, OnlyRegs.setReg _ _ _⟩
end

section
/-! SUPPORT. The local numbers of R22, from a tile's column and row. -/
namespace Sys2Proof.Machine

/-- The row of T(x, y), of its number (R22). -/
theorem tileRow_eq {x : Nat} (y : Nat) (hx : x < 640) : (640 * y + x) / 640 = y := by
  rw [Nat.mul_add_div (by decide), Nat.div_eq_of_lt hx, Nat.add_zero]

/-- The column of T(x, y), of its number (R22). -/
theorem tileCol_eq {x : Nat} (y : Nat) (hx : x < 640) : (640 * y + x) % 640 = x := by
  rw [Nat.mul_add_mod, Nat.mod_eq_of_lt hx]

theorem clusterOf_xy {x : Nat} (y : Nat) (hx : x < 640) : clusterOf (640 * y + x) = 80 * (y / 6) + x / 8 := by
  rw [clusterOf, tileRow_eq y hx, tileCol_eq y hx, Nat.mul_comm]

theorem cantonOf_xy {x : Nat} (y : Nat) (hx : x < 640) : cantonOf (640 * y + x) = 10 * (y / 6 / 6) + x / 8 / 8 := by
  rw [cantonOf, tileRow_eq y hx, tileCol_eq y hx, Nat.mul_comm, Nat.div_div_eq_div_mul, Nat.div_div_eq_div_mul]

theorem localTile_xy {x : Nat} (y : Nat) (hx : x < 640) : localTile (640 * y + x) = y % 6 * 8 + x % 8 := by
  rw [localTile, tileRow_eq y hx, tileCol_eq y hx]

/-- The local number of the cluster in column cx and row cy of the clusters (R22). -/
theorem localCluster_xy {cx : Nat} (cy : Nat) (hx : cx < 80) : localCluster (80 * cy + cx) = cy % 6 * 8 + cx % 8 := by
  unfold localCluster
  omega

theorem cantonOfCluster_xy {cx : Nat} (cy : Nat) (hx : cx < 80) : cantonOfCluster (80 * cy + cx) = 10 * (cy / 6) + cx / 8 := by
  unfold cantonOfCluster
  omega

/-- A cluster and a local number name one tile (R22). -/
theorem tileAt_xy {x : Nat} (y : Nat) (hx : x < 640) : tileAt (80 * (y / 6) + x / 8) (y % 6 * 8 + x % 8) = 640 * y + x := by
  unfold tileAt
  omega

/-- A canton and a local number name one cluster (R22). -/
theorem clusterAt_xy {cx : Nat} (cy : Nat) (hx : cx < 80) :
    clusterAt (10 * (cy / 6) + cx / 8) (cy % 6 * 8 + cx % 8) = 80 * cy + cx := by
  unfold clusterAt
  omega

end Sys2Proof.Machine
end

section
open Sys2Proof.Machine

/-- Settles O11, by the row and the column of a tile's number (R22). -/
theorem tileCoordinates : Obligations.TileCoordinates := by
  refine ⟨fun x y hx hy => ?_, by decide⟩
  have hcx : x / 8 < 80 := by omega
  have hcy : y / 6 < 60 := by omega
  rw [clusterOf_xy y hx, cantonOf_xy y hx, localTile_xy y hx, localCluster_xy _ hcx, cantonOfCluster_xy _ hcx,
    tileAt_xy y hx, clusterAt_xy _ hcx]
  refine ⟨rfl, hcx, hcy, rfl, ?_, ?_, rfl, ?_, rfl, ?_, rfl, rfl, rfl⟩ <;> omega

end

section
/-! SUPPORT. What the state of the reset reads (R34). -/
namespace Sys2Proof.Machine

/-- The word 0 is VOID (R126). -/
theorem decodeWord_zero : decodeWord 0 = .void := by decide +kernel

/-- The word at 0x100 right after the reset: a constant of the engine (R27). -/
theorem reset_readReg_capabilities : State.reset.readReg 0x100 = 0x0000020404000840 := by decide +kernel

end Sys2Proof.Machine
end

section
open Sys2Proof.Machine

/-- Settles O6: in the state of the reset every map is empty, so each reads its default (R34, R379, R27, R384). -/
theorem resetState : Obligations.ResetState :=
  ⟨⟨rfl, rfl, rfl⟩, rfl, rfl, fun _ => ⟨rfl, rfl⟩, fun _ => ⟨rfl, rfl⟩,
    fun _ => ⟨BitVec.getLsbD_zero, rfl, fun _ => decodeWord_zero⟩, fun _ => rfl, rfl, rfl, reset_readReg_capabilities⟩

end

section
/-! SUPPORT. The canonical form of the byte memories (R29, R346, R456) is kept by every operation of the machine. One
lemma per operation f, `State.MemOk.f` (on a tile at work `TX.MemOk.f`, on the host interface `HostIf.MemOk.f`): from the
form before to the form after, by the lemmas of the operations that f is made of, in f's own order. Here the shapes that
operations are made of: branches, folds, updates of one part. -/
namespace Sys2Proof.Machine

variable {s t : State} {x y : TX} {q r : HostIf} {α β : Type} {c : Prop} [Decidable c]

/-- The engine memory of a tile at work is in canonical form. -/
def TX.MemOk (x : TX) : Prop := x.mem.wf = true

/-- The host's memory is in canonical form. -/
def HostIf.MemOk (q : HostIf) : Prop := SMap.wf 0 q.mem = true

/-- Where an outcome is a next state, its memories are in canonical form. -/
def NextOk (o : Host.Outcome State Fault Refusal) : Prop := ∀ t, o = .next t → t.MemOk

theorem State.MemOk.engine (h : s.MemOk) : s.mem.wf = true := h.1

theorem State.MemOk.host (h : s.MemOk) : s.host.MemOk := h.2.1

theorem State.MemOk.flash (h : s.MemOk) : SMap.wf 0xFF s.mgmt.flash = true := h.2.2

theorem State.MemOk.next (h : s.MemOk) : NextOk (.next s) := by
  rintro t ⟨⟩
  exact h

/-- The state that came with a pair whose value is known. -/
theorem State.MemOk.got {p : α × State} {a : α} (h : p.2.MemOk) (e : p = (a, t)) : t.MemOk := by
  subst e
  exact h

/-- The state of a pair whose other part changes. -/
theorem State.MemOk.pairSnd {p : α × State} {b : β} (h : p.2.MemOk) : ((b, p.2) : β × State).2.MemOk := h

/-! ### Branches -/

theorem State.MemOk.ite (hs : s.MemOk) (ht : t.MemOk) : (if c then s else t).MemOk := by
  split <;> assumption

/-- A change made where a condition holds. -/
theorem State.MemOk.when (h : s.MemOk) (k : s.MemOk → t.MemOk) : (if c then t else s).MemOk := (k h).ite h

/-- A change made where a condition does not hold. -/
theorem State.MemOk.unless (h : s.MemOk) (k : s.MemOk → t.MemOk) : (if c then s else t).MemOk := h.ite (k h)

theorem State.MemOk.ite1 {a b : α × State} (ha : a.2.MemOk) (hb : b.2.MemOk) : (if c then a else b).2.MemOk := by
  split <;> assumption

theorem State.MemOk.ite2 {a b : α × β × State} (ha : a.2.2.MemOk) (hb : b.2.2.MemOk) :
    (if c then a else b).2.2.MemOk := by
  split <;> assumption

theorem NextOk.ite {a b : Host.Outcome State Fault Refusal} (ha : NextOk a) (hb : NextOk b) :
    NextOk (if c then a else b) := by
  split <;> assumption

theorem TX.MemOk.ite (hx : x.MemOk) (hy : y.MemOk) : (if c then x else y).MemOk := by
  split <;> assumption

theorem TX.MemOk.when (h : x.MemOk) (k : x.MemOk → y.MemOk) : (if c then y else x).MemOk := (k h).ite h

theorem TX.MemOk.unless (h : x.MemOk) (k : x.MemOk → y.MemOk) : (if c then x else y).MemOk := h.ite (k h)

theorem TX.MemOk.ite1 {a b : α × TX} (ha : a.2.MemOk) (hb : b.2.MemOk) : (if c then a else b).2.MemOk := by
  split <;> assumption

theorem HostIf.MemOk.ite (hq : q.MemOk) (hr : r.MemOk) : (if c then q else r).MemOk := by
  split <;> assumption

/-! ### Folds -/

theorem State.MemOk.foldl {l : List α} {f : State → α → State} (h : s.MemOk)
    (hf : ∀ {s a}, s.MemOk → (f s a).MemOk) :
    (l.foldl f s).MemOk := List.foldlRecOn l f h fun _ hs _ _ => hf hs

theorem State.MemOk.foldl1 {l : List α} {f : β × State → α → β × State} {p : β × State} (h : p.2.MemOk)
    (hf : ∀ {p : β × State} {a}, p.2.MemOk → (f p a).2.MemOk) : (l.foldl f p).2.MemOk :=
  List.foldlRecOn (motive := fun p => p.2.MemOk) l f h fun _ hs _ _ => hf hs

theorem TX.MemOk.foldl {l : List α} {f : TX → α → TX} (h : x.MemOk) (hf : ∀ {x a}, x.MemOk → (f x a).MemOk) :
    (l.foldl f x).MemOk := List.foldlRecOn l f h fun _ hs _ _ => hf hs

theorem TX.MemOk.foldl1 {l : List α} {f : β × TX → α → β × TX} {p : β × TX} (h : p.2.MemOk)
    (hf : ∀ {p : β × TX} {a}, p.2.MemOk → (f p a).2.MemOk) : (l.foldl f p).2.MemOk :=
  List.foldlRecOn (motive := fun p => p.2.MemOk) l f h fun _ hs _ _ => hf hs

theorem HostIf.MemOk.foldl {l : List α} {f : HostIf → α → HostIf} (h : q.MemOk)
    (hf : ∀ {q a}, q.MemOk → (f q a).MemOk) :
    (l.foldl f q).MemOk := List.foldlRecOn l f h fun _ hs _ _ => hf hs

/-! ### Updates of one part -/

theorem HostIf.MemOk.same (h : q.MemOk) (e : r.mem = q.mem) : r.MemOk := by
  rw [HostIf.MemOk, e]
  exact h

theorem State.MemOk.withMem (h : s.MemOk) {m : Memory} (hm : m.wf = true) : ({ s with mem := m } : State).MemOk :=
  ⟨hm, h.2⟩

theorem State.MemOk.withPending (h : s.MemOk) {l : List Instr} : ({ s with pending := l } : State).MemOk := h

theorem State.MemOk.withErr (h : s.MemOk) {e : ErrState} : ({ s with err := e } : State).MemOk := h

theorem State.MemOk.withRequests (h : s.MemOk) {l : List Request} : ({ s with requests := l } : State).MemOk := h

theorem State.MemOk.withBulkOps (h : s.MemOk) {l : List BulkOp} : ({ s with bulkOps := l } : State).MemOk := h

theorem State.MemOk.withPennOut (h : s.MemOk) {m : SMap Nat} : ({ s with pennOut := m } : State).MemOk := h

theorem State.MemOk.withMesh (h : s.MemOk) {m : SMap MeshRouter} : ({ s with mesh := m } : State).MemOk := h

theorem TX.MemOk.withMem {m : Memory} (hm : m.wf = true) : ({ x with mem := m } : TX).MemOk := hm

theorem State.MemOk.withTiles (h : s.MemOk) {m : SMap Tile} : ({ s with tiles := m } : State).MemOk := h

theorem State.MemOk.withHalPart (h : s.MemOk) {m : SMap Nat} : ({ s with halPart := m } : State).MemOk := h

theorem State.MemOk.withHalAgents (h : s.MemOk) {m : SMap Bool} : ({ s with halAgents := m } : State).MemOk := h

theorem State.MemOk.withNextOp (h : s.MemOk) {n : Nat} : ({ s with nextOp := n } : State).MemOk := h

theorem State.MemOk.withEround (h : s.MemOk) {r : Round} : ({ s with eround := r } : State).MemOk := h

theorem State.MemOk.withPennIn (h : s.MemOk) {m : SMap Nat} : ({ s with pennIn := m } : State).MemOk := h

theorem State.MemOk.withRefcyc (h : s.MemOk) {n : Nat} : ({ s with refcyc := n } : State).MemOk := h

theorem HostIf.MemOk.withHeld (h : q.MemOk) {l : List HostReq} : ({ q with held := l } : HostIf).MemOk := h

theorem HostIf.MemOk.withPba (h : q.MemOk) {m : SMap Bool} : ({ q with pba := m } : HostIf).MemOk := h

theorem HostIf.MemOk.withMsix (h : q.MemOk) {m : SMap W32} : ({ q with msix := m } : HostIf).MemOk := h

theorem TX.MemOk.withExt (h : x.MemOk) {l : List Ext} : ({ x with ext := l } : TX).MemOk := h

theorem TX.MemOk.withNWord (h : x.MemOk) {n : BitVec 9} {w : W64} : ({ x with n := n, word := w } : TX).MemOk := h

theorem TX.MemOk.withN (h : x.MemOk) {n : BitVec 9} : ({ x with n := n } : TX).MemOk := h

theorem State.MemOk.updMem (h : s.MemOk) {f : Memory → Memory}
    (hf : ∀ {m : Memory}, m.wf = true → (f m).wf = true) :
    (s.updMem f).MemOk := h.withMem (hf h.engine)

/-- A change of the host interface that keeps the host's memory in canonical form. -/
theorem State.MemOk.updHostBy (h : s.MemOk) {f : HostIf → HostIf} (hf : ∀ {q : HostIf}, q.MemOk → (f q).MemOk) :
    (s.updHost f).MemOk := ⟨h.engine, hf h.host, h.flash⟩

/-- A change of the host interface beside the host's memory. -/
theorem State.MemOk.updHost (h : s.MemOk) {f : HostIf → HostIf} (hf : ∀ q, (f q).mem = q.mem) :
    (s.updHost f).MemOk :=
  h.updHostBy fun hq => hq.same (hf _)

theorem State.MemOk.updFlash (h : s.MemOk) {f : Mgmt → Mgmt} (hf : SMap.wf 0xFF (f s.mgmt).flash = true) :
    (s.updMgmt f).MemOk := ⟨h.engine, h.host, hf⟩

/-- A change of the management plane beside the flash. -/
theorem State.MemOk.updMgmt (h : s.MemOk) {f : Mgmt → Mgmt} (hf : ∀ m, (f m).flash = m.flash) :
    (s.updMgmt f).MemOk :=
  h.updFlash (by rw [hf]; exact h.flash)

end Sys2Proof.Machine
end

section
/-! SUPPORT. The canonical form of the byte memories, kept: named operations over memory and state. -/
namespace Sys2Proof.Machine

variable {s t : State} {x y : TX} {q : HostIf} {v : Saved}

/-- A corrected bay row (R264). -/
theorem Memory.rowFix_wf {m m' : Memory} {a : Nat} (h : m.wf = true) (e : m.rowFix a = some m') : m'.wf = true := by
  unfold Memory.rowFix at e
  split at e
  · obtain ⟨p, -, rfl⟩ := Option.map_eq_some_iff.1 e
    dsimp only
    split
    · exact m.setMarks_wf _ _ _ h
    · exact (m.setBytes _ _).setMarks_wf _ _ _ (m.setBytes_wf _ _ h)
  · cases e

theorem State.MemOk.setTile (h : s.MemOk) {t x} : (s.setTile t x).MemOk := h

theorem State.MemOk.setRouter (h : s.MemOk) {t x} : (s.setRouter t x).MemOk := h

theorem State.MemOk.setCanton (h : s.MemOk) {c x} : (s.setCanton c x).MemOk := h

theorem State.MemOk.setCluster (h : s.MemOk) {k x} : (s.setCluster k x).MemOk := h

theorem State.MemOk.setBay (h : s.MemOk) {b x} : (s.setBay b x).MemOk := h

theorem State.MemOk.setMrouter (h : s.MemOk) {k x} : (s.setMrouter k x).MemOk := h

theorem State.MemOk.mapTiles (h : s.MemOk) {ts f} : (s.mapTiles ts f).MemOk := h

theorem State.MemOk.mapRouters (h : s.MemOk) {ts f} : (s.mapRouters ts f).MemOk := h

theorem State.MemOk.setPresent (h : s.MemOk) {t b} : (s.setPresent t b).MemOk := h

end Sys2Proof.Machine
end

section
/-! SUPPORT. The canonical form of the byte memories, kept: registers and their fields. -/
namespace Sys2Proof.Machine

variable {s t : State} {x y : TX} {q : HostIf} {v : Saved}

theorem State.MemOk.setReg (h : s.MemOk) {off v} : (s.setReg off v).MemOk := h

theorem State.MemOk.fset (h : s.MemOk) {f v i} : (s.fset f v i).MemOk := h.setReg

theorem State.MemOk.putBit (h : s.MemOk) {f k v i} : (s.putBit f k v i).MemOk := h.fset

theorem State.MemOk.finc (h : s.MemOk) {f i k} : (s.finc f i k).MemOk := h.fset

end Sys2Proof.Machine
end

section
/-! SUPPORT. The canonical form of the byte memories, kept: error records. -/
namespace Sys2Proof.Machine

variable {s t : State} {x y : TX} {q : HostIf} {v : Saved}

theorem State.MemOk.setSlice (h : s.MemOk) {n x} : (s.setSlice n x).MemOk := h

theorem State.MemOk.detect (h : s.MemOk) {r} : (s.detect r).2.MemOk := h

theorem State.MemOk.dropRecs (h : s.MemOk) {n} : (s.dropRecs n).MemOk := h.ite h.finc.fset

theorem State.MemOk.ledger (h : s.MemOk) {e} : (s.ledger e).MemOk := h

theorem State.MemOk.ledgerDetect (h : s.MemOk) {r} : (s.ledgerDetect r).MemOk := h.ite (h.ite h.ledger)

theorem State.MemOk.setSource (h : s.MemOk) {src x} : (s.setSource src x).MemOk := h

theorem State.MemOk.oweRec (h : s.MemOk) {v} : (s.oweRec v).MemOk := h.setSource

theorem State.MemOk.takeRec (h : s.MemOk) {r} : (s.takeRec r).MemOk := by
  unfold State.takeRec
  extract_lets +lift r p lost stops _ _ s1 s2
  have hf : s1.mgmt.flash = s.mgmt.flash := by
    dsimp only [s1]
    split <;> rfl
  have h1 : s1.MemOk := ⟨h.engine, h.host, hf ▸ h.flash⟩
  clear_value s1
  have h2 : s2.MemOk := h1.dropRecs.fset.ledgerDetect
  clear_value lost s2
  split
  exacts [h2.oweRec, h2]

theorem State.MemOk.seenRec (h : s.MemOk) {d} : (s.seenRec d).MemOk := by
  unfold State.seenRec
  split
  exacts [h.fset, h.fset, h.fset, h]

theorem State.MemOk.event (h : s.MemOk) {b m code n} : (s.event b m code n).MemOk := h.ite h

theorem State.MemOk.clusterEvent (h : s.MemOk) {k code n} : (s.clusterEvent k code n).MemOk := h.event

theorem State.MemOk.cantonEvent (h : s.MemOk) {c code n} : (s.cantonEvent c code n).MemOk := h.event

theorem State.MemOk.portEvent (h : s.MemOk) {p code n} : (s.portEvent p code n).MemOk := h.event

theorem State.MemOk.report (h : s.MemOk) {src r} : (s.report src r).MemOk := by
  unfold State.report
  extract_lets +lift r d t x u now replay direct _ runs seen event _ noted _ p
  have ht : t.MemOk := h.detect
  clear_value t
  have hseen : seen.MemOk := ht.seenRec
  clear_value seen
  have hevent : event.MemOk := hseen.cantonEvent.ite hseen
  clear_value event
  have hnoted : noted.MemOk := hevent.withErr.ite hevent
  clear_value noted
  exact ht.setSource.ite (hnoted.setSource.takeRec.ite hnoted.setSource.dropRecs)

theorem State.MemOk.reports (h : s.MemOk) {src rs} : (s.reports src rs).MemOk := h.foldl (fun h => h.report)

theorem State.MemOk.fetchRecs (h : s.MemOk) {src} : (s.fetchRecs src).MemOk := by
  unfold State.fetchRecs
  dsimp only
  split
  · exact h
  · exact List.foldlRecOn (motive := fun p : State × W32 × W32 => p.1.MemOk) _ _ h.setSource
      fun _ hs _ _ => hs.takeRec

end Sys2Proof.Machine
end

section
/-! SUPPORT. The canonical form of the byte memories, kept: the reference's candidates and its failure. -/
namespace Sys2Proof.Machine

variable {s t : State} {x y : TX} {q : HostIf} {v : Saved}

theorem State.MemOk.loseReady (h : s.MemOk) {src} : (s.loseReady src).MemOk :=
  (h.fset.fset.fset.ite h.fset.fset).ite (h.fset.fset.fset.ite h.fset.fset)

theorem State.MemOk.refFail (h : s.MemOk) {cause} : (s.refFail cause).MemOk := h.fset.fset.fset.fset.finc.report

theorem State.MemOk.switchEnd (h : s.MemOk) {result} : (s.switchEnd result).MemOk := h.fset.fset.fset

theorem State.MemOk.noClock (h : s.MemOk) : s.noClock.MemOk := h.refFail.switchEnd

theorem State.MemOk.refLost (h : s.MemOk) {cause} : (s.refLost cause).MemOk := h.noClock.ite h.refFail

theorem State.MemOk.tpLost (h : s.MemOk) {p} : (s.tpLost p).MemOk := (h.loseReady.refLost.ite h.loseReady).ite h

end Sys2Proof.Machine
end

section
/-! SUPPORT. The canonical form of the byte memories, kept: the operand forms of a tile instruction. -/
namespace Sys2Proof.Machine

variable {s t : State} {x y : TX} {q : HostIf} {v : Saved}

theorem TX.MemOk.upd (h : x.MemOk) {f} : (x.upd f).MemOk := h

theorem TX.MemOk.count (h : x.MemOk) {src n} : (x.count src n).MemOk := h.upd

theorem TX.MemOk.raise (h : x.MemOk) {r} : (x.raise r).MemOk := h

theorem TX.MemOk.halt (h : x.MemOk) {cause} : (x.halt cause).MemOk := by
  unfold TX.halt
  split
  exacts [h, h]

theorem TX.MemOk.eatPoison (h : x.MemOk) {b} : (x.eatPoison b).MemOk := h.upd.count.ite h

theorem TX.MemOk.fixWord (h : x.MemOk) {space off syn} : (x.fixWord space off syn).MemOk := by
  unfold TX.fixWord
  split
  exacts [h.upd.count.raise, h.raise.halt]

theorem TX.MemOk.touch (h : x.MemOk) {space lo n} : (x.touch space lo n).MemOk := h.foldl (fun h => h.fixWord)

theorem TX.MemOk.readBuf (h : x.MemOk) {b addr n} : (x.readBuf b addr n).2.2.MemOk := h.foldl (fun h => h.touch)

theorem TX.MemOk.memWord (h : x.MemOk) {wi} : (x.memWord wi).2.MemOk := by
  unfold TX.memWord
  dsimp only
  split
  · exact h
  · split
    · split
      · exact TX.MemOk.raise (.count (.upd (.withMem (Memory.putWord_wf _ _ _ _ h))))
      · exact h.raise.halt
    · split
      exacts [h, h.raise.count]

theorem TX.MemOk.memWords (h : x.MemOk) {l} : (x.memWords l).2.MemOk := by
  induction l generalizing x with
  | nil => exact h
  | cons a l ih => exact ih h.memWord

theorem TX.MemOk.readBytes (h : x.MemOk) {addr n} : (x.readBytes addr n).2.2.MemOk := h.memWords

theorem TX.MemOk.readMem (h : x.MemOk) {addr n} : (x.readMem addr n).2.2.MemOk := h.count.readBytes

theorem TX.MemOk.writeMem (h : x.MemOk) {addr bs psn} : (x.writeMem addr bs psn).MemOk :=
  h.halt.ite (.count (.withMem (Memory.setMarks_wf _ _ _ _ (Memory.setBytes_wf _ _ _ h))))

end Sys2Proof.Machine
end

section
/-! SUPPORT. The canonical form of the byte memories, kept: requests to the host, slice stops, rows. -/
namespace Sys2Proof.Machine

variable {s t : State} {x y : TX} {q : HostIf} {v : Saved}

theorem HostIf.MemOk.perform (h : q.MemOk) {w} : (q.perform w).MemOk := by
  cases w with
  | write a bs => exact writeCells_wf _ _ _ h
  | msg a d => exact h

theorem HostIf.MemOk.post (h : q.MemOk) {q'} : (q.post q').MemOk := h.perform.ite h

theorem HostIf.MemOk.flush (h : q.MemOk) : q.flush.MemOk := (h.withHeld.foldl (fun h => h.perform)).ite h

theorem State.MemOk.hostWrite (h : s.MemOk) {a bs} : (s.hostWrite a bs).MemOk := h.updHostBy (fun h => h.post)

theorem HostIf.MemOk.signal (h : q.MemOk) {v} : (q.signal v).MemOk := h.withPba.ite h.post.withPba

theorem HostIf.MemOk.unmask (h : q.MemOk) : q.unmask.MemOk := h.foldl (fun h => h.signal.ite h)

theorem State.MemOk.msi (h : s.MemOk) {v} : (s.msi v).MemOk := h.updHostBy (fun h => h.signal)

theorem State.MemOk.setRing (h : s.MemOk) {r x} : (s.setRing r x).MemOk := h.updHost fun _ => rfl

theorem State.MemOk.ringSignal (h : s.MemOk) {r} : (s.ringSignal r).MemOk := h.setRing.msi

theorem State.MemOk.completeOne (h : s.MemOk) {d q0} : (s.completeOne d q0).MemOk :=
  (h.hostWrite.hostWrite.updHost fun _ => by rfl).setRing.when (fun h => h.ringSignal)

theorem State.MemOk.fences (h : s.MemOk) : s.fences.MemOk := h.foldl fun h => h.completeOne.ite h

theorem State.MemOk.complete (h : s.MemOk) {d q} : (s.complete d q).MemOk := h.completeOne.fences

theorem State.MemOk.completeAll (h : s.MemOk) {ds q} : (s.completeAll ds q).MemOk := h.foldl (fun h => h.complete)

theorem State.MemOk.setEngine (h : s.MemOk) {st cause} : (s.setEngine st cause).MemOk := by
  refine .unless ?_ (fun h => (h.fset.fset.fset.when (fun h => h.msi)).when (fun h => h.fset.completeAll))
  split
  exacts [h.fset, h]

theorem State.MemOk.stopSlice (h : s.MemOk) {n tile} : (s.stopSlice n tile).MemOk := by
  unfold State.stopSlice
  refine h.ite ?_
  extract_lets +lift c s1 x' rc s2 s3
  have hs : s3.MemOk := by
    unfold s3
    split
    exacts [h.mapTiles.setSlice.complete, h.mapTiles.setSlice]
  clear_value s3
  split
  exacts [hs.complete, hs]

theorem State.MemOk.stopAt (h : s.MemOk) {c} : (s.stopAt c).MemOk := by
  unfold State.stopAt
  split
  exacts [h.stopSlice, h]

theorem State.MemOk.setRegion (h : s.MemOk) {b n r} : (s.setRegion b n r).MemOk := h.setBay

theorem State.MemOk.refuse (h : s.MemOk) {who a isolated} : (s.refuse who a isolated).MemOk :=
  h.report.setCluster.ite h.report

theorem State.MemOk.rowReport (h : s.MemOk) {who a word bits w fixed disp} :
    (s.rowReport who a word bits w fixed disp).MemOk :=
  h.report

theorem State.MemOk.countRow (h : s.MemOk) {a kind w} : (s.countRow a kind w).MemOk := by
  unfold State.countRow
  split
  · exact (h.setBay.ite h).finc.ite (h.setBay.ite h).finc
  · exact (h.clusterEvent.ite h).setCluster
  · split
    exacts [h.setTile, h.setTile, h]
  · exact h

theorem State.MemOk.fixWords (h : s.MemOk) {who a w l} : (s.fixWords who a w l).2.2.MemOk := by
  induction l generalizing s with
  | nil => exact h
  | cons a l ih =>
    unfold State.fixWords
    dsimp only
    split
    · exact ih h
    · refine ih ?_
      split
      · exact (h.updMem (fun h => Memory.putWord_wf _ _ _ _ h)).rowReport.countRow
      · exact h.rowReport.countRow

theorem State.MemOk.parityWords (h : s.MemOk) {who a l} : (s.parityWords who a l).2.MemOk := by
  induction l generalizing s with
  | nil => exact h
  | cons a l ih => exact ih (h.ite h.rowReport.countRow)

theorem State.MemOk.bayEvent (h : s.MemOk) {a code} : (s.bayEvent a code).MemOk := by
  unfold State.bayEvent
  split
  exacts [h.cantonEvent, h]

theorem State.MemOk.tileRowEvent (h : s.MemOk) {a src} : (s.tileRowEvent a src).MemOk := by
  unfold State.tileRowEvent
  split
  exacts [h.setTile, h]

theorem State.MemOk.fetchRow (h : s.MemOk) {who a0} : (s.fetchRow who a0).2.MemOk := by
  unfold State.fetchRow
  extract_lets +lift a t words out w
  have ht : t.MemOk := h.bayEvent.tileRowEvent
  clear_value t
  have hout : ∀ {s p c}, s.MemOk → (out s p c).2.MemOk := id
  clear_value out
  split
  · refine .ite1 (.ite1 (hout ht) ?_) (.ite1 ?_ (hout ht.fixWords))
    · split
      · exact hout (ht.withMem (Memory.rowFix_wf ht.engine ‹_›)).rowReport.countRow
      · exact ht.rowReport.countRow
    · split
      exacts [hout ht.rowReport.countRow, hout ht]
  · exact .ite1 (.ite1 ht.fixWords (hout ht.fixWords)) (hout ht.parityWords)

theorem State.MemOk.readRow (h : s.MemOk) {who a} : (s.readRow who a).2.MemOk := by
  unfold State.readRow
  split
  · exact h.refuse
  · split
    exacts [h, h.fetchRow]
  · split
    exacts [h, h.refuse]

theorem State.MemOk.hostDirty (h : s.MemOk) {a} : (s.hostDirty a).MemOk :=
  h.ite (by dsimp only; split; exacts [h.setRegion, h.setCluster, h.setCluster, h])

theorem State.MemOk.writeRow (h : s.MemOk) {who a0 bs poison} : (s.writeRow who a0 bs poison).2.MemOk := by
  unfold State.writeRow
  dsimp only
  split
  · exact h.refuse
  · split
    exacts [h, h.refuse]
  · split
    · exact h
    · split
      · exact h.report
      · exact (h.updMem (fun h => Memory.putRow_wf _ _ _ _ h)).bayEvent.tileRowEvent.when (fun h => h.hostDirty)

theorem State.MemOk.wordsToA (h : s.MemOk) {a l} : (s.wordsToA a l).MemOk := by
  induction l generalizing s with
  | nil => exact h
  | cons a l ih =>
    unfold State.wordsToA
    refine (ih h).ite ?_
    split
    · exact ih (h.updMem (fun h => Memory.putWord_wf _ _ _ _ h)).rowReport.countRow
    · exact ih (h.updMem (fun h => Memory.setMark_wf _ _ _ h)).rowReport.countRow

theorem State.MemOk.zeroRow (h : s.MemOk) {a word k} : (s.zeroRow a word k).MemOk :=
  ((h.ite h.countRow).updMem (fun h => Memory.zero_wf _ _ _ h)).rowReport

theorem State.MemOk.reencodeRow (h : s.MemOk) {toW a} : (s.reencodeRow toW a).MemOk := by
  unfold State.reencodeRow
  refine .ite ?_ (.ite (.ite h ?_) h.wordsToA)
  · split
    · exact h.zeroRow
    · exact h.fixWords
  · split
    · exact (h.withMem (Memory.rowFix_wf h.engine ‹_›)).rowReport.countRow
    · exact (h.updMem fun hm => Memory.setMarks_wf _ _ _ _ hm).rowReport.countRow

theorem State.MemOk.reencode (h : s.MemOk) {lo hi toW} : (s.reencode lo hi toW).MemOk :=
  h.foldl (fun h => h.reencodeRow)

theorem State.MemOk.mapClusters (h : s.MemOk) {ks f} : (s.mapClusters ks f).MemOk := h

theorem State.MemOk.invalidate (h : s.MemOk) {n} : (s.invalidate n).MemOk := h.mapClusters

end Sys2Proof.Machine
end

section
/-! SUPPORT. The canonical form of the byte memories, kept: stream caches, bulk packets, pennants. -/
namespace Sys2Proof.Machine

variable {s t : State} {x y : TX} {q : HostIf} {v : Saved}

theorem State.MemOk.cacheRec (h : s.MemOk) {k a w} : (s.cacheRec k a w).MemOk := h.clusterEvent.setCluster.report

theorem State.MemOk.lookup (h : s.MemOk) {n k a} : (s.lookup n k a).2.MemOk := by
  unfold State.lookup
  dsimp only
  split
  · exact h
  · split
    · exact h.clusterEvent.setCluster
    · split
      · exact (h.cacheRec.ite h).clusterEvent.setCluster
      · exact h.cacheRec.setCluster.clusterEvent.setCluster

theorem State.MemOk.evictEvent (h : s.MemOk) {k l} : (s.evictEvent k l).MemOk := h.clusterEvent.ite h

theorem State.MemOk.cacheFill (h : s.MemOk) {n k a data poison pf} : (s.cacheFill n k a data poison pf).MemOk :=
  h.ite h.evictEvent.setCluster

theorem State.MemOk.cacheDrop (h : s.MemOk) {k a} : (s.cacheDrop k a).MemOk := h.evictEvent.setCluster

theorem State.MemOk.nearEvent (h : s.MemOk) {k a} : (s.nearEvent k a).MemOk := by
  unfold State.nearEvent
  split
  exacts [h.clusterEvent.ite h.cantonEvent, h]

theorem State.MemOk.inject (h : s.MemOk) {k port p} : (s.inject k port p).MemOk := h.setMrouter

theorem State.MemOk.pathRec (h : s.MemOk) {k h'} : (s.pathRec k h').MemOk := h.finc.fset.report

theorem State.MemOk.send (h : s.MemOk) {k port p} : (s.send k port p).2.MemOk := by
  unfold State.send
  split
  exacts [(h.clusterEvent.ite h).inject, h.pathRec]

theorem State.MemOk.issue (h : s.MemOk) {r dst} : (s.issue r dst).2.MemOk :=
  .ite1 h.send.setCluster.withRequests h.send

theorem State.MemOk.await (h : s.MemOk) {r} : (s.await r).MemOk := h.setCluster.withRequests

theorem State.MemOk.sendPennant (h : s.MemOk) {src dst code arg} : (s.sendPennant src dst code arg).MemOk :=
  h.pathRec.ite h.setMrouter.withPennOut

theorem State.MemOk.protoRec (h : s.MemOk) {k h'} : (s.protoRec k h').MemOk := h.fset.report

theorem State.MemOk.noteSeq (h : s.MemOk) {p} : (s.noteSeq p).MemOk := h.withPennIn.ite h.withPennIn.protoRec

theorem State.MemOk.takePennant (h : s.MemOk) {src dst mine} : (s.takePennant src dst mine).2.MemOk := by
  unfold State.takePennant
  dsimp only
  split
  · exact h
  · split
    · exact h
    · split
      · exact h.setMrouter.noteSeq.protoRec
      · split
        exacts [h.setMrouter.noteSeq, h]

theorem State.MemOk.tagStatus (h : s.MemOk) {t tag st} : (s.tagStatus t tag st).MemOk := h.setTile

theorem State.MemOk.tagDone (h : s.MemOk) {t tag} : (s.tagDone t tag).MemOk := h.setTile

theorem State.MemOk.deliver (h : s.MemOk) {who t laddr data poison} :
    (s.deliver who t laddr data poison).2.2.MemOk := by
  unfold State.deliver
  dsimp only
  split
  exacts [h.rowReport, (h.updMem (fun h => Memory.putRow_wf _ _ _ _ h)).tileRowEvent]

theorem State.MemOk.eatPoison (h : s.MemOk) {t b} : (s.eatPoison t b).MemOk := h.setTile.ite h

theorem State.MemOk.sourceRow (h : s.MemOk) {who t laddr} : (s.sourceRow who t laddr).2.MemOk := h.fetchRow.eatPoison

theorem State.MemOk.bulkRead (h : s.MemOk) {n k t laddr a} : (s.bulkRead n k t laddr a).2.2.MemOk := by
  unfold State.bulkRead
  dsimp only
  split
  exacts [h.nearEvent.readRow, h.nearEvent.readRow.cacheFill.deliver]

theorem State.MemOk.bulkWrite (h : s.MemOk) {n k t a bs poison} : (s.bulkWrite n k t a bs poison).2.2.MemOk :=
  h.nearEvent.writeRow

theorem State.MemOk.bulkRow (h : s.MemOk) {n k t write laddr a} : (s.bulkRow n k t write laddr a).2.MemOk := by
  unfold State.bulkRow
  dsimp only
  split
  · exact h.refuse
  · exact h.refuse
  · split
    · exact h
    · split
      · split
        · exact h.cacheDrop
        · split
          exacts [h.cacheDrop.sourceRow, h.cacheDrop.sourceRow.bulkWrite]
      · split
        · exact h.lookup.deliver
        · split
          exacts [h.lookup, h.lookup.bulkRead]

theorem State.MemOk.bulkRows (h : s.MemOk) {n k t tag write laddr a n' l} :
    (s.bulkRows n k t tag write laddr a n' l).2.2.MemOk := by
  induction n' generalizing s laddr a l with
  | zero => exact h
  | succ n' ih =>
    unfold State.bulkRows
    dsimp only
    split
    exacts [ih h.bulkRow, ih h.bulkRow.tagStatus]

theorem State.MemOk.payload (h : s.MemOk) {who t laddr n} : (s.payload who t laddr n).2.MemOk := by
  induction n generalizing s laddr with
  | zero => exact h
  | succ n ih =>
    unfold State.payload
    dsimp only
    split
    exacts [h.sourceRow, ih h.sourceRow]

theorem State.MemOk.refuseGroup (h : s.MemOk) {n k t tag write g} : (s.refuseGroup n k t tag write g).MemOk :=
  h.finc.fset.report.tagStatus

theorem State.MemOk.request (h : s.MemOk) {n k t tag op write g} : (s.request n k t tag op write g).2.2.MemOk := by
  unfold State.request
  refine .ite2 h.refuseGroup ?_
  extract_lets +lift who b
  have hb : b.2.MemOk := .ite1 h.payload h
  clear_value b
  split
  · exact hb.tagStatus
  · exact .ite2 hb.await (.ite2 hb.issue hb.issue.tagStatus)

theorem State.MemOk.requestAll (h : s.MemOk) {n k t tag op write l} :
    (s.requestAll n k t tag op write l).2.2.MemOk := by
  induction l generalizing s with
  | nil => exact h
  | cons a l ih => exact ih h.request

theorem State.MemOk.bulk (h : s.MemOk) {t write tag laddr raddr rows} : (s.bulk t write tag laddr raddr rows).MemOk :=
  (h.withNextOp.bulkRows.requestAll.tagDone.ite h.withNextOp.bulkRows.requestAll.withBulkOps).when
    fun h => h.stopSlice

end Sys2Proof.Machine
end

section
/-! SUPPORT. The canonical form of the byte memories, kept: the halyard network. -/
namespace Sys2Proof.Machine

variable {s t : State} {x y : TX} {q : HostIf} {v : Saved}

theorem State.MemOk.setHalTree (h : s.MemOk) {n ps} : (s.setHalTree n ps).MemOk :=
  h.foldl (fun h => by split; exacts [h.fset.fset.fset.fset.fset.fset.fset, h.setReg])

theorem State.MemOk.buildEtree (h : s.MemOk) : s.buildEtree.MemOk :=
  h.foldl (fun h => by split; exacts [h.fset.fset.fset.fset.fset, h.setReg])

theorem State.MemOk.failHal (h : s.MemOk) {c d} : (s.failHal c d).MemOk := by
  unfold State.failHal
  split
  exacts [h, (h.ite (h.updHost fun _ => by rfl)).setCanton.setCanton.fset.fset]

theorem State.MemOk.setHalAgents (h : s.MemOk) {n} : (s.setHalAgents n).MemOk := h.foldl (fun h => h.fset.ite h)

theorem State.MemOk.engineFault (h : s.MemOk) {c cause} : (s.engineFault c cause).MemOk := h.fset.fset.fset.report

theorem State.MemOk.engineRound (h : s.MemOk) {fault} : (s.engineRound fault).MemOk := by
  unfold State.engineRound
  split
  exacts [h.withEround.engineFault, h]

theorem State.MemOk.setRound (h : s.MemOk) {n flag r} : (s.setRound n flag r).MemOk := h

theorem State.MemOk.halFault (h : s.MemOk) {n c flag cause r} : (s.halFault n c flag cause r).MemOk :=
  .stopSlice (.report (.setRound (by split <;> exact h.fset.fset.fset)))

theorem State.MemOk.arrive (h : s.MemOk) {t flag op v} : (s.arrive t flag op v).MemOk := by
  unfold State.arrive
  dsimp only
  split
  exacts [h, h.halFault.ite (h.halFault.ite h.setRound)]

theorem State.MemOk.agentArrive (h : s.MemOk) {c flag op v} : (s.agentArrive c flag op v).MemOk := by
  unfold State.agentArrive
  split
  exacts [h, h.halFault.ite (h.halFault.ite h.setRound)]

theorem State.MemOk.execHalyardRoundDone (h : s.MemOk) {n flag} : NextOk (execHalyardRoundDone n flag s) :=
  h.next.ite (h.foldl (fun h => h.cantonEvent)).mapTiles.setRound.next

theorem State.MemOk.execHalyardLinkRetry (h : s.MemOk) {c d flag ok} :
    NextOk (execHalyardLinkRetry c d flag ok s) := by
  unfold Machine.execHalyardLinkRetry
  split
  · exact h.next
  · exact h.finc.report.next.ite (h.finc.report.failHal.foldl (fun h => h.halFault)).buildEtree.next

end Sys2Proof.Machine
end

section
/-! SUPPORT. The canonical form of the byte memories, kept: the DMA queues. -/
namespace Sys2Proof.Machine

variable {s t : State} {x y : TX} {q : HostIf} {v : Saved}

theorem State.MemOk.setDmaq (h : s.MemOk) {k q x} : (s.setDmaq k q x).MemOk := h.setCluster

theorem State.MemOk.pushDma (h : s.MemOk) {k q e} : (s.pushDma k q e).MemOk := h.setDmaq

theorem State.MemOk.dmaHandled (h : s.MemOk) {k q f n st} : (s.dmaHandled k q f n st).MemOk := h.setDmaq

theorem State.MemOk.ensignDone (h : s.MemOk) {n ks} : (s.ensignDone n ks).MemOk := h.foldl (fun h => h.setDmaq)

end Sys2Proof.Machine
end

section
/-! SUPPORT. The canonical form of the byte memories, kept: update engines. -/
namespace Sys2Proof.Machine

variable {s t : State} {x y : TX} {q : HostIf} {v : Saved}

theorem State.MemOk.setUe (h : s.MemOk) {p st} : (s.setUe p st).MemOk := h.fset

theorem State.MemOk.setPort (h : s.MemOk) {p x} : (s.setPort p x).MemOk := h

theorem State.MemOk.checkRows (h : s.MemOk) {p row n} : (s.checkRows p row n).2.MemOk := by
  induction n generalizing s row with
  | zero => exact h
  | succ n ih =>
    unfold State.checkRows
    exact ih h.fetchRow

theorem State.MemOk.checkSpan (h : s.MemOk) {p off n} : (s.checkSpan p off n).2.MemOk := by
  unfold State.checkSpan
  dsimp only
  split
  exacts [h.portEvent.checkRows, h.portEvent]

theorem Memory.patch_wf (m : Memory) (a : Nat) (bs : List Byte) (h : m.wf = true) : (m.patch a bs).wf = true :=
  List.foldlRecOn (motive := fun m : Memory => m.wf = true) _ _ h fun _ hm _ _ => Memory.putRow_wf _ _ _ _ hm

theorem State.MemOk.shardPatch (h : s.MemOk) {p off bs} : (s.shardPatch p off bs).MemOk :=
  h.portEvent.updMem (fun h => Memory.patch_wf _ _ _ h)

theorem State.MemOk.ueRec (h : s.MemOk) {p cls disp cause detail1} : (s.ueRec p cls disp cause detail1).MemOk :=
  h.report

theorem State.MemOk.ueStop (h : s.MemOk) {p st} : (s.ueStop p st).MemOk := h.setUe.fset.setPort

theorem State.MemOk.ueFault (h : s.MemOk) {p stripe cause} : (s.ueFault p stripe cause).MemOk := h.setUe.fset.ueRec

theorem State.MemOk.applyGroup (h : s.MemOk) {p} : (s.applyGroup p).MemOk :=
  (h.portEvent.portEvent.shardPatch.shardPatch.fset.finc.finc.unless (fun h => h.fset)).fset.setPort

theorem State.MemOk.groupFault (h : s.MemOk) {p g c} : (s.groupFault p g c).2.MemOk := by
  refine h.foldl1 (fun h => ?_)
  dsimp only
  split
  · exact h
  · split <;> exact h.checkSpan.checkSpan

theorem State.MemOk.commitDigest (h : s.MemOk) {p step} : (s.commitDigest p step).MemOk := h.fset.fset.ite h.fset

theorem State.MemOk.stepReset (h : s.MemOk) {p above} : (s.stepReset p above).MemOk := h.setPort

theorem State.MemOk.refreshArrive (h : s.MemOk) {p} : (s.refreshArrive p).MemOk := h.agentArrive.ite h

theorem State.MemOk.refreshRead (h : s.MemOk) {p i} : (s.refreshRead p i).2.MemOk := by
  unfold State.refreshRead
  dsimp only
  split
  · exact h.checkSpan.fset
  · split
    exacts [h.checkSpan.report.fset, h.checkSpan]

theorem State.MemOk.refreshReads (h : s.MemOk) {p e} : (s.refreshReads p e).2.MemOk :=
  h.foldl1 (fun h => by dsimp only; split <;> exact h.refreshRead)

theorem State.MemOk.refreshSend (h : s.MemOk) {p i gs} : (s.refreshSend p i gs).MemOk :=
  h.foldl (fun h => h.issue.ite h.issue.dmaHandled)

theorem State.MemOk.refreshEntry (h : s.MemOk) {p i e} : (s.refreshEntry p i e).MemOk := by
  refine h.refuse.ite ?_
  split
  exacts [h.refuse, (h.refreshReads.portEvent.foldl (fun h => h.pushDma)).refreshSend]

theorem State.MemOk.refreshGo (h : s.MemOk) {p n} : (s.refreshGo p n).MemOk := by
  induction n generalizing s with
  | zero => exact h
  | succ n ih =>
    unfold State.refreshGo
    split
    · exact h
    · exact h.ite (ih ((h.setPort.fetchRow.refreshEntry.ite h.setPort.fetchRow.fset).ite h.setPort.refuse))

theorem State.MemOk.refreshOn (h : s.MemOk) {p} : (s.refreshOn p).MemOk := h.refreshGo

theorem State.MemOk.refreshStart (h : s.MemOk) {p} : (s.refreshStart p).MemOk := h.setPort.refreshOn

theorem State.MemOk.committed (h : s.MemOk) {p c} : (s.committed p c).MemOk := h.invalidate.commitDigest.stepReset

theorem State.MemOk.commitFrom (h : s.MemOk) {p c} : (s.commitFrom p c).MemOk :=
  h.committed.setUe.refreshStart.ite h.committed.setUe.refreshArrive

theorem State.MemOk.commit (h : s.MemOk) {p} : (s.commit p).MemOk := h.fset.commitFrom

theorem State.MemOk.checkHeaders (h : s.MemOk) {p} : (s.checkHeaders p).2.MemOk := h.foldl1 (fun h => h.checkSpan)

theorem State.MemOk.checkSlots (h : s.MemOk) {p n} : (s.checkSlots p n).2.MemOk := h.foldl1 (fun h => h.checkSpan)

theorem State.MemOk.scan (h : s.MemOk) {p} : (s.scan p).2.MemOk := by
  unfold State.scan
  dsimp only
  split
  exacts [h.checkHeaders, h.checkHeaders.fset.fset.fset.fset]

theorem State.MemOk.cmdDone (h : s.MemOk) {p result state commit} : (s.cmdDone p result state commit).MemOk :=
  h.setPort

theorem State.MemOk.ueBusy (h : s.MemOk) {p} : (s.ueBusy p).MemOk := h.setPort.setUe

theorem State.MemOk.checkSlotsOf (h : s.MemOk) {p n is} : (s.checkSlotsOf p n is).2.MemOk :=
  h.foldl1 (fun h => h.checkSpan)

theorem State.MemOk.rollback (h : s.MemOk) {p target} : (s.rollback p target).MemOk :=
  h.checkHeaders.checkSlotsOf.cmdDone.ite (h.checkHeaders.checkSlotsOf.cmdDone.ite (h.checkHeaders.checkSlotsOf.foldl
      (fun h => h.shardPatch)).fset.fset.stepReset.cmdDone)

theorem State.MemOk.rollfwd (h : s.MemOk) {p target} : (s.rollfwd p target).MemOk :=
  h.checkHeaders.checkSlots.cmdDone.ite (h.checkHeaders.checkSlots.cmdDone.ite h.checkHeaders.checkSlots.fset.cmdDone)

theorem State.MemOk.initStripe (h : s.MemOk) {p target i} : (s.initStripe p target i).MemOk := h.shardPatch.shardPatch

theorem State.MemOk.initShard (h : s.MemOk) {p target} : (s.initShard p target).MemOk :=
  h.checkSlots.cmdDone.ite (h.checkSlots.foldl (fun h => h.initStripe)).fset.fset.fset.stepReset.cmdDone

end Sys2Proof.Machine
end

section
/-! SUPPORT. The canonical form of the byte memories, kept: the Weanum exchange transport. -/
namespace Sys2Proof.Machine

variable {s t : State} {x y : TX} {q : HostIf} {v : Saved}

theorem State.MemOk.putFrame (h : s.MemOk) {p q} : (s.putFrame p q).MemOk := h.portEvent.portEvent.portEvent.setPort

theorem State.MemOk.emit (h : s.MemOk) {p express flow dst msg} : (s.emit p express flow dst msg).MemOk :=
  h.putFrame.ite h.setPort

theorem State.MemOk.flush (h : s.MemOk) {p express} : (s.flush p express).MemOk :=
  (h.setPort.foldl (fun h => h.putFrame)).ite h

theorem State.MemOk.noteTxbuf (h : s.MemOk) {p} : (s.noteTxbuf p).MemOk := h.fset

theorem State.MemOk.drainOut (h : s.MemOk) {p express n} : (s.drainOut p express n).MemOk := by
  induction n generalizing s with
  | zero => exact h
  | succ n ih =>
    unfold State.drainOut
    dsimp only
    split
    exacts [h, (ih h.setPort.emit).ite h]

theorem State.MemOk.pour (h : s.MemOk) {p} : (s.pour p).MemOk := h.flush.drainOut.flush.drainOut.noteTxbuf

theorem State.MemOk.sendRel (h : s.MemOk) {p typ step body} : (s.sendRel p typ step body).MemOk := h.setPort.pour

theorem State.MemOk.gxArrive (h : s.MemOk) {p} : (s.gxArrive p).MemOk := h.agentArrive

theorem State.MemOk.gxRows (h : s.MemOk) {p a n} : (s.gxRows p a n).2.MemOk := by
  induction n generalizing s a with
  | zero => exact h
  | succ n ih =>
    unfold State.gxRows
    dsimp only
    split
    exacts [h.readRow, ih h.readRow]

theorem State.MemOk.gxEnd (h : s.MemOk) {p agent} : (s.gxEnd p agent).MemOk :=
  h.setPort.fset.when (fun h => h.gxArrive)

theorem State.MemOk.gxGo (h : s.MemOk) {p n} : (s.gxGo p n).MemOk := by
  induction n generalizing s with
  | zero => exact h
  | succ n ih =>
    unfold State.gxGo
    split
    · exact h
    · refine h.gxEnd.ite (h.ite ?_)
      dsimp only
      split
      exacts [h.gxRows.gxEnd, ih h.gxRows.setPort.sendRel]

theorem State.MemOk.gxOn (h : s.MemOk) {p} : (s.gxOn p).MemOk := by
  unfold State.gxOn
  split
  exacts [h.gxGo, h]

theorem State.MemOk.drain (h : s.MemOk) {p} : (s.drain p).MemOk := h.pour.gxOn

theorem State.MemOk.portRec (h : s.MemOk) {p cause} : (s.portRec p cause).MemOk := h.ueRec

theorem State.MemOk.setFlow (h : s.MemOk) {p f} : (s.setFlow p f).MemOk := h.setPort

theorem State.MemOk.noteFlows (h : s.MemOk) {p} : (s.noteFlows p).MemOk := h.fset

theorem State.MemOk.sendAck (h : s.MemOk) {p f} : (s.sendAck p f).MemOk := h.setFlow.emit

theorem State.MemOk.sendNack (h : s.MemOk) {p dst express flow cum reason nseq detail} :
    (s.sendNack p dst express flow cum reason nseq detail).MemOk :=
  h.emit.finc.ite (h.emit.finc.fset.fset.finc.ite (h.emit.finc.fset.fset.finc.ite h.emit.finc.fset.fset.finc))

theorem State.MemOk.rxDrop (h : s.MemOk) {p} : (s.rxDrop p).MemOk := h.finc.fset

theorem State.MemOk.hpActivate (h : s.MemOk) {p step} : (s.hpActivate p step).MemOk := by
  unfold State.hpActivate
  split
  exacts [(h.foldl (fun h => h.setReg)).setPort.fset.ite h, h]

theorem State.MemOk.takeChunk (h : s.MemOk) {p fmt count bs} : (s.takeChunk p fmt count bs).MemOk :=
  (h.hpActivate.setUe.fset.ite h).setPort

theorem State.MemOk.bindStep (h : s.MemOk) {p m} : (s.bindStep p m).MemOk := h.ite h.setPort

theorem State.MemOk.grad (h : s.MemOk) {p m} : (s.grad p m).2.MemOk :=
  .ite1 h (.ite1 h (.ite1 h (.ite1 h h.bindStep.takeChunk)))

theorem State.MemOk.holdGrad (h : s.MemOk) {p m} : (s.holdGrad p m).2.MemOk := by
  unfold State.holdGrad
  split
  exacts [h, h.bindStep]

theorem State.MemOk.takeGrad (h : s.MemOk) {p m} : (s.takeGrad p m).2.MemOk := by
  unfold State.takeGrad
  dsimp only
  split
  · exact h
  · split
    · exact h
    · split
      · split
        exacts [h.grad, h]
      · split
        · split
          · exact h
          · split
            exacts [h.holdGrad, h]
        · split
          · split
            exacts [h.holdGrad, h]
          · exact h

theorem State.MemOk.takeCommit (h : s.MemOk) {p m} : (s.takeCommit p m).2.MemOk := by
  unfold State.takeCommit
  dsimp only
  split
  · exact h
  · split
    exacts [h.commit, h]

theorem State.MemOk.takeExpel (h : s.MemOk) {m} : (s.takeExpel m).MemOk :=
  h.foldl (fun h => h.setPort.unless (fun h => h.ueStop.fset.ueRec))

theorem State.MemOk.pullRows (h : s.MemOk) {p off n} : (s.pullRows p off n).2.2.MemOk := by
  induction n generalizing s off with
  | zero => exact h
  | succ n ih =>
    unfold State.pullRows
    dsimp only
    split
    exacts [h.checkSpan, ih h.checkSpan]

theorem State.MemOk.pushFrames (h : s.MemOk) {p tag off last bs n} : (s.pushFrames p tag off last bs n).MemOk := by
  induction n generalizing s off bs with
  | zero => exact h
  | succ n ih => exact h.ite (ih h.sendRel)

theorem State.MemOk.takePull (h : s.MemOk) {p m} : (s.takePull p m).2.MemOk := by
  unfold State.takePull
  dsimp only
  split
  · exact h
  · split <;> exact h.pullRows.pushFrames

theorem State.MemOk.takePush (h : s.MemOk) {p m} : (s.takePush p m).2.MemOk := by
  unfold State.takePush
  dsimp only
  split
  exacts [h.shardPatch, h]

theorem State.MemOk.deliverMsg (h : s.MemOk) {p m} : (s.deliverMsg p m).2.MemOk := by
  unfold State.deliverMsg
  split
  exacts [h.takeGrad, h.takePull, h.takePush, h, h, h.takeExpel, h.takeCommit, h]

theorem State.MemOk.closeFlow (h : s.MemOk) {p peer flow} : (s.closeFlow p peer flow).MemOk := h.setPort.noteFlows

theorem State.MemOk.lastAck (h : s.MemOk) {p peer flow} : (s.lastAck p peer flow).MemOk :=
  h.setPort.foldl (fun h => h.sendAck)

theorem State.MemOk.deliverFlow (h : s.MemOk) {p peer flow n} : (s.deliverFlow p peer flow n).MemOk := by
  induction n generalizing s with
  | zero => exact h
  | succ n ih =>
    unfold State.deliverFlow
    split
    · exact h
    · split
      · exact h
      · extract_lets r drop
        have hr : r.2.MemOk := h.deliverMsg
        have hdrop : ∀ {s}, s.MemOk → (drop s).MemOk := by
          intro s h
          dsimp only [drop]
          split
          exacts [h.setFlow, h]
        clear_value r drop
        split
        · exact hr
        · exact (hdrop hr).closeFlow.ite (ih (hdrop hr))
        · exact ih (hdrop hr.sendNack)

theorem State.MemOk.pump (h : s.MemOk) {p} : (s.pump p).MemOk := h.foldl (fun h => h.deliverFlow)

theorem State.MemOk.gapNack (h : s.MemOk) {p f} : (s.gapNack p f).MemOk := h.ite h.setFlow.sendNack

theorem State.MemOk.ackDue (h : s.MemOk) {p peer flow} : (s.ackDue p peer flow).MemOk := by
  unfold State.ackDue
  split
  exacts [h.sendAck.ite h, h]

theorem State.MemOk.rxOnFlow (h : s.MemOk) {p f m} : (s.rxOnFlow p f m).MemOk := by
  refine h.finc.sendAck.ite (h.rxDrop.ite (.deliverFlow (.ackDue (.when ?_ (fun h => h.gapNack)))))
  split
  exacts [h.setFlow.sendNack, h.setFlow]

theorem State.MemOk.rxRel (h : s.MemOk) {p m} : (s.rxRel p m).MemOk := by
  refine (h.sendNack.ite (h.lastAck.setFlow.ite h.lastAck.setPort).noteFlows.rxOnFlow).ite ?_
  split
  exacts [h.rxOnFlow, h.sendNack]

end Sys2Proof.Machine
end

section
/-! SUPPORT. The canonical form of the byte memories, kept: ports. -/
namespace Sys2Proof.Machine

variable {s t : State} {x y : TX} {q : HostIf} {v : Saved}

theorem State.MemOk.sendPfc (h : s.MemOk) {p quanta} : (s.sendPfc p quanta).MemOk := h.portEvent.portEvent.setPort

theorem State.MemOk.pfcCheck (h : s.MemOk) {p} : (s.pfcCheck p).MemOk := h.ite (h.sendPfc.ite (h.sendPfc.ite h))

theorem State.MemOk.settle (h : s.MemOk) {p} : (s.settle p).MemOk := h.pump.pfcCheck

theorem State.MemOk.settleAll (h : s.MemOk) {ps} : (s.settleAll ps).MemOk := h.foldl (fun h => h.settle)

theorem State.MemOk.ueRelease (h : s.MemOk) {n} : (s.ueRelease n).MemOk := (h.foldl (fun h => h.ueStop)).settleAll

theorem State.MemOk.sendHello (h : s.MemOk) {p} : (s.sendHello p).MemOk := h.emit

theorem State.MemOk.takeHello (h : s.MemOk) {p m} : (s.takeHello p m).MemOk :=
  h.ite ((h.fset.sendHello.ite h.fset).ite h.fset.setPort)

theorem State.MemOk.takeAck (h : s.MemOk) {p m} : (s.takeAck p m).MemOk := h.setPort.drain.ite h

theorem State.MemOk.resend (h : s.MemOk) {p express t t'} : (s.resend p express t t').MemOk :=
  h.setPort.emit.finc.portEvent

theorem State.MemOk.takeNack (h : s.MemOk) {p m} : (s.takeNack p m).MemOk := .ite (by split; exacts [h.resend, h]) h

theorem State.MemOk.rxLine (h : s.MemOk) {p l size} : (s.rxLine p l size).2.MemOk := by
  unfold State.rxLine
  dsimp only
  split
  exacts [h.portEvent.finc.finc.finc, h.portEvent.finc.finc.portEvent]

theorem State.MemOk.rxFrame (h : s.MemOk) {p m} : (s.rxFrame p m).MemOk := by
  refine h.rxDrop.ite ((h.rxDrop.ite (h.rxRel.settleAll.ite h.rxRel.settle)).ite ?_)
  split
  · exact h.sendNack
  · split
    exacts [h.takeHello, h.takeAck, h.takeNack]

theorem State.MemOk.rxMsg (h : s.MemOk) {p m} : (s.rxMsg p m).MemOk := h.ite (h.rxLine.portEvent.rxFrame.ite h.rxLine)

theorem State.MemOk.rxTyp (h : s.MemOk) {p typ m} : (s.rxTyp p typ m).MemOk := h.rxMsg.ite h

theorem State.MemOk.execWxtGrad (h : s.MemOk) {p m} : NextOk (execWxtGrad p m s) := h.rxTyp.next

theorem State.MemOk.execWxtCommit (h : s.MemOk) {p m} : NextOk (execWxtCommit p m s) := h.rxTyp.next

theorem State.MemOk.execWxtExpel (h : s.MemOk) {p m} : NextOk (execWxtExpel p m s) := h.rxTyp.next

theorem State.MemOk.execWxtHello (h : s.MemOk) {p m} : NextOk (execWxtHello p m s) := h.rxTyp.next

theorem State.MemOk.execWxtWpull (h : s.MemOk) {p m} : NextOk (execWxtWpull p m s) := h.rxTyp.next

theorem State.MemOk.execWxtWpush (h : s.MemOk) {p m} : NextOk (execWxtWpush p m s) := h.rxTyp.next

theorem State.MemOk.execWxtAck (h : s.MemOk) {p m} : NextOk (execWxtAck p m s) := h.rxTyp.next

theorem State.MemOk.execWxtNack (h : s.MemOk) {p m} : NextOk (execWxtNack p m s) := h.rxTyp.next

theorem State.MemOk.execAckTimer (h : s.MemOk) {p peer flow} : NextOk (execAckTimer p peer flow s) := by
  unfold Machine.execAckTimer
  split
  exacts [(h.sendAck.ite h).next, (h.lastAck.ite h).next]

theorem State.MemOk.failFlow (h : s.MemOk) {p express} : (s.failFlow p express).MemOk := h.setPort.fset.portRec.drain

theorem State.MemOk.execRtoExpiry (h : s.MemOk) {p express seq} : NextOk (execRtoExpiry p express seq s) :=
  h.next.ite (by split; exacts [h.next, h.failFlow.next.ite h.resend.next])

theorem State.MemOk.execFlowIdleClose (h : s.MemOk) {p peer flow} : NextOk (execFlowIdleClose p peer flow s) :=
  h.closeFlow.pfcCheck.next

theorem State.MemOk.execHelloTimer (h : s.MemOk) {p} : NextOk (execHelloTimer p s) :=
  (h.sendHello.ite h.sendHello.setPort).next.ite h.next

theorem State.MemOk.execRegLate (h : s.MemOk) {p} : NextOk (execRegLate p s) := h.setPort.fset.portRec.next.ite h.next

theorem State.MemOk.execPfcFrame (h : s.MemOk) {p line enable quanta} :
    NextOk (execPfcFrame p line enable quanta s) :=
  h.next.ite (h.rxLine.next.ite h.rxLine.portEvent.setPort.drain.next)

theorem State.MemOk.execPfcPauseExpiry (h : s.MemOk) {p prio} : NextOk (execPfcPauseExpiry p prio s) :=
  h.setPort.drain.next

theorem State.MemOk.execPfcRefresh (h : s.MemOk) {p} : NextOk (execPfcRefresh p s) := h.sendPfc.next.ite h.next

theorem State.MemOk.execEsmcPdu (h : s.MemOk) {p line ssm essm event} :
    NextOk (execEsmcPdu p line ssm essm event s) := by
  refine h.next.ite (h.rxLine.next.ite (.next (.when ?_ (fun h => h.fset))))
  split
  · exact (h.rxLine.ite h.rxLine.fset).fset.finc.fset.fset
  · exact (h.rxLine.ite h.rxLine.fset).fset.finc.fset

theorem State.MemOk.execQlTimeout (h : s.MemOk) {p} : NextOk (execQlTimeout p s) := (h.fset.ite h).next

theorem State.MemOk.execNeighbourRequest (h : s.MemOk) {p line size half own} :
    NextOk (execNeighbourRequest p line size half own s) :=
  h.next.ite (h.rxLine.next.ite (h.rxLine.portEvent.setPort.next.ite h.rxLine.rxDrop.next))

theorem State.MemOk.execLinkUp (h : s.MemOk) {p preempt half1} : NextOk (execLinkUp p preempt half1 s) :=
  (h.finc.ite h).fset.fset.fset.fset.fset.drain.next.ite h.next

theorem State.MemOk.linkDown (h : s.MemOk) {p st} : (s.linkDown p st).MemOk := h.fset.fset.fset.fset

theorem State.MemOk.retrain (h : s.MemOk) {p} : (s.retrain p).MemOk := h.linkDown.fset.tpLost.ite h

theorem State.MemOk.execLinkRetrain (h : s.MemOk) {p} : NextOk (execLinkRetrain p s) := (h.retrain.ite h).next

theorem State.MemOk.execLinkTrainTimeout (h : s.MemOk) {p} : NextOk (execLinkTrainTimeout p s) :=
  (h.linkDown.fset.portRec.when (fun h => h.fset)).next.ite h.next

theorem State.MemOk.execGxRoundDone (h : s.MemOk) {p} : NextOk (execGxRoundDone p s) := by
  unfold Machine.execGxRoundDone
  dsimp only
  split
  exacts [h.next, h.next.ite h.setRound.setPort.fset.gxOn.next]

theorem State.MemOk.execUeApplied (h : s.MemOk) {p} : NextOk (execUeApplied p s) :=
  ((h.setUe.ite h.setUe.ueRec).when (fun h => h.fset.fset.sendRel)).sendRel.settle.next.ite h.next

theorem State.MemOk.execRefreshEnd (h : s.MemOk) {p} : NextOk (execRefreshEnd p s) :=
  h.next.ite (h.refreshOn.next.ite ((h.refreshOn.setPort.refreshArrive.ite h.refreshOn).when (fun h =>
      h.setUe.settle)).next)

theorem State.MemOk.execUeGroupApply (h : s.MemOk) {p} : NextOk (execUeGroupApply p s) := by
  refine h.next.ite ?_
  dsimp only
  split
  exacts [h.groupFault.ueFault.settle.next, h.groupFault.applyGroup.settle.next]

theorem State.MemOk.execUeScan (h : s.MemOk) {p} : NextOk (execUeScan p s) := h.scan.cmdDone.next.ite h.next

theorem State.MemOk.execUeRollback (h : s.MemOk) {p} : NextOk (execUeRollback p s) := (h.rollback.ite h).next

theorem State.MemOk.execUeRollfwd (h : s.MemOk) {p} : NextOk (execUeRollfwd p s) := (h.rollfwd.ite h).next

theorem State.MemOk.execUeExpelClr (h : s.MemOk) {p} : NextOk (execUeExpelClr p s) :=
  (h.stepReset.cmdDone.ite h.cmdDone).next.ite h.next

theorem State.MemOk.execUeInit (h : s.MemOk) {p} : NextOk (execUeInit p s) := (h.initShard.ite h).next

theorem State.MemOk.ueLeave (h : s.MemOk) {p st} : (s.ueLeave p st).MemOk := h.setUe.ite h.setUe.setPort

theorem State.MemOk.ueEnd (h : s.MemOk) {p} : (s.ueEnd p).MemOk := by
  unfold State.ueEnd
  split
  · exact h
  · exact h.ite (h.setPort.fset.fset.ueLeave.ite (h.setPort.fset.fset.committed.ueLeave.ite
      h.setPort.fset.fset.commitFrom)).settle

theorem State.MemOk.execUeCommandEnd (h : s.MemOk) {p} : NextOk (execUeCommandEnd p s) := h.ueEnd.next

theorem State.MemOk.ueNext (h : s.MemOk) {p} : (s.ueNext p).MemOk := h.ite h.ueBusy

theorem State.MemOk.execUeEnable (h : s.MemOk) {p} : NextOk (execUeEnable p s) :=
  (h.scan.setPort.fset.fset.setUe.ueNext.next.ite h.scan.setPort.fset.setUe.ueNext.next).ite h.next

end Sys2Proof.Machine
end

section
/-! SUPPORT. The canonical form of the byte memories, kept: rings and descriptors. -/
namespace Sys2Proof.Machine

variable {s t : State} {x y : TX} {q : HostIf} {v : Saved}

theorem State.MemOk.txnSignal (h : s.MemOk) : s.txnSignal.MemOk := h.msi.ite h

theorem State.MemOk.txnDrop (h : s.MemOk) : s.txnDrop.MemOk := (h.updHost fun _ => by rfl).fset.fset.fset.txnSignal

theorem State.MemOk.ringLeaves (h : s.MemOk) {r} : (s.ringLeaves r).MemOk := h.txnDrop.ite h

theorem State.MemOk.ringError (h : s.MemOk) {r cause} : (s.ringError r cause).MemOk := h.setRing.fset.fset.ringLeaves

theorem State.MemOk.dbError (h : s.MemOk) : s.dbError.MemOk := h.fset

theorem State.MemOk.execSqTailDoorbell (h : s.MemOk) {r v} : NextOk (execSqTailDoorbell r v s) :=
  h.next.ite (h.next.ite ((h.ringError.next.ite h.setRing.next).ite h.dbError.next))

theorem State.MemOk.execCqHeadDoorbell (h : s.MemOk) {r v} : NextOk (execCqHeadDoorbell r v s) :=
  h.next.ite (h.next.ite (h.dbError.next.ite ((h.dbError.next.ite h.ringError.next).ite h.setRing.next)))

theorem State.MemOk.accept (h : s.MemOk) {d} : (s.accept d).MemOk := by
  unfold State.accept
  extract_lets t
  have ht : t.MemOk := h.updHost fun _ => rfl
  exact ht.complete.ite (ht.complete.ite ht)

theorem State.MemOk.execDescriptorFetch (h : s.MemOk) {ok} : NextOk (execDescriptorFetch ok s) :=
  h.next.ite (by split; exacts [h.next, h.fset.ringError.next.ite (h.setRing.updHost fun _ => by rfl).accept.next])

theorem State.MemOk.start (h : s.MemOk) {d} : (s.start d).MemOk := h.updHost fun _ => rfl

theorem State.MemOk.take (h : s.MemOk) {r p d} (e : s.take r p = some (d, t)) : t.MemOk := by
  unfold State.take at e
  split at e
  · split at e
    · cases e
      exact h.start
    · cases e
  · cases e

theorem State.MemOk.perform (h : s.MemOk) {r p} {f : Desc → State → State}
    (hf : ∀ {d s}, s.MemOk → (f d s).MemOk) :
    (s.perform r p f).MemOk := by
  unfold State.perform
  split
  · exact hf (h.take ‹_›)
  · exact h

end Sys2Proof.Machine
end

section
/-! SUPPORT. The canonical form of the byte memories, kept: GMAC, CLOSE and TREE on one tile. -/
namespace Sys2Proof.Machine

variable {s t : State} {x y : TX} {q : HostIf} {v : Saved}

theorem TX.MemOk.slotFault (h : x.MemOk) {k} : (x.slotFault k).MemOk := h.raise.halt

theorem TX.MemOk.poisonStop (h : x.MemOk) {cause} : (x.poisonStop cause).MemOk := h.eatPoison.raise.halt

theorem TX.MemOk.andThen (h : x.MemOk) {f : TX → TX} (hf : ∀ {x}, x.MemOk → (f x).MemOk) : (x.andThen f).MemOk :=
  h.ite (hf h)

theorem TX.MemOk.tableStop (h : x.MemOk) {entry} : (x.tableStop entry).MemOk := h.raise.halt

theorem TX.MemOk.readRec (h : x.MemOk) {src addr n} : (x.readRec src addr n).2.MemOk := by
  unfold TX.readRec
  dsimp only
  split
  exacts [h.readBytes, h.readBuf]

theorem TX.MemOk.readRecs (h : x.MemOk) {src addr n n'} : (x.readRecs src addr n n').2.MemOk := by
  induction n' generalizing x addr with
  | zero => exact h
  | succ n' ih => exact ih h.readRec

theorem TX.MemOk.sideRecs (h : x.MemOk) {src addr fmt k} : (x.sideRecs src addr fmt k).2.MemOk := by
  unfold TX.sideRecs
  split
  exacts [h.eatPoison, h.readRecs.foldl (fun h => h.eatPoison)]

theorem TX.MemOk.check (h : x.MemOk) {e k r} : (x.check e k r).MemOk := h.raise.halt.ite h.raise.upd.count

theorem TX.MemOk.groupInto (h : x.MemOk) {f tb act iter skip chk k a b} :
    (x.groupInto f tb act iter skip chk k a b).MemOk := by
  unfold TX.groupInto
  dsimp only
  split
  · exact h.tableStop
  · exact (h.foldl (fun h => h.check)).unless (fun h => h.upd.ite h.upd.count.count.count.count)

theorem TX.MemOk.groups (h : x.MemOk) {f tb act iter skip chk l l' l''} :
    (x.groups f tb act iter skip chk l l' l'').MemOk := by
  induction l generalizing x l' l'' with
  | nil => exact h
  | cons k ks ih =>
    match l', l'' with
    | [], _ => exact h
    | _ :: _, [] => exact h
    | _ :: _, _ :: _ => exact ih h.groupInto

theorem TX.MemOk.gmacRegs (h : x.MemOk) {f} : (x.gmacRegs f).MemOk := (h.ite h.touch).touch

theorem TX.MemOk.gmacSideA (h : x.MemOk) {f g iter} : (x.gmacSideA f g iter).2.MemOk := h.sideRecs

theorem TX.MemOk.gmacSideB (h : x.MemOk) {f g iter} : (x.gmacSideB f g iter).2.MemOk := h.sideRecs

theorem TX.MemOk.gmacIter (h : x.MemOk) {f g iter skip chk as} : (x.gmacIter f g iter skip chk as).MemOk :=
  h.gmacSideB.andThen (fun h => h.groups.andThen (fun h => h.upd))

theorem TX.MemOk.gmacIterA (h : x.MemOk) {f g iter skip chk} : (x.gmacIterA f g iter skip chk).MemOk :=
  h.gmacSideA.andThen (fun h => h.gmacIter)

theorem TX.MemOk.close (h : x.MemOk) {f chk} : (x.close f chk).2.MemOk := by
  unfold TX.close
  extract_lets +lift ks ls fmt x1 psn rv x2 x3 w bs n x4
  have h1 : x1.MemOk := by
    unfold x1
    split
    exacts [h, h.check]
  have h3 : x3.MemOk := (h1.foldl fun h => h.eatPoison).upd
  have h4 : x4.MemOk := h3.touch
  clear_value x1 x3 x4
  split
  · exact h.slotFault
  · exact .ite1 h1 (.ite1 h3 (.ite1 h3.upd (h4.andThen fun h => h.upd)))

theorem TX.MemOk.treeWrite (h : x.MemOk) {f chk comb} : (x.treeWrite f chk comb).MemOk := by
  refine .andThen ?_ (fun h => (h.foldl (fun h => h.eatPoison)).upd)
  split
  exacts [h, h.check]

theorem TX.MemOk.treeSlots (h : x.MemOk) {f chk} : (x.treeSlots f chk).MemOk := h.treeWrite

theorem TX.MemOk.treePartial (h : x.MemOk) {f chk p1 p2} : (x.treePartial f chk p1 p2).MemOk :=
  h.treeWrite.ite (by dsimp only; split; exacts [h.slotFault, h.treeWrite])

end Sys2Proof.Machine
end

section
/-! SUPPORT. The canonical form of the byte memories, kept: vector and move instructions of one tile. -/
namespace Sys2Proof.Machine

variable {s t : State} {x y : TX} {q : HostIf} {v : Saved}

theorem TX.MemOk.useV (h : x.MemOk) {n} : (x.useV n).MemOk := h.touch.eatPoison

theorem TX.MemOk.useG (h : x.MemOk) {n} : (x.useG n).MemOk := h.touch.eatPoison

theorem TX.MemOk.useVs (h : x.MemOk) {ns} : (x.useVs ns).MemOk := h.foldl (fun h => h.useV)

theorem TX.MemOk.vop (h : x.MemOk) {f} : (x.vop f).MemOk := h.useVs.andThen (fun h => h.upd.count)

theorem TX.MemOk.vsfn (h : x.MemOk) {f} : (x.vsfn f).MemOk := h.useVs.andThen (fun h => h.upd.count.count)

theorem TX.MemOk.vred (h : x.MemOk) {f} : (x.vred f).MemOk := h.useVs.andThen (fun h => h.upd.count)

theorem TX.MemOk.vcvtFrom (h : x.MemOk) {f} : (x.vcvtFrom f).MemOk :=
  h.useV.andThen (fun h => by dsimp only; split; exacts [h.tableStop, h.upd.count])

theorem TX.MemOk.vcvtTo (h : x.MemOk) {f} : (x.vcvtTo f).MemOk := h.useV.andThen (fun h => h.upd.count)

theorem TX.MemOk.movGG (h : x.MemOk) {gd gs} : (x.movGG gd gs).MemOk := h.useG.andThen (fun h => h.upd)

theorem TX.MemOk.movVV (h : x.MemOk) {vd vs} : (x.movVV vd vs).MemOk := h.useV.andThen (fun h => h.upd)

theorem TX.MemOk.pop (h : x.MemOk) {n f} (e : x.pop n = some (f, y)) : y.MemOk := by
  unfold TX.pop at e
  split at e
  · cases e
    exact h.upd.count.count
  · cases e

theorem TX.MemOk.emit (h : x.MemOk) {n f} (e : x.emit n f = some y) : y.MemOk := by
  unfold TX.emit at e
  split at e
  · cases e
  · cases e
    exact h.upd.count.count

theorem TX.MemOk.movGIq (h : x.MemOk) {gd q} : (x.movGIq gd q).MemOk := by
  unfold TX.movGIq
  split
  exacts [(h.pop ‹_›).eatPoison.upd, h]

theorem TX.MemOk.movLaneG (h : x.MemOk) {dst gs lane bcast} : (x.movLaneG dst gs lane bcast).MemOk :=
  (h.useG.ite h.useG.touch).andThen (fun h => h.upd)

theorem TX.MemOk.movGLane (h : x.MemOk) {gd src lane} : (x.movGLane gd src lane).MemOk :=
  h.useV.andThen (fun h => h.upd)

theorem TX.MemOk.movTableG (h : x.MemOk) {gs entry} : (x.movTableG gs entry).MemOk :=
  h.touch.andThen (fun h => h.poisonStop.ite h.upd)

theorem TX.MemOk.movGTable (h : x.MemOk) {gd entry} : (x.movGTable gd entry).MemOk := h.tableStop.ite h.upd

theorem TX.MemOk.movi (h : x.MemOk) {gd high imm} : (x.movi gd high imm).MemOk :=
  (h.useG.andThen (fun h => h.upd)).ite h.upd

end Sys2Proof.Machine
end

section
/-! SUPPORT. The canonical form of the byte memories, kept: tile memory, outputs, flags and control of one tile. -/
namespace Sys2Proof.Machine

variable {s t : State} {x y : TX} {q : HostIf} {v : Saved}

theorem TX.MemOk.addrOk (h : x.MemOk) {n} : (x.addrOk n).MemOk := h.touch.andThen (fun h => h.poisonStop.ite h)

theorem TX.MemOk.ld (h : x.MemOk) {f} : (x.ld f).MemOk := by
  refine ((h.useG.andThen (fun h => h.addrOk)).ite h.useG).andThen (fun h => .andThen ?_ (fun h => (h.ite
      h.eatPoison).upd))
  split
  exacts [h, h.readMem]

theorem TX.MemOk.stStore (h : x.MemOk) {a bs psn} : (x.stStore a bs psn).MemOk :=
  h.poisonStop.ite h.eatPoison.writeMem

theorem TX.MemOk.stWrite (h : x.MemOk) {f bs psn} : (x.stWrite f bs psn).MemOk := h.poisonStop.ite h.stStore.upd

theorem TX.MemOk.st (h : x.MemOk) {f} : (x.st f).MemOk := by
  refine h.addrOk.andThen (fun h => ?_)
  dsimp only
  split
  · exact h.touch.touch.andThen (fun h => h.stWrite)
  · exact h.touch.andThen (fun h => h.stWrite)
  · exact h.touch.andThen (fun h => h.stWrite.ite (h.readBuf.andThen (fun h => h.stWrite)))

theorem TX.MemOk.ldxRows (h : x.MemOk) {b a l} : (x.ldxRows b a l).2.MemOk := by
  induction l generalizing x a with
  | nil => exact h
  | cons a l ih =>
    unfold TX.ldxRows
    split
    · exact h
    · split
      · exact ih h
      · split
        · exact ih (h.readMem.andThen (fun h => h.eatPoison.upd))
        · exact ih h.raise.upd

theorem TX.MemOk.ldx (h : x.MemOk) {f} : (x.ldx f).MemOk := by
  refine h.addrOk.andThen fun h => ?_
  split
  · exact h
  · refine TX.MemOk.andThen (.ite1 ?_ ?_) fun h => h.upd
    · exact (h.pop ‹_›).eatPoison.upd
    · exact (h.pop ‹_›).ldxRows

theorem TX.MemOk.sendFlits (h : x.MemOk) {f} : (x.sendFlits f).2.MemOk := by
  unfold TX.sendFlits
  dsimp only
  split
  · exact (h.foldl (fun h => h.touch)).foldl (fun h => h.eatPoison)
  · exact h.touch.eatPoison
  · exact h.foldl (fun h => h.eatPoison)
  · exact .eatPoison (.upd (by split; exacts [h.touch, h.touch.readMem]))

theorem TX.MemOk.sendStart (h : x.MemOk) {f} : (x.sendStart f).2.MemOk := h.sendFlits

theorem TX.MemOk.syncArrive (h : x.MemOk) {f} : (x.syncArrive f).MemOk :=
  (h.ite h.addrOk).andThen (fun h => h.upd.withExt)

theorem TX.MemOk.syncWait (h : x.MemOk) {flag g} : (x.syncWait flag g).MemOk := by
  unfold TX.syncWait
  split
  exacts [h.upd, h]

theorem TX.MemOk.bulk (h : x.MemOk) {write f} : (x.bulk write f).MemOk :=
  (h.addrOk.andThen (fun h => h.addrOk)).andThen (fun h => h.upd.count.count.withExt)

theorem TX.MemOk.bulkWait (h : x.MemOk) {btag gr} : (x.bulkWait btag gr).MemOk := h.upd

theorem TX.MemOk.lcSetI (h : x.MemOk) {lcn pd pe imm} : (x.lcSetI lcn pd pe imm).MemOk := h.upd

theorem TX.MemOk.lcSetG (h : x.MemOk) {lcn pd pe gs} : (x.lcSetG lcn pd pe gs).MemOk :=
  h.addrOk.andThen (fun h => h.upd)

theorem TX.MemOk.lcDec (h : x.MemOk) {lcn pd pe} : (x.lcDec lcn pd pe).MemOk := h.upd

theorem TX.MemOk.ctlP (h : x.MemOk) {f} : (x.ctlP f).MemOk := by
  unfold TX.ctlP
  dsimp only
  split
  · exact (h.addrOk.andThen (fun h => h.addrOk)).andThen (fun h => h.upd)
  · exact h.addrOk.andThen (fun h => h.upd)
  · exact h.upd
  · split
    exacts [h, h.poisonStop.ite h.upd]
  · exact h.upd

theorem TX.MemOk.alu (h : x.MemOk) {aop gd ga b} : (x.alu aop gd ga b).MemOk := h.useG.andThen (fun h => h.upd)

theorem TX.MemOk.discard (h : x.MemOk) {n} : (x.discard n).MemOk := by
  unfold TX.discard
  split
  exacts [h.pop ‹_›, h]

theorem TX.MemOk.drops (h : x.MemOk) {mask} : (x.drops mask).MemOk := h.foldl (fun h => h.discard.ite h)

end Sys2Proof.Machine
end

section
/-! SUPPORT. The canonical form of the byte memories, kept: triggered issue. -/
namespace Sys2Proof.Machine

variable {s t : State} {x y : TX} {q : HostIf} {v : Saved}

theorem TX.MemOk.gmacNext (h : x.MemOk) {fl f} : (x.gmacNext fl f).2.MemOk := .ite1 h.upd h.upd

theorem TX.MemOk.gmacPops (h : x.MemOk) {f fl n} : (x.gmacPops f fl n).2.MemOk := by
  induction n generalizing x fl with
  | zero => exact h
  | succ n ih =>
    unfold TX.gmacPops
    refine .ite1 h ?_
    split
    · exact h
    · exact .ite1 (h.pop ‹_›).poisonStop (ih (h.pop ‹_›).eatPoison)

theorem TX.MemOk.gmacTake (h : x.MemOk) {f fl n} : (x.gmacTake f fl n).2.MemOk := by
  unfold TX.gmacTake
  dsimp only
  split
  exacts [h.poisonStop, h.gmacPops]

theorem TX.MemOk.gmacPump (h : x.MemOk) {timed chk f fl} : (x.gmacPump timed chk f fl).2.MemOk := by
  unfold TX.gmacPump
  extract_lets +lift r need whole n _ fl' y wait
  have hy : y.MemOk := .count (.ite1 h.gmacTake h)
  clear_value y
  refine .ite1 hy (.ite1 ?_ (.ite1 hy hy.gmacIterA.gmacNext))
  split
  · exact hy
  · exact .ite1 hy hy.gmacIter.gmacNext

theorem TX.MemOk.pump (h : x.MemOk) {timed chk fl} : (x.pump timed chk fl).2.MemOk := by
  unfold TX.pump
  refine .ite1 h ?_
  extract_lets x'
  have h' : x'.MemOk := h
  clear_value x'
  split
  · exact h'.gmacPump
  · split
    · exact h'
    · split
      exacts [h'.pop ‹_›, (h'.pop ‹_›).treePartial.upd]
  · refine .ite1 h' ?_
    split
    · exact h'
    · exact .ite1 (h'.pop ‹_›).eatPoison.upd.upd (h'.pop ‹_›).eatPoison.upd
  · split
    · exact h'
    · split
      exacts [h'.pop ‹_›, (h'.pop ‹_›).stStore]
  · split
    · exact h'
    · split
      exacts [h', h'.emit ‹_›]
  · extract_lets e1 _ _ e2
    have h1 : e1.2.MemOk := by
      dsimp only [e1]
      split
      · exact h'
      · split
        exacts [h', h'.emit ‹_›]
    clear_value e1
    have h2 : e2.2.MemOk := by
      refine .ite1 ?_ h1
      split
      exacts [h1, (h1.pop ‹_›).eatPoison]
    exact .ite1 h2 h2
  · exact h'

theorem TX.MemOk.pumpOne (h : x.MemOk) {timed chk fl} : (x.pumpOne timed chk fl).2.MemOk := by
  have hp := TX.MemOk.pump (x := { x with stop := none }) h (timed := timed) (chk := chk) (fl := fl)
  unfold TX.pumpOne
  dsimp only
  split <;> exact hp

theorem TX.MemOk.pumpAll (h : x.MemOk) {timed chk} : (x.pumpAll timed chk).MemOk :=
  TX.MemOk.upd (.foldl1 (p := ([], x)) h fun h => h.pumpOne)

theorem TX.MemOk.start (h : x.MemOk) {h' op skip chk} : (x.start h' op skip chk).2.MemOk := by
  unfold TX.start
  dsimp only
  split
  · split
    · exact h.slotFault
    · refine .ite1 h.gmacRegs (.ite1 (.count (.ite ?_ h.gmacRegs.gmacIterA)) h.gmacRegs)
      split
      exacts [h.gmacRegs.gmacTake.gmacIter, h.gmacRegs.gmacTake]
  · exact h.close
  · split
    · exact h.slotFault
    · exact .ite1 h h.treeSlots
  · exact h.vop
  · exact h.vsfn
  · exact h.vred
  · exact h.vcvtFrom
  · exact h.vcvtTo
  · exact h.movGG
  · exact h.movVV
  · exact h
  · exact h.movGIq
  · exact h.movLaneG
  · exact h.movGLane
  · exact h.movTableG
  · exact h.movGTable
  · exact h.movi
  · exact h.ld
  · exact h.ldx
  · exact .ite1 (.ite1 h.addrOk h.addrOk.upd) h.st
  · exact .ite1 h h.sendStart
  · exact h.syncArrive
  · exact h.syncWait
  · exact h.bulk
  · exact h.bulk
  · exact h.bulkWait
  · exact h.lcSetI
  · exact h.lcSetG
  · exact h.lcDec
  · exact h.ctlP
  · exact h.useG.andThen (fun h => h.alu)
  · exact h.alu
  · exact h.drops

theorem TX.MemOk.illegal (h : x.MemOk) : x.illegal.MemOk := h.raise.halt

theorem TX.MemOk.issueWork (h : x.MemOk) {h' op skip timed chk} : (x.issueWork h' op skip timed chk).MemOk := by
  refine h.start.ite (.when (.upd ?_) (fun h => h.upd))
  split
  exacts [h.start.upd.pump, h.start.upd]

theorem TX.MemOk.issue (h : x.MemOk) {h' op skip timed chk} : (x.issue h' op skip timed chk).MemOk :=
  h.count.issueWork.ite h.issueWork

theorem TX.MemOk.settle (h : x.MemOk) {chk n} : (x.settle chk n).MemOk := by
  induction n generalizing x with
  | zero => exact h
  | succ n ih => exact h.pumpAll.ite (ih h.pumpAll)

theorem TX.MemOk.instr (h : x.MemOk) {h' op chk} : (x.instr h' op chk).MemOk :=
  h.ite (h.illegal.ite (h.ite h.issue.settle))

theorem TX.MemOk.at (h : x.MemOk) {n w} : (x.at n w).MemOk := h

theorem TX.MemOk.attempt (h : x.MemOk) {t0 chk} : (x.attempt t0 chk).2.MemOk := by
  unfold TX.attempt
  dsimp only
  split
  · exact h
  · exact h.at.illegal
  · exact h
  · split
    · split
      exacts [h.at.issue.at.illegal, h.at.issue.at.issue, h.at.issue]
    · exact h.at.issue

theorem TX.MemOk.scan (h : x.MemOk) : x.scan.MemOk := h.foldl fun h => h.fixWord.when fun h => h.withN

theorem TX.MemOk.tally (h : x.MemOk) {t0 issued} : (x.tally t0 issued).MemOk :=
  h.upd.ite (h.count.upd.count.upd.ite h.count.upd.upd)

theorem TX.MemOk.cycle (h : x.MemOk) {sel dup chk} : (x.cycle sel dup chk).MemOk := by
  unfold TX.cycle
  extract_lets +lift t0 pumped y double scanned r issued
  have hpumped : pumped.MemOk := h.pumpAll.count
  clear_value pumped
  have hdouble : double.MemOk := (hpumped.withNWord.raise.withN.ite hpumped.withNWord.raise.halt).ite hpumped
  clear_value double
  have hissued : issued.MemOk := (hdouble.scan.ite hdouble.scan.attempt.tally).ite hdouble
  exact hissued.upd

end Sys2Proof.Machine
end

section
/-! SUPPORT. The canonical form of the byte memories, kept: a tile's work put back into the state. -/
namespace Sys2Proof.Machine

variable {s t : State} {x y : TX} {q : HostIf} {v : Saved}

theorem State.MemOk.tx (h : s.MemOk) {t n w} : (s.tx t n w).MemOk := h.engine

theorem State.MemOk.handOn (h : s.MemOk) {t a} : (s.handOn t a).MemOk := by
  unfold State.handOn
  split
  exacts [h.arrive, h.bulk]

theorem State.MemOk.tellProbe (h : s.MemOk) {t before} : (s.tellProbe t before).MemOk :=
  h.ite (h.ite h.finc).sendPennant

theorem State.MemOk.tileStopped (h : s.MemOk) {t cause} : (s.tileStopped t cause).MemOk := by
  unfold State.tileStopped
  split
  exacts [h.stopSlice, h]

theorem State.MemOk.put (h : s.MemOk) {t} (hx : x.MemOk) : (s.put t x).MemOk := by
  unfold State.put
  extract_lets +lift before tile s1 s2 s3 s4 s5
  have h2 : s2.MemOk := h.setTile.withMem hx
  clear_value s2
  have h5 : s5.MemOk := h2.tellProbe.reports.foldl fun h => h.handOn
  clear_value s5
  split
  exacts [h5.tileStopped, h5]

theorem State.MemOk.runInstr (h : s.MemOk) {p op chk} : (s.runInstr p op chk).MemOk := (h.put h.tx.instr).ite h

theorem State.MemOk.tileCycle (h : s.MemOk) {t sel dup par chk} : (s.tileCycle t sel dup par chk).MemOk :=
  ((h.ite h.setTile).put (h.ite h.setTile).tx.cycle).ite h

theorem State.MemOk.execTileIssueCycle (h : s.MemOk) {t dup par chk} : NextOk (execTileIssueCycle t dup par chk s) :=
  h.tileCycle.next

theorem State.MemOk.execTileStep (h : s.MemOk) {t dup par chk} : NextOk (execTileStep t dup par chk s) :=
  h.next.ite h.tileCycle.next

theorem State.MemOk.epochError (h : s.MemOk) {c r} : (s.epochError c r).MemOk := by
  unfold State.epochError
  split
  exacts [h, h.ite h.finc.setSlice.report.stopSlice]

theorem State.MemOk.execEpochDiscard (h : s.MemOk) {t q} : NextOk (execEpochDiscard t q s) :=
  h.next.ite (h.setTile.setCanton.ite h.setTile).epochError.next

theorem State.MemOk.execDeadlockProbe (h : s.MemOk) {t} : NextOk (execDeadlockProbe t s) := h.setTile.tellProbe.next

theorem State.MemOk.writeSplit (h : s.MemOk) {t v} : (s.writeSplit t v).MemOk := h.reencode.setTile

theorem State.MemOk.execTileMemSplitWrite (h : s.MemOk) {t v} : NextOk (execTileMemSplitWrite t v s) :=
  h.next.ite h.writeSplit.next

end Sys2Proof.Machine
end

section
/-! SUPPORT. The canonical form of the byte memories, kept: routers. -/
namespace Sys2Proof.Machine

variable {s t : State} {x y : TX} {q : HostIf} {v : Saved}

theorem State.MemOk.execRouterTableWrite (h : s.MemOk) {t off v} : NextOk (execRouterTableWrite t off v s) :=
  h.next.ite h.setRouter.next

theorem State.MemOk.spillEnd (h : s.MemOk) {t q} : (s.spillEnd t q).MemOk := by
  unfold State.spillEnd
  dsimp only
  split
  exacts [h, h.setCluster.ite h]

theorem State.MemOk.answer (h : s.MemOk) {c a} : (s.answer c a).MemOk := h.cantonEvent.sendPennant

theorem State.MemOk.countPurged (h : s.MemOk) {c n} : (s.countPurged c n).MemOk := h.setCanton.ite h

theorem State.MemOk.purgeDone (h : s.MemOk) {c} : (s.purgeDone c).MemOk := h.mapRouters.setCanton.answer.ite h

theorem State.MemOk.seamEvent (h : s.MemOk) {t r} : (s.seamEvent t r).MemOk := h.cantonEvent.setRouter

theorem State.MemOk.apply (h : s.MemOk) {x} : (s.apply x).MemOk := by
  refine .foldl (.unless ?_ (fun h => h.countPurged)) (fun h => h.epochError)
  split
  · exact h.seamEvent.setTile.reports.when (fun h => h.stopAt)
  · exact (h.seamEvent.setTile.reports.when (fun h => h.stopAt)).setTile.report.tileStopped

theorem State.MemOk.pendMore (h : s.MemOk) {t k port g} : (s.pendMore t k port g).MemOk := h.apply

theorem State.MemOk.endCycle (h : s.MemOk) {t} : (s.endCycle t).MemOk := by
  refine State.MemOk.setRouter (h.setTile.foldl fun h => ?_)
  split
  · exact (h.ite h.setCluster.spillEnd).foldl fun h => h.pendMore
  · exact h.foldl fun h => h.pendMore

theorem State.MemOk.coreCycle (h : s.MemOk) {c} : (s.coreCycle c).MemOk :=
  h.cantonEvent.cantonEvent.cantonEvent.cantonEvent.foldl (fun h => h.clusterEvent)

theorem State.MemOk.execRouterSlotCycle (h : s.MemOk) {c noise rev} : NextOk (execRouterSlotCycle c noise rev s) :=
  h.next.ite ((h.coreCycle.foldl (fun h => h.apply)).foldl (fun h => h.endCycle)).setCanton.purgeDone.next

theorem State.MemOk.execSeamFlitArrive (h : s.MemOk) {t d lo hi} : NextOk (execSeamFlitArrive t d lo hi s) := by
  unfold Machine.execSeamFlitArrive
  split
  · exact h.next
  · split
    exacts [h.next, h.next.ite h.setRouter.cantonEvent.apply.next]

theorem State.MemOk.execSeamCreditMessage (h : s.MemOk) {t d} : NextOk (execSeamCreditMessage t d s) := by
  unfold Machine.execSeamCreditMessage
  split
  · exact h.next
  · split
    exacts [h.next, h.setRouter.pendMore.next]

theorem State.MemOk.seamFail (h : s.MemOk) {c d b} : (s.seamFail c d b).MemOk := by
  unfold State.seamFail
  dsimp only
  split
  exacts [h, h.mapRouters.mapRouters]

theorem State.MemOk.execSeamNeighbourLost (h : s.MemOk) {c d} : NextOk (execSeamNeighbourLost c d s) := by
  unfold Machine.execSeamNeighbourLost
  split
  exacts [h.next, h.next.ite h.seamFail.next]

theorem State.MemOk.execTableSwitch (h : s.MemOk) {c} : NextOk (execTableSwitch c s) := by
  refine .ite ?_ h.next
  dsimp only
  split
  exacts [h.mapRouters.setCanton.answer.next, h.mapRouters.purgeDone.next]

end Sys2Proof.Machine
end

section
/-! SUPPORT. The canonical form of the byte memories, kept: the spaces of a tile. -/
namespace Sys2Proof.Machine

variable {s t : State} {x y : TX} {q : HostIf} {v : Saved}

theorem State.MemOk.putSpace (h : s.MemOk) {t space w v} : (s.putSpace t space w v).MemOk := by
  unfold State.putSpace
  dsimp only
  split
  · exact h.updMem (fun h => Memory.putWord_wf _ _ _ _ h)
  · exact h.setTile
  · exact h.setTile
  · exact h.writeSplit.ite h.setTile
  · exact h.setRouter
  · exact h.setTile

end Sys2Proof.Machine
end

section
/-! SUPPORT. The canonical form of the byte memories, kept: LOAD_IMAGE. -/
namespace Sys2Proof.Machine

variable {s t : State} {x y : TX} {q : HostIf} {v : Saved}

theorem State.MemOk.release (h : s.MemOk) {n} : (s.release n).MemOk :=
  (h.mapClusters.foldl (fun h => h.setRegion)).unless (fun h => h.ueRelease)

theorem State.MemOk.clearHal (h : s.MemOk) {n} : (s.clearHal n).MemOk := h

theorem State.MemOk.quiesce (h : s.MemOk) {n} : (s.quiesce n).MemOk :=
  (h.mapTiles (ts := s.sliceTiles n) (f := Tile.setRun false))

theorem State.MemOk.unload (h : s.MemOk) {n} : (s.unload n).MemOk :=
  (h.quiesce.clearHal.foldl (fun h => h.setReg.setCanton)).release.setSlice

theorem State.MemOk.putRec (h : s.MemOk) {t space w v} : (s.putRec t space w v).MemOk :=
  h.ite ((h.setTile.ite (h.putSpace.ite h)).ite h.putSpace)

theorem State.MemOk.writeRec (h : s.MemOk) {r} : (s.writeRec r).MemOk := (h.foldl (fun h => h.putRec)).ite h

theorem State.MemOk.putMem (h : s.MemOk) {a l} : (s.putMem a l).MemOk := by
  induction l generalizing s a with
  | nil => exact h
  | cons a l ih => exact ih (h.updMem (fun h => Memory.putWord_wf _ _ _ _ h))

theorem State.MemOk.setBanks (h : s.MemOk) {k cw cache} : (s.setBanks k cw cache).MemOk :=
  (h.foldl (fun h => h.ite h.reencode)).setCluster

theorem State.MemOk.claimCluster (h : s.MemOk) {n m rs job k} : (s.claimCluster n m rs job k).MemOk :=
  h.setBanks.setCluster.foldl (fun h => h.putMem.ite h)

theorem State.MemOk.claimRegion (h : s.MemOk) {n job r p} : (s.claimRegion n job r p).MemOk :=
  (h.ite h.reencode).setRegion

theorem State.MemOk.relocate (h : s.MemOk) {p} : (s.relocate p).MemOk := h.putSpace.ite h

theorem State.MemOk.writeImage (h : s.MemOk) {n m a tabs job} : (s.writeImage n m a tabs job).MemOk :=
  (((((h.foldl (fun h => h.claimCluster)).foldl (fun h => h.foldl (fun h => h.claimRegion))).foldl (fun h =>
      h.writeSplit.setRouter)).foldl (fun h => h.setTile)).foldl (fun h => h.writeRec)).foldl (fun h => h.relocate)

theorem State.MemOk.writeHal (h : s.MemOk) {m c} : (s.writeHal m c).MemOk :=
  h.foldl fun h => h.withHalAgents.ite h.withHalPart

theorem State.MemOk.clearOld (h : s.MemOk) {q} : (s.clearOld q).MemOk := h.quiesce.clearHal.ite (h.unload.ite h)

theorem State.MemOk.install (h : s.MemOk) {q img m a tabs} : (s.install q img m a tabs).2.MemOk := by
  unfold State.install
  dsimp only
  split
  · exact h.clearOld.writeImage.setSlice.release
  · split
    · exact h.clearOld.writeImage.setSlice.release
    · exact h.clearOld.writeImage.setSlice.clearHal.writeHal.setHalTree.mapRouters.invalidate

theorem State.MemOk.loadImage (h : s.MemOk) {q img} : (s.loadImage q img).2.MemOk := by
  unfold State.loadImage
  extract_lets +lift n x t
  have ht : t.MemOk := h.quiesce.setSlice.ite h
  clear_value t
  split
  · exact ht
  · refine .ite1 ht (.ite1 ht ?_)
    dsimp only
    split
    · exact ht
    · split
      exacts [ht, ht.install]

theorem State.MemOk.load (h : s.MemOk) {d img fixed} : (s.load d img fixed).MemOk :=
  (h.loadImage.ensignDone.ite h.loadImage).complete

theorem State.MemOk.readRows (h : s.MemOk) {who a n} : (s.readRows who a n).2.2.MemOk := by
  induction n generalizing s a with
  | zero => exact h
  | succ n ih => exact ih h.readRow

end Sys2Proof.Machine
end

section
/-! SUPPORT. The canonical form of the byte memories, kept: the bulk mesh. -/
namespace Sys2Proof.Machine

variable {s t : State} {x y : TX} {q : HostIf} {v : Saved}

theorem State.MemOk.showLinkFail (h : s.MemOk) {k d} : (s.showLinkFail k d).MemOk := by
  unfold State.showLinkFail
  dsimp only
  split
  · exact h
  · exact h.ite (by split <;> exact h.fset)

theorem State.MemOk.drive (h : s.MemOk) {k o f} : (s.drive k o f).MemOk :=
  (h.ite h.clusterEvent).setMrouter.ite ((h.ite h.clusterEvent).setMrouter.ite (h.ite h.clusterEvent).setMrouter)

theorem State.MemOk.sendFlit (h : s.MemOk) {k o x lane} : (s.sendFlit k o x lane).MemOk := by
  unfold State.sendFlit
  dsimp only
  split
  exacts [h, h.setMrouter.drive]

theorem State.MemOk.endPacket (h : s.MemOk) {k h'} : (s.endPacket k h').MemOk := by
  unfold State.endPacket
  dsimp only
  split
  exacts [h.pathRec.send.ite h.pathRec, h.pathRec]

theorem State.MemOk.endAt (h : s.MemOk) {k o} : (s.endAt k o).MemOk := by
  refine (h.setMrouter.ite ?_).ite ?_
  · split
    exacts [h.setMrouter.endPacket, h.setMrouter]
  · split
    · exact h
    · split
      exacts [h.setMrouter.endPacket, h]

theorem State.MemOk.execMeshOutputArbitrate (h : s.MemOk) {k o} : NextOk (Machine.execMeshOutputArbitrate k o s) := by
  unfold Machine.execMeshOutputArbitrate
  refine h.next.ite ?_
  extract_lets +lift t u m cap pr x last
  have ht : t.MemOk := h.setMrouter
  have hu : u.MemOk := ht.clusterEvent.ite ht
  clear_value u
  refine hu.endAt.next.ite ?_
  split
  · exact hu.setMrouter.sendFlit.next
  · refine hu.setMrouter.sendFlit.next.ite ?_
    split
    · exact hu.setMrouter.next
    · dsimp only
      split
      exacts [hu.next, hu.setMrouter.sendFlit.next]

theorem State.MemOk.execMeshFlitReceive (h : s.MemOk) {k d ok} : NextOk (execMeshFlitReceive k d ok s) := by
  unfold Machine.execMeshFlitReceive
  dsimp only
  split
  · exact h.next
  · split
    · exact h.next
    · exact (h.setMrouter.next.ite h.setMrouter.setMrouter.next).ite
        h.setMrouter.setMrouter.cantonEvent.finc.report.next

theorem State.MemOk.failSide (h : s.MemOk) {k d} : (s.failSide k d).MemOk :=
  h.setMrouter.showLinkFail.fset.when (fun h => h.foldl (fun h => h.endPacket))

theorem State.MemOk.failLink (h : s.MemOk) {k d} : (s.failLink k d).MemOk := by
  unfold State.failLink
  split
  exacts [h, h.ite (h.failSide.failSide.when (fun h => h.finc))]

theorem State.MemOk.execMeshLinkFail (h : s.MemOk) {k d} : NextOk (execMeshLinkFail k d s) := by
  unfold Machine.execMeshLinkFail
  split
  exacts [h.next, h.failLink.next.ite h.next]

theorem State.MemOk.wptUpdate (h : s.MemOk) {c} : (s.wptUpdate c).MemOk := h.setCanton

theorem State.MemOk.execWaypointTableUpdate (h : s.MemOk) : NextOk (execWaypointTableUpdate s) :=
  (h.foldl (fun h => h.wptUpdate)).next

end Sys2Proof.Machine
end

section
/-! SUPPORT. The canonical form of the byte memories, kept: host DMA. -/
namespace Sys2Proof.Machine

variable {s t : State} {x y : TX} {q : HostIf} {v : Saved}

theorem State.MemOk.dmaWrite (h : s.MemOk) {k dst r} : (s.dmaWrite k dst r).2.MemOk := by
  unfold State.dmaWrite
  dsimp only
  split
  · exact h
  · split
    · exact h.refuse
    · split
      exacts [h, h.writeRow]

theorem State.MemOk.dmaRow (h : s.MemOk) {d bad i} : (s.dmaRow d bad i).2.MemOk := by
  unfold State.dmaRow
  dsimp only
  split
  · split
    exacts [h.fset, h.dmaWrite]
  · split
    exacts [h, h.readRow.ite h.readRow.hostWrite]
  · split
    exacts [h, h.readRow.dmaWrite]

theorem State.MemOk.dmaEnds (h : s.MemOk) {ring num i es} : (s.dmaEnds ring num i es).MemOk := h.updHost fun _ => rfl

theorem State.MemOk.dmaRequest (h : s.MemOk) {ring num g} : (s.dmaRequest ring num g).2.MemOk := by
  unfold State.dmaRequest
  dsimp only
  split
  exacts [h.await, h.issue]

theorem State.MemOk.dmaRequests (h : s.MemOk) {ring num l} : (s.dmaRequests ring num l).MemOk := by
  induction l generalizing s with
  | nil => exact h
  | cons a l ih => exact ih (h.dmaRequest.ite h.dmaRequest.dmaEnds.dmaHandled)

theorem State.MemOk.dmaRows {x : DmaRun} (h : x.st.MemOk) {d bad i n} : (x.rows d bad i n).st.MemOk := by
  induction n generalizing x i with
  | zero => exact h
  | succ n ih =>
    refine ih ?_
    split <;> exact h.clusterEvent.dmaRow

theorem State.MemOk.dma (h : s.MemOk) {d bad} : (s.dma d bad).MemOk :=
  ((h.dmaRows.updHost fun _ => by rfl).foldl (fun h => h.pushDma)).dmaRequests

theorem State.MemOk.execDma (h : s.MemOk) {r bad} : NextOk (execDma r bad s) := (h.perform (fun h => h.dma)).next

theorem State.MemOk.dmaFinish (h : s.MemOk) {ring num} : (s.dmaFinish ring num).MemOk := by
  unfold State.dmaFinish
  dsimp only
  split
  · exact h
  · split
    exacts [(h.updHost fun _ => by rfl).complete, (h.updHost fun _ => by rfl)]

theorem State.MemOk.dmaEnd (h : s.MemOk) {k j} : (s.dmaEnd k j).MemOk :=
  h.dmaFinish.ite (h.writeRow.dmaFinish.ite (h.await.ite (h.issue.ite h.issue.dmaFinish)))

theorem State.MemOk.execDmaEntryComplete (h : s.MemOk) {k q} : NextOk (Machine.execDmaEntryComplete k q s) := by
  unfold Machine.execDmaEntryComplete
  dsimp only
  split
  · exact h.next
  · refine h.next.ite ?_
    split
    · refine h.setDmaq.next.ite ?_
      split
      exacts [h.setDmaq.dmaEnd.next, h.setDmaq.next]
    · exact h.setDmaq.next

theorem State.MemOk.dmaAnswer (h : s.MemOk) {r ring num row es} : (s.dmaAnswer r ring num row es).MemOk :=
  h.dmaEnds.dmaHandled

theorem State.MemOk.dmaResume (h : s.MemOk) {r ring num i} : (s.dmaResume r ring num i).MemOk := by
  unfold State.dmaResume
  dsimp only
  split
  · exact h.dmaAnswer
  · split
    exacts [h.dmaRow.dmaAnswer, h.dmaRow.await, h.dmaRow.dmaRequests]

end Sys2Proof.Machine
end

section
/-! SUPPORT. The canonical form of the byte memories, kept: packets at their ends. -/
namespace Sys2Proof.Machine

variable {s t : State} {x y : TX} {q : HostIf} {v : Saved}

theorem State.MemOk.takePacket (h : s.MemOk) {k port typ} : (s.takePacket k port typ).2.MemOk := by
  unfold State.takePacket
  dsimp only
  split
  · exact h
  · split
    · exact h
    · split
      · exact h.setMrouter.protoRec
      · split
        exacts [h.setMrouter, h]

theorem State.MemOk.serveRead (h : s.MemOk) {who a n} : (s.serveRead who a n).2.2.MemOk := by
  induction n generalizing s a with
  | zero => exact h
  | succ n ih =>
    unfold State.serveRead
    dsimp only
    split
    · exact h.readRow
    · split
      · exact h.readRow
      · split <;> exact ih h.readRow

theorem State.MemOk.execReadReq (h : s.MemOk) {k port} : NextOk (execReadReq k port s) := by
  unfold Machine.execReadReq
  split
  exacts [(h.takePacket.got ‹_›).next, h.next.ite (h.takePacket.got ‹_›).serveRead.send.next]

theorem State.MemOk.serveWrite (h : s.MemOk) {who a l} : (s.serveWrite who a l).2.2.2.MemOk := by
  induction l generalizing s a with
  | nil => exact h
  | cons a l ih => exact ih h.writeRow

theorem State.MemOk.execWriteReq (h : s.MemOk) {k port} : NextOk (execWriteReq k port s) := by
  unfold Machine.execWriteReq
  split
  exacts [(h.takePacket.got ‹_›).next, h.next.ite (h.takePacket.got ‹_›).serveWrite.send.next]

theorem State.MemOk.opDone (h : s.MemOk) {op} : (s.opDone op).MemOk := by
  unfold State.opDone
  split
  exacts [h, h.withBulkOps.tagDone.ite h]

theorem State.MemOk.takeRequest (h : s.MemOk) {k port tid} : (s.takeRequest k port tid).2.MemOk := by
  unfold State.takeRequest
  dsimp only
  split
  exacts [h.clusterEvent.withRequests, h.finc]

theorem State.MemOk.deliverAll (h : s.MemOk) {n k t laddr a l} : (s.deliverAll n k t laddr a l).2.2.MemOk := by
  induction l generalizing s laddr a with
  | nil => exact h
  | cons a l ih => exact ih h.cacheFill.deliver

theorem State.MemOk.prefetched (h : s.MemOk) {n k a pf bs ok} : (s.prefetched n k a pf bs ok).MemOk :=
  h.cacheFill.ite h.setCluster

theorem State.MemOk.prefetchedAll (h : s.MemOk) {n k a pf body rows} : (s.prefetchedAll n k a pf body rows).MemOk :=
  h.foldl (fun h => by split <;> exact h.prefetched)

theorem State.MemOk.refreshAnswer (h : s.MemOk) {r p entry dst st} : (s.refreshAnswer r p entry dst st).MemOk :=
  h.dmaHandled

theorem State.MemOk.endRequest (h : s.MemOk) {r st w} : (s.endRequest r st w).MemOk := by
  unfold State.endRequest
  split
  exacts [h.tagStatus.opDone, h.prefetchedAll, h.dmaAnswer, h.dmaFinish, h.refreshAnswer]

theorem State.MemOk.serveNear (h : s.MemOk) {r} : (s.serveNear r).MemOk := by
  unfold State.serveNear
  dsimp only
  split
  · refine .when (.opDone (.tagStatus ?_)) (fun h => h.stopSlice)
    split
    exacts [h.withRequests.bulkWrite, h.withRequests.bulkRead]
  · exact h.withRequests.nearEvent.readRow.prefetched
  · exact h.withRequests.writeRow.dmaAnswer.ite h.withRequests.dmaResume
  · exact h.withRequests.writeRow.dmaFinish
  · exact h.withRequests.refreshAnswer

theorem State.MemOk.execReadRsp (h : s.MemOk) {k} : NextOk (execReadRsp k s) := by
  unfold Machine.execReadRsp
  split
  · exact .next (by split; exacts [(h.takePacket.got ‹_›).serveNear, h.takePacket.got ‹_›])
  · split
    · exact ((h.takePacket.got ‹_›).takeRequest.got ‹_›).next
    · refine .ite ?_ (((h.takePacket.got ‹_›).takeRequest.got ‹_›).endRequest.when (fun h => h.stopSlice)).next
      split
      · exact (((h.takePacket.got ‹_›).takeRequest.got ‹_›).deliverAll.tagStatus.opDone.when (fun h =>
          h.stopSlice)).next
      · exact ((h.takePacket.got ‹_›).takeRequest.got ‹_›).prefetchedAll.next
      · exact ((h.takePacket.got ‹_›).takeRequest.got ‹_›).endRequest.next

theorem State.MemOk.execWriteAck (h : s.MemOk) {k port} : NextOk (execWriteAck k port s) := by
  unfold Machine.execWriteAck
  split
  · refine .next ?_
    split
    exacts [(h.takePacket.got ‹_›).when (fun h => h.serveNear), h.takePacket.got ‹_›]
  · split
    · exact ((h.takePacket.got ‹_›).takeRequest.got ‹_›).next
    · exact (((h.takePacket.got ‹_›).takeRequest.got ‹_›).endRequest.when (fun h => h.stopSlice)).next

theorem State.MemOk.execMeshRequestTimeout (h : s.MemOk) {k tid} : NextOk (execMeshRequestTimeout k tid s) := by
  unfold Machine.execMeshRequestTimeout
  split
  exacts [h.next, h.next.ite h.withRequests.finc.fset.report.endRequest.next]

end Sys2Proof.Machine
end

section
/-! SUPPORT. The canonical form of the byte memories, kept: bays, classes, prefetchers and scrub. -/
namespace Sys2Proof.Machine

variable {s t : State} {x y : TX} {q : HostIf} {v : Saved}

theorem State.MemOk.ifOnline (h : s.MemOk) {c} {f : State → State} (hf : ∀ {s}, s.MemOk → (f s).MemOk) :
    (s.ifOnline c f).MemOk := (hf h).ite h.fset

theorem State.MemOk.failBay (h : s.MemOk) {b} : (s.failBay b).MemOk := h.finc.fset.putBit

theorem State.MemOk.badLane (h : s.MemOk) {b ch lanes} : (s.badLane b ch lanes).MemOk :=
  (h.setBay.foldl (fun h => h.ledger)).fset

theorem State.MemOk.execChannelRetrain (h : s.MemOk) {b lanes late} : NextOk (execChannelRetrain b lanes late s) := by
  unfold Machine.execChannelRetrain
  dsimp only
  split
  · exact h.next
  · exact h.next.ite (((h.fset.fset.badLane.unless (fun h => h.finc)).when (fun h => h.putBit)).when (fun h =>
      h.failBay)).next

theorem State.MemOk.askRetrain (h : s.MemOk) {c chs} : (s.askRetrain c chs).MemOk := h.fset

theorem State.MemOk.execBayRetrain (h : s.MemOk) {b v} : NextOk (execBayRetrain b v s) :=
  (h.ifOnline (fun h => h.fset.askRetrain)).next

theorem State.MemOk.execAutoRetrainThreshold (h : s.MemOk) {b} : NextOk (execAutoRetrainThreshold b s) :=
  (h.setBay.askRetrain.ite h.setBay).next

theorem State.MemOk.storeEntry (h : s.MemOk) {t} : (s.storeEntry t).MemOk := h.pushDma

theorem State.MemOk.storeDone (h : s.MemOk) {t} : (s.storeDone t).MemOk := h.dmaHandled

theorem State.MemOk.setRegionClass (h : s.MemOk) {b n w} : (s.setRegionClass b n w).MemOk :=
  h.ite h.reencode.setRegion.storeEntry

theorem State.MemOk.execBayRegionClassWrite (h : s.MemOk) {b n w} : NextOk (execBayRegionClassWrite b n w s) :=
  (h.ifOnline (fun h => h.setRegionClass)).next

theorem State.MemOk.setCluCfg (h : s.MemOk) {k classW banks} : (s.setCluCfg k classW banks).MemOk :=
  h.ite (h.setBanks.ite h.setBanks.setCluster.storeEntry)

theorem State.MemOk.execClusterClassWrite (h : s.MemOk) {k classW} : NextOk (execClusterClassWrite k classW s) :=
  (h.ifOnline (fun h => h.setCluCfg)).next

theorem State.MemOk.invalidateOwner (h : s.MemOk) {r} : (s.invalidateOwner r).MemOk := h.invalidate.ite h

theorem State.MemOk.execReencodeComplete (h : s.MemOk) {st} : NextOk (execReencodeComplete st s) := by
  unfold Machine.execReencodeComplete
  split
  exacts [(h.setCluster.storeDone.ite h).next, (h.setRegion.invalidateOwner.storeDone.ite h).next]

theorem State.MemOk.prefetchErr (h : s.MemOk) {n k pf row isolated} : (s.prefetchErr n k pf row isolated).MemOk :=
  h.setCluster.refuse

theorem State.MemOk.prefetchRow (h : s.MemOk) {n k a pf} : (s.prefetchRow n k a pf).MemOk :=
  h.setCluster.ite ((h.clusterEvent.setCluster.await.ite h.clusterEvent.setCluster.nearEvent.readRow.prefetched).ite
      (h.clusterEvent.setCluster.issue.ite h.clusterEvent.setCluster.issue.prefetchedAll))

theorem State.MemOk.execPrefetchIssue (h : s.MemOk) {k pf} : NextOk (execPrefetchIssue k pf s) :=
  h.next.ite (by split; exacts [h.prefetchRow.next, h.prefetchErr.next])

theorem State.MemOk.resetTiles (h : s.MemOk) {k} : (s.resetTiles k).MemOk :=
  (h.foldl (fun h => (h.updMem (fun h => Memory.zero_wf _ _ _ h)).setTile)).foldl (fun h => h.setRouter)

theorem State.MemOk.scrub (h : s.MemOk) {t} : (s.scrub t).MemOk := by
  refine h.ite ?_
  split
  · exact (h.resetTiles.updMem (fun h => Memory.zero_wf _ _ _ h)).setCluster.storeEntry
  · exact (h.updMem (fun h => Memory.zero_wf _ _ _ h)).setRegion.storeEntry

theorem State.MemOk.endScrubs (h : s.MemOk) : s.endScrubs.MemOk := h.completeAll

theorem State.MemOk.execScrub (h : s.MemOk) {r} : NextOk (execScrub r s) :=
  (h.perform (fun h => h.complete.ite (h.foldl (fun h => h.scrub)).endScrubs)).next

theorem State.MemOk.execScrubComplete (h : s.MemOk) {st} : NextOk (execScrubComplete st s) := by
  unfold Machine.execScrubComplete
  split
  · exact h.setCluster.storeDone.endScrubs.next.ite h.next
  · exact h.setRegion.invalidateOwner.storeDone.endScrubs.next.ite h.next

end Sys2Proof.Machine
end

section
/-! SUPPORT. The canonical form of the byte memories, kept: defects, spares, seams, joining and losing a canton. -/
namespace Sys2Proof.Machine

variable {s t : State} {x y : TX} {q : HostIf} {v : Saved}

theorem State.MemOk.mapChange (h : s.MemOk) {f : State → State} (hf : ∀ {s}, s.MemOk → (f s).MemOk) :
    (s.mapChange f).MemOk := (hf h).fset.fset

theorem State.MemOk.clearPresent (h : s.MemOk) {c} : (s.clearPresent c).MemOk := h.foldl (fun h => h.setPresent)

theorem State.MemOk.streamSide (h : s.MemOk) {c d i b} : (s.streamSide c d i b).MemOk := h.setRouter

theorem State.MemOk.meshSideUp (h : s.MemOk) {c d i} : (s.meshSideUp c d i).MemOk := (h.ite h.endAt).setMrouter.fset

theorem State.MemOk.halSide (h : s.MemOk) {c d b} : (s.halSide c d b).MemOk := h.setCanton

theorem State.MemOk.coupleSide (h : s.MemOk) {c d open_} : (s.coupleSide c d open_).MemOk := h.fset

theorem State.MemOk.steer (h : s.MemOk) : s.steer.MemOk := h.foldl (fun h => h.ite h.fset)

theorem State.MemOk.treesLost (h : s.MemOk) {c d e} : (s.treesLost c d e).MemOk := h.foldl (fun h => h.stopSlice)

theorem State.MemOk.clamp (h : s.MemOk) {c d} : (s.clamp c d).MemOk := by
  unfold State.clamp
  split
  exacts [h, (h.seamFail.foldl (fun h => h.failLink)).treesLost.failHal]

theorem State.MemOk.cut (h : s.MemOk) {c d} : (s.cut c d).MemOk := h.ite h.coupleSide.clamp

theorem State.MemOk.cutAll (h : s.MemOk) {c} : (s.cutAll c).MemOk :=
  h.foldl (fun h => by split; exacts [h, h.cut.coupleSide])

theorem State.MemOk.clampAll (h : s.MemOk) {c} : (s.clampAll c).MemOk := h.foldl (fun h => h.clamp)

theorem State.MemOk.openSeam (h : s.MemOk) {c d e} : (s.openSeam c d e).MemOk := by
  unfold State.openSeam
  extract_lets +lift dc de bad streams links halyard
  have hs : streams.MemOk := h.foldl fun h => h.streamSide.streamSide
  have hl : links.MemOk := hs.foldl fun h => h.meshSideUp.meshSideUp.when fun h => h.failLink
  clear_value links
  have hh : halyard.MemOk := hl.failHal.ite hl.halSide.halSide
  exact hh.coupleSide.coupleSide

theorem State.MemOk.dropRequests (h : s.MemOk) {c} : (s.dropRequests c).MemOk :=
  h.withRequests.foldl fun h => h.endRequest

theorem State.MemOk.renumber (h : s.MemOk) {c} : (s.renumber c).MemOk := h

theorem Memory.foldl_zero_wf {m : Memory} {l : List Nat} {a b : Nat → Nat} (h : m.wf = true) :
    (l.foldl (fun m k => m.zero (a k) (b k)) m).wf = true :=
  List.foldlRecOn (motive := fun m : Memory => m.wf = true) _ _ h fun _ hm _ _ => Memory.zero_wf _ _ _ hm

theorem State.MemOk.wipe (h : s.MemOk) {c} : (s.wipe c).MemOk := by
  unfold State.wipe
  extract_lets +lift moves s1 spare mine s2 m s3
  have h1 : s1.MemOk := h.dropRequests
  have h2 : s2.MemOk := h1
  have h3 : s3.MemOk := h2.withMem (Memory.foldl_zero_wf (Memory.foldl_zero_wf h2.engine))
  clear_value s3
  exact h3.foldl fun h => h.dmaFinish.ite h

theorem State.MemOk.layCluster (h : s.MemOk) {ds c l} : (s.layCluster ds c l).MemOk :=
  (h.setCluster.setMrouter.fset.ite h.setCluster).foldl (fun h => h.setRouter.ite h)

theorem State.MemOk.layOut (h : s.MemOk) {c} : (s.layOut c).MemOk :=
  (h.wipe.foldl (fun h => h.layCluster)).when (fun h => h.setBay)

theorem State.MemOk.setServed (h : s.MemOk) {c} : (s.setServed c).MemOk :=
  h.foldl (fun h => h.foldl (fun h => h.setPresent))

theorem State.MemOk.countJoined (h : s.MemOk) : s.countJoined.MemOk := h.fset

theorem State.MemOk.closeSide (h : s.MemOk) {c d} : (s.closeSide c d).MemOk :=
  ((h.foldl (fun h => h.streamSide)).foldl (fun h => h.failLink)).halSide

theorem State.MemOk.join (h : s.MemOk) {c} : (s.join c).MemOk := by
  unfold State.join
  extract_lets +lift _ s1 s2 s3 s4 s5 s6
  have h4 : s4.MemOk := (h.setCanton.renumber.updMgmt fun _ => by rfl).mapRouters.mapTiles
  clear_value s4
  have h5 : s5.MemOk := by
    refine h4.foldl fun h => ?_
    split
    exacts [h, h.openSeam.ite h.closeSide]
  have h6 : s6.MemOk := h5.fset.steer
  clear_value s6
  exact (h6.mapChange fun h => h.setServed).countJoined.buildEtree

theorem State.MemOk.degrade (h : s.MemOk) : s.degrade.MemOk := h.setEngine.ite ((h.updHost fun _ => by rfl).ite h)

theorem State.MemOk.recheck (h : s.MemOk) : s.recheck.MemOk := h.setEngine.ite ((h.updHost fun _ => by rfl).ite h)

theorem State.MemOk.dropRegs (h : s.MemOk) {c} : (s.dropRegs c).MemOk := h

theorem State.MemOk.dropWires (h : s.MemOk) {c} : (s.dropWires c).MemOk := by
  unfold State.dropWires
  exact h.withMesh

theorem State.MemOk.powerOff (h : s.MemOk) {c} : (s.powerOff c).MemOk := by
  unfold State.powerOff
  extract_lets +lift x s1 s2 s3 s4 b s5 p _ s6 s7 en s8 s9 s10
  have h1 : s1.MemOk := h.dropWires
  have h2 : s2.MemOk := (h1.clampAll.ite h1.cutAll).wipe.fset
  have h3 : s3.MemOk := h2.mapChange fun h => h.clearPresent.setCanton
  have h4 : s4.MemOk := h3.dropRegs.updMgmt fun _ => rfl
  have h5 : s5.MemOk := (h4.setBay.updMem fun h => Memory.zero_wf _ _ _ h).ite h4
  have h6 : s6.MemOk := h5
  have h7 : s7.MemOk := h6.ite h6.tpLost
  have h8 : s8.MemOk := (h7.fset.ite h7).ite h5
  have h9 : s9.MemOk := h8.fset.fset
  have h10 : s10.MemOk := h9.ite h9.fset.fset
  clear_value s10
  exact h10.steer.countJoined.buildEtree

end Sys2Proof.Machine
end

section
/-! SUPPORT. The canonical form of the byte memories, kept: clocks. -/
namespace Sys2Proof.Machine

variable {s t : State} {x y : TX} {q : HostIf} {v : Saved}

theorem State.MemOk.halt (h : s.MemOk) {cause} : (s.halt cause).MemOk :=
  h.ite (h.ite (h.updHost fun _ => by rfl)).setEngine

theorem State.MemOk.unhalt (h : s.MemOk) : s.unhalt.MemOk := h.setEngine.ite h

theorem State.MemOk.changeover (h : s.MemOk) {target} : (s.changeover target).MemOk := h.fset.fset.fset

theorem State.MemOk.native (h : s.MemOk) {target e} : (s.native target e).MemOk := by
  refine h.fset.fset.ite (h.fset.fset.ite (h.switchEnd.ite (h.switchEnd.ite (h.switchEnd.ite ?_))))
  split
  · exact h.changeover.switchEnd
  · exact h.loseReady.switchEnd
  · exact h.changeover.switchEnd.ite h.loseReady.refFail.switchEnd

theorem State.MemOk.askSwitch (h : s.MemOk) {target legacy} : (s.askSwitch target legacy).MemOk := h.fset.fset

theorem State.MemOk.legacy (h : s.MemOk) {target edges} : (s.legacy target edges).MemOk :=
  h.fset.fset.ite (h.fset.fset.ite (h.withRefcyc.fset.fset.finc.switchEnd.ite h.fset.fset.fset))

theorem State.MemOk.execNativeSwitch (h : s.MemOk) {target e} : NextOk (execNativeSwitch target e s) :=
  h.askSwitch.native.next

theorem State.MemOk.execLegacySwitch (h : s.MemOk) {target edges} : NextOk (execLegacySwitch target edges s) :=
  h.askSwitch.legacy.next

theorem State.MemOk.tick (h : s.MemOk) : s.tick.MemOk := h.ite h

theorem State.MemOk.execLegacyNoClock (h : s.MemOk) : NextOk (execLegacyNoClock s) := (h.noClock.ite h).next

theorem State.MemOk.execSteerLock (h : s.MemOk) {trim err} : NextOk (execSteerLock trim err s) :=
  h.next.ite h.fset.fset.fset.next

theorem State.MemOk.judge (h : s.MemOk) {src count} : (s.judge src count).MemOk :=
  (h.fset.fset.fset.ite h.fset.fset).ite (h.fset.loseReady.when (fun h => h.refLost))

theorem State.MemOk.firstReference (h : s.MemOk) : s.firstReference.MemOk := (h.updMgmt fun _ => by rfl).native

theorem State.MemOk.laterTp (h : s.MemOk) : s.laterTp.MemOk :=
  (h.firstReference.ite h).ite ((h.updMgmt fun _ => by rfl).native.ite h)

theorem State.MemOk.execCandidateWindow (h : s.MemOk) {xtal tp locked} :
    NextOk (execCandidateWindow xtal tp locked s) :=
  h.next.ite (h.judge.judge.ite h.judge.loseReady).laterTp.next

theorem State.MemOk.execCandidateNoEdge (h : s.MemOk) {tp} : NextOk (execCandidateNoEdge tp s) :=
  (h.loseReady.refLost.ite h.loseReady).next

theorem State.MemOk.execRefFail (h : s.MemOk) : NextOk (execRefFail s) :=
  h.noClock.next.ite (h.next.ite h.loseReady.refFail.next)

theorem State.MemOk.xtalFail (h : s.MemOk) {cause} : (s.xtalFail cause).MemOk :=
  (h.updMgmt fun _ => by rfl).fset.fset.fset.loseReady.loseReady.report

theorem State.MemOk.execMgtXtalFail (h : s.MemOk) : NextOk (execMgtXtalFail s) := (h.ite h.xtalFail).next

theorem State.MemOk.toCrystal (h : s.MemOk) : s.toCrystal.MemOk := (h.updMgmt fun _ => by rfl).fset.fset

theorem State.MemOk.execCrystalJudgeWindow (h : s.MemOk) {count} : NextOk (Machine.execCrystalJudgeWindow count s) := by
  unfold Machine.execCrystalJudgeWindow
  extract_lets +lift n t
  have ht : t.MemOk := h.updMgmt fun _ => rfl
  exact (ht.toCrystal.ite ht).next.ite ((h.updMgmt fun _ => by rfl).next.ite h.xtalFail.next)

theorem State.MemOk.execMgtCrystalReturn (h : s.MemOk) : NextOk (execMgtCrystalReturn s) := (h.toCrystal.ite h).next

theorem State.MemOk.setPtx (h : s.MemOk) {p b} : (s.setPtx p b).MemOk := h.putBit

theorem State.MemOk.linkLost (h : s.MemOk) {p st} : (s.linkLost p st).MemOk := h.linkDown.finc.fset.portRec.tpLost

theorem State.MemOk.execLinkLoss (h : s.MemOk) {p} : NextOk (execLinkLoss p s) := h.linkLost.report.next.ite h.next

theorem State.MemOk.execPortTxClockFail (h : s.MemOk) {p} : NextOk (execPortTxClockFail p s) :=
  h.next.ite (h.setPtx.finc.linkLost.ite (h.setPtx.finc.unless (fun h => h.linkDown))).report.next

theorem State.MemOk.ptxRestart (h : s.MemOk) {p ok} : (s.ptxRestart p ok).MemOk :=
  (h.putBit.setPtx.when (fun h => h.linkDown)).ite h.putBit

theorem State.MemOk.execPtxRestart (h : s.MemOk) {p ok} : NextOk (execPtxRestart p ok s) := h.ptxRestart.next

theorem State.MemOk.setBayFail (h : s.MemOk) {b v} : (s.setBayFail b v).MemOk := h.putBit

theorem State.MemOk.execBayClockFail (h : s.MemOk) {b} : NextOk (execBayClockFail b s) :=
  h.next.ite h.putBit.setBayFail.finc.report.degrade.next

theorem State.MemOk.bayRestart (h : s.MemOk) {b ok} : (s.bayRestart b ok).MemOk :=
  h.setBayFail.putBit.fset.recheck.ite h.putBit

theorem State.MemOk.execBayClockRestart (h : s.MemOk) {b ok} : NextOk (execBayClockRestart b ok s) :=
  h.bayRestart.next

theorem State.MemOk.execPcieRefclkLoss (h : s.MemOk) : NextOk (execPcieRefclkLoss s) :=
  h.next.ite (h.updHost fun _ => by rfl).fset.fset.fset.fset.report.halt.next

theorem State.MemOk.execMeshClockFail (h : s.MemOk) {c window} : NextOk (execMeshClockFail c window s) :=
  h.next.ite h.stopAt.dropWires.cutAll.setCanton.fset.steer.countJoined.finc.report.degrade.buildEtree.next

theorem State.MemOk.execClockRatioChange (h : s.MemOk) {c} : NextOk (execClockRatioChange c s) :=
  h.next.ite h.fset.setCanton.fset.fset.next

theorem State.MemOk.execCouplingLost (h : s.MemOk) {c d} : NextOk (execCouplingLost c d s) :=
  (h.cut.steer.buildEtree.ite h).next

theorem State.MemOk.thermEvent (h : s.MemOk) : s.thermEvent.MemOk := (h.updMgmt fun _ => by rfl).fset

end Sys2Proof.Machine
end

section
/-! SUPPORT. The canonical form of the byte memories, kept: what applying a transaction entry does. -/
namespace Sys2Proof.Machine

variable {s t : State} {x y : TX} {q : HostIf} {v : Saved}

theorem State.MemOk.ueDisable (h : s.MemOk) {p} : (s.ueDisable p).MemOk := h.ueStop.stepReset.fset.setPort

theorem State.MemOk.ueEnable (h : s.MemOk) {p} : (s.ueEnable p).MemOk := h.setUe.stepReset.fset.fset.setPort

theorem State.MemOk.portApplied (h : s.MemOk) {s' es p} : (s.portApplied s' es p).MemOk := by
  unfold State.portApplied
  extract_lets +lift was is_ wrote down link _ wxt ue _ hp cmd gx
  have hdown : down.MemOk := h.linkDown.fset
  have hlink : link.MemOk := h.ite (h.fset.tpLost.ite (hdown.ite hdown.tpLost))
  clear_value link
  have hwxt : wxt.MemOk := hlink.ite (hlink.setPort.noteTxbuf.ite hlink.setPort)
  clear_value wxt
  have hue : ue.MemOk := hwxt.ueDisable.ite (hwxt.ueEnable.ite hwxt)
  clear_value ue
  have hhp : hp.MemOk := hue.setPort.fset.ite hue
  clear_value hp
  have hcmd : cmd.MemOk := (hhp.ueBusy.ite (hhp.setReg.ite hhp)).ite hhp
  clear_value cmd
  have hgx : gx.MemOk := hcmd.ite (hcmd.gxArrive.ite hcmd.gxEnd)
  clear_value gx
  exact hgx.ite hgx.settle

theorem State.MemOk.applyCanton (h : s.MemOk) {es c} : (s.applyCanton es c).MemOk :=
  (h.foldl fun h => h.setReg).foldl fun h => h.portApplied

end Sys2Proof.Machine
end

section
/-! SUPPORT. The canonical form of the byte memories, kept: power-on, the wave, bays and ports. -/
namespace Sys2Proof.Machine

variable {s t : State} {x y : TX} {q : HostIf} {v : Saved}

theorem State.MemOk.enter (h : s.MemOk) {st} : (s.enter st).MemOk := (h.updHost fun _ => by rfl).ite h.setEngine

theorem State.MemOk.fault (h : s.MemOk) {cause} : (s.fault cause).MemOk := h.setEngine

theorem State.MemOk.bootTport (h : s.MemOk) : s.bootTport.MemOk := by
  unfold State.bootTport
  split
  exacts [h.fset, h]

theorem State.MemOk.nonVolatile (h : s.MemOk) {c} : (s.nonVolatile c).MemOk := ⟨rfl, h.host, h.flash⟩

theorem State.MemOk.straps (h : s.MemOk) {n} : (s.straps n).MemOk := h.fset.fset.fset

theorem State.MemOk.hoistBoot (h : s.MemOk) {p} : (s.hoistBoot p).MemOk := by
  refine .fset ?_
  split
  exacts [h.fset.fset.ledger, h.fset.fset.ledger.report, (h.fset.fset.ledger.updMgmt fun _ => by rfl).fset.bootTport]

theorem State.MemOk.hoistOn (h : s.MemOk) {p} : (s.hoistOn p).MemOk := by
  unfold State.hoistOn
  extract_lets +lift trip s1 tripped now _ timed seen strapped
  have hcold : s1.MemOk := h.nonVolatile
  have htripped : tripped.MemOk := (hcold.updMgmt fun _ => by rfl).fset.ite hcold
  have htimed : timed.MemOk := htripped.withErr
  have hseen : seen.MemOk := htimed.updMgmt fun _ => rfl
  have hstrapped : strapped.MemOk := hseen.straps.fset
  clear_value strapped
  exact hstrapped.hoistBoot.ite hstrapped.fault

theorem State.MemOk.execHoistPowerOn (h : s.MemOk) {p} : NextOk (execHoistPowerOn p s) := (h.ite h.hoistOn).next

theorem State.MemOk.mainOff (h : s.MemOk) : s.mainOff.MemOk := by
  unfold State.mainOff
  extract_lets +lift regs m t
  have ht : t.MemOk := ⟨rfl, h.host, h.flash⟩
  clear_value t
  exact ht.setEngine.fset.bootTport

theorem State.MemOk.ensignBoot (h : s.MemOk) : s.ensignBoot.MemOk :=
  (h.fset.updMgmt fun _ => by rfl).laterTp.ite h.fset.fault

theorem State.MemOk.mainClose (h : s.MemOk) {rail osc} : (s.mainClose rail osc).MemOk := by
  unfold State.mainClose
  extract_lets +lift closed good
  have hclosed : closed.MemOk := (h.updMgmt fun _ => by rfl).fset
  have hgood : good.MemOk := (hclosed.updMgmt fun _ => by rfl).updHost fun _ => rfl
  clear_value closed good
  exact hclosed.fault.ite (hgood.fault.ite hgood.fset.steer.ensignBoot)

theorem State.MemOk.enSample (h : s.MemOk) {inputOk} : (s.enSample inputOk).MemOk := h.updMgmt fun _ => rfl

theorem State.MemOk.execPwrEnSample (h : s.MemOk) {high inputOk rail osc} :
    NextOk (Machine.execPwrEnSample high inputOk rail osc s) := by
  unfold Machine.execPwrEnSample
  extract_lets +lift sampled m low counted
  have hsampled : sampled.MemOk := (h.updMgmt fun _ => by rfl).ite h.enSample
  have hcounted : counted.MemOk := h.updMgmt fun _ => rfl
  have hlow : ∀ {s}, s.MemOk → (low s).MemOk := fun h => h.updMgmt fun _ => rfl
  clear_value low counted
  exact h.next.ite ((hsampled.mainClose.ite hsampled).next.ite (hlow (hcounted.mainOff.fset.ite hcounted)).next)

theorem State.MemOk.execUndervoltage (h : s.MemOk) : NextOk (execUndervoltage s) := (h.mainOff.fset.ite h).next

theorem State.MemOk.execAuxFail (h : s.MemOk) : NextOk (execAuxFail s) := h.nonVolatile.fset.next

theorem State.MemOk.found (h : s.MemOk) {c src cls act w} : (s.found c src cls act w).MemOk := h.setCanton.ledger

theorem State.MemOk.loadFuses (h : s.MemOk) {c} : (s.loadFuses c).2.MemOk := by
  unfold State.loadFuses
  dsimp only
  split
  · exact h.updMgmt fun _ => rfl
  · split
    exacts [(h.updMgmt fun _ => by rfl).fset, (h.updMgmt fun _ => by rfl)]

theorem State.MemOk.takeDefects (h : s.MemOk) {c} : (s.takeDefects c).MemOk := h.setCanton.fset.ite h.setCanton

theorem State.MemOk.repairLanes (h : s.MemOk) {c ls} : (s.repairLanes c ls).MemOk := h.foldl (fun h => h.found.ite h)

theorem State.MemOk.marchTest (h : s.MemOk) {c ws} : (s.marchTest c ws).MemOk := (h.foldl (fun h => h.found)).fset

theorem State.MemOk.katTest (h : s.MemOk) {c sites} : (s.katTest c sites).MemOk :=
  (h.foldl (fun h => h.found.report)).fset

theorem State.MemOk.laneTest (h : s.MemOk) {c ls} : (s.laneTest c ls).MemOk := h.foldl (fun h => h.found.ite h)

theorem State.MemOk.failStep (h : s.MemOk) {c step} : (s.failStep c step).MemOk := h.fset.fset.fset

theorem State.MemOk.layAndJoin (h : s.MemOk) {c w} : (s.layAndJoin c w).MemOk :=
  h.fset.fset.layOut.laneTest.join.fset.fset.fset

theorem State.MemOk.testAndJoin (h : s.MemOk) {c w} : (s.testAndJoin c w).MemOk :=
  h.failStep.ite (h.failStep.ite (h.repairLanes.marchTest.failStep.ite (h.repairLanes.marchTest.katTest.failStep.ite
      h.repairLanes.marchTest.katTest.layAndJoin)))

theorem State.MemOk.lockAndJoin (h : s.MemOk) {c w} : (s.lockAndJoin c w).MemOk :=
  h.testAndJoin.ite (h.failStep.ite (by split; exacts [h.fset.testAndJoin, h.failStep]))

theorem State.MemOk.bring (h : s.MemOk) {c w} : (s.bring c w).MemOk :=
  h.failStep.ite (h.loadFuses.failStep.ite (h.loadFuses.takeDefects.failStep.ite
      (h.loadFuses.takeDefects.failStep.ite h.loadFuses.takeDefects.lockAndJoin)))

theorem State.MemOk.endWave (h : s.MemOk) : s.endWave.MemOk := h.fset.fset.fault.ite h.fset.fset.enter.fset

theorem State.MemOk.startWave (h : s.MemOk) : s.startWave.MemOk :=
  (h.firstReference.ite h).enter.fset.updMgmt fun _ => rfl

theorem State.MemOk.execWaveSlotStart (h : s.MemOk) {c w} : NextOk (execWaveSlotStart c w s) :=
  h.next.ite (((((h.startWave.ite h).updMgmt fun _ => by rfl).fset.bring.when (fun h => h.endWave)).next.ite h.next).ite
      (((h.updMgmt fun _ => by rfl).bring.when (fun h => h.endWave)).next.ite h.next))

theorem State.MemOk.execBayTrain (h : s.MemOk) {b lanes} : NextOk (execBayTrain b lanes s) :=
  ((h.fset.foldl (fun h => h.badLane)).foldl (fun h => h.failBay)).next.ite h.next

theorem State.MemOk.execBayReady (h : s.MemOk) {b} : NextOk (execBayReady b s) :=
  (h.updMem (fun h => Memory.zero_wf _ _ _ h)).setBay.fset.fset.recheck.next.ite h.next

theorem State.MemOk.shieldRef (h : s.MemOk) {p} : (s.shieldRef p).MemOk :=
  ((h.updMgmt fun _ => by rfl).native.loseReady.ite (h.updMgmt fun _ => by rfl).loseReady.refFail).ite h

theorem State.MemOk.bootPort (h : s.MemOk) {p} : (s.bootPort p).MemOk :=
  h.report.ite ((((h.foldl (fun h => h.setReg)).when (fun h => h.shieldRef)).portApplied).updMgmt fun _ => by rfl)

theorem State.MemOk.bootApplied (h : s.MemOk) : s.bootApplied.MemOk := h.fset

theorem State.MemOk.execPortInit (h : s.MemOk) {p ok} : NextOk (Machine.execPortInit p ok s) := by
  unfold Machine.execPortInit
  extract_lets +lift c next tried booted init en
  have htried : tried.MemOk := (h.updMgmt fun _ => by rfl).ite h
  have hinit : init.MemOk := htried.bootPort.updMgmt fun _ => rfl
  clear_value tried init
  exact htried.next.ite (htried.report.next.ite hinit.fset.fset.bootApplied.recheck.next)

theorem State.MemOk.clearCounts (h : s.MemOk) : s.clearCounts.MemOk :=
  (h.foldl (fun h => h.setReg)).mapClusters.mapRouters.updMgmt fun _ => rfl

theorem State.MemOk.meshSweep (h : s.MemOk) {links} : (s.meshSweep links).MemOk :=
  ((h.mapChange (fun h => h)).foldl (fun h => h.wptUpdate)).unless (fun h => (h.foldl (fun h => h.failLink)).foldl
      (fun h => h.wptUpdate))

theorem State.MemOk.execEngineCheck (h : s.MemOk) {k} : NextOk (execEngineCheck k s) :=
  h.next.ite (State.MemOk.next (.enter (.fset (.bootApplied (.fset (.fset (.fset
    (h.enter.fset.meshSweep.engineRound.clearCounts.updMgmt fun _ => by rfl))))))))

theorem State.MemOk.rejoinEnd (h : s.MemOk) {c} : (s.rejoinEnd c).MemOk := h.fset.recheck.ite h.fset.powerOff.fset

theorem State.MemOk.disown (h : s.MemOk) {c} : (s.disown c).MemOk := by
  unfold State.disown
  dsimp only
  split
  exacts [h.mapClusters.setSlice, h.mapClusters]

theorem State.MemOk.execRejoin (h : s.MemOk) {c w} : NextOk (execRejoin c w s) := by
  refine h.next.ite (h.fset.next.ite ((h.disown.failStep.rejoinEnd.ite (h.disown.laneTest.join.rejoinEnd.ite
      ?_)).next.ite (h.disown.bring.rejoinEnd.next.ite h.fset.next)))
  split
  exacts [h.disown.fset.laneTest.join.rejoinEnd, h.disown.failStep.rejoinEnd]

end Sys2Proof.Machine
end

section
/-! SUPPORT. The canonical form of the byte memories, kept: handshakes, runs and the end of slices. -/
namespace Sys2Proof.Machine

variable {s t : State} {x y : TX} {q : HostIf} {v : Saved}

theorem State.MemOk.hear (h : s.MemOk) {c op} : (s.hear c op).2.MemOk := h.takePennant

theorem State.MemOk.receive (h : s.MemOk) {c op} {f : QMsg → State → State}
    (hf : ∀ {m s}, s.MemOk → (f m s).MemOk) :
    (s.receive c op f).MemOk := by
  unfold State.receive
  split
  exacts [hf (h.hear.got ‹_›), h.hear.got ‹_›]

theorem State.MemOk.hearAck (h : s.MemOk) {c} : (s.hearAck c).2.MemOk := h.takePennant

theorem State.MemOk.tell (h : s.MemOk) {n m} : (s.tell n m).MemOk := h.foldl (fun h => h.sendPennant)

theorem State.MemOk.runSlice (h : s.MemOk) {d} : (s.runSlice d).MemOk :=
  h.complete.ite h.invalidate.mapClusters.setSlice.tell

theorem State.MemOk.execRun (h : s.MemOk) {r} : NextOk (execRun r s) := (h.perform (fun h => h.runSlice)).next

theorem State.MemOk.endRun (h : s.MemOk) {n d q} : (s.endRun n d q).MemOk := h.mapTiles.setSlice.complete

theorem State.MemOk.runSucceeded (h : s.MemOk) {n} : (s.runSucceeded n).MemOk := h

theorem State.MemOk.started (h : s.MemOk) {n c} : (s.started n c).MemOk := by
  unfold State.started
  dsimp only
  split
  exacts [h, h.setSlice.runSucceeded.complete.ite h.setSlice]

theorem State.MemOk.execResume (h : s.MemOk) {c} : NextOk (execResume c s) :=
  (h.receive (fun h => h.ite ((h.setCanton.when (fun h => h.answer)).when (fun h => h.mapTiles.started)))).next

theorem State.MemOk.execEndFlagDone (h : s.MemOk) {n} : NextOk (execEndFlagDone n s) := by
  unfold Machine.execEndFlagDone
  dsimp only
  split
  exacts [h.next, h.next.ite h.setRound.endRun.runSucceeded.next]

theorem State.MemOk.execRunTimeout (h : s.MemOk) {n} : NextOk (execRunTimeout n s) := by
  unfold Machine.execRunTimeout
  split
  exacts [h.next.ite h.endRun.next, h.next]

theorem State.MemOk.hostFail (h : s.MemOk) {d} : (s.hostFail d).MemOk := h.fset.complete

theorem State.MemOk.handshake (h : s.MemOk) {n rc} : (s.handshake n rc).MemOk := h.setSlice.tell

theorem State.MemOk.sliceStopped (h : s.MemOk) {n rc} : (s.sliceStopped n rc).MemOk := by
  unfold State.sliceStopped
  dsimp only
  split
  · split
    exacts [h.setSlice.load, h.setSlice]
  · exact h.unload.complete
  · exact h.unload

theorem State.MemOk.stopFor (h : s.MemOk) {n goal d} : (s.stopFor n goal d).MemOk := h.sliceStopped.ite h.handshake

theorem State.MemOk.loadOver (h : s.MemOk) {d img fixed} : (s.loadOver d img fixed).MemOk := h.stopFor.ite h.load

theorem State.MemOk.execLoadImage (h : s.MemOk) {r ok late} : NextOk (execLoadImage r ok late s) := by
  refine (h.perform (fun h => ?_)).next
  dsimp only
  split
  · exact h.loadOver.ite h.hostFail
  · exact h.readRows.loadOver.ite h.readRows.complete
  · exact h.loadOver

theorem State.MemOk.execUnload (h : s.MemOk) {r} : NextOk (execUnload r s) :=
  (h.perform (fun h => h.stopFor.ite h.complete)).next

theorem State.MemOk.reconfigure (h : s.MemOk) {d} : (s.reconfigure d).MemOk := by
  refine h.complete.ite (h.complete.ite ?_)
  split
  exacts [h.complete, h.complete.ite (h.mapRouters.ite h.mapRouters.mapTiles).setSlice.handshake]

theorem State.MemOk.execReconfigureDrain (h : s.MemOk) {r} : NextOk (execReconfigureDrain r s) :=
  (h.perform (fun h => h.reconfigure)).next

theorem State.MemOk.execReconfigurePurge (h : s.MemOk) {r} : NextOk (execReconfigurePurge r s) :=
  (h.perform (fun h => h.reconfigure)).next

theorem State.MemOk.switchSlice (h : s.MemOk) {n rc} : (s.switchSlice n rc).MemOk := by
  unfold State.switchSlice
  dsimp only
  split
  · exact h
  · exact (h.mapTiles.foldl (fun h => h.writeRec)).clearHal.writeHal.setHalAgents.invalidate.setSlice.tell

theorem State.MemOk.finishReconf (h : s.MemOk) {n rc} : (s.finishReconf n rc).MemOk := by
  unfold State.finishReconf
  dsimp only
  split
  exacts [h.setSlice.tell.complete, h.setSlice.tell]

theorem State.MemOk.leave (h : s.MemOk) {n} : (s.leave n).MemOk := h.setSlice.ite h

theorem State.MemOk.shift (h : s.MemOk) {c} : (s.shift c).2.MemOk := by
  unfold State.shift
  dsimp only
  split
  · exact h
  · split
    · split
      · exact h
      · split
        exacts [h.loadImage.setSlice, h.loadImage.leave]
    · exact h.leave

theorem State.MemOk.planOff (h : s.MemOk) {c thermal} : (s.planOff c thermal).MemOk :=
  h.powerOff.setCanton.degrade.when (fun h => h.thermEvent.report)

theorem State.MemOk.vacate (h : s.MemOk) {c} : (s.vacate c).2.MemOk := (h.mapChange (fun h => h.clearPresent)).shift

theorem State.MemOk.planDrained (h : s.MemOk) {n c thermal} : (s.planDrained n c thermal).MemOk := by
  unfold State.planDrained
  extract_lets +lift x q t u
  have ht : t.MemOk := h.setSlice.vacate.planOff
  clear_value t
  exact ht.setSlice.stopSlice.ite (ht.unless fun h => h.mapClusters).setSlice.tell

theorem State.MemOk.planNote (h : s.MemOk) {c} : (s.planNote c).MemOk := h.setCanton

theorem State.MemOk.plannedOff (h : s.MemOk) {c thermal} : (s.plannedOff c thermal).MemOk := by
  unfold State.plannedOff
  dsimp only
  split
  · exact (h.planNote.ite h).planOff
  · exact (h.planNote.ite h).vacate.planOff.ite ((h.planNote.ite h).when (fun h => h.handshake))

theorem State.MemOk.execPlannedPowerOff (h : s.MemOk) {c thermal} : NextOk (execPlannedPowerOff c thermal s) :=
  (h.plannedOff.ite h).next

theorem State.MemOk.proceed (h : s.MemOk) {n rc} : (s.proceed n rc).MemOk := by
  refine h.ite ((h.switchSlice.ite h.sliceStopped).ite (h.setSlice.tell.ite (.ite ?_ h.finishReconf)))
  split
  exacts [h.planDrained, h.switchSlice]

theorem State.MemOk.advance (h : s.MemOk) {c a} : (s.advance c a).MemOk :=
  (h.setSlice.ite h).ite (by split; exacts [h, h.setSlice.ite (h.ite h.setSlice.proceed)])

theorem State.MemOk.lookAgain (h : s.MemOk) {c} : (s.lookAgain c).MemOk := by
  unfold State.lookAgain
  split
  · split
    exacts [h.ite h.proceed, h]
  · exact h

theorem State.MemOk.execQuiesceAck (h : s.MemOk) {c} : NextOk (execQuiesceAck c s) := by
  unfold Machine.execQuiesceAck
  split
  exacts [(h.hearAck.got ‹_›).advance.next, (h.hearAck.got ‹_›).lookAgain.next]

theorem State.MemOk.execDrainTimeout (h : s.MemOk) {n} : NextOk (execDrainTimeout n s) := by
  unfold Machine.execDrainTimeout
  dsimp only
  split
  · exact h.next
  · split
    exacts [h.next, h.next.ite h.mapTiles.mapRouters.setSlice.tell.complete.next]

theorem State.MemOk.restReply (h : s.MemOk) {c} : (s.restReply c).MemOk := h.setCanton.answer.ite h

theorem State.MemOk.execQuiesceStop (h : s.MemOk) {c} : NextOk (execQuiesceStop c s) :=
  (h.receive (fun h => h.mapTiles.setCanton.ite h)).restReply.next

theorem State.MemOk.execQuiesceDrain (h : s.MemOk) {c} : NextOk (execQuiesceDrain c s) :=
  (h.receive (fun h => h.setCanton)).next

theorem State.MemOk.execCantonDrained (h : s.MemOk) {c} : NextOk (execCantonDrained c s) :=
  h.mapTiles.setCanton.answer.next.ite h.next

theorem State.MemOk.execDrainArrival (h : s.MemOk) {c} : NextOk (execDrainArrival c s) :=
  h.mapTiles.setCanton.answer.next.ite h.next

theorem State.MemOk.execQuiesceConfirm (h : s.MemOk) {c} : NextOk (execQuiesceConfirm c s) :=
  (h.receive (fun h => h.answer)).next

theorem State.MemOk.switchCanton (h : s.MemOk) {c epoch w} : (s.switchCanton c epoch w).MemOk :=
  (h.withTiles.foldl (fun h => h.tellProbe)).mapRouters.setCanton

theorem State.MemOk.execQuiesceSwitch (h : s.MemOk) {c} : NextOk (execQuiesceSwitch c s) :=
  (h.receive (fun h => h.setCanton.switchCanton)).next

theorem State.MemOk.execQuiesceSwitchPurge (h : s.MemOk) {c} : NextOk (Machine.execQuiesceSwitchPurge c s) := by
  refine State.MemOk.next (h.receive fun h => ?_)
  refine State.MemOk.setCanton (.setSlice (.mapClusters ?_))
  exact List.foldlRecOn (motive := fun p : State × Nat => p.1.MemOk) _ _ h.setCanton.switchCanton
    fun _ hp _ _ => hp.setTile

end Sys2Proof.Machine
end

section
/-! SUPPORT. The canonical form of the byte memories, kept: deadlock and spill. -/
namespace Sys2Proof.Machine

variable {s t : State} {x y : TX} {q : HostIf} {v : Saved}

theorem State.MemOk.execProbe (h : s.MemOk) {t} : NextOk (execProbe t s) := by
  unfold Machine.execProbe
  split
  · exact (h.takePennant.got ‹_›).next
  · split
    exacts [(h.takePennant.got ‹_›).next, (h.takePennant.got ‹_›).setSlice.next]

theorem State.MemOk.spillStop (h : s.MemOk) {n k kind cls status r} : (s.spillStop n k kind cls status r).MemOk :=
  h.setSlice.report.stopSlice

theorem State.MemOk.execSpillToPool (h : s.MemOk) {t q} : NextOk (execSpillToPool t q s) := by
  unfold Machine.execSpillToPool
  dsimp only
  split
  · exact h.next
  · split
    · exact (h.updMem (fun h => Memory.putRow_wf _ _ _ _ h)).setTile.setCluster.pendMore.clusterEvent.finc.next
    · exact h.next

theorem State.MemOk.execSpillReinject (h : s.MemOk) {t q} : NextOk (Machine.execSpillReinject t q s) := by
  unfold Machine.execSpillReinject
  dsimp only
  split
  · exact h.next
  · split
    · exact h.next
    · refine h.next.ite (.ite ?_ h.parityWords.setTile.setCluster.clusterEvent.spillEnd.next)
      split
      exacts [h.parityWords.setCluster.spillStop.next, h.parityWords.setCluster.next]

theorem State.MemOk.execSpillExhausted (h : s.MemOk) {k} : NextOk (execSpillExhausted k s) := by
  unfold Machine.execSpillExhausted
  dsimp only
  split
  exacts [h.next, h.next.ite h.setCluster.setSlice.spillStop.next]

theorem State.MemOk.execDeadlockConfirm (h : s.MemOk) {n} : NextOk (execDeadlockConfirm n s) := by
  unfold Machine.execDeadlockConfirm
  dsimp only
  split
  · exact h.next
  · refine h.next.ite (h.setSlice.spillStop.next.ite ?_)
    split
    · exact h.setSlice.spillStop.next
    · exact h.setSlice.setSlice.spillStop.next.ite h.setSlice.setSlice.setCluster.setSlice.finc.next

end Sys2Proof.Machine
end

section
/-! SUPPORT. The canonical form of the byte memories, kept: reads and writes of the BAR0 registers. -/
namespace Sys2Proof.Machine

variable {s t : State} {x y : TX} {q : HostIf} {v : Saved}

theorem State.MemOk.setCounter (h : s.MemOk) {k x} : (s.setCounter k x).MemOk := h.updMgmt fun _ => rfl

theorem State.MemOk.bufStep (h : s.MemOk) : s.bufStep.MemOk := h.fset

theorem State.MemOk.ringStop (h : s.MemOk) {r rst} : (s.ringStop r rst).MemOk :=
  h.setRing.ite ((h.setRing.ringLeaves.ite h.setRing).completeAll.unless (fun h => h.setRing))

theorem State.MemOk.ringStart (h : s.MemOk) {r} : (s.ringStart r).MemOk := h.setRing.ite h.setRing.ringError

theorem State.MemOk.ringCfg (h : s.MemOk) {r mask v} : (s.ringCfg r mask v).MemOk :=
  (h.setRing.ite h).ringStop.ite ((h.setRing.ite h).ringStop.ite ((h.setRing.ite h).when (fun h => h.ringStart)))

theorem State.MemOk.errRingOff (h : s.MemOk) : s.errRingOff.MemOk := h.fset.fset

theorem State.MemOk.errRingCfg (h : s.MemOk) {mask v} : (s.errRingCfg mask v).MemOk :=
  h.setReg.ite (h.setReg.setReg.withErr.ite h.setReg.errRingOff)

theorem State.MemOk.errRingHead (h : s.MemOk) {h'} : (s.errRingHead h').MemOk := (h.errRingOff.ite h).ite h.fset

theorem State.MemOk.putBits (h : s.MemOk) {off mask v} : (s.putBits off mask v).MemOk := h.setReg

theorem State.MemOk.writeHif (h : s.MemOk) {off mask v} : (s.writeHif off mask v).MemOk :=
  (h.setRing.ite h).ite ((h.setRing.ite h).ite (h.ringCfg.ite ((h.updHostBy (fun h => h.withMsix.unmask)).ite
      h.putBits)))

theorem State.MemOk.writeClu (h : s.MemOk) {c o mask v} : (s.writeClu c o mask v).MemOk := by
  unfold State.writeClu
  split
  · exact h
  · exact h.setCluCfg.ite (h.setCluster.ite (h.setCluster.ite ((h.ite h.setCluster).ite (h.setCluster.ite
      (h.setCluster.ite h)))))

theorem State.MemOk.writeSpill (h : s.MemOk) {c mask v} : (s.writeSpill c mask v).MemOk := h.ite h.setCluster

theorem State.MemOk.writeCan (h : s.MemOk) {c off mask v} : (s.writeCan c off mask v).MemOk :=
  h.writeSpill.ite (h.writeClu.ite (h.ite (h.putBits.askRetrain.ite ((h.ite h.setRegionClass.setRegion).ite
      (h.putBits.ite ((h.putBits.setCanton.ite h.putBits).ite h.putBits))))))

theorem State.MemOk.writePort (h : s.MemOk) {p off mask v} : (s.writePort p off mask v).MemOk :=
  (h.putBits.retrain.ite h.putBits).ite h.putBits

theorem State.MemOk.writeClkEn (h : s.MemOk) {mask v} : (s.writeClkEn mask v).MemOk := h.setReg.tpLost.ite h.setReg

theorem State.MemOk.writeCap (h : s.MemOk) {mask v src} : (s.writeCap mask v src).MemOk := h.putBits.fset.ite h

theorem State.MemOk.writeCnt (h : s.MemOk) {off mask v} : (s.writeCnt off mask v).MemOk := by
  unfold State.writeCnt
  split
  exacts [h, (h.setCounter.ite h).ite h.setCounter]

theorem State.MemOk.writePlane (h : s.MemOk) {off mask v src} : (s.writePlane off mask v src).MemOk :=
  h.putBits.ite <| (h.ite (h.putBits.ite h.putBits.loseReady)).ite <| h.ite <| h.writeCap.ite <|
    (h.ite h.putBits).ite <| h.errRingCfg.ite <| (h.errRingHead.ite h).ite <| h.putBits.ite <| h.putBits.ite <|
    h.writeCnt.ite <| ((h.updMgmt fun _ => by rfl).ite h).ite <| h.writeClkEn.ite h.putBits

theorem State.MemOk.writeSliceStat (h : s.MemOk) {n mask v} : (s.writeSliceStat n mask v).MemOk := h.setSlice

theorem State.MemOk.writeReg (h : s.MemOk) {off mask v src} : (s.writeReg off mask v src).MemOk := by
  refine h.ite ?_
  split
  · exact h.writePort
  · exact h.writeCan
  · exact (h.writeSliceStat.ite h).ite (h.writeHif.ite (h.putBits.ite h.writePlane))

theorem State.MemOk.stage (h : s.MemOk) {off mask v} : (s.stage off mask v).MemOk :=
  (h.updHost fun _ => by rfl).fset.ite h.fset

theorem State.MemOk.stageBar (h : s.MemOk) {off mask v} : (s.stageBar off mask v).MemOk :=
  h.ite (h.stage.ite (h.ite h.fset))

theorem State.MemOk.barWrite (h : s.MemOk) {off n v} : (s.barWrite off n v).MemOk :=
  h.ite (h.fset.ite (h.stageBar.ite (h.fset.ite h.writeReg.stageBar)))

theorem State.MemOk.execRegisterWrite (h : s.MemOk) {off n v} : NextOk (execRegisterWrite off n v s) :=
  h.barWrite.next

theorem State.MemOk.execStagedRegWrite (h : s.MemOk) {off n v} : NextOk (execStagedRegWrite off n v s) :=
  h.barWrite.next

theorem State.MemOk.execRingEnable (h : s.MemOk) {v} : NextOk (execRingEnable v s) := (h.ringCfg.ite h).next

theorem State.MemOk.execRingDisable (h : s.MemOk) : NextOk (execRingDisable s) := (h.ringCfg.ite h).next

theorem State.MemOk.execRingReset (h : s.MemOk) : NextOk (execRingReset s) := (h.ringStop.ite h).next

theorem State.MemOk.execErrRingEnable (h : s.MemOk) {v} : NextOk (execErrRingEnable v s) := (h.errRingCfg.ite h).next

theorem State.MemOk.execErrRingHead (h : s.MemOk) {v} : NextOk (execErrRingHead v s) := (h.errRingHead.ite h).next

end Sys2Proof.Machine
end

section
/-! SUPPORT. The canonical form of the byte memories, kept: the host interface. -/
namespace Sys2Proof.Machine

variable {s t : State} {x y : TX} {q : HostIf} {v : Saved}

theorem State.MemOk.updTxn (h : s.MemOk) {f} : (s.updTxn f).MemOk := h.updHost fun _ => rfl

theorem State.MemOk.foreign (h : s.MemOk) : s.foreign.MemOk := h.fset.ite h

theorem State.MemOk.txnOpen (h : s.MemOk) {r} : (s.txnOpen r).MemOk := by
  unfold State.txnOpen
  dsimp only
  split
  · exact h.updTxn.fset.fset.fset.fset.fset.fset.fset
  · exact h.updTxn.fset.fset.fset.fset.fset.fset.fset.fset

theorem State.MemOk.txnBegin (h : s.MemOk) {r} : (s.txnBegin r).2.MemOk := by
  unfold State.txnBegin
  split
  · exact h
  · split
    exacts [h.fset, h.txnOpen]

theorem State.MemOk.execTxnBegin (h : s.MemOk) {r} : NextOk (execTxnBegin r s) := by
  unfold Machine.execTxnBegin
  split
  · exact (h.txnBegin.ite h.txnBegin.foreign).next.ite h.next
  · exact (h.perform (fun h => h.txnBegin.complete)).next

theorem State.MemOk.txnStage (h : s.MemOk) {off v} : (s.txnStage off v).MemOk := h.writeReg.stage

theorem State.MemOk.execTxnWrite (h : s.MemOk) {r} : NextOk (execTxnWrite r s) :=
  (h.perform (fun h => (h.foldl (fun h => h.txnStage)).complete.ite h.complete)).next

theorem State.MemOk.execTxnAbort (h : s.MemOk) {r} : NextOk (execTxnAbort r s) := by
  unfold Machine.execTxnAbort
  split
  · exact h.next.ite (h.txnDrop.ite h.foreign).next
  · exact (h.perform (fun h => h.txnDrop.complete.ite h.complete)).next

theorem State.MemOk.txnEnd (h : s.MemOk) {st status} : (s.txnEnd st status).MemOk := by
  unfold State.txnEnd
  dsimp only
  split
  exacts [h.fset.updTxn.txnSignal.complete, h.fset.updTxn.txnSignal]

theorem State.MemOk.txnForget (h : s.MemOk) : s.txnForget.MemOk := h.foldl (fun h => h.setCanton)

theorem State.MemOk.txnRollback (h : s.MemOk) {cause canton off} : (s.txnRollback cause canton off).MemOk :=
  h.txnForget.fset.updTxn.txnEnd

theorem State.MemOk.txnDecide (h : s.MemOk) : s.txnDecide.MemOk :=
  h.ite (by split; exacts [h.txnRollback, h.txnEnd.ite h.updTxn])

theorem State.MemOk.txnStart (h : s.MemOk) {d} : (s.txnStart d).MemOk :=
  h.fset.updTxn.txnRollback.ite (h.fset.updTxn.txnRollback.ite (h.fset.updTxn.foldl (fun h =>
      h.sendPennant)).txnDecide)

theorem State.MemOk.execTxnCommit (h : s.MemOk) {r} : NextOk (execTxnCommit r s) := by
  unfold Machine.execTxnCommit
  split
  · exact h.next.ite (h.txnStart.ite h.foreign).next
  · exact (h.perform (fun h => h.txnStart.ite h.complete)).next

theorem State.MemOk.execTxnStage (h : s.MemOk) {c} : NextOk (execTxnStage c s) := by
  refine .next ?_
  split
  exacts [h.takePennant, h.takePennant.when (fun h => h.setCanton.sendPennant)]

theorem State.MemOk.execTxnVote (h : s.MemOk) {c} : NextOk (execTxnVote c s) := by
  refine .next ?_
  split
  exacts [h.takePennant, h.takePennant.when (fun h => h.updTxn.txnDecide)]

theorem State.MemOk.execTxnVoteTimeout (h : s.MemOk) : NextOk (execTxnVoteTimeout s) :=
  .ite (by split <;> exact h.txnRollback.next) h.next

theorem State.MemOk.execTxnApply (h : s.MemOk) {c} : NextOk (execTxnApply c s) :=
  h.next.ite ((h.applyCanton.ite h.fset).setCanton.updTxn.when (fun h => h.txnEnd)).next

theorem State.MemOk.execDescNop (h : s.MemOk) {r} : NextOk (execDescNop r s) := (h.perform (fun h => h.complete)).next

theorem State.MemOk.execFence (h : s.MemOk) {r} : NextOk (execFence r s) := (h.perform (fun h => h.fences)).next

theorem State.MemOk.execQuery (h : s.MemOk) {r} : NextOk (execQuery r s) :=
  (h.perform (fun h => h.hostWrite.complete)).next

theorem State.MemOk.execCounterSweep (h : s.MemOk) {r} : NextOk (execCounterSweep r s) :=
  (h.perform (fun h => h.complete.ite h.hostWrite.complete)).next

theorem State.MemOk.savedRows (h : v.st.MemOk) {a n} : (v.rows a n).st.MemOk := by
  induction n generalizing v a with
  | zero => exact h
  | succ n ih => exact ih h.fetchRow

theorem State.MemOk.savedAdd (h : v.st.MemOk) {bs} : (v.add bs).st.MemOk := h

theorem State.MemOk.savedFoldl {α : Type} {l : List α} {f : Saved → α → Saved} (h : v.st.MemOk)
    (hf : ∀ {v a}, v.st.MemOk → (f v a).st.MemOk) : (l.foldl f v).st.MemOk :=
  List.foldlRecOn (motive := fun v : Saved => v.st.MemOk) l f h fun _ hv _ _ => hf hv

theorem State.MemOk.savedTile (h : v.st.MemOk) {t} : (v.tile t).st.MemOk := by
  refine h.savedFoldl fun h => ?_
  dsimp only
  split
  exacts [h.savedAdd.savedRows, h.savedAdd.savedAdd]

theorem State.MemOk.savedCluster (h : v.st.MemOk) {k} : (v.cluster k).st.MemOk :=
  h.savedFoldl fun h => h.savedAdd.savedRows

theorem State.MemOk.writeRows (h : s.MemOk) {a bs n} : (s.writeRows a bs n).2.2.MemOk := by
  induction n generalizing s a bs with
  | zero => exact h
  | succ n ih =>
    unfold State.writeRows
    dsimp only
    split
    exacts [h.writeRow, ih h.writeRow]

theorem State.MemOk.save (h : s.MemOk) {d} : (s.save d).MemOk := by
  unfold State.save
  extract_lets +lift x ts v size head a done failed q z
  have hts : (ts.foldl Saved.tile ⟨[], false, false, false, s⟩).st.MemOk :=
    State.MemOk.savedFoldl (v := ⟨[], false, false, false, s⟩) h fun h => h.savedTile
  have hv : v.st.MemOk := hts.savedFoldl fun h => h.savedCluster
  have hq : q.2.2.MemOk := hv.writeRows
  have hz : z.2.2.MemOk := hq.writeRows
  clear_value v q z
  exact h.complete.ite (hv.complete.ite (.ite hv.hostWrite.hostWrite.ensignDone.complete
    (hq.complete.ite (hz.complete.ite hz.ensignDone.complete))))

theorem State.MemOk.execCheckpointSave (h : s.MemOk) {r late} : NextOk (execCheckpointSave r late s) :=
  (h.perform (fun h => h.save.ite h.complete)).next

theorem State.MemOk.restore (h : s.MemOk) {d bs fixed} : (s.restore d bs fixed).MemOk := by
  unfold State.restore
  split
  · exact h.complete
  · exact ((h.foldl (fun h => h.writeRec)).foldl (fun h => h.putMem)).ensignDone.complete

theorem State.MemOk.execCheckpointRestore (h : s.MemOk) {r ok late} : NextOk (execCheckpointRestore r ok late s) :=
  (h.perform (fun h => h.complete.ite ((h.restore.ite h.hostFail).ite (h.readRows.restore.ite
      h.readRows.complete)))).next

theorem State.MemOk.execIrqTimeExpiry (h : s.MemOk) {r} : NextOk (execIrqTimeExpiry r s) := (h.ringSignal.ite h).next

theorem State.MemOk.bar4Rows (h : s.MemOk) {a n} : (s.bar4Rows a n).2.MemOk := by
  induction n generalizing s a with
  | zero => exact h
  | succ n ih => exact ih h.readRow

theorem State.MemOk.execBar4Write (h : s.MemOk) : NextOk (execBar4Write s) := (h.fset.ite h).next

theorem State.MemOk.accEnd (h : s.MemOk) {err off} : (s.accEnd err off).MemOk := h.fset.ite h.fset.fset.fset

theorem State.MemOk.accFault (h : s.MemOk) {tile w isolated} : (s.accFault tile w isolated).MemOk := h.refuse

theorem State.MemOk.accStep (h : s.MemOk) : s.accStep.MemOk := h.fset.ite h

theorem State.MemOk.accDo (h : s.MemOk) {q} : (s.accDo q).MemOk := by
  refine .accEnd ?_
  split
  exacts [(h.accFault.ite h).when (fun h => h.putSpace.hostDirty), h.accFault.ite h]

theorem State.MemOk.accBusy (h : s.MemOk) : s.accBusy.MemOk := h.fset

theorem State.MemOk.accPop (h : s.MemOk) {ok} : (s.accPop ok).MemOk := by
  unfold State.accPop
  split
  exacts [h, ((h.updHost fun _ => by rfl).accDo.ite (h.updHost fun _ => by rfl).accEnd).accBusy]

theorem State.MemOk.execTileAccWrite (h : s.MemOk) {v} : NextOk (execTileAccWrite v s) :=
  h.next.ite (h.accEnd.next.ite (h.updHost fun _ => by rfl).accStep.accBusy.next)

theorem State.MemOk.execTileAccWriteDone (h : s.MemOk) {ok} : NextOk (execTileAccWriteDone ok s) := h.accPop.next

theorem State.MemOk.accRead (h : s.MemOk) {t space w} : (s.accRead t space w).2.MemOk := by
  unfold State.accRead
  dsimp only
  split
  · split
    · exact h
    · split
      · split
        · exact (h.updMem (fun h => Memory.putWord_wf _ _ _ _ h)).rowReport.countRow
        · exact h.rowReport
      · split
        exacts [h, h.rowReport.countRow]
  · split
    · exact h
    · split
      exacts [h.putSpace.countRow.report, h.report]

theorem State.MemOk.readsBack (h : s.MemOk) {bs} : (s.readsBack bs).MemOk := h.updHost fun _ => rfl

theorem State.MemOk.tileAccRead (h : s.MemOk) {late} : (s.tileAccRead late).2.MemOk := by
  unfold State.tileAccRead
  refine .ite1 h.accEnd ?_
  extract_lets +lift t space phys tile u e
  have hu : u.MemOk := .accStep (h.foldl fun h => h.accPop)
  clear_value u
  refine .ite1 hu.accEnd ?_
  split
  exacts [hu.accRead.accEnd, hu.accFault.accEnd, hu.accEnd]

theorem State.MemOk.execTileAccRead (h : s.MemOk) {late} : NextOk (execTileAccRead late s) :=
  h.next.ite h.tileAccRead.readsBack.next

theorem State.MemOk.bar0Read (h : s.MemOk) {o late} : (s.bar0Read o late).2.MemOk := by
  unfold State.bar0Read
  split
  · exact h.tileAccRead
  · split
    · exact h.bufStep
    · split
      exacts [h, h.fset]

theorem State.MemOk.bar4 (h : s.MemOk) {o n} : (s.bar4 o n).2.MemOk := by
  unfold State.bar4
  exact h.bar4Rows.pairSnd

theorem State.MemOk.execBar4Read (h : s.MemOk) {sp o n late} : NextOk (execBar4Read sp o n late s) := by
  unfold Machine.execBar4Read
  dsimp only
  split
  · exact (h.readsBack.ite h).next
  · exact h.next.ite (h.fset.readsBack.next.ite h.bar0Read.readsBack.next)
  · exact h.next.ite (h.fset.readsBack.next.ite h.readsBack.next)
  · exact h.next.ite h.bar4.readsBack.next

theorem State.MemOk.clearReg (h : s.MemOk) {off} : (s.clearReg off).MemOk := h.setReg

theorem State.MemOk.unloadAll (h : s.MemOk) : s.unloadAll.MemOk := h.foldl (fun h => h.setSlice.stopFor.ite h)

theorem State.MemOk.execWarmReset (h : s.MemOk) {perst} : NextOk (Machine.execWarmReset perst s) := by
  unfold Machine.execWarmReset
  refine h.next.ite ?_
  extract_lets +lift open_ _ s1 s2 s3 s4 _ s5 s6 s7 s8
  have h1 : s1.MemOk := h.updHost fun _ => rfl
  clear_value s1
  have h2 : s2.MemOk := h1.foldl fun h => h.clearReg
  clear_value s2
  have h4 : s4.MemOk := h2.fset.fset.fset.fset.fset
  clear_value s4
  have h5 : s5.MemOk := h4.withErr
  clear_value s5
  have h6 : s6.MemOk := h5.txnDrop.ite h5
  clear_value s6
  have h7 : s7.MemOk := h6.mapClusters
  clear_value s7
  have h8 : s8.MemOk := h7.withRequests
  clear_value s8
  exact h8.unloadAll.unhalt.next

theorem State.MemOk.setPcie (h : s.MemOk) {q} : (s.setPcie q).MemOk :=
  (h.updHost fun _ => by rfl).fset.fset.fset.updHostBy (fun h => h.flush.unmask)

theorem State.MemOk.execPciePowerState (h : s.MemOk) {q} : NextOk (execPciePowerState q s) := (h.setPcie.ite h).next

end Sys2Proof.Machine
end

section
/-! SUPPORT. The canonical form of the byte memories, kept: the error-record path, retirement, recovery. -/
namespace Sys2Proof.Machine

variable {s t : State} {x y : TX} {q : HostIf} {v : Saved}

theorem State.MemOk.followUp (h : s.MemOk) {r replay classify action} : (s.followUp r replay classify action).MemOk :=
  h.report

theorem State.MemOk.classify (h : s.MemOk) {r replay outcome} : (s.classify r replay outcome).MemOk :=
  h.ledger.followUp.when (fun h => h)

theorem State.MemOk.classifyFetched (h : s.MemOk) {r} : (s.classifyFetched r).MemOk := h.classify.ite h

theorem State.MemOk.fetch (h : s.MemOk) {src} : (s.fetch src).MemOk := h.fetchRecs.foldl (fun h => h.classifyFetched)

theorem State.MemOk.execErrNote (h : s.MemOk) {f} : NextOk (execErrNote f s) :=
  (h.takePennant.fetch.ite (h.takePennant.ite h.takePennant.sendPennant)).next

theorem State.MemOk.errSignal (h : s.MemOk) : s.errSignal.MemOk := h.msi.withErr

theorem State.MemOk.writeErr (h : s.MemOk) {r} : (s.writeErr r).MemOk :=
  h.hostWrite.hostWrite.fset.unless (fun h => h.errSignal.ite (h.withErr.errSignal.ite h))

theorem State.MemOk.execErrRingWrite (h : s.MemOk) : NextOk (execErrRingWrite s) := by
  unfold Machine.execErrRingWrite
  dsimp only
  split
  exacts [h.withErr.fset.writeErr.next.ite h.next, h.next]

theorem State.MemOk.execErrIrqTimer (h : s.MemOk) : NextOk (execErrIrqTimer s) := (h.errSignal.ite h).next

theorem State.MemOk.replayEnd (h : s.MemOk) {q replay} : (s.replayEnd q replay).MemOk := h.withErr.classify

theorem State.MemOk.execReplay (h : s.MemOk) {t reproduced} : NextOk (execReplay t reproduced s) :=
  h.next.ite (.next (by split; exacts [h.fetch.replayEnd, h.fetch]))

theorem State.MemOk.execReplayNotPossible (h : s.MemOk) {t} : NextOk (execReplayNotPossible t s) :=
  .next (by split; exacts [h.replayEnd, h])

theorem State.MemOk.substitute (h : s.MemOk) {k l site i} : (s.substitute k l site i).MemOk := by
  unfold State.substitute
  extract_lets +lift t old key x lb r s1 s2 s3 s4
  have h1 : s1.MemOk := h.setTile.setRouter.setTile
  have h2 : s2.MemOk := h1
  clear_value s2
  exact h2.setCluster.setRouter.updMem fun h => Memory.zero_wf _ _ _ h

theorem State.MemOk.writeTables (h : s.MemOk) {n t tabs} : (s.writeTables n t tabs).MemOk := h.mapRouters

theorem State.MemOk.hole (h : s.MemOk) {c k l} : (s.hole c k l).2.MemOk := (h.mapChange (fun h => h.setPresent)).shift

theorem State.MemOk.retireSite (h : s.MemOk) {c cl l site} : (s.retireSite c cl l site).2.MemOk := by
  unfold State.retireSite
  dsimp only
  split
  · exact h.setCluster.hole
  · split
    · exact h.setCluster.substitute
    · split
      exacts [h.setCluster.substitute.writeTables, h.setCluster.hole]

theorem State.MemOk.copyRow (h : s.MemOk) {a} : (s.copyRow a).MemOk :=
  h.fixWords.ite (h.foldl (fun h => h.ite (h.updMem (fun h => Memory.setMark_wf _ _ _ h))))

theorem State.MemOk.remapTileRow (h : s.MemOk) {c u} : (s.remapTileRow c u).2.MemOk := by
  unfold State.remapTileRow
  dsimp only
  split
  exacts [h.copyRow, h.retireSite]

theorem State.MemOk.remapBankRow (h : s.MemOk) {c u} : (s.remapBankRow c u).2.MemOk := by
  unfold State.remapBankRow
  dsimp only
  split
  · exact h.copyRow.setCluster
  · split
    exacts [h.setCluster.leave, h.setCluster]

theorem State.MemOk.steerSeam (h : s.MemOk) {c d ls} : (s.steerSeam c d ls).2.MemOk := by
  unfold State.steerSeam
  dsimp only
  split
  exacts [h.laneTest, h.laneTest.foldl (fun h => h.streamSide.streamSide.ite h)]

theorem State.MemOk.retireUnit (h : s.MemOk) {q ls} : (s.retireUnit q ls).2.MemOk := by
  unfold State.retireUnit
  extract_lets +lift u r c _ t a _ v
  have ht : t.MemOk := h.withErr
  have ha : a.2.MemOk := .ite1 ht.steerSeam (.ite1 ht.remapTileRow (.ite1 ht.remapBankRow ht.retireSite))
  clear_value a
  have hv : v.MemOk := ha.ite ha.setCanton.ledger
  exact hv.fset.followUp

theorem State.MemOk.execRetire (h : s.MemOk) {ls} : NextOk (execRetire ls s) :=
  .next (by split; exacts [h.retireUnit, h])

theorem State.MemOk.recoverClassify (h : s.MemOk) {r reproduced} : (s.recoverClassify r reproduced).MemOk := by
  unfold State.recoverClassify
  split
  exacts [h.replayEnd, h]

theorem State.MemOk.recoverRetire (h : s.MemOk) {n ls} : (s.recoverRetire n ls).2.MemOk :=
  h.foldl1 (fun h => by split; exacts [h.retireUnit, h])

theorem State.MemOk.reread (h : s.MemOk) {n} : (s.reread n).2.MemOk := by
  unfold State.reread
  dsimp only
  split
  · exact h.readRows
  · split <;> exact h

theorem State.MemOk.recoverUe (h : s.MemOk) {p} : (s.recoverUe p).2.MemOk := by
  unfold State.recoverUe
  split
  · exact h
  · split
    exacts [h, h.ueBusy.rollback.ueEnd]

theorem State.MemOk.recoverRefresh (h : s.MemOk) {p} : (s.recoverRefresh p).MemOk := h.refreshStart.ite h

theorem State.MemOk.recovered (h : s.MemOk) {n phase act ms} : (s.recovered n phase act ms).MemOk :=
  h.fset.fset.fset.fset.when (fun h => h.finc)

theorem State.MemOk.needsHost (h : s.MemOk) {n r ms} : (s.needsHost n r ms).MemOk := h.leave.followUp.recovered

theorem State.MemOk.recoverReload (h : s.MemOk) {n r act ms} : (s.recoverReload n r act ms).MemOk := by
  unfold State.recoverReload
  extract_lets +lift x q l ps faulty u s1 act s2
  have hq : q.2.MemOk := h.reread
  clear_value q
  have hl : l.2.MemOk := hq.loadImage
  clear_value l
  have hu : u.2.MemOk := State.MemOk.foldl1 (p := (true, l.2)) hl fun h => h.recoverUe
  clear_value u
  have h2 : s2.MemOk := (hu.foldl fun h => h.recoverRefresh).followUp.recovered
  clear_value s2
  exact hq.needsHost.ite (hl.needsHost.ite (hu.needsHost.ite (h2.foldl fun h => h.sendHello.ite h)))

theorem State.MemOk.execSliceRecovery (h : s.MemOk) {n reproduced ls ms} :
    NextOk (Machine.execSliceRecovery n reproduced ls ms s) := by
  unfold Machine.execSliceRecovery
  refine h.next.ite ?_
  extract_lets t _
  have ht : t.MemOk := h.foldl fun h => h.fetch
  split
  · exact ht.next
  · extract_lets +lift again u q auto
    have hq : q.2.MemOk := ht.withErr.recoverClassify.recoverRetire
    clear_value q
    exact (hq.needsHost.ite (hq.recoverReload.ite hq.recovered)).next

theorem State.MemOk.supplyLoss (h : s.MemOk) {c retire} : (s.supplyLoss c retire).MemOk :=
  (h.stopAt.powerOff.report.when (fun h => h.setCanton.ledger.fset)).degrade

theorem State.MemOk.execCantonSupplyLoss (h : s.MemOk) {c lost} : NextOk (execCantonSupplyLoss c lost s) :=
  (h.supplyLoss.ite h).next

theorem State.MemOk.abortStarted (h : s.MemOk) : s.abortStarted.MemOk :=
  ((h.foldl (fun h => h.setSlice.ite h)).updHost fun _ => by rfl).completeAll

theorem State.MemOk.execEnsignWatchdog (h : s.MemOk) : NextOk (execEnsignWatchdog s) :=
  h.next.ite (h.abortStarted.fault.report.next.ite (h.abortStarted.updMgmt fun _ => by rfl).halt.report.next)

theorem State.MemOk.execEnsignRestartDone (h : s.MemOk) : NextOk (execEnsignRestartDone s) :=
  ((h.updMgmt fun _ => by rfl).unhalt.ite h).next

theorem State.MemOk.execLedgerPowered (h : s.MemOk) : NextOk (execLedgerPowered s) := h.withErr.ledger.next.ite h.next

theorem State.MemOk.execLedgerRotate (h : s.MemOk) : NextOk (execLedgerRotate s) := h.withErr.next.ite h.next

end Sys2Proof.Machine
end

section
/-! SUPPORT. The canonical form of the byte memories, kept: the management plane. -/
namespace Sys2Proof.Machine

variable {s t : State} {x y : TX} {q : HostIf} {v : Saved}

theorem State.MemOk.flashQueue (h : s.MemOk) {q} : (s.flashQueue q).MemOk := h.updMgmt fun _ => rfl

theorem State.MemOk.respond (h : s.MemOk) {via op status data} : (s.respond via op status data).MemOk := by
  cases via <;> exact h.updMgmt fun _ => rfl

theorem State.MemOk.smbReturn (h : s.MemOk) {bs} : (s.smbReturn bs).MemOk := h.updMgmt fun _ => rfl

theorem State.MemOk.opRegRead (h : s.MemOk) {via off} : (s.opRegRead via off).MemOk :=
  h.respond.ite (h.respond.ite (h.bufStep.ite h).respond)

theorem State.MemOk.opRegWrite (h : s.MemOk) {via off v} : (s.opRegWrite via off v).MemOk :=
  h.writeReg.respond.ite h.respond

theorem State.MemOk.opSensor (h : s.MemOk) {via unit} : (s.opSensor via unit).MemOk :=
  h.respond.ite (h.respond.ite h.respond)

theorem State.MemOk.opRecInfo (h : s.MemOk) {via} : (s.opRecInfo via).MemOk := h.respond

theorem State.MemOk.opRecRead (h : s.MemOk) {via off} : (s.opRecRead via off).MemOk := by
  unfold State.opRecRead
  split <;> exact h.respond

theorem State.MemOk.opRecNext (h : s.MemOk) {via} : (s.opRecNext via).MemOk := h.withErr.respond

theorem State.MemOk.opFlash (h : s.MemOk) {via code a ok write op} : (s.opFlash via code a ok write op).MemOk :=
  h.respond.ite (h.respond.ite (h.respond.ite (h.respond.ite h.flashQueue)))

theorem State.MemOk.opFlashProg (h : s.MemOk) {via a data} : (s.opFlashProg via a data).MemOk := h.opFlash

theorem State.MemOk.opFlashErase (h : s.MemOk) {via a} : (s.opFlashErase via a).MemOk := h.opFlash

theorem State.MemOk.opFlashRead (h : s.MemOk) {via a n} : (s.opFlashRead via a n).MemOk := h.opFlash

theorem State.MemOk.opChallenge (h : s.MemOk) {via nonce} : (s.opChallenge via nonce).MemOk :=
  (h.updMgmt fun _ => by rfl).respond

theorem State.MemOk.opUnlock (h : s.MemOk) {via resp} : (s.opUnlock via resp).MemOk := by
  unfold State.opUnlock
  extract_lets +lift ok t u
  have ht : t.MemOk := h.updMgmt fun _ => rfl
  have hu : u.MemOk := ht.finc
  exact h.respond.ite (ht.fset.fset.respond.ite (hu.fset.ite hu).respond)

theorem State.MemOk.opLock (h : s.MemOk) {via} : (s.opLock via).MemOk := h.fset.respond

theorem State.MemOk.opIdent (h : s.MemOk) {via} : (s.opIdent via).MemOk := h.respond

theorem State.MemOk.operate (h : s.MemOk) {via op xs nonce} : (s.operate via op xs nonce).MemOk := by
  unfold State.operate
  dsimp only
  split
  · exact h.opIdent.ite h.respond
  · exact h.opSensor.ite h.respond
  · exact h.opRecInfo.ite h.respond
  · exact h.opRecRead.ite h.respond
  · exact h.opRecNext.ite h.respond
  · exact h.opRegRead.ite h.respond
  · exact h.opRegWrite.ite h.respond
  · exact h.opFlashProg.ite h.respond
  · exact h.opFlashErase.ite h.respond
  · exact h.opFlashRead.ite h.respond
  · exact h.opChallenge.ite h.respond
  · exact h.opUnlock.ite h.respond
  · exact h.opLock.ite h.respond
  · exact h.respond

theorem State.MemOk.mgmtRequest (h : s.MemOk) {via} {f : State → State} (hf : ∀ {s}, s.MemOk → (f s).MemOk) :
    (s.mgmtRequest via f).MemOk := by
  cases via with
  | smbus _ => exact h.ite ((h.updMgmt fun _ => by rfl).ite (hf (h.updMgmt fun _ => by rfl)))
  | uart => exact (hf h).ite h
  | tap => exact h

theorem State.MemOk.execSmbReq (h : s.MemOk) {bs pec nonce} : NextOk (execSmbReq bs pec nonce s) := by
  unfold Machine.execSmbReq
  split
  exacts [h.next.ite (h.fset.next.ite (h.mgmtRequest (fun h => h.operate)).next), h.next]

theorem State.MemOk.execSmbRsp (h : s.MemOk) : NextOk (execSmbRsp s) := h.smbReturn.next

theorem State.MemOk.execSmbMstat (h : s.MemOk) : NextOk (execSmbMstat s) := h.smbReturn.next

theorem State.MemOk.execAlertResponse (h : s.MemOk) : NextOk (execAlertResponse s) :=
  (h.smbReturn.updMgmt fun _ => by rfl).next.ite (h.updMgmt fun _ => by rfl).next

theorem State.MemOk.execIdent (h : s.MemOk) {via} : NextOk (execIdent via s) :=
  (h.mgmtRequest (fun h => h.opIdent)).next

theorem State.MemOk.execSensor (h : s.MemOk) {via unit} : NextOk (execSensor via unit s) :=
  (h.mgmtRequest (fun h => h.opSensor)).next

theorem State.MemOk.execRecInfo (h : s.MemOk) {via} : NextOk (execRecInfo via s) :=
  (h.mgmtRequest (fun h => h.opRecInfo)).next

theorem State.MemOk.execRecRead (h : s.MemOk) {via off} : NextOk (execRecRead via off s) :=
  (h.mgmtRequest (fun h => h.opRecRead)).next

theorem State.MemOk.execRecNext (h : s.MemOk) {via} : NextOk (execRecNext via s) :=
  (h.mgmtRequest (fun h => h.opRecNext)).next

theorem State.MemOk.execRegRead (h : s.MemOk) {via off} : NextOk (execRegRead via off s) :=
  (h.mgmtRequest (fun h => h.opRegRead)).next

theorem State.MemOk.execRegWrite (h : s.MemOk) {via off v} : NextOk (execRegWrite via off v s) :=
  (h.mgmtRequest (fun h => h.opRegWrite)).next

theorem State.MemOk.execFlashProg (h : s.MemOk) {via a data} : NextOk (execFlashProg via a data s) :=
  (h.mgmtRequest (fun h => h.opFlashProg)).next

theorem State.MemOk.execFlashErase (h : s.MemOk) {via a} : NextOk (execFlashErase via a s) :=
  (h.mgmtRequest (fun h => h.opFlashErase)).next

theorem State.MemOk.execFlashRead (h : s.MemOk) {via a n} : NextOk (execFlashRead via a n s) :=
  (h.mgmtRequest (fun h => h.opFlashRead)).next

theorem State.MemOk.tapTake (h : s.MemOk) {i} : (s.tapTake i).MemOk := (h.updMgmt fun _ => by rfl).ite h

theorem State.MemOk.debugRequest (h : s.MemOk) {via i} {f : State → State} (hf : ∀ {s}, s.MemOk → (f s).MemOk) :
    (s.debugRequest via i f).MemOk := by
  cases via with
  | smbus _ => exact h.mgmtRequest hf
  | uart => exact h.mgmtRequest hf
  | tap => exact (hf h.tapTake).ite h

theorem State.MemOk.execDbgChallenge (h : s.MemOk) {via nonce} : NextOk (execDbgChallenge via nonce s) :=
  (h.debugRequest (fun h => h.opChallenge)).next

theorem State.MemOk.execDbgUnlock (h : s.MemOk) {via resp} : NextOk (execDbgUnlock via resp s) :=
  (h.debugRequest (fun h => h.opUnlock)).next

theorem State.MemOk.execDbgLock (h : s.MemOk) {via} : NextOk (execDbgLock via s) :=
  (h.mgmtRequest (fun h => h.opLock)).next

theorem State.MemOk.execUartLine (h : s.MemOk) {line nonce} : NextOk (execUartLine line nonce s) := by
  unfold Machine.execUartLine
  split
  · exact h.next
  · refine (h.mgmtRequest (fun h => ?_)).next
    split
    · exact h.respond.ite (by split; exacts [h.operate, h.respond])
    · exact h.respond

theorem State.MemOk.execExtest (h : s.MemOk) : NextOk (execExtest s) := h.tapTake.next

theorem State.MemOk.execDbgacc (h : s.MemOk) : NextOk (execDbgacc s) := h.tapTake.next

theorem State.MemOk.flashCmd (h : s.MemOk) {write op a} : (s.flashCmd write op a).MemOk :=
  h.ite (h.fset.ite h.flashQueue.fset)

theorem State.MemOk.execFlashCmdProgram (h : s.MemOk) : NextOk (execFlashCmdProgram s) := h.flashCmd.next

theorem State.MemOk.execFlashCmdErase (h : s.MemOk) : NextOk (execFlashCmdErase s) := h.flashCmd.next

theorem State.MemOk.execFlashCmdRead (h : s.MemOk) : NextOk (execFlashCmdRead s) := h.flashCmd.next

theorem State.MemOk.flashBarEnd (h : s.MemOk) {status data read} : (s.flashBarEnd status data read).MemOk :=
  (h.fset.fset.updMgmt fun _ => by rfl).ite h.fset.fset

theorem State.MemOk.flashEnd (h : s.MemOk) {q status data read} : (s.flashEnd q status data read).MemOk := by
  unfold State.flashEnd
  split
  exacts [h.flashBarEnd, h.respond]

/-- Writing bytes of flash keeps the canonical form. -/
theorem putFlash_wf {m : List Host.Cell} {a bs} (h : SMap.wf 0xFF m = true) :
    SMap.wf 0xFF (putFlash m a bs) = true := by
  induction bs generalizing m a with
  | nil => exact h
  | cons b bs ih => exact ih (SMap.put_wf _ _ _ _ h)

theorem State.MemOk.execFlashCommandEnd (h : s.MemOk) {fails} : NextOk (Machine.execFlashCommandEnd fails s) := by
  unfold Machine.execFlashCommandEnd
  split
  · exact h.next
  · refine State.MemOk.next ?_
    split
    · exact (h.updMgmt fun _ => by rfl).flashEnd
    · exact ((h.updMgmt fun _ => by rfl).updFlash (SMap.clear_wf _ _ _ _ h.flash)).flashEnd
    · exact ((h.updMgmt fun _ => by rfl).updFlash (putFlash_wf h.flash)).flashEnd

theorem State.MemOk.execFlashDataAccess (h : s.MemOk) {v} : NextOk (execFlashDataAccess v s) := by
  refine h.next.ite (((h.updHost fun _ => by rfl).ite h).next.ite ?_)
  split
  exacts [(h.updMgmt fun _ => by rfl).bufStep.next, (h.updHost fun _ => by rfl).bufStep.next]

theorem State.MemOk.emergencyOff (h : s.MemOk) {c} : (s.emergencyOff c).MemOk :=
  h.supplyLoss.setCanton.thermEvent.report

theorem State.MemOk.thermalOff (h : s.MemOk) {c} : (s.thermalOff c).MemOk :=
  h.ite (h.emergencyOff.ite (h.plannedOff.ite h))

theorem State.MemOk.sampleCanton (h : s.MemOk) {c temp bayTemp vcore icore} :
    (s.sampleCanton c temp bayTemp vcore icore).MemOk :=
  h.setCanton.thermalOff

theorem State.MemOk.inlet (h : s.MemOk) {t} : (s.inlet t).MemOk :=
  (h.updMgmt fun _ => by rfl).fset.report.ite ((h.updMgmt fun _ => by rfl).ite h)

theorem State.MemOk.execSensorSample (h : s.MemOk) {x} : NextOk (execSensorSample x s) :=
  h.next.ite (by split; exacts [h.sampleCanton.next, (h.updMgmt fun _ => by rfl).inlet.next])

theorem State.MemOk.execThermalStepUp (h : s.MemOk) {c} : NextOk (execThermalStepUp c s) :=
  ((h.ite h.setCanton).when (fun h => h.thermEvent.report)).thermalOff.next.ite h.next

theorem State.MemOk.execThermalStepDown (h : s.MemOk) {c} : NextOk (execThermalStepDown c s) :=
  (h.setCanton.ite h).thermalOff.next

theorem State.MemOk.execThermtrip (h : s.MemOk) {c} : NextOk (Machine.execThermtrip c s) := by
  unfold Machine.execThermtrip
  extract_lets +lift t
  have ht : t.MemOk := (h.updMgmt fun _ => by rfl).fset
  exact h.next.ite ((h.updMgmt fun _ => by rfl).fset.next.ite (ht.thermEvent.report.mainOff.next.ite ht.next))

theorem State.MemOk.setCapReq (h : s.MemOk) {c v} : (s.setCapReq c v).MemOk := h.setCanton

theorem State.MemOk.capView (h : s.MemOk) : s.capView.MemOk := h.fset.fset

theorem State.MemOk.capRaise (h : s.MemOk) {drew} : (s.capRaise drew).MemOk := by
  unfold State.capRaise
  extract_lets t
  have ht : t.MemOk := h.updMgmt fun _ => rfl
  split
  exacts [ht.ite ht.fset.report, ht.foldl fun h => h.setCapReq]

theorem State.MemOk.capLower (h : s.MemOk) : s.capLower.MemOk := by
  unfold State.capLower
  extract_lets t
  have ht : t.MemOk := h.updMgmt fun _ => rfl
  refine ht.ite ?_
  split
  exacts [ht.setCapReq.updMgmt fun _ => rfl, ht]

theorem State.MemOk.execPowerCapTick (h : s.MemOk) {watts drew} : NextOk (Machine.execPowerCapTick watts drew s) := by
  unfold Machine.execPowerCapTick
  extract_lets +lift p t u w
  have ht : t.MemOk := h.fset.fset
  have hu : u.MemOk := ht.updMgmt fun _ => rfl
  clear_value u
  exact h.next.ite (hu.capRaise.ite (hu.capLower.ite (hu.updMgmt fun _ => by rfl))).capView.next

theorem State.MemOk.execPwrCapWrite (h : s.MemOk) {src v} : NextOk (execPwrCapWrite src v s) :=
  .next (by split <;> exact h.writeCap.ite h)

theorem State.MemOk.execCntClear (h : s.MemOk) : NextOk (execCntClear s) := ((h.updMgmt fun _ => by rfl).ite h).next

end Sys2Proof.Machine
end

section
/-! SUPPORT. The canonical form of the byte memories, kept: the tile instructions of flags, BULK and control. -/
namespace Sys2Proof.Machine

variable {s t : State} {x y : TX} {q : HostIf} {v : Saved}

theorem State.MemOk.execSyncArrive (h : s.MemOk) {p f} : NextOk (execSyncArrive p f s) := h.runInstr.next

theorem State.MemOk.execSyncWait (h : s.MemOk) {p flag g} : NextOk (execSyncWait p flag g s) := h.runInstr.next

theorem State.MemOk.execBulkRead (h : s.MemOk) {p f} : NextOk (execBulkRead p f s) := h.runInstr.next

theorem State.MemOk.execBulkWrite (h : s.MemOk) {p f} : NextOk (execBulkWrite p f s) := h.runInstr.next

theorem State.MemOk.execBulkWait (h : s.MemOk) {p btag gr inc} : NextOk (execBulkWait p btag gr inc s) :=
  h.runInstr.next

theorem State.MemOk.execLcSeti (h : s.MemOk) {p lcn wz pd pe imm} : NextOk (execLcSeti p lcn wz pd pe imm s) :=
  h.runInstr.next

theorem State.MemOk.execLcSetg (h : s.MemOk) {p lcn wz pd pe gs} : NextOk (execLcSetg p lcn wz pd pe gs s) :=
  h.runInstr.next

theorem State.MemOk.execLcDec (h : s.MemOk) {p lcn wz pd pe} : NextOk (execLcDec p lcn wz pd pe s) := h.runInstr.next

theorem State.MemOk.execCtlP (h : s.MemOk) {p f} : NextOk (execCtlP p f s) := h.runInstr.next

theorem State.MemOk.execCtlAlu (h : s.MemOk) {p aop gd ga gb} : NextOk (execCtlAlu p aop gd ga gb s) :=
  h.runInstr.next

theorem State.MemOk.execCtlAlui (h : s.MemOk) {p aop gd ga imm} : NextOk (execCtlAlui p aop gd ga imm s) :=
  h.runInstr.next

theorem State.MemOk.execNop (h : s.MemOk) {p drop} : NextOk (execNop p drop s) := h.runInstr.next

end Sys2Proof.Machine
end

section
/-! SUPPORT. The canonical form of the byte memories, kept: the tile instructions of moves and tile memory. -/
namespace Sys2Proof.Machine

variable {s t : State} {x y : TX} {q : HostIf} {v : Saved}

theorem State.MemOk.execMovGG (h : s.MemOk) {p gd gs} : NextOk (execMovGG p gd gs s) := h.runInstr.next

theorem State.MemOk.execMovVV (h : s.MemOk) {p vd vs} : NextOk (execMovVV p vd vs s) := h.runInstr.next

theorem State.MemOk.execMovVIq (h : s.MemOk) {p q qn nf} : NextOk (execMovVIq p q qn nf s) := h.runInstr.next

theorem State.MemOk.execMovGIq (h : s.MemOk) {p gd q} : NextOk (execMovGIq p gd q s) := h.runInstr.next

theorem State.MemOk.execMovLaneG (h : s.MemOk) {p vd gs lane bcast} : NextOk (execMovLaneG p vd gs lane bcast s) :=
  h.runInstr.next

theorem State.MemOk.execMovGLane (h : s.MemOk) {p gd vs lane} : NextOk (execMovGLane p gd vs lane s) :=
  h.runInstr.next

theorem State.MemOk.execMovTableG (h : s.MemOk) {p gs entry} : NextOk (execMovTableG p gs entry s) := h.runInstr.next

theorem State.MemOk.execMovGTable (h : s.MemOk) {p gd entry} : NextOk (execMovGTable p gd entry s) := h.runInstr.next

theorem State.MemOk.execMovi (h : s.MemOk) {p gd high imm} : NextOk (execMovi p gd high imm s) := h.runInstr.next

theorem State.MemOk.execLd (h : s.MemOk) {p f} : NextOk (execLd p f s) := h.runInstr.next

theorem State.MemOk.execLdx (h : s.MemOk) {p f} : NextOk (execLdx p f s) := h.runInstr.next

theorem State.MemOk.execSt (h : s.MemOk) {p f} : NextOk (execSt p f s) := h.runInstr.next

theorem State.MemOk.execSend (h : s.MemOk) {p f} : NextOk (execSend p f s) := h.runInstr.next

end Sys2Proof.Machine
end

section
/-! SUPPORT. The canonical form of the byte memories, kept: GMAC, CLOSE and TREE as commands. -/
namespace Sys2Proof.Machine

variable {s t : State} {x y : TX} {q : HostIf} {v : Saved}

theorem State.MemOk.execGmac (h : s.MemOk) {p f chk} : NextOk (execGmac p f chk s) := h.runInstr.next

theorem State.MemOk.execClose (h : s.MemOk) {p f chk} : NextOk (execClose p f chk s) := h.runInstr.next

theorem State.MemOk.execTree (h : s.MemOk) {p f chk} : NextOk (execTree p f chk s) := h.runInstr.next

end Sys2Proof.Machine
end

section
/-! SUPPORT. The canonical form of the byte memories, kept: the vector unit. -/
namespace Sys2Proof.Machine

variable {s t : State} {x y : TX} {q : HostIf} {v : Saved}

theorem State.MemOk.execVop (h : s.MemOk) {p f} : NextOk (execVop p f s) := h.runInstr.next

theorem State.MemOk.execVsfn (h : s.MemOk) {p f} : NextOk (execVsfn p f s) := h.runInstr.next

theorem State.MemOk.execVred (h : s.MemOk) {p f} : NextOk (execVred p f s) := h.runInstr.next

theorem State.MemOk.execVcvtFrom (h : s.MemOk) {p f} : NextOk (execVcvtFrom p f s) := h.runInstr.next

theorem State.MemOk.execVcvtTo (h : s.MemOk) {p f} : NextOk (execVcvtTo p f s) := h.runInstr.next

end Sys2Proof.Machine
end

section
/-! SUPPORT. The canonical form of the byte memories, kept: every command. -/
namespace Sys2Proof.Machine

variable {s t : State} {x y : TX} {q : HostIf} {v : Saved}

/-- Every command keeps the canonical form. -/
theorem State.MemOk.exec (h : s.MemOk) : ∀ i, NextOk (exec i s)
  | .tileIssueCycle .. => h.execTileIssueCycle
  | .tileStep .. => h.execTileStep
  | .gmac .. => h.execGmac
  | .close .. => h.execClose
  | .tree .. => h.execTree
  | .vop .. => h.execVop
  | .vsfn .. => h.execVsfn
  | .vred .. => h.execVred
  | .vcvtFrom .. => h.execVcvtFrom
  | .vcvtTo .. => h.execVcvtTo
  | .movGG .. => h.execMovGG
  | .movVV .. => h.execMovVV
  | .movVIq .. => h.execMovVIq
  | .movGIq .. => h.execMovGIq
  | .movLaneG .. => h.execMovLaneG
  | .movGLane .. => h.execMovGLane
  | .movTableG .. => h.execMovTableG
  | .movGTable .. => h.execMovGTable
  | .movi .. => h.execMovi
  | .ld .. => h.execLd
  | .ldx .. => h.execLdx
  | .st .. => h.execSt
  | .send .. => h.execSend
  | .syncArrive .. => h.execSyncArrive
  | .syncWait .. => h.execSyncWait
  | .bulkRead .. => h.execBulkRead
  | .bulkWrite .. => h.execBulkWrite
  | .bulkWait .. => h.execBulkWait
  | .lcSeti .. => h.execLcSeti
  | .lcSetg .. => h.execLcSetg
  | .lcDec .. => h.execLcDec
  | .ctlP .. => h.execCtlP
  | .ctlAlu .. => h.execCtlAlu
  | .ctlAlui .. => h.execCtlAlui
  | .nop .. => h.execNop
  | .epochDiscard .. => h.execEpochDiscard
  | .deadlockProbe .. => h.execDeadlockProbe
  | .tileMemSplitWrite .. => h.execTileMemSplitWrite
  | .routerSlotCycle .. => h.execRouterSlotCycle
  | .seamFlitArrive .. => h.execSeamFlitArrive
  | .seamCreditMessage .. => h.execSeamCreditMessage
  | .seamNeighbourLost .. => h.execSeamNeighbourLost
  | .routerTableWrite .. => h.execRouterTableWrite
  | .tableSwitch .. => h.execTableSwitch
  | .meshFlitReceive .. => h.execMeshFlitReceive
  | .meshLinkFail .. => h.execMeshLinkFail
  | .meshOutputArbitrate k o => h.execMeshOutputArbitrate (k := k) (o := o)
  | .readReq .. => h.execReadReq
  | .writeReq .. => h.execWriteReq
  | .readRsp .. => h.execReadRsp
  | .writeAck .. => h.execWriteAck
  | .meshRequestTimeout .. => h.execMeshRequestTimeout
  | .waypointTableUpdate .. => h.execWaypointTableUpdate
  | .quiesceStop .. => h.execQuiesceStop
  | .quiesceDrain .. => h.execQuiesceDrain
  | .cantonDrained .. => h.execCantonDrained
  | .drainArrival .. => h.execDrainArrival
  | .quiesceConfirm .. => h.execQuiesceConfirm
  | .quiesceSwitch .. => h.execQuiesceSwitch
  | .quiesceSwitchPurge .. => h.execQuiesceSwitchPurge
  | .quiesceAck .. => h.execQuiesceAck
  | .resume .. => h.execResume
  | .txnStage .. => h.execTxnStage
  | .txnVote .. => h.execTxnVote
  | .probe .. => h.execProbe
  | .errNote .. => h.execErrNote
  | .halyardRoundDone .. => h.execHalyardRoundDone
  | .halyardLinkRetry .. => h.execHalyardLinkRetry
  | .loadImage .. => h.execLoadImage
  | .run .. => h.execRun
  | .endFlagDone .. => h.execEndFlagDone
  | .runTimeout .. => h.execRunTimeout
  | .reconfigureDrain .. => h.execReconfigureDrain
  | .reconfigurePurge .. => h.execReconfigurePurge
  | .drainTimeout .. => h.execDrainTimeout
  | .unload .. => h.execUnload
  | .deadlockConfirm .. => h.execDeadlockConfirm
  | .spillToPool .. => h.execSpillToPool
  | .spillReinject .. => h.execSpillReinject
  | .spillExhausted .. => h.execSpillExhausted
  | .channelRetrain .. => h.execChannelRetrain
  | .bayRetrain .. => h.execBayRetrain
  | .autoRetrainThreshold .. => h.execAutoRetrainThreshold
  | .bayRegionClassWrite .. => h.execBayRegionClassWrite
  | .reencodeComplete .. => h.execReencodeComplete
  | .prefetchIssue .. => h.execPrefetchIssue
  | .dmaEntryComplete .. => h.execDmaEntryComplete
  | .scrubComplete .. => h.execScrubComplete
  | .wxtGrad .. => h.execWxtGrad
  | .ueGroupApply .. => h.execUeGroupApply
  | .ueApplied .. => h.execUeApplied
  | .wxtCommit .. => h.execWxtCommit
  | .refreshEnd .. => h.execRefreshEnd
  | .ueScan .. => h.execUeScan
  | .ueRollback .. => h.execUeRollback
  | .ueRollfwd .. => h.execUeRollfwd
  | .ueExpelClr .. => h.execUeExpelClr
  | .ueInit .. => h.execUeInit
  | .ueCommandEnd .. => h.execUeCommandEnd
  | .ueEnable .. => h.execUeEnable
  | .wxtExpel .. => h.execWxtExpel
  | .wxtHello .. => h.execWxtHello
  | .wxtWpull .. => h.execWxtWpull
  | .wxtWpush .. => h.execWxtWpush
  | .wxtAck .. => h.execWxtAck
  | .wxtNack .. => h.execWxtNack
  | .ackTimer .. => h.execAckTimer
  | .rtoExpiry .. => h.execRtoExpiry
  | .flowIdleClose .. => h.execFlowIdleClose
  | .helloTimer .. => h.execHelloTimer
  | .regLate .. => h.execRegLate
  | .pfcFrame .. => h.execPfcFrame
  | .pfcRefresh .. => h.execPfcRefresh
  | .esmcPdu .. => h.execEsmcPdu
  | .qlTimeout .. => h.execQlTimeout
  | .neighbourRequest .. => h.execNeighbourRequest
  | .gxRoundDone .. => h.execGxRoundDone
  | .linkUp .. => h.execLinkUp
  | .linkLoss .. => h.execLinkLoss
  | .linkRetrain .. => h.execLinkRetrain
  | .linkTrainTimeout .. => h.execLinkTrainTimeout
  | .sqTailDoorbell .. => h.execSqTailDoorbell
  | .cqHeadDoorbell .. => h.execCqHeadDoorbell
  | .descriptorFetch .. => h.execDescriptorFetch
  | .irqTimeExpiry .. => h.execIrqTimeExpiry
  | .descNop .. => h.execDescNop
  | .dma .. => h.execDma
  | .scrub .. => h.execScrub
  | .fence .. => h.execFence
  | .checkpointSave .. => h.execCheckpointSave
  | .checkpointRestore .. => h.execCheckpointRestore
  | .counterSweep .. => h.execCounterSweep
  | .query .. => h.execQuery
  | .txnBegin .. => h.execTxnBegin
  | .txnWrite .. => h.execTxnWrite
  | .stagedRegWrite .. => h.execStagedRegWrite
  | .txnCommit .. => h.execTxnCommit
  | .txnAbort .. => h.execTxnAbort
  | .txnVoteTimeout .. => h.execTxnVoteTimeout
  | .txnApply .. => h.execTxnApply
  | .ringEnable .. => h.execRingEnable
  | .ringDisable .. => h.execRingDisable
  | .ringReset .. => h.execRingReset
  | .bar4Read .. => h.execBar4Read
  | .bar4Write .. => h.execBar4Write
  | .tileAccRead .. => h.execTileAccRead
  | .tileAccWrite .. => h.execTileAccWrite
  | .tileAccWriteDone .. => h.execTileAccWriteDone
  | .warmReset .. => h.execWarmReset
  | .pciePowerState .. => h.execPciePowerState
  | .registerWrite .. => h.execRegisterWrite
  | .nativeSwitch .. => h.execNativeSwitch
  | .legacySwitch .. => h.execLegacySwitch
  | .legacyNoClock .. => h.execLegacyNoClock
  | .steerLock .. => h.execSteerLock
  | .candidateWindow .. => h.execCandidateWindow
  | .mgtXtalFail .. => h.execMgtXtalFail
  | .refFail .. => h.execRefFail
  | .portTxClockFail .. => h.execPortTxClockFail
  | .bayClockFail .. => h.execBayClockFail
  | .pcieRefclkLoss .. => h.execPcieRefclkLoss
  | .meshClockFail .. => h.execMeshClockFail
  | .ptxRestart .. => h.execPtxRestart
  | .bayClockRestart .. => h.execBayClockRestart
  | .clockRatioChange .. => h.execClockRatioChange
  | .couplingLost .. => h.execCouplingLost
  | .plannedPowerOff .. => h.execPlannedPowerOff
  | .rejoin .. => h.execRejoin
  | .hoistPowerOn .. => h.execHoistPowerOn
  | .pwrEnSample .. => h.execPwrEnSample
  | .undervoltage .. => h.execUndervoltage
  | .auxFail .. => h.execAuxFail
  | .waveSlotStart .. => h.execWaveSlotStart
  | .bayTrain .. => h.execBayTrain
  | .bayReady .. => h.execBayReady
  | .portInit .. => h.execPortInit
  | .engineCheck .. => h.execEngineCheck
  | .errRingWrite .. => h.execErrRingWrite
  | .errRingHead .. => h.execErrRingHead
  | .errRingEnable .. => h.execErrRingEnable
  | .errIrqTimer .. => h.execErrIrqTimer
  | .replay .. => h.execReplay
  | .replayNotPossible .. => h.execReplayNotPossible
  | .retire .. => h.execRetire
  | .sliceRecovery .. => h.execSliceRecovery
  | .cantonSupplyLoss .. => h.execCantonSupplyLoss
  | .ensignWatchdog .. => h.execEnsignWatchdog
  | .ledgerPowered .. => h.execLedgerPowered
  | .ledgerRotate .. => h.execLedgerRotate
  | .smbReq .. => h.execSmbReq
  | .smbRsp .. => h.execSmbRsp
  | .smbMstat .. => h.execSmbMstat
  | .alertResponse .. => h.execAlertResponse
  | .ident .. => h.execIdent
  | .sensor .. => h.execSensor
  | .recInfo .. => h.execRecInfo
  | .recRead .. => h.execRecRead
  | .recNext .. => h.execRecNext
  | .regRead .. => h.execRegRead
  | .regWrite .. => h.execRegWrite
  | .flashProg .. => h.execFlashProg
  | .flashErase .. => h.execFlashErase
  | .flashRead .. => h.execFlashRead
  | .dbgChallenge .. => h.execDbgChallenge
  | .dbgUnlock .. => h.execDbgUnlock
  | .dbgLock .. => h.execDbgLock
  | .uartLine .. => h.execUartLine
  | .extest .. => h.execExtest
  | .dbgacc .. => h.execDbgacc
  | .flashCmdProgram .. => h.execFlashCmdProgram
  | .flashCmdErase .. => h.execFlashCmdErase
  | .flashCmdRead .. => h.execFlashCmdRead
  | .flashCommandEnd .. => h.execFlashCommandEnd
  | .flashDataAccess .. => h.execFlashDataAccess
  | .sensorSample .. => h.execSensorSample
  | .thermalStepUp .. => h.execThermalStepUp
  | .thermalStepDown .. => h.execThermalStepDown
  | .thermtrip .. => h.execThermtrip
  | .powerCapTick .. => h.execPowerCapTick
  | .pwrCapWrite .. => h.execPwrCapWrite
  | .cntClear .. => h.execCntClear
  | .clusterClassWrite .. => h.execClusterClassWrite
  | .pfcPauseExpiry .. => h.execPfcPauseExpiry
  | .mgtCrystalReturn .. => h.execMgtCrystalReturn
  | .crystalJudgeWindow .. => h.execCrystalJudgeWindow
  | .candidateNoEdge .. => h.execCandidateNoEdge
  | .ensignRestartDone .. => h.execEnsignRestartDone

end Sys2Proof.Machine
end

section
/-! SUPPORT. The canonical form of the byte memories, kept: one step. -/
namespace Sys2Proof.Machine

variable {s t : State} {x y : TX} {q : HostIf} {v : Saved}

theorem State.MemOk.step (h : s.MemOk) : NextOk (step s) := by
  unfold Machine.step
  split
  · exact h.tick.next
  · exact h.withPending.exec _

end Sys2Proof.Machine
end

section
open Sys2Proof.Machine

/-- Settles O5: a step is a cycle or a command, and each operation that they are made of keeps the canonical form. -/
theorem memoriesKeepTheirForm : Obligations.MemoriesKeepTheirForm := fun _ t h => h.step t

end

section
/-! SUPPORT. The decoded operands of R43: what normalisation gives (R45), how large a magnitude each kind of element
brings to it (R46, R56, R57), and that every element of a format other than FP32 is normalised. -/
namespace Sys2Proof.Machine

/-! ### Bit lengths, fields and sign extension -/

/-- The bit length of R45, by the powers of two around the number. -/
theorem bitLen_eq_succ_iff {x l : Nat} : bitLen x = l + 1 ↔ 2 ^ l ≤ x ∧ x < 2 ^ (l + 1) := by
  unfold bitLen
  split
  · next h => simp [h]
  · next h => rw [Nat.add_right_cancel_iff, Nat.log2_eq_iff h]

theorem bitLen_le_of_lt {x n : Nat} (h : x < 2 ^ n) : bitLen x ≤ n := by
  unfold bitLen
  split
  · exact n.zero_le
  · next hx => exact (Nat.log2_lt hx).mpr h

theorem fld_lt (w lo n : Nat) : fld w lo n < 2 ^ n := Nat.mod_lt _ (by positivity)

theorem natAbs_sext_le (x n : Nat) : (sext x (n + 1)).natAbs ≤ 2 ^ n := by
  have hy : x % 2 ^ (n + 1) < 2 ^ (n + 1) := Nat.mod_lt _ (by positivity)
  have hp : (2 : Int) ^ (n + 1) = ((2 ^ (n + 1) : Nat) : Int) := by push_cast; rfl
  unfold sext
  rw [hp, Nat.add_sub_cancel]
  dsimp only
  split <;> omega

/-- The difference of two n-bit integers, as a ZP element takes it (R56). -/
theorem natAbs_sext_sub_sext_le (x y n : Nat) : (sext x (n + 1) - sext y (n + 1)).natAbs ≤ 2 ^ (n + 1) := by
  have hx := natAbs_sext_le x n
  have hy := natAbs_sext_le y n
  omega

/-! ### Normalisation -/

@[simp] theorem normalize_zero (s : Bool) (e : Int) : normalize s 0 e = ⟨0, s, 0, 0⟩ := rfl

theorem normalize_eq {mag l : Nat} (s : Bool) (e : Int) (lo : 2 ^ l ≤ mag) (hi : mag < 2 ^ (l + 1)) :
    normalize s mag e = ⟨1, s, mag * 2 ^ (16 - (l + 1)), e + (l + 1 : Nat) - 1⟩ := by
  have h0 : mag ≠ 0 := (lt_of_lt_of_le (by positivity) lo).ne'
  simp only [normalize, if_neg h0, bitLen_eq_succ_iff.mpr ⟨lo, hi⟩]

/-- A number of at most 16 bits, moved up so that its leading one is bit 15. -/
theorem shift_to_bit15 {mag l : Nat} (hl : l + 1 ≤ 16) (lo : 2 ^ l ≤ mag) (hi : mag < 2 ^ (l + 1)) :
    2 ^ 15 ≤ mag * 2 ^ (16 - (l + 1)) ∧ mag * 2 ^ (16 - (l + 1)) < 2 ^ 16 := by
  have e15 : 2 ^ 15 = 2 ^ l * 2 ^ (16 - (l + 1)) := by rw [← Nat.pow_add]; congr 1; omega
  have e16 : 2 ^ 16 = 2 ^ (l + 1) * 2 ^ (16 - (l + 1)) := by rw [← Nat.pow_add]; congr 1; omega
  rw [e15, e16]
  exact ⟨Nat.mul_le_mul_right _ lo, Nat.mul_lt_mul_of_pos_right hi (by positivity)⟩

/-- The magnitude of a finite operand has its leading one at bit 15 (R43). -/
def Operand.Normalized (o : Operand) : Prop := o.cls = 1 → 2 ^ 15 ≤ o.m ∧ o.m < 2 ^ 16

/-- An operand that is not finite and non-zero is normalised. -/
theorem Operand.Normalized.of_cls {o : Operand} (h : o.cls ≠ 1) : o.Normalized := fun h1 => absurd h1 h

theorem Operand.normalized_zero (s : Bool) : (Operand.zero s).Normalized := .of_cls (by decide : 0 ≠ 1)
theorem Operand.normalized_inf (s : Bool) : (Operand.inf s).Normalized := .of_cls (by decide : 2 ≠ 1)
theorem Operand.normalized_nan : Operand.nan.Normalized := .of_cls (by decide : 3 ≠ 1)

/-- Normalisation of a magnitude below 2^16, as R45 has it for every format other than FP32. -/
theorem normalized_normalize {mag : Nat} (s : Bool) (e : Int) (h : mag < 2 ^ 16) : (normalize s mag e).Normalized := by
  cases hl : bitLen mag with
  | zero =>
    have h0 : mag = 0 := by simpa [bitLen] using hl
    exact h0 ▸ Operand.normalized_zero s
  | succ l =>
    obtain ⟨lo, hi⟩ := bitLen_eq_succ_iff.mp hl
    rw [normalize_eq s e lo hi]
    exact fun _ => shift_to_bit15 (hl ▸ bitLen_le_of_lt h) lo hi

/-! ### The magnitudes of the formats -/

/-- The magnitude of a float's finite encoding: the mantissa and the implied one (R46). -/
theorem FloatFmt.parts_mag_lt (f : FloatFmt) (w : Nat) : (f.parts w).2.1 < 2 ^ (f.manBits + 1) := by
  have hman := fld_lt w 0 f.manBits
  unfold FloatFmt.parts
  dsimp only
  split <;> (dsimp only; omega)

/-- Every float layout but that of FP32 has at most 10 mantissa bits (R39). -/
theorem floatFmtOf_manBits_le {fmt : Nat} {f : FloatFmt} (hne : fmt ≠ 0) (h : floatFmtOf fmt = some f) :
    f.manBits ≤ 10 := by
  unfold floatFmtOf at h
  split at h
  case h_1 => exact absurd rfl hne
  case h_14 => cases h
  all_goals (cases h; decide)

theorem normalized_decodeFloat {f : FloatFmt} (w : Nat) (k : Int) (hf : f.manBits ≤ 15) :
    (decodeFloat f w k).Normalized := by
  have hmag : (f.parts w).2.1 < 2 ^ 16 :=
    lt_of_lt_of_le (f.parts_mag_lt w) (Nat.pow_le_pow_right (by decide) (Nat.succ_le_succ hf))
  unfold decodeFloat
  split
  · exact Operand.normalized_nan
  split
  · exact Operand.normalized_inf _
  · exact normalized_normalize _ _ hmag

theorem normalized_decodeInt {q : Int} (k : Int) (h : q.natAbs < 2 ^ 16) : (decodeInt q k).Normalized :=
  normalized_normalize _ _ h

theorem normalized_decodeInt_sext (w : Nat) {n : Nat} (k : Int) (hn : n ≤ 15) :
    (decodeInt (sext w (n + 1)) k).Normalized :=
  normalized_decodeInt k <| calc
    (sext w (n + 1)).natAbs ≤ 2 ^ n := natAbs_sext_le w n
    _ < 2 ^ 16 := Nat.pow_lt_pow_right (by decide) (by omega)

theorem normalized_decodeInt_fld (w lo : Nat) {n : Nat} (k : Int) (hn : n ≤ 16) :
    (decodeInt (fld w lo n) k).Normalized :=
  normalized_decodeInt k <| calc
    fld w lo n < 2 ^ n := fld_lt w lo n
    _ ≤ 2 ^ 16 := Nat.pow_le_pow_right (by decide) hn

/-- A ZP element's magnitude is a product (R56): the scale's magnitude has m + 1 bits, which leaves 15 − m for the
difference. -/
theorem normalized_decodeZp {f : FloatFmt} (scale : Nat) {d : Int} (hf : f.manBits ≤ 15)
    (hd : d.natAbs ≤ 2 ^ (15 - f.manBits)) : (decodeZp f scale d).Normalized := by
  have hmag : (f.parts scale).2.1 * d.natAbs < 2 ^ 16 := by
    calc (f.parts scale).2.1 * d.natAbs ≤ (f.parts scale).2.1 * 2 ^ (15 - f.manBits) := Nat.mul_le_mul_left _ hd
      _ < 2 ^ (f.manBits + 1) * 2 ^ (15 - f.manBits) :=
        Nat.mul_lt_mul_of_pos_right (f.parts_mag_lt scale) (by positivity)
      _ = 2 ^ 16 := by rw [← Nat.pow_add]; congr 1; omega
  unfold decodeZp
  dsimp only
  split
  · exact Operand.normalized_nan
  split
  · split
    · exact Operand.normalized_nan
    · exact Operand.normalized_inf _
  split
  · exact Operand.normalized_zero _
  · exact normalized_normalize _ _ hmag

/-! ### The elements of a record -/

/-- An element under an E8M0 scale, where the scale 0xFF gives a NaN. -/
theorem normalized_underScale (sc : Nat) {o : Operand} (h : o.Normalized) :
    (if sc = 0xFF then Elem.one Operand.nan else Elem.one o).hi.Normalized := by
  split
  · exact Operand.normalized_nan
  · exact h

/-- Every element of a format other than FP32 decodes to a normalised operand (R43, R45). -/
theorem normalized_decodeElem (tab : DecodeTables) {fmt : Nat} (rec i : Nat) (hne : fmt ≠ 0) :
    (decodeElem tab fmt rec i).hi.Normalized := by
  unfold decodeElem
  dsimp only
  split
  case h_1 => exact absurd rfl hne
  -- INT16, INT8 and INT4; UINT8 and UINT4.
  case h_2 => exact normalized_decodeInt_sext (n := 15) _ _ (by decide)
  case h_3 => exact normalized_decodeInt_sext (n := 7) _ _ (by decide)
  case h_4 => exact normalized_decodeInt_sext (n := 3) _ _ (by decide)
  case h_5 => exact normalized_decodeInt_fld (n := 8) _ _ _ (by decide)
  case h_6 => exact normalized_decodeInt_fld (n := 4) _ _ _ (by decide)
  -- T4, ZP4, ZP8 and MXINT8.
  case h_7 => exact normalized_underScale _ (normalized_decodeFloat _ _ (by decide))
  case h_8 => exact normalized_decodeZp _ (by decide) ((natAbs_sext_sub_sext_le _ _ 3).trans (by decide))
  case h_9 => exact normalized_decodeZp _ (by decide) (natAbs_sext_sub_sext_le _ _ 7)
  case h_10 => exact normalized_underScale _ (normalized_decodeInt_sext (n := 7) _ _ (by decide))
  -- The floats, with a scale in the MX formats, and the reserved codes.
  case h_11 =>
    split
    · exact Operand.normalized_zero _
    · next f hf =>
      have hman : f.manBits ≤ 15 := (floatFmtOf_manBits_le hne hf).trans (by decide)
      split
      · exact normalized_underScale _ (normalized_decodeFloat _ _ hman)
      · exact normalized_decodeFloat _ _ hman

end Sys2Proof.Machine
end

section
open Sys2Proof.Machine

/-- Settles O10: normalisation by the bit length of the magnitude, and every format's magnitude has at most 16 bits
(R45, R46). -/
theorem operandsNormalized : Obligations.OperandsNormalized := by
  refine ⟨normalize_zero, fun s mag l e hl lo hi => ?_, fun tab _ rec i => normalized_decodeElem tab rec i⟩
  obtain ⟨l, rfl⟩ := Nat.exists_eq_succ_of_ne_zero hl.ne'
  have heq := normalize_eq s e lo hi
  exact ⟨heq, by rw [heq]; rfl, fun h16 => by rw [heq]; exact shift_to_bit15 h16 lo hi⟩

end

section
/-! SUPPORT. What GMAC, CLOSE and TREE at work leave aside: the list of instructions in flight, the interlock board and
the predicates. Each of their operations does the same with any values laid in these places, and none changes the
instruction that the tile at work names. One lemma per operation f, `TX.Mate.f`. -/
namespace Sys2Proof.Machine

/-! ### The fields laid aside -/

/-- The fields of a tile that GMAC, CLOSE and TREE leave aside while they work. -/
structure Aside where
  inflight : List InFlight
  board : Board
  pred : BitVec 8

/-- The tile with other values in the fields laid aside. -/
def Tile.lay (t : Tile) (r : Aside) : Tile := { t with inflight := r.inflight, board := r.board, pred := r.pred }

/-- What a tile holds in the fields laid aside. -/
def Tile.aside (t : Tile) : Aside := ⟨t.inflight, t.board, t.pred⟩

/-- The tile at work with other values in the fields laid aside. -/
def TX.lay (x : TX) (r : Aside) : TX := x.upd (·.lay r)

/-- The instruction that a tile at work names. -/
def TX.tag (x : TX) : BitVec 9 × W64 := (x.n, x.word)

/-- X is x, at work on instruction i, but for r in the fields laid aside. -/
structure TX.Mate (i : BitVec 9 × W64) (r : Aside) (x X : TX) : Prop where
  eq : X = x.lay r
  tag : x.tag = i

/-- The same of an operation that reads something: it reads the same. -/
structure TX.Mates {α : Type} (i : BitVec 9 × W64) (r : Aside) (p P : α × TX) : Prop where
  fst : P.1 = p.1
  snd : TX.Mate i r p.2 P.2

theorem TX.mate_lay (x : TX) (r : Aside) : TX.Mate x.tag r x (x.lay r) := ⟨rfl, rfl⟩

variable {i : BitVec 9 × W64} {r : Aside} {x X y Y : TX} {α : Type} {p P q Q : α × TX}

theorem TX.Mate.pair (h : TX.Mate i r x X) {a : α} : TX.Mates i r (a, x) (a, X) := ⟨rfl, h⟩

theorem TX.Mates.eq (h : TX.Mates i r p P) : P = (p.1, p.2.lay r) := Prod.ext h.fst h.snd.eq

/-! ### The tile -/

theorem Tile.count_lay {t : Tile} {a n} : (t.lay r).count a n = (t.count a n).lay r := by
  unfold Tile.count
  rw [apply_ite (Tile.lay · r)]
  rfl

theorem Tile.setSpaceWord_lay {t : Tile} {sp off w} :
    (t.lay r).setSpaceWord sp off w = (t.setSpaceWord sp off w).lay r := by
  unfold Tile.setSpaceWord
  split <;> rfl

theorem Tile.gmacInc_lay {t : Tile} {f} : (t.lay r).gmacInc f = (t.gmacInc f).lay r := by
  have hwhen (c : Bool) (t : Tile) (j d : Nat) :
      (if c then (t.lay r).advG j d else t.lay r) = (if c then t.advG j d else t).lay r := by
    cases c <;> rfl
  unfold Tile.gmacInc
  dsimp only
  rw [hwhen, hwhen]

/-! ### Counting, records, stops and poison -/

theorem TX.Mate.ite {c : Prop} [Decidable c] (hx : TX.Mate i r x X) (hy : TX.Mate i r y Y) :
    TX.Mate i r (if c then x else y) (if c then X else Y) := by
  split
  exacts [hx, hy]

theorem TX.Mates.ite {c : Prop} [Decidable c] (hp : TX.Mates i r p P) (hq : TX.Mates i r q Q) :
    TX.Mates i r (if c then p else q) (if c then P else Q) := by
  split
  exacts [hp, hq]

theorem TX.Mate.foldl {β : Type} {f : TX → β → TX} (h : TX.Mate i r x X)
    (hf : ∀ {x X} b, TX.Mate i r x X → TX.Mate i r (f x b) (f X b)) {l : List β} :
    TX.Mate i r (l.foldl f x) (l.foldl f X) := by
  induction l generalizing x X with
  | nil => exact h
  | cons b l ih => exact ih (hf b h)

theorem TX.Mate.upd (h : TX.Mate i r x X) {f : Tile → Tile} (hf : ∀ t : Tile, f (t.lay r) = (f t).lay r) :
    TX.Mate i r (x.upd f) (X.upd f) := by
  obtain ⟨rfl, htag⟩ := h
  exact ⟨by simp only [TX.lay, TX.upd, hf], htag⟩

theorem TX.Mate.count (h : TX.Mate i r x X) {a n} : TX.Mate i r (x.count a n) (X.count a n) :=
  h.upd fun _ => Tile.count_lay

theorem TX.Mate.raise (h : TX.Mate i r x X) {c : Rec} : TX.Mate i r (x.raise c) (X.raise c) := by
  obtain ⟨rfl, htag⟩ := h
  exact ⟨rfl, htag⟩

theorem TX.Mate.halt (h : TX.Mate i r x X) {c} : TX.Mate i r (x.halt c) (X.halt c) := by
  obtain ⟨rfl, htag⟩ := h
  have hstop : (x.lay r).stop = x.stop := rfl
  simp only [TX.halt, hstop]
  split <;> exact ⟨rfl, htag⟩

theorem TX.Mate.eatPoison (h : TX.Mate i r x X) {b} : TX.Mate i r (x.eatPoison b) (X.eatPoison b) :=
  (h.upd fun _ => rfl).count.ite h

theorem TX.Mate.andThen (h : TX.Mate i r x X) {f g : TX → TX}
    (hf : ∀ {x X}, TX.Mate i r x X → TX.Mate i r (f x) (g X)) : TX.Mate i r (x.andThen f) (X.andThen g) := by
  have hfg := hf h
  obtain ⟨rfl, htag⟩ := h
  exact TX.Mate.ite ⟨rfl, htag⟩ hfg

theorem TX.Mate.instrRec (h : TX.Mate i r x X) {cls d b j} : X.instrRec cls d b j = x.instrRec cls d b j := by
  rw [h.eq]
  rfl

theorem TX.Mate.tableStop (h : TX.Mate i r x X) {e} : TX.Mate i r (x.tableStop e) (X.tableStop e) := by
  unfold TX.tableStop
  rw [h.instrRec]
  exact h.raise.halt

theorem TX.Mate.poisonStop (h : TX.Mate i r x X) {c} : TX.Mate i r (x.poisonStop c) (X.poisonStop c) := by
  unfold TX.poisonStop
  rw [h.instrRec]
  exact h.eatPoison.raise.halt

/-! ### Words of the tile and of tile memory -/

theorem TX.Mate.fixWord (h : TX.Mate i r x X) {sp off syn} : TX.Mate i r (x.fixWord sp off syn) (X.fixWord sp off syn) := by
  have hrec (b : Bool) : X.synRec sp off syn b = x.synRec sp off syn b := by rw [h.eq]; rfl
  have hword : X.tile.spaceWord sp off = x.tile.spaceWord sp off := by rw [h.eq]; rfl
  simp only [TX.fixWord, hrec, hword]
  split
  · exact (h.upd fun _ => by simp only [Tile.setSpaceWord_lay]; rfl).count.raise
  · exact h.raise.halt

theorem TX.Mate.touch (h : TX.Mate i r x X) {sp lo n} : TX.Mate i r (x.touch sp lo n) (X.touch sp lo n) := by
  have hsyn : X.tile.syn = x.tile.syn := by rw [h.eq]; rfl
  unfold TX.touch
  rw [hsyn]
  refine h.foldl fun _ h => ?_
  exact h.fixWord

theorem TX.Mate.memWord (h : TX.Mate i r x X) {w} : TX.Mates i r (x.memWord w) (X.memWord w) := by
  have hmem : X.mem = x.mem := by rw [h.eq]; rfl
  have hix : X.ix = x.ix := by rw [h.eq]; rfl
  have hrow : X.tile.rowW = x.tile.rowW := by rw [h.eq]; rfl
  have hrec : X.memRec = x.memRec := by rw [h.eq]; rfl
  have hput {m : Memory} : TX.Mate i r { x with mem := m } { X with ix := x.ix, mem := m } := ⟨by rw [h.eq]; rfl, h.tag⟩
  simp only [TX.memWord, hmem, hix, hrow, hrec]
  refine .ite h.pair (.ite ?_ (.ite h.pair h.raise.count.pair))
  split
  · refine (TX.Mate.upd hput fun _ => ?_).count.raise.pair
    rfl
  · exact h.raise.halt.pair

theorem TX.Mate.memWords (h : TX.Mate i r x X) {l} : TX.Mates i r (x.memWords l) (X.memWords l) := by
  induction l generalizing x X with
  | nil => exact ⟨rfl, h⟩
  | cons w ws ih =>
    have hw := h.memWord (w := w)
    have hws := ih hw.snd
    exact ⟨congrArg₂ (· || ·) hw.fst hws.fst, hws.snd⟩

theorem TX.Mate.readBytes (h : TX.Mate i r x X) {a n} : X.readBytes a n =
    ((x.readBytes a n).1, (x.readBytes a n).2.1, (x.readBytes a n).2.2.lay r) ∧ (x.readBytes a n).2.2.tag = i := by
  have hws {l} := h.memWords (l := l)
  obtain ⟨rfl, -⟩ := h
  unfold TX.readBytes
  simp only [hws.eq]
  exact ⟨rfl, hws.snd.tag⟩

theorem TX.Mate.readBuf (h : TX.Mate i r x X) {b a n} : X.readBuf b a n =
    ((x.readBuf b a n).1, (x.readBuf b a n).2.1, (x.readBuf b a n).2.2.lay r) ∧ (x.readBuf b a n).2.2.tag = i := by
  have hws {l : List Nat} := h.foldl (f := fun x w => x.touch (if b then 3 else 2) w 1) (l := l) fun _ h => h.touch
  unfold TX.readBuf
  simp only [hws.eq]
  exact ⟨rfl, hws.tag⟩

/-! ### The records of a side -/

theorem TX.Mate.readRec (h : TX.Mate i r x X) {src a n} : TX.Mates i r (x.readRec src a n) (X.readRec src a n) := by
  unfold TX.readRec
  split
  · obtain ⟨heq, htag⟩ := h.readBytes (a := a) (n := n)
    rw [heq]
    exact ⟨rfl, rfl, htag⟩
  · obtain ⟨heq, htag⟩ := h.readBuf (b := decide (src = 1)) (a := a) (n := n)
    rw [heq]
    exact ⟨rfl, rfl, htag⟩

theorem TX.Mate.readRecs (h : TX.Mate i r x X) {src a n k} : TX.Mates i r (x.readRecs src a n k) (X.readRecs src a n k) := by
  induction k generalizing x X a with
  | zero => exact ⟨rfl, h⟩
  | succ k ih =>
    have hrec := h.readRec (src := src) (a := a) (n := n)
    have hrecs := ih hrec.snd (a := a + n)
    exact ⟨congrArg₂ (· :: ·) hrec.fst hrecs.fst, hrecs.snd⟩

theorem TX.Mate.sideRecs (h : TX.Mate i r x X) {src a fmt k} :
    TX.Mates i r (x.sideRecs src a fmt k) (X.sideRecs src a fmt k) := by
  unfold TX.sideRecs
  split
  · exact h.eatPoison.pair
  · have hrecs {a} := h.readRecs (src := src) (a := a) (n := recordBytes fmt) (k := k)
    simp only [hrecs.fst]
    refine (hrecs.snd.foldl fun _ h => ?_).pair
    exact h.eatPoison

theorem TX.Mate.gmacSideA (h : TX.Mate i r x X) {f g iter} : TX.Mates i r (x.gmacSideA f g iter) (X.gmacSideA f g iter) :=
  h.sideRecs

theorem TX.Mate.gmacSideB (h : TX.Mate i r x X) {f g iter} : TX.Mates i r (x.gmacSideB f g iter) (X.gmacSideB f g iter) :=
  h.sideRecs

/-! ### One iteration of a GMAC -/

theorem TX.Mate.check (h : TX.Mate i r x X) {e k c} : TX.Mate i r (x.check e k c) (X.check e k c) :=
  h.raise.halt.ite (h.raise.upd fun _ => rfl).count

/-- The update of a lane and the counts of its group, where no check has failed again. -/
theorem TX.Mate.enter (h : TX.Mate i r x X) {failed skip : Bool} {k l n n' n''} :
    TX.Mate i r
      (if failed then x else if skip then x.upd (·.setLane k l)
        else ((((x.upd (·.setLane k l)).count 0x03 1).count 0x05 n).count 0x06 n').count 0x1F n'')
      (if failed then X else if skip then X.upd (·.setLane k l)
        else ((((X.upd (·.setLane k l)).count 0x03 1).count 0x05 n).count 0x06 n').count 0x1F n'') := by
  have hset := h.upd (f := (·.setLane k l)) fun _ => rfl
  exact h.ite (hset.ite hset.count.count.count.count)

theorem TX.Mate.groupInto (h : TX.Mate i r x X) {f tb act iter skip chk k a b} :
    TX.Mate i r (x.groupInto f tb act iter skip chk k a b) (X.groupInto f tb act iter skip chk k a b) := by
  have hlane : X.tile.lane k = x.tile.lane k := by rw [h.eq]; rfl
  unfold TX.groupInto
  dsimp only
  split
  · exact h.tableStop
  · rw [hlane]
    refine TX.Mate.enter (h.foldl fun _ h => ?_)
    rw [h.instrRec]
    exact h.check

theorem TX.Mate.groups (h : TX.Mate i r x X) {f tb act iter skip chk ks as bs} :
    TX.Mate i r (x.groups f tb act iter skip chk ks as bs) (X.groups f tb act iter skip chk ks as bs) := by
  induction ks generalizing x X as bs with
  | nil => exact h
  | cons k ks ih =>
    match as, bs with
    | [], _ => exact h
    | _ :: _, [] => exact h
    | _ :: _, _ :: _ => exact ih h.groupInto

theorem TX.Mate.gmacIter (h : TX.Mate i r x X) {f g iter skip chk as} :
    TX.Mate i r (x.gmacIter f g iter skip chk as) (X.gmacIter f g iter skip chk as) := by
  have hb := h.gmacSideB (f := f) (g := g) (iter := iter)
  unfold TX.gmacIter
  dsimp only
  rw [hb.fst]
  refine hb.snd.andThen fun h => h.groups.andThen fun h => ?_
  exact h.upd fun _ => Tile.gmacInc_lay

theorem TX.Mate.gmacIterA (h : TX.Mate i r x X) {f g iter skip chk} :
    TX.Mate i r (x.gmacIterA f g iter skip chk) (X.gmacIterA f g iter skip chk) := by
  have ha := h.gmacSideA (f := f) (g := g) (iter := iter)
  unfold TX.gmacIterA
  dsimp only
  rw [ha.fst]
  refine ha.snd.andThen fun h => ?_
  exact h.gmacIter

/-! ### Pops -/

theorem Tile.popped_lay {t : Tile} {n} : (t.lay r).popped n = (t.popped n).lay r := by
  unfold Tile.popped
  rw [← Tile.count_lay, ← Tile.count_lay]
  rfl

theorem TX.pop_eq (x : TX) (n : Nat) : x.pop n = (x.tile.head n).map fun q => (q, x.upd (·.popped n)) := by
  cases h : x.tile.head n with
  | none => simp only [TX.pop, h, Option.map_none]
  | some q => exact TX.pop_some x n q h

theorem TX.Mate.gmacPops (h : TX.Mate i r x X) {f fl n} : TX.Mates i r (x.gmacPops f fl n) (X.gmacPops f fl n) := by
  induction n generalizing x X fl with
  | zero => exact h.pair
  | succ n ih =>
    have hstop : X.stop = x.stop := by rw [h.eq]; rfl
    have hhead : X.tile.head (gmacQueueOf f fl.popped) = x.tile.head (gmacQueueOf f fl.popped) := by rw [h.eq]; rfl
    have hpop := h.upd (f := (·.popped (gmacQueueOf f fl.popped))) fun _ => Tile.popped_lay
    simp only [TX.gmacPops, hstop, TX.pop_eq, hhead]
    refine .ite h.pair ?_
    cases x.tile.head (gmacQueueOf f fl.popped) with
    | none => exact h.pair
    | some q => exact .ite hpop.poisonStop.pair (ih hpop.eatPoison)

end Sys2Proof.Machine
end

section
/-! SUPPORT. An instruction by itself from its issue to its last cycle (R119, R127, R130): one that its slot lanes stop, one
that its issue cycle ends, and one that stays in flight, alone, until it has popped or sent its last flit. -/
namespace Sys2Proof.Machine

variable {s : State} {p : At} {op : TOp} {chk : List CheckEv} {x y z w : TX} {h : Head} {fl : InFlight}
  {o o' : Option InFlight} {b b' b1 : Board} {k n : Nat}

/-! ### Issue -/

/-- A ready instruction is issued, then carried as far as flits and credits allow. -/
theorem runInstr_issue (hr : Ready s p op) : s.runInstr p op chk =
    s.put p.tile (((s.txIn p op).issue p.hd op ((s.txIn p op).skips op) false chk).settle chk 160) := by
  have htile : (s.tx p.tile p.n (TInstr.word ⟨p.hd, op⟩)).tile = s.seen p.tile := rfl
  rw [State.runInstr, if_pos hr.present]
  simp only [TX.instr, htile, hr.running, hr.trig, hr.legal, hr.own, unheld_quiet _ _ _ hr.quiet, Bool.not_true,
    Bool.or_self, Bool.false_eq_true, if_false]
  rfl

theorem TX.hasIssued_running (hx : x.stop = none) : x.hasIssued op = true := by simp [TX.hasIssued, hx]

/-- An instruction that its issue cycle ends without a stop. -/
theorem TX.issue_ended {skip : Bool} (hy : (x.count 0x02 1).start h op skip chk = (none, y)) (hs : y.stop = none) :
    x.issue h op skip false chk = y.upd (·.rider h) := by
  have hwork : (x.count 0x02 1).issueWork h op skip false chk = y.upd (·.rider h) := by
    simp [TX.issueWork, hy, hs, TX.upd, TX.hasIssued]
  simp only [TX.issue, hwork]
  simp [TX.hasIssued, TX.upd, hs]

theorem runInstr_ended (hr : Ready s p op)
    (hy : (s.txOf p op).start p.hd op ((s.txIn p op).skips op) chk = (none, y)) (hs : y.stop = none)
    (hq : y.tile.inflight = []) : s.runInstr p op chk = s.put p.tile (y.upd (·.rider p.hd)) := by
  rw [runInstr_issue hr, TX.issue_ended hy hs, TX.settle_quiet]
  exact (rider_inflight _ _).trans hq

/-! ### Slot-state faults (R76) -/

@[simp] theorem Tile.lane_count (t : Tile) (a n : Nat) : (t.count a n).lane = t.lane := by
  unfold Tile.count
  split <;> rfl

theorem TX.slotFault_stop (hx : x.stop = none) (k : Nat) : (x.slotFault k).stop = some 0x02 := by
  simp [TX.slotFault, TX.raise, TX.halt, hx]

/-- An instruction that a slot lane stops has not issued: nothing but its record and its stop is left of it. -/
theorem runInstr_slotFault (hr : Ready s p op)
    (hk : ∀ x : TX, x.stop = none → x.tile.lane = (s.seen p.tile).lane →
      (x.start p.hd op ((s.txIn p op).skips op) chk).2 = x.slotFault k) :
    s.runInstr p op chk = s.put p.tile ((s.txIn p op).slotFault k) := by
  have hwork {x : TX} (hx : x.stop = none) (hl : x.tile.lane = (s.seen p.tile).lane) :
      x.issueWork p.hd op ((s.txIn p op).skips op) false chk = x.slotFault k := by
    simp only [TX.issueWork, hk x hx hl, TX.slotFault_stop hx, Option.isSome_some, if_true]
  have hissue : (s.txIn p op).issue p.hd op ((s.txIn p op).skips op) false chk = (s.txIn p op).slotFault k := by
    have hx : ((s.txIn p op).count 0x02 1).stop = none := rfl
    simp only [TX.issue, hwork hx (Tile.lane_count _ _ _), hwork (x := s.txIn p op) rfl rfl, TX.hasIssued, TX.slotFault_stop hx]
    simp
  rw [runInstr_issue hr, hissue, TX.settle_quiet]
  rw [TX.slotFault, TX.halt]
  split <;> exact hr.quiet

/-! ### One instruction in flight -/

/-- One cycle of an instruction in flight, whatever else its tile holds in flight and in its predicates: o stays in flight. -/
structure Pumps (chk : List CheckEv) (fl : InFlight) (b : Board) (x : TX) (o : Option InFlight) (b' : Board) (y : TX) :
    Prop where
  pump : ∀ l p, (x.lay ⟨l, b, p⟩).pump false chk fl = (o, y.lay ⟨l, b', p⟩)
  moves : o ≠ some fl
  runs : y.stop = none

/-- Several cycles of an instruction in flight. -/
inductive Flies (chk : List CheckEv) : Option InFlight → Board → TX → Nat → Option InFlight → Board → TX → Prop
  | refl (o : Option InFlight) (b : Board) (x : TX) : Flies chk o b x 0 o b x
  | step {fl : InFlight} {b b1 b' : Board} {x y z : TX} {o o' : Option InFlight} {k : Nat} (one : Pumps chk fl b x o b1 y)
      (more : Flies chk o b1 y k o' b' z) : Flies chk (some fl) b x (k + 1) o' b' z

theorem Flies.trans {o1 o2 : Option InFlight} {b2 : Board} {j : Nat} (hxy : Flies chk o b x j o1 b1 y)
    (hyz : Flies chk o1 b1 y k o2 b2 z) : Flies chk o b x (j + k) o2 b2 z := by
  induction hxy with
  | refl => rwa [Nat.zero_add]
  | step one _ ih => rw [Nat.add_right_comm]; exact .step one (ih hyz)

/-- What a rider makes of the predicates (R125). -/
def ridden (h : Head) (p : BitVec 8) : BitVec 8 := (({ pred := p } : Tile).rider h).pred

theorem Tile.rider_eq (t : Tile) (h : Head) : t.rider h = { t with pred := ridden h t.pred } := by
  unfold ridden Tile.rider Tile.setP
  split <;> split <;> rfl

theorem TX.pumpOne_running (hx : x.stop = none) : x.pumpOne false chk fl = x.pump false chk fl := by
  obtain ⟨⟩ := x
  cases hx
  rfl

theorem TX.pumpAll_single {p : BitVec 8} (hx : x.stop = none) (h : Pumps chk fl b x o b' y) :
    (x.lay ⟨[fl], b, p⟩).pumpAll false chk = y.lay ⟨o.toList, b', p⟩ := by
  have hin : (x.lay ⟨[fl], b, p⟩).tile.inflight = [fl] := rfl
  simp only [TX.pumpAll, hin, List.foldl_cons, List.foldl_nil, List.nil_append]
  rw [TX.pumpOne_running (show (x.lay ⟨[fl], b, p⟩).stop = none from hx), h.pump]
  rfl

/-- An instruction that is alone in flight settles at the end of its flight. -/
theorem Flies.settle {p : BitVec 8} (h : Flies chk o b x k none b' z) (hx : x.stop = none) (hk : k ≤ n) :
    (x.lay ⟨o.toList, b, p⟩).settle chk n = z.lay ⟨[], b', p⟩ := by
  generalize ho' : (none : Option InFlight) = o' at h
  induction h generalizing n with
  | refl =>
    subst ho'
    exact TX.settle_quiet _ _ _ rfl
  | @step fl b b1 b' x y z o o' k one more ih =>
    obtain ⟨m, rfl⟩ : ∃ m, n = m + 1 := ⟨n - 1, by omega⟩
    have hmoves : (o.toList == [fl]) = false := by
      rw [beq_eq_false_iff_ne]
      cases o with
      | none => simp
      | some fl' => simpa using one.moves
    have hpump : (x.lay ⟨[fl], b, p⟩).pumpAll false chk = y.lay ⟨o.toList, b1, p⟩ := TX.pumpAll_single hx one
    have hgo : ((y.lay ⟨o.toList, b1, p⟩).tile.inflight == (x.lay ⟨[fl], b, p⟩).tile.inflight ||
        (y.lay ⟨o.toList, b1, p⟩).stop.isSome) = false := by
      rw [show (y.lay ⟨o.toList, b1, p⟩).stop = none from one.runs]
      exact (Bool.or_false _).trans hmoves
    have hsettle : (x.lay ⟨[fl], b, p⟩).settle chk (m + 1) = (y.lay ⟨o.toList, b1, p⟩).settle chk m := by
      rw [TX.settle, hpump]
      simp only [hgo, Bool.false_eq_true, if_false]
    exact hsettle.trans (ih one.runs (by omega) ho')

/-- An instruction that stays in flight after its start: its first cycle in flight is its issue cycle. -/
theorem TX.issue_pumps (hy : (x.count 0x02 1).start h op false chk = (some fl, y)) (hs : y.stop = none)
    (hq : y.tile.inflight = []) (one : Pumps chk fl y.tile.board y o b' w) :
    x.issue h op false false chk = w.lay ⟨o.toList, b', ridden h y.tile.pred⟩ := by
  have hown : y.upd (fun t => t) = y.lay ⟨[], y.tile.board, y.tile.pred⟩ := by rw [← hq]; rfl
  have hwork : (x.count 0x02 1).issueWork h op false false chk = w.lay ⟨o.toList, b', ridden h y.tile.pred⟩ := by
    simp only [TX.issueWork, hy, hs, Option.isSome_none, Bool.false_eq_true, if_false, hown, one.pump]
    refine (if_pos (TX.hasIssued_running ?_)).trans ?_
    · exact one.runs
    · simp only [TX.upd, Tile.rider_eq]
      rfl
  simp only [TX.issue, hwork]
  exact if_pos (TX.hasIssued_running one.runs)

/-- An instruction that flies to its end. -/
theorem runInstr_flies (hr : Ready s p op) (hskip : (s.txIn p op).skips op = false)
    (hy : (s.txOf p op).start p.hd op false chk = (some fl, y)) (hs : y.stop = none) (hq : y.tile.inflight = [])
    (hfly : Flies chk (some fl) y.tile.board y k none b' z) (hk : k ≤ 161) :
    s.runInstr p op chk = s.put p.tile ((z.lay ⟨[], b', y.tile.pred⟩).upd (·.rider p.hd)) := by
  cases hfly with
  | step one more =>
    rw [runInstr_issue hr, hskip, TX.issue_pumps hy hs hq one, more.settle one.runs (by omega)]
    simp only [TX.upd, Tile.rider_eq]
    rfl

end Sys2Proof.Machine
end

section
/-! SUPPORT. Instructions that change nothing but their tile, and TREE: the combinations of its lanes, and the two flits of
a partial (R89, R90, R147, R148). -/
namespace Sys2Proof.Machine

variable {s : State} {p : At} {op : TOp} {chk : List CheckEv} {x y : TX} {fl : InFlight} {b b' : Board} {k : Nat}
  {r : Aside} {t : Tile}

/-! ### What a tile keeps -/

/-- What TREE and CLOSE keep of a tile: the fields laid aside and the probe. -/
def Tile.kept (t : Tile) : Aside × Bool := (t.aside, t.status.probe)

@[simp] theorem Tile.kept_count {a n : Nat} : (t.count a n).kept = t.kept := by
  unfold Tile.count
  split <;> rfl

@[simp] theorem Tile.kept_met {c : Bool} : (t.met c).kept = t.kept := by
  cases c
  · rfl
  · exact Tile.kept_count

@[simp] theorem Tile.kept_setLane {j : Nat} {l : Lane} : (t.setLane j l).kept = t.kept := rfl

@[simp] theorem Tile.kept_popped {n : Nat} : (t.popped n).kept = t.kept := by
  simp only [Tile.popped, Tile.kept_count]
  rfl

theorem foldl_keeps {β γ : Type} {f : Tile → β} {g : Tile → γ → Tile} (hg : ∀ t c, f (g t c) = f t) (l : List γ) :
    f (l.foldl g t) = f t :=
  l.foldlRecOn g (motive := fun u => f u = f t) rfl fun u hu c _ => (hg u c).trans hu

/-- An instruction that only changes its tile, in its issue cycle. -/
theorem runInstr_after {F : Tile → Tile} (hr : Ready s p op)
    (hy : (s.txOf p op).start p.hd op ((s.txIn p op).skips op) chk = (none, (s.txOf p op).upd F))
    (hF : (F (s.txOf p op).tile).kept = (s.txOf p op).tile.kept) : s.runInstr p op chk = s.after p F := by
  have hkept := hF.trans Tile.kept_count
  have hq : (F (s.txOf p op).tile).inflight = (s.seen p.tile).inflight := congrArg (·.1.inflight) hkept
  rw [runInstr_ended hr hy rfl (hq.trans hr.quiet), put_core s p.tile _ p.hd rfl rfl (congrArg Prod.snd hkept)]
  rfl

/-- An instruction that only changes its tile, over the cycles of a flight. -/
theorem runInstr_after_flight {F : Tile → Tile} (hr : Ready s p op) (hskip : (s.txIn p op).skips op = false)
    (hy : (s.txOf p op).start p.hd op false chk = (some fl, y)) (hs : y.stop = none)
    (hkept : y.tile.kept = (s.txOf p op).tile.kept) (hF : (F (s.txOf p op).tile).kept = (s.txOf p op).tile.kept)
    (hfly : Flies chk (some fl) y.tile.board y k none b' ((s.txOf p op).upd F)) (hk : k ≤ 161) :
    s.runInstr p op chk = s.after p fun t => { F t with board := b' } := by
  have hq : (s.txOf p op).tile.inflight = [] := ready_base hr |>.2
  have hpred : y.tile.pred = (F (s.txOf p op).tile).pred := congrArg (·.1.pred) (hkept.trans hF.symm)
  have hin : (F (s.txOf p op).tile).inflight = [] := (congrArg (·.1.inflight) hF).trans hq
  have hlay : ((s.txOf p op).upd F).lay ⟨[], b', y.tile.pred⟩ = (s.txOf p op).upd fun t => { F t with board := b' } := by
    rw [← hin, hpred]
    rfl
  rw [runInstr_flies hr hskip hy hs ((congrArg (·.1.inflight) hkept).trans hq) hfly hk, hlay,
    put_core s p.tile _ p.hd rfl rfl (congrArg Prod.snd (hF.trans Tile.kept_count))]
  rfl

/-! ### Poison met and queues popped -/

theorem TX.foldl_eatPoison {γ : Type} (g : γ → Bool) (l : List γ) :
    l.foldl (fun x c => x.eatPoison (g c)) x = x.upd fun t => l.foldl (fun u c => u.met (g c)) t := by
  induction l generalizing x with
  | nil => rfl
  | cons c l ih =>
    rw [List.foldl_cons, ih, TX.eat]
    rfl

theorem Tile.met_lay {c : Bool} : (t.lay r).met c = (t.met c).lay r := by
  cases c
  · rfl
  · exact Tile.count_lay (t := { t with status := { t.status with poison := true } })

theorem Tile.foldl_lay {γ : Type} {g : Tile → γ → Tile} (hg : ∀ (t : Tile) c, g (t.lay r) c = (g t c).lay r) (l : List γ) :
    l.foldl g (t.lay r) = (l.foldl g t).lay r :=
  List.foldl_hom (Tile.lay · r) hg

theorem Tile.queue_popped (n : Nat) : (t.popped n).queue n = (t.queue n).drop 1 := by
  simp only [Tile.popped, Tile.queue, Tile.count_iq, Tile.drop, SMap.get_put_same]

theorem Tile.head_of_queue {n : Nat} {a : Flit} {fs : List Flit} (hq : t.queue n = a :: fs) (he : a.epoch = t.epoch.cur) :
    t.head n = some a := by
  simp [Tile.head, hq, he]

theorem Tile.epoch_popped (n : Nat) : (t.popped n).epoch = t.epoch := by
  simp only [Tile.popped, Tile.count_epoch]
  rfl

theorem TX.upd_lay {F : Tile → Tile} (hF : ∀ t : Tile, F (t.lay r) = (F t).lay r) : (x.lay r).upd F = (x.upd F).lay r :=
  ((x.mate_lay r).upd hF).eq

/-- A flight goes on under the instruction that its tile names. -/
theorem TX.named (h : x.tag = (fl.n, TInstr.word ⟨fl.hd, fl.op⟩)) :
    { x with n := fl.n, word := TInstr.word ⟨fl.hd, fl.op⟩ } = x := by
  have hn : x.n = fl.n := congrArg Prod.fst h
  have hword : x.word = TInstr.word ⟨fl.hd, fl.op⟩ := congrArg Prod.snd h
  rw [← hn, ← hword]

/-! ### TREE -/

/-- The tile after a TREE whose lane l takes comb l. -/
def treeSet (f : TreeF) (comb : Nat → Lane) (t : Tile) : Tile :=
  let ls := (maskLanes 0 f.lmask.toNat).map fun l => (l, comb l)
  ls.foldl (fun u q => u.setLane (4 * f.dst.toNat + q.1) q.2) (ls.foldl (fun u q => u.met q.2.poison) t)

/-- What lane l of a TREE takes from slot SA and the partial of two flits (R90). -/
def partialComb (f : TreeF) (a b : Flit) (t : Tile) (l : Nat) : Lane :=
  let x := t.lane (4 * f.sa.toNat + l)
  let y := partialLane a.payload b.payload l
  if a.poison || b.poison then { x with poison := true } else if f.ord then treeLane y x else treeLane x y

variable {f : TreeF} {comb : Nat → Lane} {a c : Flit}

theorem treeSet_kept : (treeSet f comb t).kept = t.kept :=
  (foldl_keeps (fun _ _ => Tile.kept_setLane) _).trans (foldl_keeps (fun _ _ => Tile.kept_met) _)

theorem treeSet_lay : treeSet f comb (t.lay r) = (treeSet f comb t).lay r := by
  unfold treeSet
  dsimp only
  have hmet (l : List (Nat × Lane)) := Tile.foldl_lay (r := r) (t := t) (g := fun u q => u.met q.2.poison)
    (fun _ _ => Tile.met_lay) l
  rw [hmet, Tile.foldl_lay fun _ _ => rfl]

theorem treeClosed_of {t u : Tile} (h : t.lane = u.lane) : treeClosed t f = treeClosed u f := by
  simp only [treeClosed, h]

theorem treeWrite_passed (hx : x.stop = none) : x.treeWrite f [] comb = x.upd (treeSet f comb) := by
  unfold TX.treeWrite
  rw [show convCheck [] = none from rfl]
  refine (andThen_go x _ hx).trans ?_
  simp only [TX.foldl_eatPoison]
  rfl

theorem treePartial_passed (hx : x.stop = none)
    (ho : a.poison = false → c.poison = false →
      ∀ l ∈ maskLanes 0 f.lmask.toNat, (partialLane a.payload c.payload l).isOpen = true) :
    x.treePartial f [] a c = x.upd (treeSet f (partialComb f a c x.tile)) := by
  unfold TX.treePartial partialComb
  split
  · next hp =>
    rw [treeWrite_passed hx]
  · next hp =>
    obtain ⟨ha, hc⟩ := Bool.or_eq_false_iff.mp (Bool.eq_false_iff.mpr hp)
    have hnone : (maskLanes 0 f.lmask.toNat).find? (fun l => !(partialLane a.payload c.payload l).isOpen) = none := by
      simpa using ho ha hc
    simp only [hnone, treeWrite_passed hx]

/-- The first flit of a partial waits for the second. -/
theorem pump_tree_first (hop : fl.op = .tree f) (htag : x.tag = (fl.n, TInstr.word ⟨fl.hd, fl.op⟩)) (hgot : fl.got = [])
    (ha : x.tile.head f.sb.toNat = some a) :
    x.pump false chk fl = (some { fl with got := [a], popped := 1 }, x.upd (·.popped f.sb.toNat)) := by
  unfold TX.pump
  rw [TX.named htag]
  obtain ⟨n, hd, op, got⟩ := fl
  obtain rfl : op = .tree f := hop
  obtain rfl : got = [] := hgot
  simp [TX.pop_eq, ha]

/-- The second flit of a partial ends the TREE; its lanes are then free for their dependents (R134). -/
theorem pump_tree_second (hop : fl.op = .tree f) (htag : x.tag = (fl.n, TInstr.word ⟨fl.hd, fl.op⟩)) (hgot : fl.got = [a])
    (hc : x.tile.head f.sb.toNat = some c) :
    x.pump false chk fl =
      (none, ((x.upd (·.popped f.sb.toNat)).treePartial f chk a c).upd (·.release false fl.wres 4)) := by
  unfold TX.pump
  rw [TX.named htag]
  obtain ⟨n, hd, op, got⟩ := fl
  obtain rfl : op = .tree f := hop
  obtain rfl : got = [a] := hgot
  simp [TX.pop_eq, hc]

theorem pumps_tree_first (hop : fl.op = .tree f) (htag : x.tag = (fl.n, TInstr.word ⟨fl.hd, fl.op⟩)) (hgot : fl.got = [])
    (hx : x.stop = none) (ha : x.tile.head f.sb.toNat = some a) :
    Pumps chk fl b x (some { fl with got := [a], popped := 1 }) b (x.upd (·.popped f.sb.toNat)) where
  pump l q := by
    rw [← TX.upd_lay fun _ => Tile.popped_lay]
    exact pump_tree_first hop htag hgot ha
  moves h := by simpa [hgot] using congrArg InFlight.got (Option.some.inj h)
  runs := hx

theorem pumps_tree_second (hop : fl.op = .tree f) (htag : x.tag = (fl.n, TInstr.word ⟨fl.hd, fl.op⟩)) (hgot : fl.got = [a])
    (hx : x.stop = none) (hc : x.tile.head f.sb.toNat = some c)
    (ho : a.poison = false → c.poison = false →
      ∀ l ∈ maskLanes 0 f.lmask.toNat, (partialLane a.payload c.payload l).isOpen = true) :
    ∃ b', Pumps [] fl b x none b' ((x.upd (·.popped f.sb.toNat)).upd (treeSet f (partialComb f a c x.tile))) := by
  have hlane : (x.tile.popped f.sb.toNat).lane = x.tile.lane := by simp only [Tile.popped, Tile.lane_count]; rfl
  refine ⟨((((x.upd (·.popped f.sb.toNat)).upd (treeSet f (partialComb f a c x.tile))).tile.lay ⟨[], b, 0⟩).release false
    fl.wres 4).board, fun l q => ?_, nofun, hx⟩
  have hpop : (x.lay ⟨l, b, q⟩).upd (·.popped f.sb.toNat) = (x.upd (·.popped f.sb.toNat)).lay ⟨l, b, q⟩ :=
    TX.upd_lay fun _ => Tile.popped_lay
  have hcomb : partialComb f a c ((x.upd (·.popped f.sb.toNat)).lay ⟨l, b, q⟩).tile = partialComb f a c x.tile := by
    unfold partialComb
    rw [show ((x.upd (·.popped f.sb.toNat)).lay ⟨l, b, q⟩).tile.lane = x.tile.lane from hlane]
  refine (pump_tree_second (x := x.lay ⟨l, b, q⟩) hop htag hgot hc).trans ?_
  rw [hpop, treePartial_passed (by exact hx) ho, hcomb, TX.upd_lay fun _ => treeSet_lay]
  rfl

/-- A TREE of a slot and a partial flies two cycles. -/
theorem flies_tree (hop : fl.op = .tree f) (htag : x.tag = (fl.n, TInstr.word ⟨fl.hd, fl.op⟩)) (hgot : fl.got = [])
    (hx : x.stop = none) {fs : List Flit} (hq : x.tile.queue f.sb.toNat = a :: c :: fs) (ha : a.epoch = x.tile.epoch.cur)
    (hc : c.epoch = x.tile.epoch.cur)
    (ho : a.poison = false → c.poison = false →
      ∀ l ∈ maskLanes 0 f.lmask.toNat, (partialLane a.payload c.payload l).isOpen = true) :
    ∃ b', Flies [] (some fl) b x 2 none b'
      (x.upd fun t => treeSet f (partialComb f a c t) ((t.popped f.sb.toNat).popped f.sb.toNat)) := by
  have hlane : (x.tile.popped f.sb.toNat).lane = x.tile.lane := by simp only [Tile.popped, Tile.lane_count]; rfl
  have hcomb : partialComb f a c (x.tile.popped f.sb.toNat) = partialComb f a c x.tile := by
    unfold partialComb
    rw [hlane]
  have hq' : (x.tile.popped f.sb.toNat).queue f.sb.toNat = c :: fs := by rw [Tile.queue_popped, hq]; rfl
  have hc' : c.epoch = (x.tile.popped f.sb.toNat).epoch.cur := by rw [Tile.epoch_popped, hc]
  obtain ⟨b', hsecond⟩ := pumps_tree_second (b := b) (fl := { fl with got := [a], popped := 1 })
    (x := x.upd (·.popped f.sb.toNat)) hop htag rfl hx (Tile.head_of_queue hq' hc') ho
  rw [show (x.upd (·.popped f.sb.toNat)).tile = x.tile.popped f.sb.toNat from rfl, hcomb] at hsecond
  exact ⟨b', .step (pumps_tree_first hop htag hgot hx (Tile.head_of_queue hq ha)) (.step hsecond (.refl _ _ _))⟩

end Sys2Proof.Machine
end

section
open Sys2Proof Sys2Proof.Machine

/-- Settles O17: a closed lane stops the instruction; two slots combine in the issue cycle, a slot and a partial over the
two cycles of its flits. -/
theorem treeCombines : Obligations.TreeCombines := by
  unfold Obligations.TreeCombines
  refine ⟨fun s p f chk k hr hk => ?_, fun s p f hr hform hopen => ?_, fun s p f a c fs hr hform hopen hq ha hc ho => ?_⟩
  · refine congrArg Host.Outcome.next (runInstr_slotFault hr fun x _ hlane => ?_)
    simp only [TX.start, treeClosed_of hlane, hk]
  · refine congrArg Host.Outcome.next (runInstr_after (F := fun t => treeSet f _ t) hr ?_ treeSet_kept)
    have hclosed : treeClosed (s.txOf p (.tree f)).tile f = none := (treeClosed_of (Tile.lane_count _ _ _)).trans hopen
    simp only [TX.start, hclosed, hform]
    exact congrArg (Prod.mk none) (treeWrite_passed rfl)
  · have hlane := Tile.lane_count (s.seen p.tile) 0x02 1
    have hclosed : treeClosed (s.txOf p (.tree f)).tile f = none := (treeClosed_of hlane).trans hopen
    have hqueue : (s.txOf p (.tree f)).tile.queue f.sb.toNat = a :: c :: fs :=
      (congrArg (SMap.get [] · f.sb.toNat) (Tile.count_iq _ _ _)).trans hq
    have hepoch : (s.txOf p (.tree f)).tile.epoch.cur = (s.seen p.tile).epoch.cur :=
      congrArg TileEpoch.cur (Tile.count_epoch _ _ _)
    have hstart : (s.txOf p (.tree f)).start p.hd (.tree f) false [] =
        (some ((s.txOf p (.tree f)).flight p.hd (.tree f) 0 []), s.txOf p (.tree f)) := by
      simp only [TX.start, hclosed, hform, if_true]
    obtain ⟨b', hfly⟩ := flies_tree (b := (s.txOf p (.tree f)).tile.board)
      (fl := (s.txOf p (.tree f)).flight p.hd (.tree f) 0 []) rfl rfl rfl rfl hqueue (ha.trans hepoch.symm)
      (hc.trans hepoch.symm) ho
    exact ⟨b', congrArg Host.Outcome.next (runInstr_after_flight hr rfl hstart rfl rfl
      (treeSet_kept.trans (Tile.kept_popped.trans Tile.kept_popped)) hfly (by decide))⟩
end

section
/-! SUPPORT. CLOSE: the lanes it converts and closes, and the flits of one that sends its result (R82 to R87, R144 to R146,
R114). -/
namespace Sys2Proof.Machine

variable {chk : List CheckEv} {x : TX} {fl : InFlight} {b : Board} {r : Aside} {t : Tile} {f : CloseF}

/-! ### What a CLOSE does to its tile -/

/-- The lanes of a CLOSE as they stand before it. -/
def closing (f : CloseF) (t : Tile) : List Lane := (closeLanes f).map t.lane

/-- The conversion of a CLOSE. -/
def closeConv (f : CloseF) (t : Tile) : Nat × List Conv :=
  convRecord f.dfmt.toNat f.rnd.toNat f.ovf.toNat ((closing f t).map Lane.src)

/-- The tile once its lanes are closed and the flags reported. -/
def closeShut (f : CloseF) (t : Tile) : Tile :=
  ((closeLanes f).foldl (fun u k => u.setLane k { u.lane k with isOpen := false })
    ((closing f t).foldl (fun u l => u.met l.poison) t)).report (closeConv f t).2 ((closing f t).any (·.shd))

/-- The flits of a CLOSE that sends its result. -/
def closeFlits (f : CloseF) (t : Tile) : List Flit :=
  mkFlits t.epoch.cur 0 f.tag ((closing f t).any (·.poison)) f.eot
    (if f.all then leBytes 128 (closeConv f t).1
      else leBytes 128 (putElems (elemWidth f.dfmt.toNat)
        (((closeLanes f).zip (closeConv f t).2).map fun q => (q.1 % 4, q.2.bits)) 0))
    (if f.all then (recordBytes f.dfmt.toNat + 31) / 32 else 1)

/-- The tile after a CLOSE. -/
def closeTile (f : CloseF) (t : Tile) : Tile :=
  if f.dt then (closeFlits f t).foldl (fun u x => u.sent f.out.toNat x) (closeShut f t)
  else if f.all then (closeShut f t).setV f.vd.toNat (leBytes 128 (closeConv f t).1) ((closing f t).any (·.poison))
  else (closeShut f t).setV f.vd.toNat
    (leBytes 128 (putElems (elemWidth f.dfmt.toNat) (((closeLanes f).zip (closeConv f t).2).map fun q => (q.1, q.2.bits))
      (leNat (t.vBytes f.vd.toNat))))
    ((closing f t).any (·.poison) || t.vPoison f.vd.toNat)

/-- Closing the lanes leaves what neither the report nor the lanes nor the counters hold. -/
theorem closeShut_keeps {β : Type} {g : Tile → β} (hmet : ∀ t c, g (t.met c) = g t)
    (hset : ∀ t j l, g (t.setLane j l) = g t) (hrep : ∀ ks c t, g (t.report ks c) = g t) : g (closeShut f t) = g t :=
  (hrep _ _ _).trans ((foldl_keeps (fun _ _ => hset _ _ _) _).trans (foldl_keeps (fun _ _ => hmet _ _) _))

theorem closeShut_kept : (closeShut f t).kept = t.kept :=
  closeShut_keeps (fun _ _ => Tile.kept_met) (fun _ _ _ => rfl) fun _ _ _ => rfl

theorem closeShut_syn : (closeShut f t).syn = t.syn := closeShut_keeps Tile.met_syn (fun _ _ _ => rfl) fun _ _ _ => rfl

theorem closeShut_v : (closeShut f t).v = t.v := closeShut_keeps Tile.met_v (fun _ _ _ => rfl) fun _ _ _ => rfl

theorem closeShut_vTag : (closeShut f t).vTag = t.vTag := closeShut_keeps Tile.met_vTag (fun _ _ _ => rfl) fun _ _ _ => rfl

theorem Tile.met_epoch (t : Tile) (c : Bool) : (t.met c).epoch = t.epoch := by
  cases c
  · rfl
  · exact Tile.count_epoch _ _ _

theorem closeShut_epoch : (closeShut f t).epoch = t.epoch := closeShut_keeps Tile.met_epoch (fun _ _ _ => rfl) fun _ _ _ => rfl

@[simp] theorem Tile.kept_sent {n : Nat} {q : Flit} : (t.sent n q).kept = t.kept := by
  simp only [Tile.sent, Tile.kept_count]
  rfl

theorem Tile.credit_count (t : Tile) (a m n : Nat) : (t.count a m).credit n = t.credit n := by
  unfold Tile.count
  split <;> rfl

theorem closeShut_credit {n : Nat} : (closeShut f t).credit n = t.credit n := by
  refine closeShut_keeps (g := (·.credit n)) (fun t c => ?_) (fun _ _ _ => rfl) fun _ _ _ => rfl
  cases c
  · rfl
  · exact Tile.credit_count _ _ _ _

/-- The state after an instruction depends on what it makes of the tile at its issue alone. -/
theorem after_congr {s : State} {p : At} {F G : Tile → Tile}
    (h : F ((s.seen p.tile).count 0x02 1) = G ((s.seen p.tile).count 0x02 1)) : s.after p F = s.after p G := by
  unfold State.after
  rw [h]

theorem closeTile_kept : (closeTile f t).kept = t.kept := by
  unfold closeTile
  split
  · exact (foldl_keeps (fun _ _ => Tile.kept_sent) _).trans closeShut_kept
  split <;> exact closeShut_kept

/-! ### A CLOSE whose converter passes -/

theorem find_closed_eq_none (ho : ∀ k ∈ closeLanes f, (t.lane k).isOpen = true) :
    (closeLanes f).find? (fun k => !(t.lane k).isOpen) = none := by
  simpa using ho

/-- A CLOSE into a V register. -/
theorem close_register (hx : x.stop = none) (hsyn : x.tile.syn = []) (ho : ∀ k ∈ closeLanes f, (x.tile.lane k).isOpen = true)
    (hdt : f.dt = false) : (x.close f []).2 = x.upd (closeTile f) := by
  have hconv : convCheck [] = none := rfl
  have htouch : (x.upd (closeShut f)).touch 5 (16 * f.vd.toNat) 16 = x.upd (closeShut f) :=
    TX.touch_clean _ _ _ _ (closeShut_syn.trans hsyn)
  have hbytes : (closeShut f x.tile).vBytes = x.tile.vBytes := by
    unfold Tile.vBytes
    rw [closeShut_v]
  have hpsn := Tile.vPoison_of (closeShut f x.tile) x.tile closeShut_vTag
  unfold TX.close
  simp only [find_closed_eq_none ho, hconv, hx, hdt, TX.foldl_eatPoison, Option.isSome_none, Bool.false_eq_true, if_false]
  cases hall : f.all with
  | true =>
    simp only [TX.upd, closeTile, hdt, hall, Bool.false_eq_true, if_false, if_true]
    rfl
  | false =>
    simp only [Bool.false_eq_true, if_false]
    show ((x.upd (closeShut f)).touch 5 (16 * f.vd.toNat) 16).andThen _ = _
    rw [htouch, andThen_go _ _ (by exact hx)]
    simp only [TX.upd, closeTile, hdt, hall, hbytes, hpsn, Bool.false_eq_true, if_false]
    rfl

/-- A CLOSE into an output: its flits are made, and leave in the cycles that follow. -/
theorem close_output (hx : x.stop = none) (ho : ∀ k ∈ closeLanes f, (x.tile.lane k).isOpen = true) (hdt : f.dt = true) :
    x.close f [] = (closeFlits f x.tile, x.upd (closeShut f)) := by
  unfold TX.close
  have hconv : convCheck [] = none := rfl
  simp only [find_closed_eq_none ho, hconv, hx, hdt, if_true, TX.foldl_eatPoison]
  refine Prod.ext ?_ rfl
  show mkFlits (closeShut f x.tile).epoch.cur _ _ _ _ _ _ = _
  rw [closeShut_epoch]
  rfl

/-! ### The flight of a CLOSE -/

theorem Tile.sent_lay {n : Nat} {q : Flit} : (t.lay r).sent n q = (t.sent n q).lay r := by
  unfold Tile.sent
  rw [← Tile.count_lay, ← Tile.count_lay]
  rfl

theorem Tile.credit_sent (n : Nat) (q : Flit) : (t.sent n q).credit n = t.credit n - 1 := by
  have hlt : t.credit n < 64 := (SMap.get 0 t.cred n).isLt
  simp only [Tile.sent, Tile.credit_count]
  simp only [Tile.credit, SMap.get_put_same, BitVec.toNat_ofNat]
  exact Nat.mod_eq_of_lt (by unfold Tile.credit at hlt; omega)

theorem TX.emit_some {n : Nat} (q : Flit) (hc : x.tile.credit n ≠ 0) : x.emit n q = some (x.upd (·.sent n q)) := by
  simp [TX.emit, hc, TX.upd, TX.count, Tile.sent]

theorem pump_close_empty (hop : fl.op = .close f) (htag : x.tag = (fl.n, TInstr.word ⟨fl.hd, fl.op⟩)) (hout : fl.out = []) :
    x.pump false chk fl = (none, x) := by
  unfold TX.pump
  rw [TX.named htag]
  obtain ⟨n, hd, op, got, popped, out⟩ := fl
  obtain rfl : op = .close f := hop
  obtain rfl : out = [] := hout
  simp

theorem pump_close_sends {o : Flit} {os : List Flit} (hop : fl.op = .close f)
    (htag : x.tag = (fl.n, TInstr.word ⟨fl.hd, fl.op⟩)) (hout : fl.out = o :: os) (hc : x.tile.credit f.out.toNat ≠ 0) :
    x.pump false chk fl =
      (if os.isEmpty then none else some { fl with out := os }, x.upd (·.sent f.out.toNat o)) := by
  unfold TX.pump
  rw [TX.named htag]
  obtain ⟨n, hd, op, got, popped, out⟩ := fl
  obtain rfl : op = .close f := hop
  obtain rfl : out = o :: os := hout
  simp [TX.emit_some _ hc]

theorem pumps_close_sends {o : Flit} {os : List Flit} (hop : fl.op = .close f)
    (htag : x.tag = (fl.n, TInstr.word ⟨fl.hd, fl.op⟩)) (hout : fl.out = o :: os) (hx : x.stop = none)
    (hc : x.tile.credit f.out.toNat ≠ 0) :
    Pumps chk fl b x (if os.isEmpty then none else some { fl with out := os }) b (x.upd (·.sent f.out.toNat o)) where
  pump l q := by
    rw [← TX.upd_lay fun _ => Tile.sent_lay]
    exact pump_close_sends hop htag hout hc
  moves h := by
    split at h
    · cases h
    · simpa [hout] using congrArg InFlight.out (Option.some.inj h)
  runs := hx

/-- A CLOSE with credits for all its flits sends one in each cycle. -/
theorem flies_close {os : List Flit} (hop : fl.op = .close f) (htag : x.tag = (fl.n, TInstr.word ⟨fl.hd, fl.op⟩))
    (hout : fl.out = os) (hx : x.stop = none) (hc : os.length ≤ x.tile.credit f.out.toNat) :
    Flies chk (some fl) b x (max os.length 1) none b (x.upd fun t => os.foldl (fun u q => u.sent f.out.toNat q) t) := by
  induction os generalizing fl x with
  | nil => exact .step ⟨fun l q => pump_close_empty hop htag hout, nofun, hx⟩ (.refl _ _ _)
  | cons o os ih =>
    rw [List.length_cons] at hc
    have one := pumps_close_sends (chk := chk) (b := b) hop htag hout hx (by omega)
    cases os with
    | nil => exact .step one (.refl _ _ _)
    | cons o' os =>
      have hc' : (o' :: os).length ≤ (x.tile.sent f.out.toNat o).credit f.out.toNat := by
        rw [Tile.credit_sent]
        omega
      have more := ih (fl := { fl with out := o' :: os }) (x := x.upd (·.sent f.out.toNat o)) hop htag rfl hx hc'
      rw [show max (o' :: os).length 1 = (o' :: os).length by simp] at more
      exact .step one more

theorem mkFlits_length {ep kind tag psn eot bs n} : (mkFlits ep kind tag psn eot bs n).length = n := by
  induction n generalizing bs with
  | zero => rfl
  | succ n ih => rw [mkFlits, List.length_cons, ih]

/-- A CLOSE that sends its result has ended after at most 64 cycles: an output never holds more credits. -/
theorem flies_closeTile (hop : fl.op = .close f) (htag : x.tag = (fl.n, TInstr.word ⟨fl.hd, fl.op⟩))
    (hout : fl.out = closeFlits f x.tile) (hx : x.stop = none) (hdt : f.dt = true)
    (hc : (if f.all then (recordBytes f.dfmt.toNat + 31) / 32 else 1) ≤ x.tile.credit f.out.toNat) :
    ∃ k ≤ 64, Flies chk (some fl) b (x.upd (closeShut f)) k none b (x.upd (closeTile f)) := by
  have hcredit : (closeFlits f x.tile).length ≤ (closeShut f x.tile).credit f.out.toNat := by
    rwa [closeFlits, mkFlits_length, closeShut_credit]
  have hshort : (closeFlits f x.tile).length < 64 := hcredit.trans_lt (BitVec.isLt _)
  have hsent : (x.upd (closeShut f)).upd (fun t => (closeFlits f x.tile).foldl (fun u q => u.sent f.out.toNat q) t) =
      x.upd (closeTile f) := by
    simp only [TX.upd, closeTile, hdt, if_true]
  exact ⟨_, by omega, hsent ▸ flies_close (x := x.upd (closeShut f)) hop htag hout hx hcredit⟩

end Sys2Proof.Machine
end

section
open Sys2Proof Sys2Proof.Machine

/-- Settles O16: a closed lane stops the instruction; a V register takes the result in the issue cycle, an output over the
cycles that send its flits. -/
theorem closeConverts : Obligations.CloseConverts := by
  unfold Obligations.CloseConverts
  refine ⟨fun s p f chk k hr hk => ?_, fun s p f hr ho hc => ?_⟩
  · refine congrArg Host.Outcome.next (runInstr_slotFault hr fun x _ hlane => ?_)
    simp only [TX.start, TX.close, hlane, hk]
  · have hlane := Tile.lane_count (s.seen p.tile) 0x02 1
    have hopen : ∀ k ∈ closeLanes f, ((s.txOf p (.close f)).tile.lane k).isOpen = true := fun k hk =>
      (congrArg (fun g => (g k).isOpen) hlane).trans (ho k hk)
    show Does _ _ (s.after p (closeTile f))
    refine congrArg Host.Outcome.next ?_
    cases hdt : f.dt with
    | false =>
      refine runInstr_after hr ?_ closeTile_kept
      have hclose := close_register (x := s.txOf p (.close f)) rfl (ready_base hr).1 hopen hdt
      simp only [TX.start, hclose, hdt]
      rfl
    | true =>
      have hclose := close_output (x := s.txOf p (.close f)) rfl hopen hdt
      have hstart : (s.txOf p (.close f)).start p.hd (.close f) false [] =
          (some ((s.txOf p (.close f)).flight p.hd (.close f) 2 (closeFlits f (s.txOf p (.close f)).tile)),
            (s.txOf p (.close f)).upd (closeShut f)) := by
        simp only [TX.start, hclose, hdt]
        rfl
      obtain ⟨k, hk, hfly⟩ := flies_closeTile (chk := []) (b := (closeShut f (s.txOf p (.close f)).tile).board)
        (fl := (s.txOf p (.close f)).flight p.hd (.close f) 2 (closeFlits f (s.txOf p (.close f)).tile)) rfl rfl rfl rfl hdt
        ((hc hdt).trans (Tile.credit_count _ 0x02 1 _).ge)
      have hboard : (closeShut f (s.txOf p (.close f)).tile).board = (closeTile f (s.txOf p (.close f)).tile).board :=
        congrArg (·.1.board) (closeShut_kept.trans closeTile_kept.symm)
      rw [runInstr_after_flight hr rfl hstart rfl closeShut_kept closeTile_kept hfly (by omega), hboard]
      exact after_congr rfl
end

section
/-! SUPPORT. GMAC over the cycles of its flight: it pops the flits of one iteration after another, and each iteration enters
the units once its records are there (R139 to R142). -/
namespace Sys2Proof.Machine

variable {chk : List CheckEv} {x y w : TX} {fl fl' : InFlight} {b : Board} {i : BitVec 9 × W64} {r : Aside} {X : TX}
  {f : GmacF} {g : GmacBase} {n m popped popped' iter : Nat} {h : Head}

/-! ### Popping a GMAC's A stream -/

/-- Whether the flits that a GMAC has popped hold all records of its A side. -/
def gmacWhole (f : GmacF) (got : List Flit) : Bool := (cutRecs f.afmt.toNat (gmacACount f) got).isSome

/-- The pops read nothing of a flight but its flits and their number, and change nothing else of it. -/
theorem gmacPops_flight (hgot : fl.got = fl'.got) (hpop : fl.popped = fl'.popped) :
    x.gmacPops f fl n = ({ fl with
      got := (x.gmacPops f fl' n).1.got
      popped := (x.gmacPops f fl' n).1.popped }, (x.gmacPops f fl' n).2) := by
  induction n generalizing x fl fl' with
  | zero =>
    simp only [TX.gmacPops, ← hgot, ← hpop]
  | succ n ih =>
    simp only [TX.gmacPops, ← hgot, ← hpop]
    split
    · simp only [← hgot, ← hpop]
    split
    · simp only [← hgot, ← hpop]
    split
    · simp only [← hgot, ← hpop]
    · exact ih rfl rfl

/-- A stream that is whole, or a tile that has stopped, pops no more. -/
theorem gmacPops_done (hd : (gmacWhole f fl.got || x.stop.isSome) = true) : x.gmacPops f fl n = (fl, x) := by
  cases n with
  | zero => rfl
  | succ n => rw [TX.gmacPops, if_pos (by exact hd)]

theorem TX.poisonStop_stops (x : TX) (c : Byte) : (x.poisonStop c).stop.isSome = true := by
  unfold TX.poisonStop TX.halt
  split
  · next hs => rw [hs]; rfl
  · rfl

/-- What the pops can do: nothing, since the stream is whole, the tile has stopped or no flit is there; stop at a poisoned
control flit (R117); or pop one flit and go on. -/
theorem gmacPops_cases (f : GmacF) (fl : InFlight) (x : TX) :
    (∀ n, x.gmacPops f fl n = (fl, x)) ∨
    (∃ y : TX, y.stop.isSome = true ∧ ∀ n, x.gmacPops f fl (n + 1) = (fl, y)) ∨
    ∃ (fl' : InFlight) (y : TX), fl'.popped = fl.popped + 1 ∧ ∀ n, x.gmacPops f fl (n + 1) = y.gmacPops f fl' n := by
  by_cases hd : (gmacWhole f fl.got || x.stop.isSome) = true
  · exact .inl fun n => gmacPops_done hd
  · cases hh : x.tile.head (gmacQueueOf f fl.popped) with
    | none =>
      refine .inl fun n => ?_
      cases n with
      | zero => rfl
      | succ n =>
        rw [TX.gmacPops, if_neg (by exact hd)]
        simp only [TX.pop_eq, hh, Option.map_none]
    | some q =>
      have hnext (n : Nat) : x.gmacPops f fl (n + 1) =
          if badControl q then (fl, (x.upd (·.popped (gmacQueueOf f fl.popped))).poisonStop 0x0B)
          else ((x.upd (·.popped (gmacQueueOf f fl.popped))).eatPoison (flitPoison f.afmt.toNat fl.got q)).gmacPops f
            { fl with got := fl.got ++ [q], popped := fl.popped + 1 } n := by
        rw [TX.gmacPops, if_neg (by exact hd)]
        simp only [TX.pop_eq, hh, Option.map_some]
      by_cases hq : badControl q = true
      · exact .inr (.inl ⟨_, TX.poisonStop_stops _ 0x0B, fun n => by rw [hnext, if_pos hq]⟩)
      · exact .inr (.inr ⟨_, _, rfl, fun n => by rw [hnext, if_neg hq]⟩)

/-- Pops over two spans of pops. -/
theorem gmacPops_add : x.gmacPops f fl (n + m) = (x.gmacPops f fl n).2.gmacPops f (x.gmacPops f fl n).1 m := by
  induction n generalizing x fl with
  | zero => rw [Nat.zero_add]; rfl
  | succ n ih =>
    obtain hstuck | ⟨y, hy, hstop⟩ | ⟨fl', y, -, hgo⟩ := gmacPops_cases f fl x
    · simp only [hstuck]
    · rw [Nat.add_right_comm, hstop, hstop, gmacPops_done (by rw [hy, Bool.or_true])]
    · rw [Nat.add_right_comm, hgo, hgo, ih]

theorem gmacPops_popped_le : fl.popped ≤ (x.gmacPops f fl n).1.popped := by
  induction n generalizing x fl with
  | zero => exact le_rfl
  | succ n ih =>
    obtain hstuck | ⟨y, -, hstop⟩ | ⟨fl', y, hpopped, hgo⟩ := gmacPops_cases f fl x
    · rw [hstuck]
    · rw [hstop]
    · have := ih (x := y) (fl := fl')
      rw [hgo]
      omega

/-- A stream that becomes whole moves on with every span of pops. -/
theorem gmacPops_moves (hbefore : gmacWhole f fl.got = false) (hafter : gmacWhole f (x.gmacPops f fl m).1.got = true)
    (hn : n ≠ 0) : fl.popped < (x.gmacPops f fl n).1.popped := by
  obtain ⟨n, rfl⟩ := Nat.exists_eq_succ_of_ne_zero hn
  have hm : m ≠ 0 := by
    rintro rfl
    exact Bool.false_ne_true (hbefore.symm.trans hafter)
  obtain ⟨m, rfl⟩ := Nat.exists_eq_succ_of_ne_zero hm
  obtain hstuck | ⟨y, -, hstop⟩ | ⟨fl', y, hpopped, hgo⟩ := gmacPops_cases f fl x
  · rw [hstuck, hbefore] at hafter
    cases hafter
  · rw [hstop, hbefore] at hafter
    cases hafter
  · have := gmacPops_popped_le (f := f) (fl := fl') (x := y) (n := n)
    rw [hgo]
    omega

/-- Two spans of pops that both make a stream whole do the same. -/
theorem gmacPops_whole_eq (hn : gmacWhole f (x.gmacPops f fl n).1.got = true) (hm : n ≤ m) :
    x.gmacPops f fl m = x.gmacPops f fl n := by
  obtain ⟨d, rfl⟩ := Nat.exists_eq_add_of_le hm
  rw [gmacPops_add, gmacPops_done (by rw [hn, Bool.true_or])]

theorem gmacPops_stop (hm : n ≤ m) (hs : (x.gmacPops f fl m).2.stop = none) : (x.gmacPops f fl n).2.stop = none := by
  obtain ⟨d, rfl⟩ := Nat.exists_eq_add_of_le hm
  rw [gmacPops_add] at hs
  by_contra hne
  rw [gmacPops_done (by rw [Option.isSome_iff_ne_none.mpr hne, Bool.or_true])] at hs
  exact hne hs

/-! ### One cycle of the flight -/

/-- The flits that a GMAC pops in one cycle at most (R141). -/
def gmacWidth (f : GmacF) : Nat := if f.apair then 2 else 1

theorem TX.count_zero (x : TX) (a : Nat) : x.count a 0 = x := rfl

theorem gmacTake_runs (hs : (x.gmacPops f fl n).2.stop = none) : x.gmacTake f fl n = x.gmacPops f fl n := by
  simp [TX.gmacTake, hs]

theorem pump_gmac (hop : fl.op = .gmac f) (htag : x.tag = (fl.n, TInstr.word ⟨fl.hd, fl.op⟩)) :
    x.pump false chk fl = x.gmacPump false chk f fl := by
  unfold TX.pump
  rw [TX.named htag]
  obtain ⟨n, hd, op⟩ := fl
  obtain rfl : op = .gmac f := hop
  simp

/-- A stream that is not whole yet waits. -/
theorem gmacPump_waits (hq : gmacAQueue f = true) (hs : (x.gmacPops f fl (gmacWidth f)).2.stop = none)
    (hw : gmacWhole f (x.gmacPops f fl (gmacWidth f)).1.got = false) :
    x.gmacPump false chk f fl =
      (some (x.gmacPops f fl (gmacWidth f)).1, (x.gmacPops f fl (gmacWidth f)).2) := by
  have hrows : (x.gmacPops f fl (gmacWidth f)).1.rows = fl.rows := by rw [gmacPops_flight rfl rfl]
  have hcut : cutRecs f.afmt.toNat (gmacACount f) (x.gmacPops f fl (gmacWidth f)).1.got = none :=
    Option.isNone_iff_eq_none.mp (Option.isSome_eq_false_iff.mp hw)
  have htake : x.gmacTake f fl (if f.apair then 2 else 1) = x.gmacPops f fl (gmacWidth f) := gmacTake_runs hs
  simp [TX.gmacPump, hq, htake, hcut, TX.count_zero, hs, ← hrows]

/-- A stream that is whole starts its iteration. -/
theorem gmacPump_enters {a : List SideRec × List Flit} (hq : gmacAQueue f = true) (hrows : fl.rows = 0)
    (hs : (x.gmacPops f fl (gmacWidth f)).2.stop = none)
    (ha : cutRecs f.afmt.toNat (gmacACount f) (x.gmacPops f fl (gmacWidth f)).1.got = some a) :
    x.gmacPump false chk f fl =
      (((x.gmacPops f fl (gmacWidth f)).2.count 0x10 (gmacRows fl.base f fl.iter)).gmacIter f fl.base fl.iter false chk
        a.1).gmacNext { (x.gmacPops f fl (gmacWidth f)).1 with rows := gmacRows fl.base f fl.iter } f := by
  have hbase : (x.gmacPops f fl (gmacWidth f)).1.base = fl.base := by rw [gmacPops_flight rfl rfl]
  have hiter : (x.gmacPops f fl (gmacWidth f)).1.iter = fl.iter := by rw [gmacPops_flight rfl rfl]
  have htake : x.gmacTake f fl (if f.apair then 2 else 1) = x.gmacPops f fl (gmacWidth f) := gmacTake_runs hs
  have hcount : ((x.gmacPops f fl (gmacWidth f)).2.count 0x10 (gmacRows fl.base f fl.iter)).stop = none := hs
  simp [TX.gmacPump, hq, htake, ha, hrows, hcount, hbase, hiter]

/-- An A side with an address register starts an iteration in each cycle. -/
theorem gmacPump_addressed (hq : gmacAQueue f = false) (hrows : fl.rows = 0) (hs : x.stop = none) :
    x.gmacPump false chk f fl =
      ((x.count 0x10 (gmacRows fl.base f fl.iter)).gmacIterA f fl.base fl.iter false chk).gmacNext
        { fl with rows := gmacRows fl.base f fl.iter } f := by
  have hcount : (x.count 0x10 (gmacRows fl.base f fl.iter)).stop = none := hs
  simp [TX.gmacPump, hq, hrows, hcount]

/-- After an iteration the next is due, and after the last none (R139): the board alone changes. -/
theorem gmacNext_lay (hs : x.stop = none) : ∃ o b', (∀ l p, (x.lay ⟨l, b, p⟩).gmacNext fl f = (o, x.lay ⟨l, b', p⟩)) ∧
    o = if f.rep.toNat ≤ fl.iter then none
      else some { fl with iter := fl.iter + 1, got := [], rows := 0, from_ := x.tile.cyc + gmacPer f } := by
  refine ⟨_, ((x.lay ⟨[], b, 0⟩).gmacNext fl f).2.tile.board, fun l p => ?_, rfl⟩
  have hstop (r : Aside) (F : Tile → Tile) : ((x.lay r).upd F).stop = none := hs
  by_cases hlast : f.rep.toNat ≤ fl.iter
  · simp only [TX.gmacNext, hlast, decide_true, Bool.or_true, if_true]
    rfl
  · simp only [TX.gmacNext, hstop, hlast, decide_false, Option.isSome_none, Bool.or_self, Bool.false_eq_true, if_false]
    rfl

/-! ### One iteration of the flight, and all -/

/-- A GMAC in flight before an iteration, of which it has popped nothing yet. -/
structure Fresh (f : GmacF) (g : GmacBase) (i : BitVec 9 × W64) (fl : InFlight) (iter popped : Nat) : Prop where
  op : fl.op = .gmac f
  tag : i = (fl.n, TInstr.word ⟨fl.hd, fl.op⟩)
  base : fl.base = g
  got : fl.got = []
  rows : fl.rows = 0
  iter : fl.iter = iter
  popped : fl.popped = popped

/-- A cycle that leaves the A stream short of a flit. -/
theorem pumps_gmac_waits (hop : fl.op = .gmac f) (htag : x.tag = (fl.n, TInstr.word ⟨fl.hd, fl.op⟩))
    (hq : gmacAQueue f = true) (hs : (x.gmacPops f fl (gmacWidth f)).2.stop = none)
    (hone : gmacWhole f (x.gmacPops f fl (gmacWidth f)).1.got = false)
    (hlater : gmacWhole f (x.gmacPops f fl n).1.got = true) :
    Pumps chk fl b x (some (x.gmacPops f fl (gmacWidth f)).1) b (x.gmacPops f fl (gmacWidth f)).2 where
  pump l q := by
    have hlay := ((x.mate_lay ⟨l, b, q⟩).gmacPops (f := f) (fl := fl) (n := gmacWidth f)).eq
    rw [pump_gmac hop (by exact htag), gmacPump_waits hq (by rw [hlay]; exact hs) (by rw [hlay]; exact hone), hlay]
  moves heq := by
    have hwidth : gmacWidth f ≠ 0 := by unfold gmacWidth; split <;> decide
    have hbefore : gmacWhole f fl.got = false := by
      by_contra hw
      rw [gmacPops_done (by rw [Bool.not_eq_false _ |>.mp hw, Bool.true_or])] at hone
      exact hw hone
    have hmoves := gmacPops_moves hbefore hlater hwidth
    rw [Option.some.inj heq] at hmoves
    exact lt_irrefl _ hmoves
  runs := hs

/-- A GMAC in flight waits until one more cycle's pops make its A stream whole. -/
theorem flies_pops (hop : fl.op = .gmac f) (htag : x.tag = (fl.n, TInstr.word ⟨fl.hd, fl.op⟩)) (hq : gmacAQueue f = true)
    (hs : (x.gmacPops f fl n).2.stop = none) (hw : gmacWhole f (x.gmacPops f fl n).1.got = true) :
    ∃ k ≤ n - 1, ∃ got popped x', x'.tag = x.tag ∧
      Flies chk (some fl) b x k (some { fl with got := got, popped := popped }) b x' ∧
      x'.gmacPops f { fl with got := got, popped := popped } (gmacWidth f) = x.gmacPops f fl n := by
  induction n using Nat.strong_induction_on generalizing fl x with
  | _ n ih =>
  cases hone : gmacWhole f (x.gmacPops f fl (gmacWidth f)).1.got with
  | true =>
    refine ⟨0, Nat.zero_le _, fl.got, fl.popped, x, rfl, .refl _ _ _, ?_⟩
    obtain hle | hle := Nat.le_total (gmacWidth f) n
    · exact (gmacPops_whole_eq hone hle).symm
    · exact gmacPops_whole_eq hw hle
  | false =>
    have hlt : gmacWidth f < n := by
      by_contra hge
      rw [gmacPops_whole_eq hw (Nat.le_of_not_lt hge), hw] at hone
      cases hone
    have hwidth : 0 < gmacWidth f := by unfold gmacWidth; split <;> decide
    have one := pumps_gmac_waits (chk := chk) (b := b) hop htag hq (gmacPops_stop hlt.le hs) hone hw
    have htag' : (x.gmacPops f fl (gmacWidth f)).2.tag = x.tag := ((x.mate_lay x.tile.aside).gmacPops).snd.tag
    obtain ⟨d, rfl⟩ := Nat.exists_eq_add_of_le hlt.le
    rw [gmacPops_add] at hs hw
    have hfl := congrArg Prod.fst (gmacPops_flight (f := f) (x := x) (n := gmacWidth f) (fl := fl) (fl' := fl) rfl rfl)
    obtain ⟨k, hk, got, popped, x', hx', more, hpops⟩ := ih d (by omega) (by rw [hfl]; exact hop)
      (by rw [htag', htag, hfl]) hs hw
    have hsame : { (x.gmacPops f fl (gmacWidth f)).1 with got := got, popped := popped } =
        { fl with got := got, popped := popped } := by rw [hfl]
    rw [hsame] at more hpops
    exact ⟨k + 1, by omega, got, popped, x', hx'.trans htag', .step one more, hpops.trans gmacPops_add.symm⟩

/-- The cycle in which an iteration enters the units: p is the flight once the iteration's flits are popped. -/
theorem pumps_gmac_enters {p : InFlight} (hop : fl.op = .gmac f) (htag : i = (fl.n, TInstr.word ⟨fl.hd, fl.op⟩))
    (hp : p = { fl with got := p.got, popped := popped, rows := p.rows })
    (hpump : ∀ l q, (x.lay ⟨l, b, q⟩).pump false chk fl = (w.lay ⟨l, b, q⟩).gmacNext p f) (hw : w.stop = none) :
    ∃ o b', Pumps chk fl b x o b' w ∧
      if f.rep.toNat ≤ fl.iter then o = none else ∃ fl', o = some fl' ∧ Fresh f fl.base i fl' (fl.iter + 1) popped := by
  obtain ⟨o, b', hnext, ho⟩ := gmacNext_lay (fl := p) (f := f) (b := b) hw
  have hiter : p.iter = fl.iter := by rw [hp]
  rw [hiter] at ho
  refine ⟨o, b', ⟨fun l q => (hpump l q).trans (hnext l q), fun heq => ?_, hw⟩, ?_⟩
  · rw [heq] at ho
    split at ho
    · cases ho
    · exact absurd (congrArg InFlight.iter (Option.some.inj ho)) (Nat.ne_of_lt (Nat.lt_succ_self _))
  · split
    · next hlast => rw [ho, if_pos hlast]
    · next hlast =>
      refine ⟨_, by rw [ho, if_neg hlast], ?_⟩
      rw [hp]
      exact ⟨hop, htag, rfl, rfl, rfl, rfl, rfl⟩

/-- The cycle whose pops make the A stream whole. -/
theorem pumps_gmac_whole {q : InFlight × TX} {a : List SideRec × List Flit} (hop : fl.op = .gmac f)
    (htag : x.tag = (fl.n, TInstr.word ⟨fl.hd, fl.op⟩)) (hq : gmacAQueue f = true) (hrows : fl.rows = 0)
    (hpops : x.gmacPops f fl (gmacWidth f) = q) (hs : q.2.stop = none)
    (ha : cutRecs f.afmt.toNat (gmacACount f) q.1.got = some a)
    (hw : ((q.2.count 0x10 (gmacRows fl.base f fl.iter)).gmacIter f fl.base fl.iter false chk a.1).stop = none) :
    ∃ o b', Pumps chk fl b x o b'
        ((q.2.count 0x10 (gmacRows fl.base f fl.iter)).gmacIter f fl.base fl.iter false chk a.1) ∧
      if f.rep.toNat ≤ fl.iter then o = none
        else ∃ fl', o = some fl' ∧ Fresh f fl.base x.tag fl' (fl.iter + 1) q.1.popped := by
  subst hpops
  have hlay (r : Aside) := (x.mate_lay r).gmacPops (f := f) (fl := fl) (n := gmacWidth f)
  have hiter (r : Aside) := (hlay r).snd.count (a := 0x10) (n := gmacRows fl.base f fl.iter)
    |>.gmacIter (f := f) (g := fl.base) (iter := fl.iter) (skip := false) (chk := chk) (as := a.1)
  refine pumps_gmac_enters (p := { (x.gmacPops f fl (gmacWidth f)).1 with rows := gmacRows fl.base f fl.iter })
    hop htag ?_ (fun l p => ?_) hw
  · have hsame := congrArg Prod.fst (gmacPops_flight (f := f) (x := x) (n := gmacWidth f) (fl := fl) (fl' := fl) rfl rfl)
    rw [hsame]
  · rw [pump_gmac (x := x.lay _) hop htag, gmacPump_enters (a := a) hq hrows
      (by rw [(hlay _).eq]; exact hs) (by rw [(hlay _).eq]; exact ha), (hlay _).fst, (hiter _).eq]

/-- An iteration by itself, of a GMAC whose A side is a queue, in the terms of its flight. -/
theorem gmacOnce_queue (hfl : Fresh f g x.tag fl iter popped) (hq : gmacAQueue f = true)
    (hy : x.gmacOnce h f g popped iter false chk = some (popped', w)) :
    ∃ a, (x.gmacPops f fl 16).2.stop = none ∧
      cutRecs f.afmt.toNat (gmacACount f) (x.gmacPops f fl 16).1.got = some a ∧
      popped' = (x.gmacPops f fl 16).1.popped ∧
      w = ((x.gmacPops f fl 16).2.count 0x10 (gmacRows g f iter)).gmacIter f g iter false chk a.1 := by
  rw [gmacPops_flight (fl' := { n := x.n, hd := h, op := .gmac f, popped := popped }) hfl.got hfl.popped]
  simp only [TX.gmacOnce, hq, if_true, Bool.false_eq_true, if_false] at hy
  split at hy
  · cases hy
  · next hstop =>
    obtain ⟨a, ha, hval⟩ := Option.map_eq_some_iff.mp hy
    cases hval
    exact ⟨a, Option.not_isSome_iff_eq_none.mp hstop, ha, rfl, rfl⟩

/-- One iteration of a GMAC by itself is one iteration of its flight, of at most 16 cycles. -/
theorem flies_once (hfl : Fresh f g x.tag fl iter popped) (hx : x.stop = none)
    (hy : x.gmacOnce h f g popped iter false chk = some (popped', w)) (hw : w.stop = none) :
    ∃ k ≤ 16, ∃ o b', Flies chk (some fl) b x k o b' w ∧ w.tag = x.tag ∧
      if f.rep.toNat ≤ iter then o = none else ∃ fl', o = some fl' ∧ Fresh f g x.tag fl' (iter + 1) popped' := by
  cases hq : gmacAQueue f with
  | false =>
    obtain ⟨hop, htag, rfl, hgot, hrows, rfl, rfl⟩ := hfl
    simp only [TX.gmacOnce, hq, Bool.false_eq_true, if_false, Option.some.injEq] at hy
    cases hy
    have hlay (r : Aside) := (x.mate_lay r).count (a := 0x10) (n := gmacRows fl.base f fl.iter)
      |>.gmacIterA (f := f) (g := fl.base) (iter := fl.iter) (skip := false) (chk := chk)
    obtain ⟨o, b', one, ho⟩ := pumps_gmac_enters (b := b) (x := x) (chk := chk) (popped := fl.popped)
      (p := { fl with rows := gmacRows fl.base f fl.iter }) hop htag rfl (fun l q => by
        rw [pump_gmac (x := x.lay _) hop htag, gmacPump_addressed hq hrows (by exact hx), (hlay _).eq]) hw
    exact ⟨1, by decide, o, b', .step one (.refl _ _ _), (hlay x.tile.aside).tag, ho⟩
  | true =>
    obtain ⟨a, hs, ha, rfl, rfl⟩ := gmacOnce_queue hfl hq hy
    obtain ⟨hop, htag, rfl, hgot, hrows, rfl, rfl⟩ := hfl
    obtain ⟨k, hk, got, popped, x', htag', hfly, hpops⟩ := flies_pops (chk := chk) (b := b) hop htag hq hs
      (Option.isSome_of_eq_some ha)
    obtain ⟨o, b', one, ho⟩ := pumps_gmac_whole (b := b) (fl := { fl with got := got, popped := popped }) hop
      (htag'.trans htag) hq hrows hpops hs ha hw
    have hend := (((x.mate_lay x.tile.aside).gmacPops (f := f) (fl := fl) (n := 16)).snd.count (a := 0x10)
      (n := gmacRows fl.base f fl.iter)).gmacIter (f := f) (g := fl.base) (iter := fl.iter) (skip := false) (chk := chk)
      (as := a.1)
    exact ⟨k + 1, by omega, o, b', hfly.trans (.step one (.refl _ _ _)), hend.tag, htag' ▸ ho⟩

theorem gmacAll_succ (hy : TX.gmacAll h f g chk (m + 1) iter popped x = some y) :
    ∃ popped' w, x.gmacOnce h f g popped iter false chk = some (popped', w) ∧ w.stop = none ∧
      TX.gmacAll h f g chk m (iter + 1) popped' w = some y := by
  obtain ⟨⟨popped', w⟩, honce, hrest⟩ := Option.bind_eq_some_iff.mp hy
  split at hrest
  · cases hrest
  · next hstop => exact ⟨popped', w, honce, Option.not_isSome_iff_eq_none.mp hstop, hrest⟩

/-- All iterations of a GMAC, from iteration iter on. -/
theorem flies_all (hfl : Fresh f g x.tag fl iter popped) (hx : x.stop = none) (hm : iter + m = f.rep.toNat)
    (hy : TX.gmacAll h f g chk (m + 1) iter popped x = some y) :
    ∃ k ≤ 16 * (m + 1), ∃ b', Flies chk (some fl) b x k none b' y := by
  induction m generalizing fl x iter popped b with
  | zero =>
    obtain ⟨popped', w, honce, hw, hrest⟩ := gmacAll_succ hy
    obtain ⟨k, hk, o, b', hfly, -, ho⟩ := flies_once (b := b) hfl hx honce hw
    rw [if_pos (by omega)] at ho
    cases hrest
    exact ⟨k, hk, b', ho ▸ hfly⟩
  | succ m ih =>
    obtain ⟨popped', w, honce, hw, hrest⟩ := gmacAll_succ hy
    obtain ⟨k, hk, o, b1, hfly, htag, ho⟩ := flies_once (b := b) hfl hx honce hw
    rw [if_neg (by omega)] at ho
    obtain ⟨fl', rfl, hfl'⟩ := ho
    obtain ⟨k', hk', b', hflies⟩ := ih (b := b1) (htag ▸ hfl') hw (by omega) hrest
    exact ⟨k + k', by omega, b', hfly.trans hflies⟩

/-! ### The issue of a GMAC -/

theorem gmacFault_of {t u : Tile} (h : t.lane = u.lane) : gmacFault t f = gmacFault u f := by
  simp only [gmacFault, h]

theorem gmacBase_count (t : Tile) (a n : Nat) : gmacBase (t.count a n) f = gmacBase t f := by
  simp only [gmacBase, regAddr, Tile.getG, Tile.count_g, count_gPoison, Tile.count_tables]

theorem gmacRegs_clean (hs : x.tile.syn = []) : x.gmacRegs f = x := by
  unfold TX.gmacRegs
  split <;> simp only [TX.touch_clean _ _ _ _ hs]

theorem TX.mate_self (x : TX) : TX.Mate x.tag x.tile.aside x x := x.mate_lay x.tile.aside

theorem TX.Mate.aside (hx : TX.Mate i r x x) : x.tile.aside = r := congrArg (·.tile.aside) hx.eq

/-- An iteration leaves aside what a GMAC leaves aside. -/
theorem gmacOnce_mate {skip : Bool} (hx : TX.Mate i r x x)
    (hy : x.gmacOnce h f g popped iter skip chk = some (popped', w)) : TX.Mate i r w w := by
  unfold TX.gmacOnce at hy
  cases hq : gmacAQueue f with
  | false =>
    rw [if_neg (by simp [hq])] at hy
    cases hy
    exact hx.count.gmacIterA
  | true =>
    rw [if_pos hq] at hy
    obtain ⟨-, hmap⟩ := Option.ite_none_left_eq_some.mp hy
    obtain ⟨a, -, hval⟩ := Option.map_eq_some_iff.mp hmap
    cases hval
    exact hx.gmacPops.snd.count.gmacIter

theorem gmacAll_mate (hx : TX.Mate i r x x) (hy : TX.gmacAll h f g chk m iter popped x = some y) : TX.Mate i r y y := by
  induction m generalizing x iter popped with
  | zero =>
    cases hy
    exact hx
  | succ m ih =>
    obtain ⟨popped', w, honce, -, hrest⟩ := gmacAll_succ hy
    exact ih (gmacOnce_mate hx honce) hrest

/-- A skipped GMAC reads no tile memory (R100). -/
theorem gmacRows_skipped (hskip : gmacSkips x f = true) : gmacRows g f iter = 0 := by
  unfold gmacSkips at hskip
  dsimp only at hskip
  split at hskip
  · next hc =>
    simp only [Bool.and_eq_true, Bool.not_eq_true', decide_eq_true_eq] at hc
    obtain ⟨⟨-, hbsrc⟩, hasrc⟩ := hc
    simp only [gmacRows, hbsrc, if_neg hasrc, Bool.false_eq_true, if_false]
  · cases hskip

/-- A skipped GMAC makes its iteration in its issue cycle. -/
theorem start_gmac_skipped {s : TX} (hskip : gmacSkips s f = true) (hf : gmacFault x.tile f = none) (hsyn : x.tile.syn = [])
    (hx : x.stop = none) (hy : x.gmacOnce h f (gmacBase x.tile f) 0 0 true chk = some (n, y)) :
    x.start h (.gmac f) true chk = (none, y.count 0x04 1) := by
  have hrows := gmacRows_skipped (g := gmacBase x.tile f) (iter := 0) hskip
  simp only [TX.gmacOnce, hrows, TX.count_zero, if_true] at hy
  simp only [TX.start, hf, gmacRegs_clean hsyn, hx, Option.isSome_none, Bool.false_eq_true, if_false, if_true]
  congr 2
  cases hq : gmacAQueue f with
  | false =>
    rw [hq] at hy
    cases hy
    rfl
  | true =>
    rw [if_pos hq] at hy
    obtain ⟨hstop, hmap⟩ := Option.ite_none_left_eq_some.mp hy
    obtain ⟨a, ha, hval⟩ := Option.map_eq_some_iff.mp hmap
    cases hval
    simp only [if_true, gmacTake_runs (Option.not_isSome_iff_eq_none.mp hstop)]
    rw [ha]

theorem start_gmac_flies (hf : gmacFault x.tile f = none) (hsyn : x.tile.syn = []) (hx : x.stop = none) :
    x.start h (.gmac f) false chk = (some (x.flight h (.gmac f) 0 []), x) := by
  simp only [TX.start, hf, gmacRegs_clean hsyn, hx, Option.isSome_none, Bool.false_eq_true, if_false]

end Sys2Proof.Machine
end

section
/-! SUPPORT. One iteration of a GMAC where no word, no table entry and no check fails: its records are read, each selected
lane takes its group, and the address registers advance (R72, R74, R139, R140, R142). -/
namespace Sys2Proof.Machine

variable {x y z : TX} {f : GmacF} {g : GmacBase} {tb : DecodeTables} {t u : Tile} {k n act iter : Nat}

/-! ### What an iteration may change -/

/-- Of a tile at work nothing but its status, its counters and its slot lanes has changed. -/
def TX.Worked (x y : TX) : Prop :=
  ∃ status evtCnt lanes, y = x.upd fun t => { t with status := status, evtCnt := evtCnt, lanes := lanes }

theorem TX.Worked.refl (x : TX) : x.Worked x := ⟨x.tile.status, x.tile.evtCnt, x.tile.lanes, rfl⟩

theorem TX.Worked.trans (hxy : x.Worked y) (hyz : y.Worked z) : x.Worked z := by
  obtain ⟨_, _, _, rfl⟩ := hxy
  obtain ⟨status, evtCnt, lanes, rfl⟩ := hyz
  exact ⟨status, evtCnt, lanes, rfl⟩

theorem TX.worked_count (x : TX) (a n : Nat) : x.Worked (x.count a n) := by
  unfold TX.count TX.upd Tile.count
  split
  · exact .refl x
  · exact ⟨_, _, _, rfl⟩

theorem TX.worked_setLane (x : TX) (k : Nat) (l : Lane) : x.Worked (x.upd (·.setLane k l)) := ⟨_, _, _, rfl⟩

theorem TX.worked_eatPoison (x : TX) (b : Bool) : x.Worked (x.eatPoison b) := by
  cases b
  · exact .refl x
  · exact TX.Worked.trans ⟨_, _, _, rfl⟩ (TX.worked_count _ 0x0C 1)

@[simp] theorem Tile.lane_met (t : Tile) (b : Bool) : (t.met b).lane = t.lane := by
  cases b
  · rfl
  · exact Tile.lane_count _ _ _

theorem Tile.lane_setLane_same (t : Tile) (k : Nat) (l : Lane) : (t.setLane k l).lane k = l := SMap.get_put_same _ _ _ _

theorem Tile.lane_setLane_ne (t : Tile) {j k : Nat} (l : Lane) (h : j ≠ k) : (t.setLane k l).lane j = t.lane j :=
  SMap.get_put_ne _ _ _ _ _ h

/-! ### Clean records -/

/-- No word that a GMAC reads holds an error (R97, R111). -/
structure TX.Clean (x : TX) : Prop where
  syn : x.tile.syn = []
  mark : ∀ w, x.mem.mark (tileBase x.ix + 8 * w) = 0

theorem TX.Clean.worked (hx : x.Clean) (hxy : x.Worked y) : y.Clean := by
  obtain ⟨_, _, _, rfl⟩ := hxy
  exact ⟨hx.syn, hx.mark⟩

theorem TX.Clean.readRec (hx : x.Clean) {src a n : Nat} : (x.readRec src a n).2 = x := by
  unfold TX.readRec
  dsimp only
  split
  · simp only [TX.readBytes, memWords_clean _ _ hx.mark]
  · unfold TX.readBuf
    exact List.foldlRecOn _ _ (motive := fun y => y = x) rfl fun y hy w _ => by rw [hy, TX.touch_clean _ _ _ _ hx.syn]

theorem TX.Clean.readRecs (hx : x.Clean) {src a n k : Nat} :
    (x.readRecs src a n k).2 = x ∧ (x.readRecs src a n k).1.length = k := by
  induction k generalizing a with
  | zero => exact ⟨rfl, rfl⟩
  | succ k ih =>
    simp only [TX.readRecs, hx.readRec, List.length_cons, ih, and_self]

/-- A side reads its records and meets their poison. -/
theorem TX.Clean.sideRecs (hx : x.Clean) {src fmt k : Nat} {a : Option Nat} :
    (x.sideRecs src a fmt k).1.length = k ∧ x.Worked (x.sideRecs src a fmt k).2 ∧
      (x.sideRecs src a fmt k).2.tile.lane = x.tile.lane := by
  unfold TX.sideRecs
  split
  · refine ⟨List.length_replicate, x.worked_eatPoison true, ?_⟩
    dsimp only
    rw [TX.eat]
    exact Tile.lane_met _ _
  · refine ⟨hx.readRecs.2, ?_, ?_⟩ <;> dsimp only <;> rw [hx.readRecs.1]
    · exact List.foldlRecOn _ _ (motive := x.Worked) (.refl x) fun y hy c _ => hy.trans (y.worked_eatPoison c.poison)
    · rw [TX.foldl_eatPoison]
      exact foldl_keeps (fun _ _ => Tile.lane_met _ _) _

theorem TX.Clean.gmacSideA (hx : x.Clean) : (x.gmacSideA f g iter).1.length = gmacACount f ∧
    x.Worked (x.gmacSideA f g iter).2 ∧ (x.gmacSideA f g iter).2.tile.lane = x.tile.lane := hx.sideRecs

theorem TX.Clean.gmacSideB (hx : x.Clean) : (x.gmacSideB f g iter).1.length = (gmacLanes f).length ∧
    x.Worked (x.gmacSideB f g iter).2 ∧ (x.gmacSideB f g iter).2.tile.lane = x.tile.lane := hx.sideRecs

/-! ### Groups -/

/-- What a lane takes from the group of two records (R72, R74). -/
def groupLane (f : GmacF) (tb : DecodeTables) (act : Nat) (a b : SideRec) (l : Lane) : Lane :=
  Lane.act act (fmtIsInt f.afmt.toNat && fmtIsInt f.bfmt.toNat) l
    (group (decodeRecord tb f.afmt.toNat a.bits) (decodeRecord tb f.bfmt.toNat b.bits)) (a.poison || b.poison)

/-- A group without a failure enters its lane and is counted. -/
theorem groupInto_passed {a b : SideRec} (ha : badTableEntry tb f.afmt.toNat a.bits = none)
    (hb : badTableEntry tb f.bfmt.toNat b.bits = none) :
    x.Worked (x.groupInto f tb act iter false [] k a b) ∧
      (x.groupInto f tb act iter false [] k a b).tile.lane =
        (x.tile.setLane k (groupLane f tb act a b (x.tile.lane k))).lane := by
  have hchk (l : Lane) (gr : GroupResult) : groupChecks [] iter (k % 4) false act l gr = [] := by simp [groupChecks]
  unfold TX.groupInto
  simp only [ha, hb, hchk, List.foldl_nil, List.any_nil, Bool.false_eq_true, if_false]
  refine ⟨?_, ?_⟩
  · exact (((((x.worked_setLane _ _).trans (TX.worked_count _ _ _)).trans (TX.worked_count _ _ _)).trans
      (TX.worked_count _ _ _)).trans (TX.worked_count _ _ _))
  · simp only [TX.count, TX.upd, Tile.lane_count]
    rfl

/-- The groups of an iteration without a failure: each lane of the list takes its group, and no other lane changes. -/
theorem groups_passed {ks : List Nat} {as bs : List SideRec} (hks : ks.Nodup)
    (has : as.length = if f.abc then 1 else ks.length) (hbs : bs.length = ks.length)
    (ha : ∀ a ∈ as, badTableEntry tb f.afmt.toNat a.bits = none)
    (hb : ∀ b ∈ bs, badTableEntry tb f.bfmt.toNat b.bits = none) :
    x.Worked (x.groups f tb act iter false [] ks as bs) ∧
      (∀ i k, ks[i]? = some k → (x.groups f tb act iter false [] ks as bs).tile.lane k =
        groupLane f tb act (as.getD (if f.abc then 0 else i) zeroRec) (bs.getD i zeroRec) (x.tile.lane k)) ∧
      ∀ k, k ∉ ks → (x.groups f tb act iter false [] ks as bs).tile.lane k = x.tile.lane k := by
  induction ks generalizing x as bs with
  | nil => exact ⟨.refl x, nofun, fun _ _ => rfl⟩
  | cons k ks ih =>
    obtain ⟨b, bs, rfl⟩ := List.exists_cons_of_length_eq_add_one hbs
    obtain ⟨a, as, rfl⟩ : ∃ a l, as = a :: l := by
      refine List.exists_cons_of_length_pos ?_
      rw [has]
      split <;> simp
    obtain ⟨hk, hks⟩ := List.nodup_cons.mp hks
    obtain ⟨hwork, hlane⟩ := groupInto_passed (x := x) (k := k) (act := act) (iter := iter) (ha a (by simp)) (hb b (by simp))
    have hrest : (if f.abc then a :: as else as).length = if f.abc then 1 else ks.length := by
      revert has
      cases f.abc
      exacts [fun has => Nat.succ.inj has, id]
    have hmem : ∀ c ∈ (if f.abc then a :: as else as), c ∈ a :: as := by
      cases f.abc
      exacts [fun c hc => List.mem_cons_of_mem _ hc, fun c hc => hc]
    obtain ⟨hworks, hin, hout⟩ := ih (x := x.groupInto f tb act iter false [] k a b) (bs := bs) hks hrest (by simpa using hbs)
      (fun c hc => ha c (hmem c hc)) fun c hc => hb c (List.mem_cons_of_mem _ hc)
    refine ⟨hwork.trans hworks, fun i j hi => ?_, fun j hj => ?_⟩
    · cases i with
      | zero =>
        obtain rfl : k = j := by simpa using hi
        refine (hout k hk).trans ?_
        rw [hlane, Tile.lane_setLane_same]
        simp
      | succ i =>
        have hi : ks[i]? = some j := by simpa using hi
        have hj : j ≠ k := fun e => hk (e ▸ List.mem_of_getElem? hi)
        refine (hin i j hi).trans ?_
        rw [hlane, Tile.lane_setLane_ne _ _ hj]
        split <;> simp
    · obtain ⟨hjk, hjks⟩ : j ≠ k ∧ j ∉ ks := by simpa using hj
      refine (hout j hjks).trans ?_
      rw [hlane, Tile.lane_setLane_ne _ _ hjk]

/-! ### The iteration -/

theorem gmacLanes_nodup (f : GmacF) : (gmacLanes f).Nodup := by
  refine List.Nodup.filterMap (fun a a' b ha ha' => ?_) List.nodup_range
  simp only [Option.mem_def, Option.ite_none_right_eq_some, Option.some.injEq] at ha ha'
  omega

/-- The advance of the address registers changes no field but the G file. -/
theorem Tile.gmacInc_eq (t : Tile) (f : GmacF) : t.gmacInc f = { t with g := (t.gmacInc f).g } := by
  have hwhen (c : Bool) (t : Tile) (i d : Nat) : ∃ g, (if c then t.advG i d else t) = { t with g := g } := by
    cases c
    exacts [⟨t.g, rfl⟩, ⟨_, rfl⟩]
  obtain ⟨g, hg⟩ : ∃ g, t.gmacInc f = { t with g := g } := by
    unfold Tile.gmacInc
    obtain ⟨ga, ha⟩ := hwhen f.ainc t f.areg.toNat (gmacBytesA f)
    rw [ha]
    exact hwhen f.binc { t with g := ga } f.breg.toNat (gmacBytesB f)
  rw [hg]

theorem Tile.gmacInc_g (h : t.g = u.g) : (t.gmacInc f).g = (u.gmacInc f).g := by
  unfold Tile.gmacInc Tile.advG Tile.getG
  split <;> split <;> simp only [h]

/-- One iteration whose A side has an address register, where no word and no table entry is in error. -/
theorem gmacIterA_passed (hx : x.Clean) (hs : x.stop = none)
    (ha : ∀ c ∈ (x.gmacSideA f g iter).1, badTableEntry g.tables f.afmt.toNat c.bits = none)
    (hb : ∀ c ∈ ((x.gmacSideA f g iter).2.gmacSideB f g iter).1, badTableEntry g.tables f.bfmt.toNat c.bits = none) :
    ∃ y, x.Worked y ∧ x.gmacIterA f g iter false [] = y.upd (·.gmacInc f) ∧
      (∀ i k, (gmacLanes f)[i]? = some k → y.tile.lane k =
        groupLane f g.tables (actOf f iter) ((x.gmacSideA f g iter).1.getD (if f.abc then 0 else i) zeroRec)
          (((x.gmacSideA f g iter).2.gmacSideB f g iter).1.getD i zeroRec) (x.tile.lane k)) ∧
      ∀ k, k ∉ gmacLanes f → y.tile.lane k = x.tile.lane k := by
  have stop_of {y : TX} (h : x.Worked y) : y.stop = none := by
    obtain ⟨_, _, _, rfl⟩ := h
    exact hs
  obtain ⟨hlenA, hworkA, hlaneA⟩ := hx.gmacSideA (f := f) (g := g) (iter := iter)
  obtain ⟨hlenB, hworkB, hlaneB⟩ := (hx.worked hworkA).gmacSideB (f := f) (g := g) (iter := iter)
  have hworkAB := hworkA.trans hworkB
  obtain ⟨hwork, hin, hout⟩ := groups_passed (x := ((x.gmacSideA f g iter).2.gmacSideB f g iter).2) (act := actOf f iter)
    (iter := iter) (gmacLanes_nodup f) hlenA hlenB ha hb
  refine ⟨_, hworkAB.trans hwork, ?_, fun i k hi => (hin i k hi).trans ?_, fun k hk => (hout k hk).trans ?_⟩
  · unfold TX.gmacIterA TX.gmacIter
    dsimp only
    rw [andThen_go _ _ (stop_of hworkA), andThen_go _ _ (stop_of hworkAB), andThen_go _ _ (stop_of (hworkAB.trans hwork))]
  · rw [hlaneB, hlaneA]
  · rw [hlaneB, hlaneA]

end Sys2Proof.Machine
end

section
open Sys2Proof Sys2Proof.Machine

/-- Settles O15: a slot-state fault comes first; a skipped GMAC ends in its issue cycle, any other flies through its
iterations in order; and one clean iteration gives each selected lane its group. -/
theorem groupMultiplies : Obligations.GroupMultiplies := by
  unfold Obligations.GroupMultiplies
  refine ⟨fun s p f chk k hr hk => ?_, fun s p f chk n y hr hf hskip hy hs => ?_, fun s p f chk y hr hf hskip hy => ?_, ?_⟩
  · refine congrArg Host.Outcome.next (runInstr_slotFault hr fun x _ hlane => ?_)
    simp only [TX.start, gmacFault_of hlane, hk]
  · have hfault : gmacFault (s.txOf p (.gmac f)).tile f = none := (gmacFault_of (Tile.lane_count _ _ _)).trans hf
    have hstart := start_gmac_skipped hskip hfault (ready_base hr).1 rfl
      (by rw [show gmacBase (s.txOf p (.gmac f)).tile f = _ from gmacBase_count _ _ _]; exact hy)
    have hq : y.tile.inflight = [] :=
      (congrArg Aside.inflight (gmacOnce_mate (TX.mate_self _) hy).aside).trans (ready_base hr).2
    rw [← hskip] at hstart
    refine congrArg Host.Outcome.next (runInstr_ended hr hstart hs ?_)
    exact (Tile.count_inflight _ _ _).trans hq
  · have hfault : gmacFault (s.txOf p (.gmac f)).tile f = none := (gmacFault_of (Tile.lane_count _ _ _)).trans hf
    have hbase : gmacBase (s.txOf p (.gmac f)).tile f = gmacBase (s.seen p.tile) f := gmacBase_count _ _ _
    have hstart := start_gmac_flies (h := p.hd) (chk := chk) hfault (ready_base hr).1 rfl
    obtain ⟨k, hk, b', hfly⟩ := flies_all (b := (s.txOf p (.gmac f)).tile.board)
      (fl := (s.txOf p (.gmac f)).flight p.hd (.gmac f) 0 []) ⟨rfl, rfl, hbase, rfl, rfl, rfl, rfl⟩ rfl (Nat.zero_add _) hy
    have haside := (gmacAll_mate (TX.mate_self _) hy).aside
    have hlt := f.rep.isLt
    refine ⟨b', congrArg Host.Outcome.next ((runInstr_flies hr hskip hstart rfl (ready_base hr).2 hfly (by omega)).trans ?_)⟩
    have hin : [] = y.tile.inflight := (ready_base hr).2.symm.trans (congrArg Aside.inflight haside).symm
    have hpred : (s.txOf p (.gmac f)).tile.pred = y.tile.pred := (congrArg Aside.pred haside).symm
    rw [hin, hpred]
    rfl
  · intro x f g iter hsyn hs hmark hq a b ha hb y
    obtain ⟨z, hwork, hy, hin, hout⟩ := gmacIterA_passed ⟨hsyn, hmark⟩ hs ha hb
    obtain ⟨_, _, _, rfl⟩ := hwork
    have hy : y = _ := hy
    rw [TX.upd, Tile.gmacInc_eq] at hy
    rw [hy]
    exact ⟨hs, rfl, rfl, rfl, hin, hout, Tile.gmacInc_g rfl, rfl, rfl, rfl, rfl, rfl, rfl, rfl⟩
end

section
/-! SUPPORT. The instruction word and its decoder (R124, R126): a word decodes to an operation exactly where its opcode and its
class-specific bits are those that spell the operation. -/
namespace Sys2Proof.Machine

variable {w : W64} {lo m n : Nat} {op : TOp} {i : TInstr}

/-! ### The bits of a word, field by field -/

/-- The bits of w from bit lo up spell x. -/
def Spells (w : W64) (lo : Nat) {n : Nat} (x : BitVec n) : Prop := bits w lo n = x

theorem spells_append {a : BitVec m} {b : BitVec n} :
    Spells (n := no_index (m + n)) w lo (a ++ b) ↔ Spells w (lo + n) a ∧ Spells w lo b := by
  have hcut : bits w (lo + n) m ++ bits w lo n = bits w lo (m + n) :=
    BitVec.extractLsb'_append_extractLsb'_eq_extractLsb' rfl
  constructor
  · intro h
    have h : bits w (lo + n) m ++ bits w lo n = a ++ b := hcut.trans h
    exact ⟨by simpa [Spells, BitVec.extractLsb'_append_eq_left] using congrArg (·.extractLsb' n m) h,
      by simpa [Spells, BitVec.extractLsb'_append_eq_right] using congrArg (·.extractLsb' 0 n) h⟩
  · rintro ⟨ha, hb⟩
    exact hcut.symm.trans (congrArg₂ (· ++ ·) ha hb)

theorem spells_b1 {c : Bool} : Spells w lo (b1 c) ↔ w.getLsbD lo = c := by
  have hbit : bits w lo 1 = b1 (w.getLsbD lo) := by
    ext j hj
    obtain rfl : j = 0 := by omega
    simp [b1]
  rw [Spells, hbit]
  cases c <;> cases w.getLsbD lo <;> decide

theorem spells_zero_bit : Spells w lo 0#1 ↔ w.getLsbD lo = false := spells_b1 (c := false)

theorem spells_zero : Spells w lo 0#(m + n) ↔ Spells w (lo + n) 0#m ∧ Spells w lo 0#n := by
  rw [← spells_append, BitVec.zero_append_zero]

theorem spells_whole {x : W64} : Spells w 0 x ↔ w = x := by
  rw [Spells, bits, BitVec.extractLsb'_eq_self]

theorem mbz_iff {x : BitVec n} : mbz x = true ↔ x = 0#n := beq_iff_eq

/-! ### Unused bits that one test of the decoder reads and several fields of an encoding spell -/

theorem bits_17_10_eq_zero : bits w 17 10 = 0#10 ↔ bits w 22 5 = 0#5 ∧ bits w 17 5 = 0#5 :=
  spells_zero (m := 5) (n := 5)

theorem bits_17_13_eq_zero : bits w 17 13 = 0#13 ↔ bits w 27 3 = 0#3 ∧ bits w 22 5 = 0#5 ∧ bits w 17 5 = 0#5 :=
  (spells_zero (m := 3) (n := 10)).trans (and_congr_right' bits_17_10_eq_zero)

theorem bits_34_4_eq_zero : bits w 34 4 = 0#4 ↔ bits w 35 3 = 0#3 ∧ w.getLsbD 34 = false :=
  (spells_zero (m := 3) (n := 1)).trans (and_congr_right' spells_zero_bit)

theorem bits_6_22_eq_zero : bits w 6 22 = 0#22 ↔ bits w 12 16 = 0#16 ∧ bits w 6 6 = 0#6 :=
  spells_zero (m := 16) (n := 6)

theorem bits_6_28_eq_zero : bits w 6 28 = 0#28 ↔ bits w 12 22 = 0#22 ∧ bits w 6 6 = 0#6 :=
  spells_zero (m := 22) (n := 6)

/-! ### The decoder on a word that spells an operation -/

theorem decodeOp_of_spells (ho : Spells w 46 (TOp.opcode op)) (hb : Spells w 6 (TOp.body op)) :
    decodeOp w = some op := by
  cases op
  all_goals
    simp only [TOp.opcode, TOp.body, movBody, spells_append, spells_b1, spells_zero_bit] at ho hb
    simp only [Spells, Nat.reduceAdd, BitVec.ofNat_eq_ofNat] at ho hb
    simp [decodeOp, decodeMov, ho, hb, mbz_iff, bits_17_13_eq_zero, bits_17_10_eq_zero, bits_34_4_eq_zero,
      -BitVec.getLsbD_eq_getElem]
  case lcSetG => exact (bits_6_22_eq_zero.mp hb.2).symm
  case lcDec => exact (bits_6_28_eq_zero.mp hb.2).symm

/-! ### What a word that decodes spells -/

/-- Each branch of the decoder tests, or takes into its operation, every bit of the opcode and of the body. -/
theorem spells_of_decodeOp (w : W64) :
    ∀ op, decodeOp w = some op → Spells w 46 (TOp.opcode op) ∧ Spells w 6 (TOp.body op) := by
  unfold decodeOp
  split
  -- the opcodes of several forms: VCVT, MOV, SYNC, BULK and CTL.LC
  case' h_8 | h_16 | h_17 => simp only [Option.ite_none_right_eq_some, and_imp]
  case' h_9 => simp only [decodeMov]
  case' h_8 | h_9 | h_15 | h_16 | h_17 => split
  -- what a branch tests, where it gives an operation at all
  all_goals
    simp only [Option.ite_none_right_eq_some, Option.ite_none_left_eq_some, Option.some.injEq, reduceCtorEq,
      Bool.and_eq_true, Bool.not_eq_true, mbz_iff, bits_17_13_eq_zero, bits_17_10_eq_zero, bits_34_4_eq_zero, and_imp,
      forall_eq', forall_apply_eq_imp_iff, false_implies, implies_true]
  -- these tests and the fields taken are the fields that the operation spells
  all_goals
    intros
    subst_vars
    simp only [BitVec.toNat_eq_nat] at *
    simp only [TOp.opcode, TOp.body, movBody, spells_append, spells_b1, spells_zero_bit]
    simp only [Spells, Nat.reduceAdd, BitVec.ofNat_eq_ofNat, bits_34_4_eq_zero, bits_6_22_eq_zero, bits_6_28_eq_zero,
      and_self, *]

theorem decodeOp_eq_some_iff : decodeOp w = some op ↔ Spells w 46 (TOp.opcode op) ∧ Spells w 6 (TOp.body op) :=
  ⟨spells_of_decodeOp w op, fun ⟨ho, hb⟩ => decodeOp_of_spells ho hb⟩

/-! ### Whole words -/

theorem spells_mkWord {h : Head} {o : BitVec 6} {b : BitVec 40} :
    Spells w 0 (mkWord h o b) ↔ headOf w = h ∧ Spells w 46 o ∧ Spells w 6 b := by
  obtain ⟨qmask, omask, psel, ps, pc⟩ := h
  simp only [mkWord, spells_append]
  simp only [headOf, Head.mk.injEq, Spells, Nat.reduceAdd]
  tauto

theorem word_eq_iff :
    TInstr.word i = w ↔ headOf w = i.hd ∧ Spells w 46 (TOp.opcode i.op) ∧ Spells w 6 (TOp.body i.op) :=
  eq_comm.trans (spells_whole.symm.trans spells_mkWord)

theorem opcode_ne_zero (op : TOp) : TOp.opcode op ≠ 0 := by
  cases op <;> simp [TOp.opcode]

theorem decodeWord_eq_void_iff : decodeWord w = .void ↔ bits w 46 6 = 0 := by
  unfold decodeWord
  cases decodeOp w <;> simp [mbz]

/-- A word decodes to an instruction exactly where it is that instruction's word. -/
theorem decodeWord_eq_instr_iff : decodeWord w = .instr i ↔ TInstr.word i = w := by
  obtain ⟨hd, op⟩ := i
  rw [word_eq_iff, ← decodeOp_eq_some_iff]
  by_cases hz : bits w 46 6 = 0#6
  · have hvoid : decodeWord w = .void := decodeWord_eq_void_iff.mpr hz
    have hop : decodeOp w ≠ some op := fun h => opcode_ne_zero op ((decodeOp_eq_some_iff.mp h).1.symm.trans hz)
    simp [hvoid, hop]
  · unfold decodeWord
    cases decodeOp w <;> simp [mbz, hz]

end Sys2Proof.Machine
end

section
open Sys2Proof Sys2Proof.Machine

/-- Settles O7: the word of an instruction is what decodes to it, and its head stands in the common fields. -/
theorem tileWordsRoundTrip : Obligations.TileWordsRoundTrip := fun i => by
  have hd : headOf (TInstr.word i) = i.hd := (word_eq_iff.mp rfl).1
  exact ⟨decodeWord_eq_instr_iff.mpr rfl, congrArg Head.qmask hd, congrArg Head.omask hd, congrArg Head.psel hd,
    congrArg Head.ps hd, congrArg Head.pc hd⟩

/-- Settles O8: a word that decodes to an instruction spells it, bit by bit. -/
theorem tileWordsUnique : Obligations.TileWordsUnique :=
  ⟨fun _ _ => decodeWord_eq_instr_iff.mp, fun _ => decodeWord_eq_void_iff⟩
end

section
/-! SUPPORT. Tile instructions that end in their issue cycle and change only their tile, or hand one thing on (R117, R125):
what they keep of the tile, and the state after them. -/
namespace Sys2Proof.Machine

variable {s : State} {p : At} {op : TOp} {c : Instr} {x y : TX} {t : Tile} {F : Tile → Tile} {e : Ext}

/-! ### The tile of a ready instruction at its issue -/

theorem Ready.syn_eq (hr : Ready s p op) : (s.txOf p op).tile.syn = [] := (ready_base hr).1

theorem txOf_gPoison (s : State) (p : At) (op : TOp) (n : Nat) :
    (s.txOf p op).tile.gPoison n = (s.seen p.tile).gPoison n := count_gPoison _ _ _ _

theorem txOf_getG (s : State) (p : At) (op : TOp) (n : Nat) : (s.txOf p op).tile.getG n = (s.seen p.tile).getG n :=
  congrArg (SMap.get 0 · n) (Tile.count_g _ _ _)

theorem txOf_flag (s : State) (p : At) (op : TOp) (n : Nat) : (s.txOf p op).tile.flag n = (s.seen p.tile).flag n := by
  show (Tile.count 0x02 1 (s.seen p.tile)).flag n = _
  unfold Tile.count
  split <;> rfl

/-! ### What stands in a tile while it takes an instruction -/

/-- The instructions in flight in a tile and its probe. -/
def Tile.standing (t : Tile) : List InFlight × Bool := (t.inflight, t.status.probe)

@[simp] theorem Tile.standing_met (b : Bool) : (t.met b).standing = t.standing :=
  Prod.ext (Tile.met_inflight t b) (Tile.met_probe t b)

@[simp] theorem Tile.standing_setG (n : Nat) (v : W64) (b : Bool) : (t.setG n v b).standing = t.standing := rfl

@[simp] theorem Tile.standing_setV (n : Nat) (l : List Byte) (b : Bool) : (t.setV n l b).standing = t.standing := rfl

@[simp] theorem Tile.standing_setLanes (n : Nat) (l : List W32) (b : Bool) :
    (t.setLanes n l b).standing = t.standing := rfl

@[simp] theorem Tile.standing_setFlag (n : Nat) (v : FlagSt) : (t.setFlag n v).standing = t.standing := rfl

@[simp] theorem Tile.standing_setBtag (n : Nat) (b : BulkTag) : (t.setBtag n b).standing = t.standing := rfl

@[simp] theorem Tile.standing_bulkTile (f : BulkF) : (bulkTile f t).standing = t.standing :=
  Prod.ext (bulkTile_inflight f t) (congrArg TileStatus.probe (bulkTile_status f t))

@[simp] theorem Tile.standing_setPair (pd pe : BitVec 3) (b : Bool) : (t.setPair pd pe b).standing = t.standing :=
  Prod.ext (setPair_inflight t pd pe b) (congrArg TileStatus.probe (setPair_status t pd pe b))

@[simp] theorem Tile.standing_setLc (n : Nat) (pd pe : BitVec 3) (v : W16) : (t.setLc n pd pe v).standing = t.standing :=
  Prod.ext (setLc_inflight t n pd pe v) (congrArg TileStatus.probe (setLc_status t n pd pe v))

/-! ### The state after the instruction -/

/-- A ready instruction whose effect, in its issue cycle, is the update F of its tile. -/
theorem does_after (hr : Ready s p op) (hc : exec c s = .next (s.runInstr p op [])) (hg : isGmac op = false)
    (hstart : (s.txOf p op).start p.hd op false [] = (none, y)) (hy : y = (s.txOf p op).upd F)
    (hF : ∀ t, (F t).standing = t.standing) : Does c s (s.after p F) := by
  have hkept := hF (s.txOf p op).tile
  refine hc.trans (congrArg Host.Outcome.next (after_of s p op [] F hr hg ?_ ?_ ?_))
  · exact hy ▸ hstart
  · exact (congrArg Prod.fst hkept).trans (ready_base hr).2
  · exact (congrArg Prod.snd hkept).trans (congrArg TileStatus.probe (Tile.count_status _ _ _))

/-- The same of one that also hands e on to its cluster. -/
theorem does_after_handOn (hr : Ready s p op) (hc : exec c s = .next (s.runInstr p op [])) (hg : isGmac op = false)
    (hstart : (s.txOf p op).start p.hd op false [] = (none, y)) (hy : y = { (s.txOf p op).upd F with ext := [e] })
    (hF : ∀ t, (F t).standing = t.standing) : Does c s ((s.after p F).handOn p.tile e) := by
  have hkept := hF (s.txOf p op).tile
  refine hc.trans (congrArg Host.Outcome.next (after_ext s p op [] F e hr hg ?_ ?_ ?_))
  · exact hy ▸ hstart
  · exact (congrArg Prod.fst hkept).trans (ready_base hr).2
  · exact (congrArg Prod.snd hkept).trans (congrArg TileStatus.probe (Tile.count_status _ _ _))

/-! ### Reads of registers whose words hold no error -/

section
variable (hsyn : x.tile.syn = []) (hs : x.stop = none)
include hsyn hs

theorem useG_andThen (n : Nat) (f : TX → TX) : (x.useG n).andThen f = f (x.upd fun t => t.met (t.gPoison n)) := by
  rw [useG_clean _ _ hsyn]
  exact andThen_go _ _ hs

theorem useV_andThen (n : Nat) (f : TX → TX) : (x.useV n).andThen f = f (x.upd fun t => t.met (t.vPoison n)) := by
  rw [useV_clean _ _ hsyn]
  exact andThen_go _ _ hs

theorem addrOk_andThen {n : Nat} (hp : x.tile.gPoison n = false) (f : TX → TX) : (x.addrOk n).andThen f = f x := by
  rw [addrOk_clean _ _ hsyn hs hp]
  exact andThen_go _ _ hs

end

end Sys2Proof.Machine
end

section
/-! SUPPORT. MOV and MOVI on a tile whose words hold no error (R154, R155, R53, R117): each is one update of the tile. -/
namespace Sys2Proof.Machine

variable {x : TX} {t : Tile}

@[simp] theorem Tile.met_vLanes (c : Bool) : (t.met c).vLanes = t.vLanes := Tile.vLanes_of _ _ (Tile.met_v t c)

@[simp] theorem Tile.met_vPoison (c : Bool) : (t.met c).vPoison = t.vPoison := Tile.vPoison_of _ _ (Tile.met_vTag t c)

@[simp] theorem Tile.met_vBytes (c : Bool) (n : Nat) : (t.met c).vBytes n = t.vBytes n := by
  simp only [Tile.vBytes, Tile.met_v]

/-! ### The instructions -/

section
variable (hsyn : x.tile.syn = []) (hs : x.stop = none)
include hsyn hs

theorem movGG_clean (gd gs : BitVec 6) : x.movGG gd gs = x.upd fun t =>
    (t.met (t.gPoison gs.toNat)).setG gd.toNat (t.getG gs.toNat) (t.gPoison gs.toNat) := by
  rw [TX.movGG, useG_andThen hsyn hs]
  simp only [TX.upd, met_getG, met_gPoison]

theorem movGLane_clean (gd vs : BitVec 6) (lane : BitVec 5) : x.movGLane gd vs lane = x.upd fun t =>
    (t.met (t.vPoison (vs.toNat % 8))).setG gd.toNat (((t.vLanes (vs.toNat % 8)).getD lane.toNat 0).zeroExtend 64)
      (t.vPoison (vs.toNat % 8)) := by
  unfold TX.movGLane
  dsimp only
  rw [useV_andThen hsyn hs]
  simp only [TX.upd, Tile.met_vLanes, Tile.met_vPoison]

theorem movi_high_clean (gd : BitVec 6) (imm : BitVec 32) : x.movi gd true imm = x.upd fun t =>
    (t.met (t.gPoison gd.toNat)).setG gd.toNat (imm ++ (t.getG gd.toNat).extractLsb' 0 32) (t.gPoison gd.toNat) := by
  rw [TX.movi, if_pos rfl, useG_andThen hsyn hs]
  simp only [TX.upd, met_getG, met_gPoison]

theorem movVV_clean (vd vs : BitVec 3) : x.movVV vd vs = x.upd fun t =>
    (t.met (t.vPoison vs.toNat)).setV vd.toNat (t.vBytes vs.toNat) (t.vPoison vs.toNat) := by
  rw [TX.movVV, useV_andThen hsyn hs]
  simp only [TX.upd, Tile.met_vBytes, Tile.met_vPoison]

theorem movLaneG_all_clean (vd gs : BitVec 6) (lane : BitVec 5) : x.movLaneG vd gs lane true = x.upd fun t =>
    (t.met (t.gPoison gs.toNat)).setLanes (vd.toNat % 8)
      (List.replicate 32 (BitVec.ofNat 32 (t.getG gs.toNat).toNat)) (t.gPoison gs.toNat) := by
  simp only [TX.movLaneG, if_true]
  rw [useG_andThen hsyn hs]
  simp only [TX.upd, met_getG, met_gPoison]

theorem movLaneG_one_clean (vd gs : BitVec 6) (lane : BitVec 5) : x.movLaneG vd gs lane false = x.upd fun t =>
    (t.met (t.gPoison gs.toNat)).setLanes (vd.toNat % 8)
      (updAt lane.toNat (fun _ => BitVec.ofNat 32 (t.getG gs.toNat).toNat) (t.vLanes (vd.toNat % 8)))
      (t.gPoison gs.toNat || t.vPoison (vd.toNat % 8)) := by
  have hmet : (x.upd fun t => t.met (t.gPoison gs.toNat)).tile.syn = [] := (Tile.met_syn _ _).trans hsyn
  simp only [TX.movLaneG, Bool.false_eq_true, if_false]
  rw [useG_clean _ _ hsyn, TX.touch_clean _ _ _ _ hmet, andThen_go (x.upd _) _ hs]
  simp only [TX.upd, met_getG, met_gPoison, Tile.met_vLanes, Tile.met_vPoison]

theorem movTableG_clean (gs : BitVec 6) (entry : BitVec 7) (hp : x.tile.gPoison gs.toNat = false) :
    x.movTableG gs entry = x.upd fun t => { t with
      tables := SMap.put (0, false) t.tables entry.toNat (BitVec.ofNat 16 (t.getG gs.toNat).toNat, false) } := by
  rw [TX.movTableG, TX.touch_clean _ _ _ _ hsyn, andThen_go _ _ hs, hp]
  rfl

end

theorem movGTable_good (gd : BitVec 6) (entry : BitVec 7) (he : (tableEntry x.tile.tables entry.toNat).2 = false) :
    x.movGTable gd entry = x.upd fun t => t.setG gd.toNat ((tableEntry t.tables entry.toNat).1.zeroExtend 64) false := by
  simp only [TX.movGTable, he, Bool.false_eq_true, if_false]
  rfl

end Sys2Proof.Machine
end

section
open Sys2Proof Sys2Proof.Machine

/-- Settles O12: each MOV and MOVI is one update of its tile, made in its issue cycle. -/
theorem registerMoves : Obligations.RegisterMoves := by
  unfold Obligations.RegisterMoves
  refine ⟨fun s p gd gs hr => ?_, fun s p gd vs lane hr => ?_, fun s p gd entry hr he => ?_, fun s p gd imm hr => ?_,
    fun s p gd imm hr => ?_, fun s p vd vs hr => ?_, fun s p vd gs lane hr => ?_, fun s p vd gs lane hr => ?_,
    fun s p gs entry hr hp => ?_⟩
  · exact does_after hr rfl rfl rfl (movGG_clean hr.syn_eq rfl gd gs) (by simp)
  · exact does_after hr rfl rfl rfl (movGLane_clean hr.syn_eq rfl gd vs lane) (by simp)
  · refine does_after hr rfl rfl rfl (movGTable_good gd entry ?_) (by simp)
    exact (congrArg (fun m => (tableEntry m entry.toNat).2) (Tile.count_tables _ _ _)).trans he
  · exact does_after hr rfl rfl rfl rfl (by simp)
  · exact does_after hr rfl rfl rfl (movi_high_clean hr.syn_eq rfl gd imm) (by simp)
  · exact does_after hr rfl rfl rfl (movVV_clean hr.syn_eq rfl vd vs) (by simp)
  · exact does_after hr rfl rfl rfl (movLaneG_all_clean hr.syn_eq rfl vd gs lane) (by simp)
  · exact does_after hr rfl rfl rfl (movLaneG_one_clean hr.syn_eq rfl vd gs lane) (by simp)
  · have hp := (txOf_gPoison s p (.movTableG gs entry) _).trans hp
    exact does_after hr rfl rfl rfl (movTableG_clean hr.syn_eq rfl gs entry hp) fun _ => rfl
end

section
/-! SUPPORT. SYNC, BULK and CTL on a tile whose words hold no error (R161 to R166, R117): each is one update of the tile;
ARRIVE hands its value on, and a BULK its rows. -/
namespace Sys2Proof.Machine

variable {x : TX}

/-! ### SYNC -/

theorem syncArrive_clean (hsyn : x.tile.syn = []) (hs : x.stop = none) (f : ArriveF) (he : x.ext = [])
    (hp : f.immv = false → x.tile.gPoison f.g.toNat = false) :
    x.syncArrive f = { x.upd fun t => t.setFlag f.flag.toNat .arrived with
      ext := [.arrive f.flag f.hop (if f.immv then f.imm else BitVec.ofNat 16 (x.tile.getG f.g.toNat).toNat)] } := by
  have haddr : (if f.immv then x else x.addrOk f.g.toNat) = x := by
    cases h : f.immv
    · exact addrOk_clean _ _ hsyn hs (hp h)
    · rfl
  unfold TX.syncArrive
  dsimp only
  rw [haddr, andThen_go _ _ hs, he, List.nil_append]

theorem syncWait_done {flag g : BitVec 6} {v : W16} (hf : x.tile.flag flag.toNat = .done v) :
    x.syncWait flag g = x.upd fun t => (t.setG g.toNat (v.zeroExtend 64) false).setFlag flag.toNat .idle := by
  simp only [TX.syncWait, hf]

/-! ### BULK -/

theorem does_bulk {s : State} {p : At} {op : TOp} {c : Instr} {write : Bool} {f : BulkF} (hr : Ready s p op)
    (hc : exec c s = .next (s.runInstr p op [])) (hg : isGmac op = false)
    (hstart : (s.txOf p op).start p.hd op false [] = (none, (s.txOf p op).bulk write f))
    (hgl : (s.seen p.tile).gPoison f.gl.toNat = false) (hgr : (s.seen p.tile).gPoison f.gr.toNat = false) :
    Does c s ((s.after p (bulkTile f)).bulk p.tile write f.btag.toNat
      (((s.seen p.tile).getG f.gl.toNat).toNat % 65536 / 64 * 64)
      (((s.seen p.tile).getG f.gr.toNat).toNat % 2 ^ 48 / 64 * 64) (bulkRows f.len)) := by
  have hbulk := bulk_start (s.txOf p op) write f hr.syn_eq rfl rfl ((txOf_gPoison s p op _).trans hgl)
    ((txOf_gPoison s p op _).trans hgr)
  rw [txOf_getG, txOf_getG] at hbulk
  exact does_after_handOn hr hc hg hstart hbulk (by simp)

/-! ### CTL -/

section
variable (hsyn : x.tile.syn = []) (hs : x.stop = none)
include hsyn hs

theorem lcSetG_clean (n : BitVec 2) (pd pe : BitVec 3) {gs : BitVec 6} (hp : x.tile.gPoison gs.toNat = false) :
    x.lcSetG n pd pe gs = x.upd fun t => t.setLc n.toNat pd pe (BitVec.ofNat 16 (t.getG gs.toNat).toNat) := by
  rw [TX.lcSetG, addrOk_andThen hsyn hs hp]

theorem ctlP_compare {f : CtlPF} (hpop : f.pop = 0) (ha : x.tile.gPoison f.a.toNat = false)
    (hb : x.tile.gPoison f.b.toNat = false) : x.ctlP f = x.upd fun t =>
      t.setPair f.pd f.pe (cmpOp f.cc.toNat (t.getG f.a.toNat) (t.getG f.b.toNat)) := by
  unfold TX.ctlP
  rw [hpop, addrOk_clean _ _ hsyn hs ha]
  exact (congrArg (TX.andThen · _) (andThen_go _ _ hs)).trans (addrOk_andThen hsyn hs hb _)

theorem ctlP_compareI {f : CtlPF} (hpop : f.pop = 1) (ha : x.tile.gPoison f.a.toNat = false) : x.ctlP f = x.upd fun t =>
    t.setPair f.pd f.pe (cmpOp f.cc.toNat (t.getG f.a.toNat) (f.imm.signExtend 64)) := by
  unfold TX.ctlP
  rw [hpop]
  exact addrOk_andThen hsyn hs ha _

theorem alu_clean (aop : BitVec 4) (gd ga : BitVec 6) (b : TX → W64 × Bool) (v : Tile → W64 × Bool)
    (hb : b (x.upd fun t => t.met (t.gPoison ga.toNat)) = v x.tile) : x.alu aop gd ga b = x.upd fun t =>
      (t.met (t.gPoison ga.toNat)).setG gd.toNat (aluOp aop.toNat (t.getG ga.toNat) (v t).1)
        (t.gPoison ga.toNat || (v t).2) := by
  rw [TX.alu, useG_andThen hsyn hs, hb]
  simp only [TX.upd, met_getG, met_gPoison]

theorem alu_reg_clean (aop : BitVec 4) (gd ga gb : BitVec 6) :
    (x.useG gb.toNat).andThen (fun x => x.alu aop gd ga fun y => (y.tile.getG gb.toNat, y.tile.gPoison gb.toNat)) =
      x.upd fun t => ((t.met (t.gPoison gb.toNat)).met (t.gPoison ga.toNat)).setG gd.toNat
        (aluOp aop.toNat (t.getG ga.toNat) (t.getG gb.toNat)) (t.gPoison ga.toNat || t.gPoison gb.toNat) := by
  have hmet : (x.upd fun t => t.met (t.gPoison gb.toNat)).tile.syn = [] := (Tile.met_syn _ _).trans hsyn
  rw [useG_andThen hsyn hs]
  refine (alu_clean hmet hs aop gd ga _ (fun t => (t.getG gb.toNat, t.gPoison gb.toNat)) ?_).trans ?_
  · simp only [TX.upd, met_getG, met_gPoison]
  · simp only [TX.upd, met_getG, met_gPoison]

theorem alu_imm_clean (aop : BitVec 4) (gd ga : BitVec 6) (v : W64) : x.alu aop gd ga (fun _ => (v, false)) =
    x.upd fun t => (t.met (t.gPoison ga.toNat)).setG gd.toNat (aluOp aop.toNat (t.getG ga.toNat) v)
      (t.gPoison ga.toNat) := by
  simpa only [Bool.or_false] using alu_clean hsyn hs aop gd ga _ (fun _ => (v, false)) rfl

end

theorem ctlP_logic {f : CtlPF} (hpop : f.pop = 2) : x.ctlP f = x.upd fun t =>
    t.setPair f.pd f.pe (predLogic f.cc.toNat (t.getP (f.a.toNat % 8)) (t.getP (f.b.toNat % 8))) := by
  simp only [TX.ctlP, hpop]
  rfl

theorem ctlP_head {f : CtlPF} {q : Flit} (hpop : f.pop = 3) (hq : x.tile.head (f.a.toNat % 8) = some q)
    (hp : q.poison = false) : x.ctlP f = x.upd fun t => t.setPair f.pd f.pe (headTest f.cc.toNat q) := by
  simp only [TX.ctlP, hpop, hq, hp]
  rfl

theorem ctlP_const {f : CtlPF} (hpop : f.pop = 4) : x.ctlP f = x.upd fun t => t.setPair f.pd f.pe (f.cc = 1) := by
  simp only [TX.ctlP, hpop]
  rfl

end Sys2Proof.Machine
end

section
open Sys2Proof Sys2Proof.Machine

/-- Settles O20: SYNC WAIT and BULK WAIT change their tile alone; ARRIVE, BULK READ and BULK WRITE also hand one thing on. -/
theorem flagsAndBulk : Obligations.FlagsAndBulk := by
  unfold Obligations.FlagsAndBulk
  refine ⟨fun s p f hr hp => ?_, fun s p flag g v hr hf => ?_, fun s p f hr hl hg => ?_, fun s p f hr hl hg => ?_,
    fun s p b gr inc hr => ?_⟩
  · have hp (h : f.immv = false) := (txOf_gPoison s p (.syncArrive f) _).trans (hp h)
    have hstart := syncArrive_clean hr.syn_eq rfl f rfl hp
    rw [txOf_getG] at hstart
    exact does_after_handOn hr rfl rfl rfl hstart (by simp)
  · have hf := (txOf_flag s p (.syncWait flag g) _).trans hf
    exact does_after hr rfl rfl rfl (syncWait_done hf) (by simp)
  · exact does_bulk hr rfl rfl rfl hl hg
  · exact does_bulk hr rfl rfl rfl hl hg
  · exact does_after hr rfl rfl rfl rfl (by simp)

/-- Settles O21: each form of CTL is one update of its tile, made in its issue cycle. -/
theorem controlResults : Obligations.ControlResults := by
  unfold Obligations.ControlResults
  refine ⟨fun s p n wz pd pe imm hr => ?_, fun s p n wz pd pe gs hr hp => ?_, fun s p n wz pd pe hr => ?_,
    fun s p f hr hpop ha hb => ?_, fun s p f hr hpop ha => ?_, fun s p f hr hpop => ?_,
    fun s p f q hr hpop hq hp => ?_, fun s p f hr hpop => ?_, fun s p aop gd ga gb hr => ?_,
    fun s p aop gd ga imm hr => ?_⟩
  · exact does_after hr rfl rfl rfl rfl (by simp)
  · have hp := (txOf_gPoison s p (.lcSetG n wz pd pe gs) _).trans hp
    exact does_after hr rfl rfl rfl (lcSetG_clean hr.syn_eq rfl n pd pe hp) (by simp)
  · exact does_after hr rfl rfl rfl rfl (by simp)
  · have ha := (txOf_gPoison s p (.ctlP f) _).trans ha
    have hb := (txOf_gPoison s p (.ctlP f) _).trans hb
    exact does_after hr rfl rfl rfl (ctlP_compare hr.syn_eq rfl hpop ha hb) (by simp)
  · have ha := (txOf_gPoison s p (.ctlP f) _).trans ha
    exact does_after hr rfl rfl rfl (ctlP_compareI hr.syn_eq rfl hpop ha) (by simp)
  · exact does_after hr rfl rfl rfl (ctlP_logic hpop) (by simp)
  · have hq := (Tile.count_head (s.seen p.tile) 0x02 1 _).trans hq
    exact does_after hr rfl rfl rfl (ctlP_head hpop hq hp) (by simp)
  · exact does_after hr rfl rfl rfl (ctlP_const hpop) (by simp)
  · exact does_after hr rfl rfl rfl (alu_reg_clean hr.syn_eq rfl aop gd ga gb) (by simp)
  · exact does_after hr rfl rfl rfl (alu_imm_clean hr.syn_eq rfl aop gd ga _) (by simp)
end

section
/-! SUPPORT. What records, stops, completions and pennants leave alone: the routers, the engine memory, the ports and the
slot counters. One equation per operation f, `fabric_f`. -/
namespace Sys2Proof.Machine

variable {s t : State} {α β γ : Type}

/-- A part g of the state of a fold that no step changes. -/
theorem proj_foldl {f : β → α → β} {g : β → γ} (hf : ∀ b a, g (f b a) = g b) (l : List α) (b : β) :
    g (l.foldl f b) = g b :=
  (List.foldl_hom g (g₂ := fun c _ => c) fun b a => (hf b a).symm).symm.trans (List.foldl_fixed l)

/-- What a slot cycle leaves alone beside its own slot counter: engine memory, ports, slot counters. -/
def State.beside (s : State) : Memory × SMap Port × (Nat → BitVec 4) := (s.mem, s.ports, fun c => (s.canton c).slot)

/-- The routers, with what a slot cycle leaves alone. -/
def State.fabric (s : State) : SMap Router × Memory × SMap Port × (Nat → BitVec 4) := (s.routers, s.beside)

theorem router_of_fabric (h : t.fabric = s.fabric) (u : Nat) : t.router u = s.router u :=
  congrArg (SMap.get ({} : Router) · u) (congrArg Prod.fst h : t.routers = s.routers)

theorem beside_of_fabric (h : t.fabric = s.fabric) : t.beside = s.beside := congrArg Prod.snd h

theorem mem_of_beside (h : t.beside = s.beside) : t.mem = s.mem := congrArg Prod.fst h

theorem ports_of_beside (h : t.beside = s.beside) : t.ports = s.ports := congrArg (·.2.1) h

theorem slot_of_beside (h : t.beside = s.beside) (c : Nat) : (t.canton c).slot = (s.canton c).slot :=
  congrFun (congrArg (·.2.2) h) c

/-! ### Updates of one part (by `(rfl)`, so that `simp` rewrites with them and the kernel compares no whole states) -/

@[simp] theorem fabric_setTile (n x) : (s.setTile n x).fabric = s.fabric := (rfl)
@[simp] theorem fabric_mapTiles (ts f) : (s.mapTiles ts f).fabric = s.fabric := (rfl)
@[simp] theorem fabric_setCluster (k x) : (s.setCluster k x).fabric = s.fabric := (rfl)
@[simp] theorem fabric_setMrouter (k x) : (s.setMrouter k x).fabric = s.fabric := (rfl)
@[simp] theorem fabric_setSlice (n x) : (s.setSlice n x).fabric = s.fabric := (rfl)
@[simp] theorem fabric_fset (f v i) : (s.fset f v i).fabric = s.fabric := (rfl)
@[simp] theorem fabric_finc (f i k) : (s.finc f i k).fabric = s.fabric := (rfl)
@[simp] theorem fabric_updHost (f) : (s.updHost f).fabric = s.fabric := (rfl)
@[simp] theorem fabric_setSource (n x) : (s.setSource n x).fabric = s.fabric := (rfl)
@[simp] theorem fabric_withErr (e : ErrState) : ({ s with err := e } : State).fabric = s.fabric := (rfl)
@[simp] theorem fabric_withMeshPennOut (k x) (m : SMap Nat) :
    ({ s.setMrouter k x with pennOut := m } : State).fabric = s.fabric := (rfl)

/-- A canton whose slot counter stays. -/
theorem fabric_setCanton {c : Nat} {x : Canton} (hx : x.slot = (s.canton c).slot) :
    (s.setCanton c x).fabric = s.fabric := by
  have hslots : (fun n => ((s.setCanton c x).canton n).slot) = fun n => (s.canton n).slot := by
    funext n
    by_cases hn : n = c
    · subst hn
      rw [State.canton_setCanton_same, hx]
    · rw [State.canton_setCanton_ne _ _ _ _ hn]
  exact congrArg (fun f => (s.routers, s.mem, s.ports, f)) hslots

/-! ### Records and events -/

@[simp] theorem fabric_event (b m code n) : (s.event b m code n).fabric = s.fabric := by
  unfold State.event
  split <;> rfl

@[simp] theorem fabric_cantonEvent (c code n) : (s.cantonEvent c code n).fabric = s.fabric := fabric_event _ _ _ _

@[simp] theorem fabric_clusterEvent (k code n) : (s.clusterEvent k code n).fabric = s.fabric := fabric_event _ _ _ _

@[simp] theorem fabric_detect (r) : (s.detect r).2.fabric = s.fabric := (rfl)

@[simp] theorem fabric_dropRecs (n) : (s.dropRecs n).fabric = s.fabric := by
  simp only [State.dropRecs, apply_ite State.fabric, fabric_fset, fabric_finc, ite_self]

@[simp] theorem fabric_ledgerDetect (r) : (s.ledgerDetect r).fabric = s.fabric := by
  simp only [State.ledgerDetect, State.ledger, apply_ite State.fabric, fabric_withErr, ite_self]

@[simp] theorem fabric_oweRec (v) : (s.oweRec v).fabric = s.fabric := (rfl)

@[simp] theorem fabric_takeRec (r) : (s.takeRec r).fabric = s.fabric := by
  unfold State.takeRec
  extract_lets r p lost stops err mgmt s1 s2
  have hs : s2.fabric = s.fabric := by
    simp only [s2, fabric_ledgerDetect, fabric_fset, fabric_dropRecs]
    rfl
  clear_value lost s2
  split
  · exact (fabric_oweRec _).trans hs
  · exact hs

@[simp] theorem fabric_seenRec (d) : (s.seenRec d).fabric = s.fabric := by
  unfold State.seenRec
  split <;> rfl

@[simp] theorem fabric_report (src r) : (s.report src r).fabric = s.fabric := by
  simp only [State.report, apply_ite State.fabric, fabric_takeRec, fabric_dropRecs, fabric_setSource, fabric_withErr,
    fabric_cantonEvent, fabric_seenRec, fabric_detect, ite_self]

@[simp] theorem fabric_reports (src rs) : (s.reports src rs).fabric = s.fabric :=
  proj_foldl (fun _ _ => fabric_report _ _) _ _

/-! ### Completions and stops -/

@[simp] theorem fabric_completeOne (d q) : (s.completeOne d q).fabric = s.fabric := by
  simp only [State.completeOne, State.ringSignal, State.msi, State.setRing, State.hostWrite, apply_ite State.fabric,
    fabric_updHost, ite_self]

@[simp] theorem fabric_complete (d q) : (s.complete d q).fabric = s.fabric := by
  refine (proj_foldl (fun u e => ?_) _ _).trans (fabric_completeOne d q)
  split
  · exact fabric_completeOne _ _
  · rfl

@[simp] theorem fabric_stopSlice (n tile) : (s.stopSlice n tile).fabric = s.fabric := by
  unfold State.stopSlice
  dsimp only
  split
  · rfl
  · split <;> split <;> simp

@[simp] theorem fabric_stopAt (c) : (s.stopAt c).fabric = s.fabric := by
  unfold State.stopAt
  split
  · exact fabric_stopSlice _ _
  · rfl

@[simp] theorem fabric_tileStopped (n cause) : (s.tileStopped n cause).fabric = s.fabric := by
  unfold State.tileStopped
  split
  · exact fabric_stopSlice _ _
  · rfl

@[simp] theorem fabric_epochError (c r) : (s.epochError c r).fabric = s.fabric := by
  unfold State.epochError
  split
  · rfl
  · simp only [apply_ite State.fabric, fabric_stopSlice, fabric_report, fabric_setSlice, fabric_finc, ite_self]

@[simp] theorem fabric_countPurged (c n) : (s.countPurged c n).fabric = s.fabric := by
  unfold State.countPurged
  dsimp only
  split
  · exact fabric_setCanton rfl
  · rfl

/-! ### Pennants -/

@[simp] theorem fabric_sendPennant (src dst code arg) : (s.sendPennant src dst code arg).fabric = s.fabric := by
  simp only [State.sendPennant, State.pathRec, apply_ite State.fabric, fabric_withMeshPennOut, fabric_report, fabric_fset,
    fabric_finc, ite_self]

@[simp] theorem fabric_answer (c a) : (s.answer c a).fabric = s.fabric := by simp [State.answer]

end Sys2Proof.Machine
end

section
/-! SUPPORT. A slot cycle of a canton (R175, R176): a router's step put into effect changes that router, and the cycle
leaves the engine memory and the ports alone. -/
namespace Sys2Proof.Machine

variable {s t : State} {x : RStep}

/-! ### A router's cycle put into effect -/

theorem fabric_setRouter_congr (h : t.fabric = s.fabric) (n : Nat) (r : Router) :
    (t.setRouter n r).fabric = (s.setRouter n r).fabric :=
  congrArg (fun p => (SMap.put ({} : Router) p.1 n r, p.2)) h

theorem fabric_seamEvent (n r) : (s.seamEvent n r).fabric = (s.setRouter n r).fabric :=
  fabric_setRouter_congr (fabric_cantonEvent _ _ _) _ _

/-- A router's cycle changes that router, whatever it records and stops. -/
theorem fabric_apply : (s.apply x).fabric = (s.setRouter x.t x.r).fabric := by
  refine (proj_foldl (fun _ _ => fabric_epochError _ _) _ _).trans ?_
  simp only [apply_ite State.fabric, fabric_countPurged, ite_self]
  split
  · simp only [apply_ite State.fabric, fabric_stopAt, fabric_reports, fabric_setTile, fabric_seamEvent, ite_self]
  · simp only [apply_ite State.fabric, fabric_tileStopped, fabric_report, fabric_stopAt, fabric_reports, fabric_setTile,
      fabric_seamEvent, ite_self]

theorem router_apply_same {u : Nat} (h : x.t = u) : (s.apply x).router u = x.r := by
  subst h
  exact (router_of_fabric fabric_apply _).trans (State.router_setRouter_same _ _ _)

theorem router_apply_ne {u : Nat} (h : u ≠ x.t) : (s.apply x).router u = s.router u :=
  (router_of_fabric fabric_apply _).trans (State.router_setRouter_ne _ _ _ _ h)

/-! ### The end of a slot cycle -/

@[simp] theorem beside_setRouter (n r) : (s.setRouter n r).beside = s.beside := (rfl)

@[simp] theorem beside_mapRouters (ts f) : (s.mapRouters ts f).beside = s.beside := (rfl)

@[simp] theorem beside_setCluster (k x) : (s.setCluster k x).beside = s.beside := (rfl)

@[simp] theorem beside_apply : (s.apply x).beside = s.beside :=
  (beside_of_fabric fabric_apply).trans (beside_setRouter _ _)

@[simp] theorem beside_pendMore (n k port g) : (s.pendMore n k port g).beside = s.beside := beside_apply

@[simp] theorem beside_spillEnd (n q) : (s.spillEnd n q).beside = s.beside := by
  unfold State.spillEnd
  dsimp only
  split
  · rfl
  · simp only [apply_ite State.beside, beside_setCluster, ite_self]

theorem beside_endCycle (n) : (s.endCycle n).beside = s.beside := by
  unfold State.endCycle
  dsimp only
  rw [beside_setRouter]
  refine (proj_foldl (fun u q => ?_) _ _).trans (beside_of_fabric (fabric_setTile _ _))
  split
  · rw [proj_foldl fun _ _ => beside_pendMore _ _ _ _]
    simp only [apply_ite State.beside, beside_spillEnd, beside_setCluster, ite_self]
  · exact proj_foldl (fun _ _ => beside_pendMore _ _ _ _) _ _

theorem beside_coreCycle (c) : (s.coreCycle c).beside = s.beside := by
  refine beside_of_fabric ((proj_foldl (fun _ _ => fabric_clusterEvent _ _ _) _ _).trans ?_)
  simp only [fabric_cantonEvent]

theorem beside_purgeDone (c) : (s.purgeDone c).beside = s.beside := by
  unfold State.purgeDone
  dsimp only
  split
  · refine (beside_of_fabric (fabric_answer _ _)).trans ((beside_of_fabric (fabric_setCanton ?_)).trans
      (beside_mapRouters _ _))
    rfl
  · rfl

/-- A slot cycle advances its canton's slot counter and changes neither engine memory nor a port (R175). -/
theorem routerSlotCycle_online {c : CantonIx} (noise : List LinkNoise) (rev : List (TileIx × Fin 4))
    (hc : s.online c = true) : Gives (.routerSlotCycle c noise rev) s fun s' =>
      (s'.canton c).slot = (s.canton c).slot + 1 ∧ s'.mem = s.mem ∧ s'.ports = s.ports := by
  obtain ⟨u, hu, hexec⟩ : ∃ u : State, u.beside = s.beside ∧ exec (.routerSlotCycle c noise rev) s =
      .next ((u.setCanton c { u.canton c with slot := (u.canton c).slot + 1 }).purgeDone c) := by
    refine ⟨_, ?_, (if_neg (by simp [hc]) : execRouterSlotCycle c noise rev s = _)⟩
    rw [proj_foldl fun _ _ => beside_endCycle _, proj_foldl fun _ _ => beside_apply, beside_coreCycle]
  refine ⟨_, hexec, ?_, ?_, ?_⟩
  · rw [slot_of_beside (beside_purgeDone _), State.canton_setCanton_same, slot_of_beside hu]
  · rw [mem_of_beside (beside_purgeDone _), State.setCanton_mem, mem_of_beside hu]
  · rw [ports_of_beside (beside_purgeDone _), State.setCanton_ports, ports_of_beside hu]

end Sys2Proof.Machine
end

section
/-! SUPPORT. One router: what it drives with its table in error (R180), and what it makes of a flit that has crossed a
seam (R174, R189, R193, R198). -/
namespace Sys2Proof.Machine

variable {x : RStep}

/-! ### A router whose table is in error (R180) -/

/-- What a router drives into its tile, flits and credits, with its table. -/
def RStep.driven (x : RStep) : List (Nat × Flit) × List Nat × SMap Byte := (x.toIq, x.cred, x.r.slots)

@[simp] theorem driven_raise (cls port tag kind) : (x.raise cls port tag kind).driven = x.driven := (rfl)
@[simp] theorem driven_discard : x.discard.driven = x.driven := (rfl)
@[simp] theorem driven_misroute (d f) : (x.misroute d f).driven = x.driven := (rfl)

@[simp] theorem driven_checked (b d f) : (x.checked b d f).2.driven = x.driven := by
  cases b <;> rfl

@[simp] theorem driven_emptyRow (o) : (x.emptyRow o).driven = x.driven := by
  unfold RStep.emptyRow
  split <;> rfl

theorem driven_purgeHeads : x.purgeHeads.driven = x.driven := by
  unfold RStep.purgeHeads
  split
  · rfl
  · refine ((proj_foldl (fun y d => ?_) _ _).trans (proj_foldl (fun y k => ?_) _ _)).trans
      (proj_foldl (fun y n => ?_) _ _)
    all_goals
      split
      · split <;> rfl
      · rfl

theorem driven_receive (d w) : (x.receive d w).2.driven = x.driven := by
  unfold RStep.receive
  split
  · rfl
  · dsimp only
    split
    · exact driven_discard.trans (driven_checked _ _ _)
    · exact driven_checked _ _ _

theorem driven_arrive (s noise d) : (x.arrive s noise d).2.driven = x.driven := by
  unfold RStep.arrive
  split
  · rfl
  · split <;> exact driven_receive _ _

theorem driven_shut (s noise bad row) : (x.shut s noise bad row).driven = x.driven := by
  refine proj_foldl (fun y d => ?_) _ _
  have harrive := driven_arrive (x := y) s noise d
  dsimp only
  split <;> simp only [apply_ite RStep.driven, driven_emptyRow, driven_raise, driven_misroute, harrive, ite_self]

/-- With its table in error a router drives nothing into its tile, and its table stays. -/
theorem driven_routerStep {s : State} {t : Nat} (c) (noise bad) (h : (s.router t).tblCause t ≠ 0) :
    (routerStep s c t noise bad).driven = ([], [], (s.router t).slots) := by
  unfold routerStep
  dsimp only
  rw [if_pos h]
  exact (driven_shut _ _ _ _).trans driven_purgeHeads

/-! ### A flit that has crossed a seam (R174, R189, R193, R198) -/

/-- A router that has noted a failed check. -/
def Router.noteCrc (r : Router) (bad : Bool) : Router :=
  if bad then { r with crcSeen := true, errCrc := satInc r.errCrc } else r

section
variable (r : Router) (b : Bool)

@[simp] theorem noteCrc_seamQ : (r.noteCrc b).seamQ = r.seamQ := by cases b <;> rfl
@[simp] theorem noteCrc_purgeCnt : (r.noteCrc b).purgeCnt = r.purgeCnt := by cases b <;> rfl
@[simp] theorem noteCrc_crcSeen : (r.noteCrc b).crcSeen = (r.crcSeen || b) := by cases b <;> simp [Router.noteCrc]
@[simp] theorem noteCrc_tblCause (t) : (r.noteCrc b).tblCause t = r.tblCause t := by cases b <;> rfl
@[simp] theorem noteCrc_shareOf (d t) : (r.noteCrc b).shareOf d t = r.shareOf d t := by cases b <;> rfl
@[simp] theorem noteCrc_purges (f) : (r.noteCrc b).purges f = r.purges f := by cases b <;> rfl

end

/-- A flit as a check leaves it: poisoned where a half failed. -/
def Flit.passed (f : Flit) (ok : Bool) : Flit := if ok then f else { f with poison := true }

@[simp] theorem tag_passed (f : Flit) (ok : Bool) : (f.passed ok).tag = f.tag := by cases ok <;> rfl

@[simp] theorem purges_passed (r : Router) (f : Flit) (ok : Bool) : r.purges (f.passed ok) = r.purges f := by
  cases ok <;> rfl

theorem checked_fst (ok : Bool) (d f) : (x.checked (!ok) d f).1 = f.passed ok := by cases ok <;> rfl

theorem checked_snd_r (ok : Bool) (d f) : (x.checked (!ok) d f).2.r = x.r.noteCrc (!ok) := by cases ok <;> rfl

theorem checked_snd_t (b : Bool) (d f) : (x.checked b d f).2.t = x.t := by cases b <;> rfl

theorem discard_t : x.discard.t = x.t := rfl

theorem misroute_seamQ (d f) : (x.misroute d f).r.seamQ = x.r.seamQ := rfl

theorem misroute_misrouteSeen (d f) : (x.misroute d f).r.misrouteSeen = true := rfl

theorem overflow_seamQ (port tag kind) : (x.overflow port tag kind).r.seamQ = x.r.seamQ := rfl

theorem overflow_ovfSeen (port tag kind) : (x.overflow port tag kind).r.ovfSeen = true := rfl

theorem shareIn_t (d f) : (x.shareIn d f).t = x.t := by
  unfold RStep.shareIn
  dsimp only
  split
  · rfl
  · split <;> rfl

/-- What a router makes of the two halves that have crossed into its seam input d. -/
def RStep.land (x : RStep) (d : Nat) (w : Wire) : RStep :=
  match (x.receive d w).1 with
  | none => (x.receive d w).2
  | some f => (x.receive d w).2.shareIn d f

variable {d : Nat} {w : Wire} {f : Flit}

theorem land_none (hw : w.flit = none) : x.land d w = x := by
  simp only [RStep.land, RStep.receive, hw]

theorem land_purged (hw : w.flit = some f) (hp : x.r.purges f = true) :
    x.land d w = (x.checked (!w.ok) d f).2.discard := by
  simp only [RStep.land, RStep.receive, hw, checked_fst, checked_snd_r, purges_passed, noteCrc_purges, hp, if_true]

theorem land_kept (hw : w.flit = some f) (hp : x.r.purges f = false) :
    x.land d w = (x.checked (!w.ok) d f).2.shareIn d (f.passed w.ok) := by
  simp only [RStep.land, RStep.receive, hw, checked_fst, checked_snd_r, purges_passed, noteCrc_purges, hp,
    Bool.false_eq_true, if_false]

theorem land_t : (x.land d w).t = x.t := by
  cases hw : w.flit with
  | none => rw [land_none hw]
  | some f =>
    cases hp : x.r.purges f with
    | true => rw [land_purged hw hp, discard_t, checked_snd_t]
    | false => rw [land_kept hw hp, shareIn_t, checked_snd_t]

/-- A flit that PURGE discards enters no share and is counted. -/
theorem land_purged_router (hw : w.flit = some f) (hp : x.r.purges f = true) :
    (x.land d w).r.seamQ = x.r.seamQ ∧ (x.land d w).r.purgeCnt = satInc x.r.purgeCnt := by
  simp only [land_purged hw hp, RStep.discard, checked_snd_r, noteCrc_seamQ, noteCrc_purgeCnt, and_self]

section
variable (hw : w.flit = some f) (hp : x.r.purges f = false)
include hw hp

/-- With its table in error the router loses the flit. -/
theorem land_tableError (hc : x.r.tblCause x.t ≠ 0) :
    (x.land d w).r.seamQ = x.r.seamQ ∧ (x.land d w).r.misrouteSeen = true := by
  simp only [land_kept hw hp, RStep.shareIn, checked_snd_r, checked_snd_t, noteCrc_tblCause, ne_eq, hc,
    not_false_eq_true, if_true, misroute_seamQ, misroute_misrouteSeen, noteCrc_seamQ, and_self]

variable {q : List Flit} (hq : SMap.get [] x.r.seamQ (8 * d + f.tag.toNat) = q) (hc : x.r.tblCause x.t = 0)
include hq hc

/-- A flit whose share has room enters it, poisoned where a half failed its check. -/
theorem land_room (hl : q.length < x.r.shareOf d f.tag.toNat) :
    SMap.get [] (x.land d w).r.seamQ (8 * d + f.tag.toNat) = q ++ [f.passed w.ok] ∧
    (x.land d w).r.crcSeen = (x.r.crcSeen || !w.ok) := by
  simp only [land_kept hw hp, RStep.shareIn, checked_snd_r, checked_snd_t, tag_passed, noteCrc_tblCause, noteCrc_seamQ,
    noteCrc_shareOf, noteCrc_crcSeen, ne_eq, hc, hq, not_true_eq_false, if_false, Nat.not_le.mpr hl,
    SMap.get_put_same, and_self]

/-- A flit whose share is full is dropped. -/
theorem land_full (hl : x.r.shareOf d f.tag.toNat ≤ q.length) :
    (x.land d w).r.seamQ = x.r.seamQ ∧ (x.land d w).r.ovfSeen = true := by
  simp only [land_kept hw hp, RStep.shareIn, checked_snd_r, checked_snd_t, tag_passed, noteCrc_tblCause, noteCrc_seamQ,
    noteCrc_shareOf, ne_eq, hc, hq, not_true_eq_false, if_false, hl, if_true,
    overflow_seamQ, overflow_ovfSeen, and_self]

end

end Sys2Proof.Machine
end

section
/-! SUPPORT. Commands of routers and seams: flits and credit messages over a seam (R189, R191), lost neighbours (R195), table
writes and switches (R199, R202), and the halves of a flit (R173, R174). -/
namespace Sys2Proof.Machine

variable {s : State}

theorem Gives.imp {c : Instr} {P Q : State → Prop} (h : Gives c s P) (hPQ : ∀ s', P s' → Q s') : Gives c s Q :=
  let ⟨s', hexec, hs'⟩ := h
  ⟨s', hexec, hPQ s' hs'⟩

/-- A tile is not its own neighbour. -/
theorem tileNeighbour_ne {t d j : Nat} (h : tileNeighbour t d = some j) : j ≠ t := by
  rintro rfl
  unfold tileNeighbour at h
  split at h <;> simp only [Option.ite_none_left_eq_some, Option.some.injEq] at h <;> omega

/-! ### Flits over a seam -/

/-- The router of tile t before it does anything. -/
def State.atRouter (s : State) (t : Nat) : RStep := { t := t, r := s.router t }

section
variable {t : TileIx} {d : Fin 4} {j : Nat}

/-- A flit that has crossed changes the router that it came from, which it leaves, and the router that it came to. -/
theorem seamFlitArrive_gives {w : Wire} {ws : List Wire} (lo hi : HalfNoise) (hj : tileNeighbour t d = some j)
    (hseam : seamDir t d = true) (hw : SMap.get [] (s.router j).wire (opp d) = w :: ws) :
    Gives (.seamFlitArrive t d lo hi) s fun s' =>
      s'.router t = ((s.atRouter t).land d (w.disturb lo hi)).r ∧
      SMap.get [] (s'.router j).wire (opp d) = ws ∧ ∀ u, u ≠ t.val → u ≠ j → s'.router u = s.router u := by
  have hne := tileNeighbour_ne hj
  have hevent (u : State) (n : Nat) : (u.cantonEvent (cantonOf t) 0x05 1).router n = u.router n :=
    router_of_fabric (fabric_cantonEvent _ _ _) n
  have hexec : exec (.seamFlitArrive t d lo hi) s = .next (((s.setRouter j { s.router j with
      wire := SMap.put [] (s.router j).wire (opp d) ws }).cantonEvent (cantonOf t) 0x05 1).apply
        ((s.atRouter t).land d (w.disturb lo hi))) := by
    show execSeamFlitArrive t d lo hi s = _
    simp only [execSeamFlitArrive, hj, hw, hseam, State.router_setRouter_ne _ _ _ _ hne.symm]
    rfl
  refine ⟨_, hexec, router_apply_same land_t, ?_, fun u hut huj => ?_⟩
  · rw [router_apply_ne (by rwa [land_t]), hevent, State.router_setRouter_same, SMap.get_put_same]
  · rw [router_apply_ne (by rwa [land_t]), hevent, State.router_setRouter_ne _ _ _ _ huj]

end

/-! ### The parts of the state that routers change -/

theorem Only.mono {ps qs : List Part} {t : State} (h : Only ps s t) (hs : ps ⊆ qs) : Only qs s t :=
  fun p hp => h p fun hm => hp (hs hm)

theorem Only.withRouters (m : SMap Router) : Only [.routers] s { s with routers := m } := by
  intro p hp
  cases p
  case routers => simp at hp
  all_goals rfl

theorem Only.setRouter (n : Nat) (r : Router) : Only [.routers] s (s.setRouter n r) := Only.withRouters _

theorem Only.mapRouters (ts : List Nat) (f : Nat → Router → Router) : Only [.routers] s (s.mapRouters ts f) :=
  Only.withRouters _

theorem Only.setTile (n : Nat) (x : Tile) : Only [.tiles] s (s.setTile n x) := by
  intro p hp
  cases p
  case tiles => simp at hp
  all_goals rfl

theorem Only.event (b m : Nat) (code : Byte) (n : Nat) : Only [.mgmt] s (s.event b m code n) := by
  unfold State.event
  split
  · exact Only.refl _ _
  · intro p hp
    cases p
    case mgmt => simp at hp
    all_goals rfl

/-! ### Pending credits -/

section
variable {t k port g : Nat}

theorem router_pendMore_ne {u : Nat} (hu : u ≠ t) : (s.pendMore t k port g).router u = s.router u := by
  unfold State.pendMore
  dsimp only
  split <;> exact router_apply_ne hu

theorem pendMore_room (h : SMap.get 0 (s.router t).pend k < 32) : s.pendMore t k port g =
    (s.seamEvent t { s.router t with
      pend := SMap.put 0 (s.router t).pend k (SMap.get 0 (s.router t).pend k + 1) }).setTile t (s.tile t) := by
  unfold State.pendMore
  dsimp only
  rw [if_neg (by omega)]
  rfl

theorem pend_pendMore_room (h : SMap.get 0 (s.router t).pend k < 32) :
    SMap.get 0 ((s.pendMore t k port g).router t).pend k = SMap.get 0 (s.router t).pend k + 1 := by
  have hrouter : (s.pendMore t k port g).router t =
      { s.router t with pend := SMap.put 0 (s.router t).pend k (SMap.get 0 (s.router t).pend k + 1) } := by
    rw [pendMore_room h]
    exact State.router_setRouter_same _ _ _
  rw [hrouter, SMap.get_put_same]

theorem pendMore_full (h : 32 ≤ SMap.get 0 (s.router t).pend k) : (s.pendMore t k port g).router t =
    { s.router t with ovfSeen := true, errOvf := satInc (s.router t).errOvf } := by
  unfold State.pendMore
  dsimp only
  rw [if_pos h]
  exact router_apply_same rfl

theorem only_pendMore_room (h : SMap.get 0 (s.router t).pend k < 32) :
    Only [.routers, .tiles, .mgmt] s (s.pendMore t k port g) := by
  rw [pendMore_room h]
  exact (((Only.event _ _ _ _).mono (by decide)).trans ((Only.setRouter _ _).mono (by decide))).trans
    ((Only.setTile _ _).mono (by decide))

end

section
variable {t : TileIx} {d : Fin 4} {j g : Nat} {gs : List Nat} (hj : tileNeighbour t d = some j)
  (hg : SMap.get [] (s.router j).credMsg (opp d) = g :: gs)
include hj hg

/-- A credit message leaves the router that sent it, and counts at the router that it reaches. -/
theorem seamCreditMessage_exec : exec (.seamCreditMessage t d) s =
      .next ((s.setRouter j { s.router j with credMsg := SMap.put [] (s.router j).credMsg (opp d) gs }).pendMore t
        (5 + 8 * d.val + g) d g) := by
  show execSeamCreditMessage t d s = _
  simp only [execSeamCreditMessage, hj, hg]

theorem seamCreditMessage_room (hpend : SMap.get 0 (s.router t).pend (5 + 8 * d.val + g) < 32) :
    Gives (.seamCreditMessage t d) s fun s' =>
      SMap.get 0 (s'.router t).pend (5 + 8 * d.val + g) = SMap.get 0 (s.router t).pend (5 + 8 * d.val + g) + 1 ∧
      SMap.get [] (s'.router j).credMsg (opp d) = gs ∧ (∀ u, u ≠ t.val → u ≠ j → s'.router u = s.router u) ∧
      Only [.routers, .tiles, .mgmt] s s' := by
  have hne := tileNeighbour_ne hj
  have ht (r : Router) : (s.setRouter j r).router t = s.router t := State.router_setRouter_ne _ _ _ _ hne.symm
  refine ⟨_, seamCreditMessage_exec hj hg, ?_, ?_, fun u hut huj => ?_, ?_⟩
  · rw [pend_pendMore_room (by rwa [ht]), ht]
  · rw [router_pendMore_ne hne, State.router_setRouter_same, SMap.get_put_same]
  · rw [router_pendMore_ne hut, State.router_setRouter_ne _ _ _ _ huj]
  · exact ((Only.setRouter _ _).mono (by decide)).trans (only_pendMore_room (by rwa [ht]))

theorem seamCreditMessage_full (hpend : 32 ≤ SMap.get 0 (s.router t).pend (5 + 8 * d.val + g)) :
    Gives (.seamCreditMessage t d) s fun s' =>
      (s'.router t).pend = (s.router t).pend ∧ (s'.router t).ovfSeen = true := by
  have ht (r : Router) : (s.setRouter j r).router t = s.router t :=
    State.router_setRouter_ne _ _ _ _ (tileNeighbour_ne hj).symm
  refine ⟨_, seamCreditMessage_exec hj hg, ?_, ?_⟩
  · rw [pendMore_full (by rwa [ht]), ht]
  · rw [pendMore_full (by rwa [ht])]

end

/-! ### Every router of a list -/

/-- A change of every router of a list, where making it twice is making it once. -/
theorem router_mapRouters {f : Nat → Router → Router} (hf : ∀ n r, f n (f n r) = f n r) (ts : List Nat) (s : State)
    (u : Nat) : (s.mapRouters ts f).router u = if u ∈ ts then f u (s.router u) else s.router u := by
  induction ts generalizing s with
  | nil => rfl
  | cons n ts ih =>
    have hcons : (s.mapRouters (n :: ts) f) = (s.setRouter n (f n (s.router n))).mapRouters ts f := rfl
    rw [hcons, ih]
    by_cases hu : u = n
    · subst hu
      simp [hf]
    · simp [hu, State.router_setRouter_ne _ _ _ _ hu]

/-! ### A failed seam (R195) -/

theorem getLsbD_setBit_true {n i : Nat} (x : BitVec n) (hi : i < n) (k : Nat) :
    (setBit x i true).getLsbD k = (x.getLsbD k || decide (k = i)) := by
  rw [setBit, if_pos rfl, BitVec.getLsbD_or, BitVec.getLsbD_ofNat, Nat.testBit_two_pow]
  by_cases hk : k = i
  · simp [hk, hi]
  · simp [hk, Ne.symm hk]

/-- A router whose link in direction d has failed. -/
def Router.failLink (d : Nat) (r : Router) : Router :=
  { r with linkFail := setBit r.linkFail d true, half := SMap.del d r.half }

theorem linkFail_failLink {d : Nat} (hd : d < 4) (r : Router) (k : Nat) :
    (r.failLink d).linkFail.getLsbD k = (r.linkFail.getLsbD k || decide (k = d)) := getLsbD_setBit_true _ hd k

theorem failLink_twice {d : Nat} (hd : d < 4) (r : Router) : (r.failLink d).failLink d = r.failLink d := by
  have hbits : setBit (setBit r.linkFail d true) d true = setBit r.linkFail d true := by
    refine BitVec.eq_of_getLsbD_eq fun k _ => ?_
    simp only [getLsbD_setBit_true _ hd, Bool.or_assoc, Bool.or_self]
  have hhalf : SMap.del d (SMap.del d r.half) = SMap.del d r.half := by simp [SMap.del]
  simp only [Router.failLink, hbits, hhalf]

theorem opp_lt (d : Nat) : opp d < 4 := Nat.mod_lt _ (by decide)

theorem seamFail_true {c d e : Nat} (he : cantonNeighbour c d = some e) : s.seamFail c d true =
    (s.mapRouters (seamTiles c d) fun _ => Router.failLink d).mapRouters (seamTiles e (opp d))
      fun _ => Router.failLink (opp d) := by
  simp only [State.seamFail, he]
  rfl

/-- Both sides of a seam whose neighbour is lost have LINK_FAIL set. -/
theorem seamFail_linkFail {c d e : Nat} (hd : d < 4) (he : cantonNeighbour c d = some e) :
    (∀ t ∈ seamTiles c d, ((s.seamFail c d true).router t).linkFail.getLsbD d = true) ∧
    (∀ t ∈ seamTiles e (opp d), ((s.seamFail c d true).router t).linkFail.getLsbD (opp d) = true) ∧
    Only [.routers] s (s.seamFail c d true) := by
  rw [seamFail_true he]
  have hopp := opp_lt d
  refine ⟨fun t ht => ?_, fun t ht => ?_, (Only.mapRouters _ _).trans (Only.mapRouters _ _)⟩
  · rw [router_mapRouters (fun _ => failLink_twice hopp), router_mapRouters (fun _ => failLink_twice hd), if_pos ht]
    split
    · rw [linkFail_failLink hopp, linkFail_failLink hd]
      simp
    · rw [linkFail_failLink hd]
      simp
  · rw [router_mapRouters (fun _ => failLink_twice hopp), if_pos ht, linkFail_failLink hopp]
    simp

/-! ### Table switches (R199) -/

theorem switch_unstaged {t : Nat} {r : Router} (h : r.stage = none) : r.switch t = r := by
  simp only [Router.switch, h]

theorem switch_twice (t : Nat) (r : Router) : (r.switch t).switch t = r.switch t := by
  cases hg : r.stage with
  | none => rw [switch_unstaged hg, switch_unstaged hg]
  | some g =>
    cases hrel : g.released with
    | true =>
      have hstage : (r.switch t).stage = none := by
        simp only [Router.switch, hg, hrel, if_true]
        rfl
      exact switch_unstaged hstage
    | false =>
      have hkept : r.switch t = r := by simp only [Router.switch, hg, hrel, Bool.false_eq_true, if_false]
      rw [hkept, hkept]

theorem purgeDone_idle {c : Nat} (h : (s.canton c).watch ≠ .purging) : s.purgeDone c = s := by
  simp only [State.purgeDone, decide_eq_false h, Bool.false_and, Bool.false_eq_true, if_false]

theorem canton_mapRouters (ts : List Nat) (f : Nat → Router → Router) (c : Nat) :
    (s.mapRouters ts f).canton c = s.canton c := (rfl)

theorem tableSwitch_exec {c : CantonIx} (hslot : (s.canton c).slot = 0) :
    let s1 := s.mapRouters (tilesOf c) Router.switch
    ((s.canton c).watch = .switching → Does (.tableSwitch c) s
      ((s1.setCanton c { s.canton c with watch := .none }).answer c ⟨(s.canton c).watchSlice.toNat, 4, 0, 0⟩)) ∧
    ((s.canton c).watch ≠ .switching → Does (.tableSwitch c) s (s1.purgeDone c)) := by
  refine ⟨fun hw => ?_, fun hw => ?_⟩
  · show execTableSwitch c s = _
    simp only [execTableSwitch, hslot, canton_mapRouters, hw, if_true]
  · show execTableSwitch c s = _
    simp only [execTableSwitch, hslot, canton_mapRouters, if_true]

/-! ### Table writes (R202) -/

/-- A value written by a fold of writes at keys that are all different. -/
theorem SMap.get_foldl_put {α : Type} [DecidableEq α] (v₀ : α) {key : Nat → Nat} (hkey : Function.Injective key)
    (val : Nat → α) (l : List Nat) (m : SMap α) (o : Nat) :
    SMap.get v₀ (l.foldl (fun m i => SMap.put v₀ m (key i) (val i)) m) (key o) =
      if o ∈ l then val o else SMap.get v₀ m (key o) := by
  induction l generalizing m with
  | nil => rfl
  | cons i l ih =>
    rw [List.foldl_cons, ih]
    by_cases ho : o = i
    · subst ho
      simp
    · simp [ho, SMap.get_put_ne _ _ _ _ _ (hkey.ne ho)]

theorem entry_writeReg (r : Router) {row o : Nat} (v : W64) (hrow : row < 16) (ho : o < 8) :
    (r.writeReg (16 * row) v).entry row o = fld v.toNat (8 * o) 8 := by
  have hslots : (r.writeReg (16 * row) v).slots = (List.range 8).foldl (fun m o =>
      SMap.put 0 m (9 * row + o) (BitVec.ofNat 8 (fld v.toNat (8 * o) 8))) r.slots := by
    have hoff : 16 * row < 0x100 := by omega
    have hquot : 16 * row / 16 = row := by omega
    simp only [Router.writeReg, if_pos hoff, hquot, Nat.mul_mod_right, if_true]
  rw [Router.entry, hslots, SMap.get_foldl_put 0 (fun i j h => Nat.add_left_cancel h), if_pos (List.mem_range.mpr ho)]
  exact BitVec.toNat_ofNat _ _ |>.trans (Nat.mod_eq_of_lt (fld_lt _ _ 8))

/-! ### Halves (R173, R174) -/

theorem wire_ok (f : Flit) : f.wire.ok = true := by
  simp [Wire.ok, Flit.wire, Flit.lo, Flit.hi, mkHalf]

theorem getLsbD_sideband (f : Flit) (i : Nat) : f.sideband.getLsbD i =
    if i < 3 then f.tag.getLsbD i else if i < 4 then f.poison else if i < 8 then f.epoch.getLsbD (i - 4)
    else if i < 9 then f.eot else if i < 11 then f.kind.getLsbD (i - 9) else decide (i < 12) := by
  show BitVec.getLsbD (w := 1 + 2 + 1 + 4 + 1 + 3) (_ ++ _) i = _
  simp only [BitVec.getLsbD_append, BitVec.getLsbD_ofBool]
  grind

theorem wire_flit (f : Flit) : f.wire.flit = some f := by
  have hside : f.wire.sideband = f.sideband := BitVec.extractLsb'_append_extractLsb'
  have hpayload : f.wire.hi.data ++ f.wire.lo.data = f.payload := BitVec.extractLsb'_append_extractLsb'
  have hfield {lo n : Nat} {x : BitVec n} (h : ∀ i < n, f.sideband.getLsbD (lo + i) = x.getLsbD i) :
      f.sideband.extractLsb' lo n = x := BitVec.eq_of_getLsbD_eq fun i hi => by
    rw [BitVec.getLsbD_extractLsb', h i hi, decide_eq_true hi, Bool.true_and]
  have hkind : f.sideband.extractLsb' 9 2 = f.kind := hfield fun i hi => by
    rw [getLsbD_sideband]
    grind
  have hepoch : f.sideband.extractLsb' 4 4 = f.epoch := hfield fun i hi => by
    rw [getLsbD_sideband]
    grind
  have htag : f.sideband.extractLsb' 0 3 = f.tag := hfield fun i hi => by
    rw [getLsbD_sideband]
    grind
  simp only [Wire.flit, hside, hpayload, hkind, hepoch, htag, getLsbD_sideband]
  rfl

end Sys2Proof.Machine
end

section
open Sys2Proof Sys2Proof.Machine

/-- Settles O24: what a cycle, a table write, a switch or a lost neighbour changes of a canton's routers, and what a flit
and a credit message change of the two routers of a seam. -/
theorem routerNetworks : Obligations.RouterNetworks := by
  unfold Obligations.RouterNetworks
  refine ⟨fun s c noise rev => ⟨fun hc => if_pos (by simp [hc]), routerSlotCycle_online noise rev⟩,
    fun s c t noise bad hc => ?_, fun s t off v => ⟨fun hrun => if_pos hrun, fun hrun => ?_⟩,
    fun r row o v => entry_writeReg r v, fun s c hslot => if_neg hslot, fun s c hslot => ?_,
    fun s c d e he => ⟨fun hon => ?_, fun hoff => ?_⟩, fun f => ⟨wire_flit f, wire_ok f⟩,
    fun s t d lo hi j w ws hj hseam hw => ?_, fun s t d j g gs hj hg hpend => seamCreditMessage_room hj hg hpend,
    fun s t d j g gs hj hg hpend _ => seamCreditMessage_full hj hg hpend⟩
  · have hdriven := driven_routerStep c noise bad hc
    exact ⟨congrArg Prod.fst hdriven, congrArg (·.2.1) hdriven, congrArg (·.2.2) hdriven⟩
  · exact ⟨_, if_neg (by simp [hrun]), State.router_setRouter_same _ _ _,
      fun u hu => State.router_setRouter_ne _ _ _ _ hu, Only.setRouter _ _⟩
  · obtain ⟨hswitching, hother⟩ := tableSwitch_exec hslot
    refine ⟨router_mapRouters switch_twice _ _, Only.mapRouters _ _, hswitching, fun hw => ?_, fun hsw hpu => ?_⟩
    · exact hother (by simp [hw])
    · have hidle : (s.mapRouters (tilesOf c) Router.switch).purgeDone c = s.mapRouters (tilesOf c) Router.switch :=
        purgeDone_idle (by rwa [canton_mapRouters])
      exact hidle ▸ hother hsw
  · show execSeamNeighbourLost c d s = _
    simp only [execSeamNeighbourLost, he, hon, if_true]
  · refine ⟨_, ?_, seamFail_linkFail d.isLt he⟩
    show execSeamNeighbourLost c d s = _
    simp only [execSeamNeighbourLost, he, hoff, Bool.false_eq_true, if_false]
  · have harrive := seamFlitArrive_gives lo hi hj hseam hw
    refine ⟨fun hf => ?_, fun f hf hp => ?_, fun f hf hp => ⟨fun hc hl => ?_, fun hc hl => ?_, fun hc => ?_⟩⟩
    · refine harrive.imp fun s' ⟨ht, hwire, hu⟩ => ?_
      rw [land_none hf] at ht
      refine ⟨congrArg Router.seamQ ht, hwire, fun u hne => ?_⟩
      by_cases h : u = t.val
      · exact h ▸ ht
      · exact hu u h hne
    · obtain ⟨hseamQ, hcnt⟩ := land_purged_router (x := s.atRouter t) (d := d) hf hp
      exact harrive.imp fun s' ⟨ht, hwire, _⟩ => ht ▸ ⟨hseamQ, hwire, hcnt⟩
    · obtain ⟨hseamQ, hcrc⟩ := land_room (x := s.atRouter t) (d := d) hf hp rfl hc hl
      exact harrive.imp fun s' ⟨ht, hwire, hu⟩ => ht ▸ ⟨hseamQ, hwire, hcrc, hu⟩
    · obtain ⟨hseamQ, hovf⟩ := land_full (x := s.atRouter t) (d := d) hf hp rfl hc hl
      exact harrive.imp fun s' ⟨ht, _, _⟩ => ht ▸ ⟨hseamQ ▸ rfl, hovf⟩
    · obtain ⟨hseamQ, hlost⟩ := land_tableError (x := s.atRouter t) (d := d) hf hp hc
      exact harrive.imp fun s' ⟨ht, _, _⟩ => ht ▸ ⟨hseamQ ▸ rfl, hlost⟩
end

section
/-! SUPPORT. What records and events leave alone (R433, R434, R454, R465): of the registers they set ERR_STAT only, and beside
the registers and the record path nothing but the counters and the alert. One equation per operation f, `beyondRecs_f`. -/
namespace Sys2Proof.Machine

variable {s t u : State}

/-- The state without what records and events change. -/
def State.beyondRecs (s : State) : State :=
  { s with err := {}, regs := [], mgmt := { s.mgmt with counters := [], alertOff := false } }

theorem Only.symm {ps : List Part} (h : Only ps s t) : Only ps t s := by
  intro p hp
  have hsame := h p hp
  cases p <;> exact Eq.symm hsame

theorem only_beyondRecs (s : State) : Only [.err, .regs, .mgmt] s s.beyondRecs := by
  intro p hp
  cases p
  case err | regs | mgmt => simp at hp
  all_goals rfl

/-- What two states that agree beyond records have in common. -/
theorem only_of_beyondRecs (h : t.beyondRecs = s.beyondRecs) : Only [.err, .regs, .mgmt] s t :=
  (only_beyondRecs s).trans (h ▸ (only_beyondRecs t).symm)

@[simp] theorem beyondRecs_fset (f v i) : (s.fset f v i).beyondRecs = s.beyondRecs := (rfl)
@[simp] theorem beyondRecs_finc (f i k) : (s.finc f i k).beyondRecs = s.beyondRecs := (rfl)
@[simp] theorem beyondRecs_withErr (e : ErrState) : ({ s with err := e } : State).beyondRecs = s.beyondRecs := (rfl)
@[simp] theorem beyondRecs_setSource (n x) : (s.setSource n x).beyondRecs = s.beyondRecs := (rfl)
@[simp] theorem beyondRecs_detect (r) : (s.detect r).2.beyondRecs = s.beyondRecs := (rfl)
@[simp] theorem beyondRecs_oweRec (v) : (s.oweRec v).beyondRecs = s.beyondRecs := (rfl)

@[simp] theorem beyondRecs_event (b m code n) : (s.event b m code n).beyondRecs = s.beyondRecs := by
  unfold State.event
  split <;> rfl

@[simp] theorem beyondRecs_cantonEvent (c code n) : (s.cantonEvent c code n).beyondRecs = s.beyondRecs :=
  beyondRecs_event _ _ _ _

@[simp] theorem beyondRecs_clusterEvent (k code n) : (s.clusterEvent k code n).beyondRecs = s.beyondRecs :=
  beyondRecs_event _ _ _ _

@[simp] theorem beyondRecs_dropRecs (n) : (s.dropRecs n).beyondRecs = s.beyondRecs := by
  simp only [State.dropRecs, apply_ite State.beyondRecs, beyondRecs_fset, beyondRecs_finc, ite_self]

@[simp] theorem beyondRecs_ledger (e) : (s.ledger e).beyondRecs = s.beyondRecs := (rfl)

@[simp] theorem beyondRecs_ledgerDetect (r) : (s.ledgerDetect r).beyondRecs = s.beyondRecs := by
  simp only [State.ledgerDetect, apply_ite State.beyondRecs, beyondRecs_ledger, ite_self]

@[simp] theorem beyondRecs_seenRec (d) : (s.seenRec d).beyondRecs = s.beyondRecs := by
  unfold State.seenRec
  split <;> rfl

/-- The alert is one of the things that records change. -/
theorem beyondRecs_alert (e : ErrState) (p : Prop) [Decidable p] :
    ({ s with err := e, mgmt := if p then s.mgmt else { s.mgmt with alertOff := false } } : State).beyondRecs =
      s.beyondRecs := by
  split <;> rfl

@[simp] theorem beyondRecs_takeRec (r) : (s.takeRec r).beyondRecs = s.beyondRecs := by
  unfold State.takeRec
  extract_lets r p lost stops err mgmt s1 s2
  have hs : s2.beyondRecs = s.beyondRecs := by
    simp only [s2, beyondRecs_ledgerDetect, beyondRecs_fset, beyondRecs_dropRecs]
    exact beyondRecs_alert _ _
  clear_value lost s2
  split
  · exact (beyondRecs_oweRec _).trans hs
  · exact hs

@[simp] theorem beyondRecs_report (src r) : (s.report src r).beyondRecs = s.beyondRecs := by
  simp only [State.report, apply_ite State.beyondRecs, beyondRecs_takeRec, beyondRecs_dropRecs, beyondRecs_setSource,
    beyondRecs_withErr, beyondRecs_cantonEvent, beyondRecs_seenRec, beyondRecs_detect, ite_self]

@[simp] theorem beyondRecs_pathRec (k h) : (s.pathRec k h).beyondRecs = s.beyondRecs := by simp [State.pathRec]

@[simp] theorem beyondRecs_protoRec (k h) : (s.protoRec k h).beyondRecs = s.beyondRecs := by simp [State.protoRec]

/-! ### ERR_STAT -/

/-- The registers beside ERR_STAT. -/
def State.regsBeside (s : State) (o : Nat) : W64 := if o = 0x50018 then 0 else s.reg o

theorem onlyRegs_of_regsBeside (h : t.regsBeside = s.regsBeside) : OnlyRegs [0x50018] s t := by
  intro o ho
  have hne : o ≠ 0x50018 := by simpa using ho
  simpa [State.regsBeside, hne] using congrFun h o

@[simp] theorem regsBeside_setReg (v) : (s.setReg 0x50018 v).regsBeside = s.regsBeside := by
  funext o
  by_cases ho : o = 0x50018
  · simp [State.regsBeside, ho]
  · simp [State.regsBeside, ho, State.reg_setReg_ne]

@[simp] theorem regsBeside_fset (lo n v) : (s.fset ⟨0x50018, lo, n⟩ v).regsBeside = s.regsBeside := regsBeside_setReg _
@[simp] theorem regsBeside_finc (lo n i) : (s.finc ⟨0x50018, lo, n⟩ 0 i).regsBeside = s.regsBeside := regsBeside_setReg _
@[simp] theorem regsBeside_withErr (e : ErrState) : ({ s with err := e } : State).regsBeside = s.regsBeside := (rfl)
@[simp] theorem regsBeside_setSource (n x) : (s.setSource n x).regsBeside = s.regsBeside := (rfl)
@[simp] theorem regsBeside_detect (r) : (s.detect r).2.regsBeside = s.regsBeside := (rfl)
@[simp] theorem regsBeside_oweRec (v) : (s.oweRec v).regsBeside = s.regsBeside := (rfl)
@[simp] theorem regsBeside_ledger (e) : (s.ledger e).regsBeside = s.regsBeside := (rfl)

@[simp] theorem regsBeside_event (b m code n) : (s.event b m code n).regsBeside = s.regsBeside := by
  unfold State.event
  split <;> rfl

@[simp] theorem regsBeside_cantonEvent (c code n) : (s.cantonEvent c code n).regsBeside = s.regsBeside :=
  regsBeside_event _ _ _ _

@[simp] theorem regsBeside_dropRecs (n) : (s.dropRecs n).regsBeside = s.regsBeside := by
  simp only [State.dropRecs, apply_ite State.regsBeside, regsBeside_fset, regsBeside_finc, ite_self]

@[simp] theorem regsBeside_ledgerDetect (r) : (s.ledgerDetect r).regsBeside = s.regsBeside := by
  simp only [State.ledgerDetect, apply_ite State.regsBeside, regsBeside_ledger, ite_self]

@[simp] theorem regsBeside_seenRec (d) : (s.seenRec d).regsBeside = s.regsBeside := by
  unfold State.seenRec
  split <;> simp

@[simp] theorem regsBeside_takeRec (r) : (s.takeRec r).regsBeside = s.regsBeside := by
  unfold State.takeRec
  extract_lets r p lost stops err mgmt s1 s2
  have hs : s2.regsBeside = s.regsBeside := by
    simp only [s2, regsBeside_ledgerDetect, regsBeside_fset, regsBeside_dropRecs]
    rfl
  clear_value lost s2
  split
  · exact (regsBeside_oweRec _).trans hs
  · exact hs

/-- Of the registers a record changes ERR_STAT only. -/
theorem onlyRegs_report (src r) : OnlyRegs [0x50018] s (s.report src r) := by
  refine onlyRegs_of_regsBeside ?_
  simp only [State.report, apply_ite State.regsBeside, regsBeside_takeRec, regsBeside_dropRecs, regsBeside_setSource,
    regsBeside_withErr, regsBeside_cantonEvent, regsBeside_seenRec, regsBeside_detect, ite_self]

/-- A field of a register that stays. -/
theorem OnlyRegs.fget {offs : List Nat} (h : OnlyRegs offs s t) {f : Fld} {i : Nat}
    (ho : f.off + i * 0x10000 ∉ offs) : t.fget f i = s.fget f i := by
  unfold State.fget
  rw [h _ ho]

/-- A record changes no field but those of ERR_STAT. -/
theorem fget_report {f : Fld} {i : Nat} (hf : f.off + i * 0x10000 ≠ 0x50018) (src r) :
    (s.report src r).fget f i = s.fget f i :=
  (onlyRegs_report src r).fget (by simpa using hf)

end Sys2Proof.Machine
end

section
/-! SUPPORT. The links of the mesh (R205, R210): what a flit that is received changes of its two routers, and what a failed
link leaves. -/
namespace Sys2Proof.Machine

variable {s t : State}

theorem router_of_mesh (h : t.mesh = s.mesh) (k : Nat) : t.mrouter k = s.mrouter k :=
  congrArg (fun m => SMap.get ({} : MeshRouter) m k) h

theorem mesh_of_beyondRecs (h : t.beyondRecs = s.beyondRecs) : t.mesh = s.mesh :=
  (congrArg State.mesh h : t.beyondRecs.mesh = s.beyondRecs.mesh)

theorem Only.setMrouter (k : Nat) (m : MeshRouter) : Only [.mesh] s (s.setMrouter k m) := by
  intro p hp
  cases p
  case mesh => simp at hp
  all_goals rfl

/-- A cluster is not its own neighbour. -/
theorem clusterNeighbour_ne {k d j : Nat} (h : clusterNeighbour k d = some j) : j ≠ k := by
  rintro rfl
  unfold clusterNeighbour at h
  split at h <;> simp only [Option.ite_none_left_eq_some, Option.some.injEq] at h <;> omega

/-! ### Flits over a link -/

/-- The flit received last is off the wire of the router that sent it. -/
def State.offWire (s : State) (j o : Nat) (ws : List (BitVec 6 × MFlit)) : State :=
  s.setMrouter j { s.mrouter j with wire := SMap.put [] (s.mrouter j).wire o ws }

/-- An input has received the flit that it expected. -/
def MeshRouter.expectNext (m : MeshRouter) (d : Nat) (n : BitVec 6) : MeshRouter :=
  { m with expect := SMap.put 0 m.expect d (n + 1), fails := SMap.put 0 m.fails d 0 }

/-- A flit enters queue x, or goes with the packet whose rest was lost. -/
def MeshRouter.accept (m : MeshRouter) (x : Nat) (f : MFlit) : MeshRouter :=
  if m.skip.contains x then { m with skip := if f.tail then m.skip.filter (· ≠ x) else m.skip }
  else { m with q := SMap.put [] m.q x (m.queue x ++ [f]) }

theorem accept_kept {m : MeshRouter} {x : Nat} (h : x ∉ m.skip) (f : MFlit) :
    m.accept x f = { m with q := SMap.put [] m.q x (m.queue x ++ [f]) } := by simp [MeshRouter.accept, h]

theorem accept_skipped {m : MeshRouter} {x : Nat} (h : x ∈ m.skip) (f : MFlit) :
    m.accept x f = { m with skip := if f.tail then m.skip.filter (· ≠ x) else m.skip } := by
  simp [MeshRouter.accept, h]

section
variable {k : ClusterIx} {d : Fin 4} {j : Nat} {n : BitVec 6} {f : MFlit} {ws : List (BitVec 6 × MFlit)}
  (hj : clusterNeighbour k d = some j)

include hj

theorem wire_offWire (m : MeshRouter) :
    SMap.get [] (((s.offWire j (opp d) ws).setMrouter k m).mrouter j).wire (opp d) = ws := by
  rw [State.mrouter_setMrouter_ne _ _ _ _ (clusterNeighbour_ne hj), State.offWire, State.mrouter_setMrouter_same,
    SMap.get_put_same]

theorem mrouter_offWire_same (o : Nat) : (s.offWire j o ws).mrouter k = s.mrouter k :=
  State.mrouter_setMrouter_ne _ _ _ _ (clusterNeighbour_ne hj).symm

variable (hw : SMap.get [] (s.mrouter j).wire (opp d) = (n, f) :: ws)
include hw

theorem meshFlitReceive_next (hn : n = SMap.get 0 (s.mrouter k).expect d) :
    Does (.meshFlitReceive k d true) s ((s.offWire j (opp d) ws).setMrouter k
      (((s.mrouter k).expectNext d n).accept (qIx d f.vc.toNat f.lane) f)) := by
  show execMeshFlitReceive k d true s = _
  have hk (m : MeshRouter) : (s.setMrouter j m).mrouter k = s.mrouter k :=
    State.mrouter_setMrouter_ne _ _ _ _ (clusterNeighbour_ne hj).symm
  simp only [execMeshFlitReceive, hj, hw, hk, ← hn, if_true, ne_eq, not_true_eq_false, if_false]
  rfl

theorem meshFlitReceive_other (hn : n ≠ SMap.get 0 (s.mrouter k).expect d) :
    Does (.meshFlitReceive k d true) s (s.offWire j (opp d) ws) := by
  show execMeshFlitReceive k d true s = _
  have hk (m : MeshRouter) : (s.setMrouter j m).mrouter k = s.mrouter k :=
    State.mrouter_setMrouter_ne _ _ _ _ (clusterNeighbour_ne hj).symm
  simp only [execMeshFlitReceive, hj, hw, hk, if_true, ne_eq, hn, not_false_eq_true]
  rfl

/-- The two routers after a failed check: the sender begins again at the flit, and the replay is counted. -/
def State.resendFrom (s : State) (k d j : Nat) (n : BitVec 6) : State :=
  (s.offWire j (opp d) ((SMap.get [] (s.mrouter j).replay (opp d)).dropWhile fun p => p.1 ≠ n)).setMrouter k
    { s.mrouter k with fails := SMap.put 0 (s.mrouter k).fails d (SMap.get 0 (s.mrouter k).fails d + 1) }

theorem meshFlitReceive_failed : Gives (.meshFlitReceive k d false) s fun s' => s'.mesh = (s.resendFrom k d j n).mesh := by
  have hexec : Does (.meshFlitReceive k d false) s
      ((((s.resendFrom k d j n).cantonEvent (cantonOfCluster k) 0x0D 1).finc fCanMeshErrReplay (cantonOfCluster k)).report
        (cantonSrc (cantonOfCluster k)) (linkCrcRec k d)) := by
    show execMeshFlitReceive k d false s = _
    have hk (m : MeshRouter) : (s.setMrouter j m).mrouter k = s.mrouter k :=
      State.mrouter_setMrouter_ne _ _ _ _ (clusterNeighbour_ne hj).symm
    simp only [execMeshFlitReceive, hj, hw, hk, Bool.false_eq_true, if_false]
    rfl
  exact ⟨_, hexec, mesh_of_beyondRecs
    (((beyondRecs_report _ _).trans (beyondRecs_finc _ _ _)).trans (beyondRecs_cantonEvent _ _ _))⟩

end

/-! ### Failed links -/

/-- What a router shows of its links: those that have failed, and the flits on their way. -/
def State.meshLinks (s : State) (k : Nat) : BitVec 4 × SMap (List (BitVec 6 × MFlit)) :=
  ((s.mrouter k).linkFail, (s.mrouter k).wire)

theorem meshLinks_of_mesh (h : t.mesh = s.mesh) : t.meshLinks = s.meshLinks := by
  funext k
  rw [State.meshLinks, router_of_mesh h]
  rfl

theorem meshLinks_setMrouter_ne {k i : Nat} (h : i ≠ k) (m : MeshRouter) :
    (s.setMrouter k m).meshLinks i = s.meshLinks i := by
  rw [State.meshLinks, State.mrouter_setMrouter_ne _ _ _ _ h]
  rfl

theorem meshLinks_setMrouter_keep {k : Nat} {m : MeshRouter} (hf : m.linkFail = (s.mrouter k).linkFail)
    (hw : m.wire = (s.mrouter k).wire) : (s.setMrouter k m).meshLinks = s.meshLinks := by
  funext i
  by_cases hi : i = k
  · subst hi
    rw [State.meshLinks, State.mrouter_setMrouter_same, hf, hw]
    rfl
  · exact meshLinks_setMrouter_ne hi m

theorem meshLinks_inject (k port : Nat) (p : Packet) : (s.inject k port p).meshLinks = s.meshLinks :=
  meshLinks_setMrouter_keep rfl rfl

theorem meshLinks_send (k port : Nat) (p : Packet) : (s.send k port p).2.meshLinks = s.meshLinks := by
  unfold State.send
  split
  · refine (meshLinks_inject _ _ _).trans (meshLinks_of_mesh ?_)
    split
    · exact mesh_of_beyondRecs (beyondRecs_clusterEvent _ _ _)
    · rfl
  · exact meshLinks_of_mesh (mesh_of_beyondRecs (beyondRecs_pathRec _ _))

/-- A packet that ends answers its requester at most: no link changes. -/
theorem meshLinks_endPacket (k : Nat) (h : MFlit) : (s.endPacket k h).meshLinks = s.meshLinks := by
  have hrec : (s.pathRec k h.data).meshLinks = s.meshLinks :=
    meshLinks_of_mesh (mesh_of_beyondRecs (beyondRecs_pathRec _ _))
  unfold State.endPacket
  dsimp only
  generalize (if h.vc = 2 then none else packetOf [h]) = q
  split
  · split
    · exact (meshLinks_send _ _ _).trans hrec
    · exact hrec
  · exact hrec

theorem mesh_showLinkFail (k d : Nat) : (s.showLinkFail k d).mesh = s.mesh := by
  unfold State.showLinkFail
  dsimp only
  split
  · rfl
  · split
    · rfl
    · split <;> exact State.fset_mesh _ _ _ _

theorem only_showLinkFail (k d : Nat) : Only [.regs] s (s.showLinkFail k d) := by
  unfold State.showLinkFail
  dsimp only
  split
  · exact Only.refl _ _
  · split
    · exact Only.refl _ _
    · split <;> exact Only.fset _ _ _ _

/-- A router that sends no more on a link, and has forgotten what it was receiving over it. -/
def MeshRouter.closed (m : MeshRouter) (d : Nat) : MeshRouter :=
  ({ m with linkFail := setBit m.linkFail d true, wire := SMap.put [] m.wire d [] } : MeshRouter).cutInput d

/-- The state with one direction of a link failed, and no packet ended for it yet. -/
def State.closeDir (s : State) (k d : Nat) : State :=
  ((s.setMrouter k ((s.mrouter k).closed d)).showLinkFail k d).fset fCanMeshErrLinkFailed 1 (cantonOfCluster k)

theorem mrouter_closeDir (k d i : Nat) :
    (s.closeDir k d).mrouter i = (s.setMrouter k ((s.mrouter k).closed d)).mrouter i :=
  router_of_mesh (mesh_showLinkFail (s := s.setMrouter k ((s.mrouter k).closed d)) k d) i

theorem only_closeDir (k d : Nat) : Only [.mesh, .regs] s (s.closeDir k d) :=
  (((Only.setMrouter _ _).mono (by decide)).trans ((only_showLinkFail _ _).mono (by decide))).trans
    ((Only.fset _ _ _ _).mono (by decide))

theorem failSide_eq (k d : Nat) : s.failSide k d =
    if (s.closeDir k d).routerUp k then
      ((s.mrouter k).unreceived d).foldl (fun s h => s.endPacket k h) (s.closeDir k d)
    else s.closeDir k d := rfl

/-- A direction on which every packet that was sent has been received fails without ending any. -/
theorem failSide_received {k d : Nat} (h : (s.mrouter k).unreceived d = []) : s.failSide k d = s.closeDir k d := by
  rw [failSide_eq, h]
  exact ite_self _

theorem meshLinks_failSide (k d : Nat) : (s.failSide k d).meshLinks = (s.closeDir k d).meshLinks := by
  rw [failSide_eq]
  split
  · exact proj_foldl (fun _ _ => meshLinks_endPacket _ _) _ _
  · rfl

theorem meshLinks_failSide_same (k d : Nat) : (s.failSide k d).meshLinks k =
    (setBit (s.mrouter k).linkFail d true, SMap.put [] (s.mrouter k).wire d []) := by
  rw [meshLinks_failSide, State.meshLinks, mrouter_closeDir, State.mrouter_setMrouter_same]
  rfl

theorem meshLinks_failSide_ne {k d i : Nat} (h : i ≠ k) : (s.failSide k d).meshLinks i = s.meshLinks i := by
  rw [meshLinks_failSide, State.meshLinks, mrouter_closeDir, State.mrouter_setMrouter_ne _ _ _ _ h]
  rfl

theorem linkUp_of_linkFail {k d : Nat} (h : (s.mrouter k).linkFail.getLsbD d = true) : s.linkUp k d = false := by
  unfold State.linkUp
  split
  · rw [h]
    rfl
  · rfl

/-- One direction of a link that has failed. -/
def State.DirFailed (s : State) (k d : Nat) : Prop :=
  (s.mrouter k).linkFail.getLsbD d = true ∧ SMap.get [] (s.mrouter k).wire d = []

theorem State.DirFailed.of_meshLinks {k d : Nat} (h : s.DirFailed k d) (hl : t.meshLinks k = s.meshLinks k) :
    t.DirFailed k d := by
  obtain ⟨hfail, hwire⟩ := h
  exact ⟨(congrArg (fun l => l.1.getLsbD d) hl).trans hfail, (congrArg (fun l => SMap.get [] l.2 d) hl).trans hwire⟩

theorem dirFailed_failSide {k d : Nat} (hd : d < 4) : (s.failSide k d).DirFailed k d := by
  have hl := meshLinks_failSide_same (s := s) k d
  refine ⟨(congrArg (fun l => l.1.getLsbD d) hl).trans ?_, (congrArg (fun l => SMap.get ([] : List (BitVec 6 × MFlit)) l.2 d) hl).trans ?_⟩
  · simp [getLsbD_setBit_true _ hd]
  · simp

theorem failLink_eq {k d j : Nat} (hj : clusterNeighbour k d = some j) (h : (s.mrouter k).linkFail.getLsbD d = false) :
    s.failLink k d = if cantonOfCluster j = cantonOfCluster k then
        ((s.failSide k d).failSide j (opp d)).finc fCanMeshRtrInnerFail (cantonOfCluster k)
      else (s.failSide k d).failSide j (opp d) := by
  simp only [State.failLink, hj, h, Bool.false_eq_true, if_false]

theorem failLink_sides {k d j : Nat} (hj : clusterNeighbour k d = some j) (hd : d < 4)
    (h : (s.mrouter k).linkFail.getLsbD d = false) :
    (s.failLink k d).DirFailed k d ∧ (s.failLink k d).DirFailed j (opp d) := by
  have hne := clusterNeighbour_ne hj
  have hlinks : (s.failLink k d).meshLinks = ((s.failSide k d).failSide j (opp d)).meshLinks := by
    rw [failLink_eq hj h]
    split
    · exact meshLinks_of_mesh (State.finc_mesh _ _ _ _)
    · rfl
  refine ⟨State.DirFailed.of_meshLinks (s := s.failSide k d) (dirFailed_failSide hd) ?_,
    State.DirFailed.of_meshLinks (dirFailed_failSide (opp_lt d)) (congrFun hlinks j)⟩
  rw [hlinks, meshLinks_failSide_ne hne.symm]

/-- A link over which every packet has been received fails with its two routers and registers only. -/
theorem failLink_received {k d j : Nat} (hj : clusterNeighbour k d = some j)
    (h : (s.mrouter k).linkFail.getLsbD d = false) (hk : (s.mrouter k).unreceived d = [])
    (hju : (s.mrouter j).unreceived (opp d) = []) :
    (∀ u, u ≠ k → u ≠ j → (s.failLink k d).mrouter u = s.mrouter u) ∧ Only [.mesh, .regs] s (s.failLink k d) := by
  have hne := clusterNeighbour_ne hj
  have hmid (u : Nat) (hu : u ≠ k) : (s.closeDir k d).mrouter u = s.mrouter u := by
    rw [mrouter_closeDir, State.mrouter_setMrouter_ne _ _ _ _ hu]
  have hsides : (s.failSide k d).failSide j (opp d) = (s.closeDir k d).closeDir j (opp d) := by
    rw [failSide_received hk, failSide_received]
    rwa [hmid j hne]
  rw [failLink_eq hj h, hsides]
  constructor
  · intro u huk huj
    have hu : ((s.closeDir k d).closeDir j (opp d)).mrouter u = s.mrouter u := by
      rw [mrouter_closeDir, State.mrouter_setMrouter_ne _ _ _ _ huj, hmid u huk]
    split
    · exact (router_of_mesh (State.finc_mesh _ _ _ _) u).trans hu
    · exact hu
  · have honly := (only_closeDir (s := s) k d).trans (only_closeDir j (opp d))
    split
    · exact honly.trans ((Only.fset _ _ _ _).mono (by decide))
    · exact honly

theorem meshLinkFail_exec {k : ClusterIx} {d : Fin 4} {j : Nat} (hj : clusterNeighbour k d = some j) :
    exec (.meshLinkFail k d) s = .next (
      if 8 < SMap.get 0 (s.mrouter k).fails d ∨ 8 < SMap.get 0 (s.mrouter j).fails (opp d) ∨ s.routerUp j = false
      then s.failLink k d else s) := by
  show execMeshLinkFail k d s = _
  simp only [execMeshLinkFail, hj, Bool.or_eq_true, decide_eq_true_eq, Bool.not_eq_true', or_assoc]
  split <;> rfl

end Sys2Proof.Machine
end

section
open Sys2Proof Sys2Proof.Machine

/-- Settles O25: what a flit that is received, one that fails its check and a failed link change of the two routers. -/
theorem meshLinkFlits : Obligations.MeshLinkFlits := by
  unfold Obligations.MeshLinkFlits
  refine ⟨fun s k d j n f ws hj hw => ⟨fun hn hx => ?_, fun hn hx => ?_, fun hn => ?_, ?_⟩,
    fun s k d b hnone => ⟨?_, ?_⟩, fun s k d j hj => ⟨fun hk hju hup => ?_, fun hlost hup => ?_⟩⟩
  · have haccept := accept_kept (m := (s.mrouter k).expectNext d n) hx f
    refine ⟨_, meshFlitReceive_next hj hw hn, ?_, fun y hy => ?_, ?_, ?_, wire_offWire hj _, fun u huk huj => ?_,
      (Only.setMrouter _ _).trans (Only.setMrouter _ _)⟩
    · rw [State.mrouter_setMrouter_same, haccept]
      simp [MeshRouter.expectNext, MeshRouter.queue]
    · rw [State.mrouter_setMrouter_same, haccept]
      exact SMap.get_put_ne [] _ _ _ _ hy
    · rw [State.mrouter_setMrouter_same, haccept]
      simp [MeshRouter.expectNext]
    · rw [State.mrouter_setMrouter_same, haccept]
      simp [MeshRouter.expectNext]
    · rw [State.mrouter_setMrouter_ne _ _ _ _ huk, State.offWire, State.mrouter_setMrouter_ne _ _ _ _ huj]
  · have haccept := accept_skipped (m := (s.mrouter k).expectNext d n) hx f
    refine ⟨_, meshFlitReceive_next hj hw hn, ?_, fun htail => ?_, ?_, (Only.setMrouter _ _).trans (Only.setMrouter _ _)⟩
    · rw [State.mrouter_setMrouter_same, haccept]
      rfl
    · rw [State.mrouter_setMrouter_same, haccept]
      simp [htail]
    · rw [State.mrouter_setMrouter_same, haccept]
      simp [MeshRouter.expectNext]
  · refine ⟨_, meshFlitReceive_other hj hw hn, mrouter_offWire_same hj _, ?_, fun u hu => ?_, Only.setMrouter _ _⟩
    · rw [State.offWire, State.mrouter_setMrouter_same, SMap.get_put_same]
    · exact State.mrouter_setMrouter_ne _ _ _ _ hu
  · refine (meshFlitReceive_failed hj hw).imp fun s' hmesh => ?_
    rw [router_of_mesh hmesh, router_of_mesh hmesh, State.resendFrom, State.mrouter_setMrouter_same]
    refine ⟨rfl, rfl, ?_, wire_offWire hj _⟩
    simp
  · show execMeshFlitReceive k d b s = _
    simp only [execMeshFlitReceive, hnone]
  · show execMeshLinkFail k d s = _
    simp only [execMeshLinkFail, hnone]
  · refine (meshLinkFail_exec hj).trans (congrArg _ (if_neg ?_))
    simp [hup, hk, hju]
  · obtain ⟨⟨hfail, hwire⟩, hfail', hwire'⟩ := failLink_sides hj d.isLt hup
    refine ⟨_, (meshLinkFail_exec hj).trans (congrArg _ (if_pos hlost)), hfail, hfail', hwire, hwire',
      linkUp_of_linkFail hfail, linkUp_of_linkFail hfail', failLink_received hj hup⟩
end

section
/-! SUPPORT. Arbitration of a mesh output and waypoint tables (R209, R212, R213). -/
namespace Sys2Proof.Machine

variable {s t : State}

/-! ### Picking a queue -/

section
variable {ok : Nat → Bool} {qs : List Nat} {last x : Nat}

theorem rrPick_some (h : rrPick ok qs last = some x) :
    x ∈ qs ∧ ok x = true ∧ (x ≤ last → ∀ y ∈ qs, last < y → ok y = false) := by
  unfold rrPick at h
  rw [List.find?_append] at h
  cases hnew : (qs.filter fun y => decide (last < y)).find? ok with
  | some y =>
    simp only [hnew, Option.some_or, Option.some.injEq] at h
    subst h
    have hmem := List.mem_of_find?_eq_some hnew
    simp only [List.mem_filter, decide_eq_true_eq] at hmem
    exact ⟨hmem.1, List.find?_some hnew, fun hle => absurd hmem.2 (by omega)⟩
  | none =>
    simp only [hnew, Option.none_or] at h
    have hmem := List.mem_of_find?_eq_some h
    refine ⟨List.mem_of_mem_filter hmem, List.find?_some h, fun _ y hy hlt => ?_⟩
    simpa using List.find?_eq_none.mp hnew y (List.mem_filter.mpr ⟨hy, by simpa using hlt⟩)

theorem rrPick_isSome (hx : x ∈ qs) (hok : ok x = true) : (rrPick ok qs last).isSome = true := by
  unfold rrPick
  rw [List.find?_isSome]
  refine ⟨x, ?_, hok⟩
  simp only [List.mem_append, List.mem_filter, decide_eq_true_eq]
  by_cases h : last < x
  · exact .inl ⟨hx, h⟩
  · exact .inr ⟨hx, by omega⟩

end

theorem ready_head {k o x : Nat} (h : s.ready k o x = true) :
    ∃ f fs, (s.mrouter k).queue x = f :: fs ∧ f.head = true ∧ outputOf k f = o ∧
      s.room k o f.vc.toNat (leaving k f).lane (packetLen f) = true := by
  unfold State.ready at h
  split at h
  · next f fs hq =>
    simp only [Bool.and_eq_true, decide_eq_true_eq] at h
    obtain ⟨⟨hhead, hout⟩, hroom⟩ := h
    exact ⟨f, fs, hq, hhead, hout, hroom⟩
  · simp at h

/-! ### One cycle of an output -/

theorem Does.congr {c : Instr} {u : State} (h : Does c s t) (e : t = u) : Does c s u := e ▸ h

/-- The state in which an output looks for its flit: what waited has moved in, and a cycle without room is counted. -/
def State.atOutput (s : State) (k o : Nat) : State :=
  let s := s.setMrouter k (s.mrouter k).intake
  if s.roomless k o then s.clusterEvent k 0x0D 1 else s

/-- What an output whose way on works does with its cycle (R213). -/
def State.arbitrate (s : State) (k o : Nat) : State :=
  let m := s.mrouter k
  match (if popcount 16 (SMap.get 0 m.hist o).toNat < 8 then rrPick (s.ready k o) pennantQueues (SMap.get 0 m.rrP o) else none) with
  | some x => (s.setMrouter k ({ m with rrP := SMap.put 0 m.rrP o x }.note o true)).sendFlit k o x none
  | none =>
    let pr := SMap.get 0 m.prog o
    if pr ≠ 0 then
      let left := if (m.queue ((pr - 1) / 2)).head?.any (·.tail) then 0 else pr
      (s.setMrouter k ({ m with prog := SMap.put 0 m.prog o left }.note o false)).sendFlit k o ((pr - 1) / 2)
        (some ((pr - 1) % 2 = 1))
    else match rrPick (s.ready k o) bulkQueues (SMap.get 0 m.rr o) with
      | none => s.setMrouter k (m.note o false)
      | some x => match m.queue x with
        | [] => s
        | h :: _ =>
          let pr' := if h.tail then 0 else 2 * x + b2n (leaving k h).lane + 1
          (s.setMrouter k ({ m with rr := SMap.put 0 m.rr o x, prog := SMap.put 0 m.prog o pr' }.note o false)).sendFlit
            k o x none

section
variable {k : ClusterIx} {o : Fin 6} (hup : s.routerUp k = true)
include hup

theorem meshOutputArbitrate_cut (ho : o.val < 4) (hl : (s.atOutput k o).linkUp k o = false) :
    Does (.meshOutputArbitrate k o) s ((s.atOutput k o).endAt k o) := by
  have hcut : (decide (o.val < 4) && !(s.atOutput k o).linkUp k o) = true := by simp [ho, hl]
  show execMeshOutputArbitrate k o s = _
  unfold execMeshOutputArbitrate
  rw [if_neg (by simp [hup])]
  exact if_pos hcut

theorem meshOutputArbitrate_open (hway : 4 ≤ o.val ∨ (s.atOutput k o).linkUp k o = true) :
    Does (.meshOutputArbitrate k o) s ((s.atOutput k o).arbitrate k o) := by
  have hno : ¬((decide (o.val < 4) && !(s.atOutput k o).linkUp k o) = true) := by
    rcases hway with h | h
    · simp [show ¬ o.val < 4 by omega]
    · simp [h]
  show execMeshOutputArbitrate k o s = _
  unfold execMeshOutputArbitrate
  rw [if_neg (by simp [hup])]
  extract_lets +onlyGivenNames s0 s1
  have hs1 : s1 = s.atOutput k o := rfl
  rw [if_neg (hs1 ▸ hno), ← hs1]
  clear_value s1
  unfold State.arbitrate
  cases hcap : (if popcount 16 (SMap.get 0 (s1.mrouter k).hist o).toNat < 8 then
      rrPick (s1.ready k o) pennantQueues (SMap.get 0 (s1.mrouter k).rrP o) else none) with
  | some x => simp only [hcap]
  | none =>
    simp only [hcap]
    split
    · rfl
    · cases hbulk : rrPick (s1.ready k o) bulkQueues (SMap.get 0 (s1.mrouter k).rr o) with
      | none => rfl
      | some x => cases hq : (s1.mrouter k).queue x <;> simp only [hq]
end

/-! ### The choice of an open output -/

section
variable {k o : Nat}

theorem arbitrate_pennant {x : Nat} (hcap : popcount 16 (SMap.get 0 (s.mrouter k).hist o).toNat < 8)
    (hx : rrPick (s.ready k o) pennantQueues (SMap.get 0 (s.mrouter k).rrP o) = some x) :
    s.arbitrate k o = (s.setMrouter k ({ s.mrouter k with rrP := SMap.put 0 (s.mrouter k).rrP o x }.note o true)).sendFlit
      k o x none := by
  unfold State.arbitrate
  simp only [if_pos hcap, hx]

/-- No pennant may go, or none is ready. -/
theorem pick_none (h : 8 ≤ popcount 16 (SMap.get 0 (s.mrouter k).hist o).toNat ∨
      rrPick (s.ready k o) pennantQueues (SMap.get 0 (s.mrouter k).rrP o) = none) :
    (if popcount 16 (SMap.get 0 (s.mrouter k).hist o).toNat < 8 then
      rrPick (s.ready k o) pennantQueues (SMap.get 0 (s.mrouter k).rrP o) else none) = none := by
  rcases h with h | h
  · exact if_neg (by omega)
  · rw [h]
    exact ite_self _

variable (hnone : (if popcount 16 (SMap.get 0 (s.mrouter k).hist o).toNat < 8 then
  rrPick (s.ready k o) pennantQueues (SMap.get 0 (s.mrouter k).rrP o) else none) = none)
include hnone

theorem arbitrate_progress (hpr : SMap.get 0 (s.mrouter k).prog o ≠ 0) :
    let m := s.mrouter k
    let pr := SMap.get 0 m.prog o
    let left := if (m.queue ((pr - 1) / 2)).head?.any (·.tail) then 0 else pr
    s.arbitrate k o = (s.setMrouter k ({ m with prog := SMap.put 0 m.prog o left }.note o false)).sendFlit k o
      ((pr - 1) / 2) (some ((pr - 1) % 2 = 1)) := by
  unfold State.arbitrate
  simp only [hnone, if_pos hpr]

theorem arbitrate_idle (hpr : SMap.get 0 (s.mrouter k).prog o = 0)
    (hbulk : rrPick (s.ready k o) bulkQueues (SMap.get 0 (s.mrouter k).rr o) = none) :
    s.arbitrate k o = s.setMrouter k ((s.mrouter k).note o false) := by
  unfold State.arbitrate
  simp only [hnone, hpr, ne_eq, not_true_eq_false, if_false, hbulk]

theorem arbitrate_bulk {x : Nat} {h : MFlit} {fs : List MFlit} (hpr : SMap.get 0 (s.mrouter k).prog o = 0)
    (hbulk : rrPick (s.ready k o) bulkQueues (SMap.get 0 (s.mrouter k).rr o) = some x)
    (hq : (s.mrouter k).queue x = h :: fs) :
    let m := s.mrouter k
    let pr' := if h.tail then 0 else 2 * x + b2n (leaving k h).lane + 1
    s.arbitrate k o = (s.setMrouter k
      ({ m with rr := SMap.put 0 m.rr o x, prog := SMap.put 0 m.prog o pr' }.note o false)).sendFlit k o x none := by
  unfold State.arbitrate
  simp only [hnone, hpr, ne_eq, not_true_eq_false, if_false, hbulk, hq]

end

/-! ### Waypoint tables -/

/-- What routes depend on: the mesh routers, and the cantons that are on the networks. -/
def State.routes (s : State) : SMap MeshRouter × (Nat → Bool) := (s.mesh, s.online)

section
variable (h : t.routes = s.routes)
include h

theorem online_of_routes : t.online = s.online := congrArg Prod.snd h

theorem mrouter_of_routes : t.mrouter = s.mrouter := funext (router_of_mesh (congrArg Prod.fst h))

theorem routerUp_of_routes : t.routerUp = s.routerUp := by
  funext k
  simp only [State.routerUp, online_of_routes h, mrouter_of_routes h]

theorem linkUp_of_routes : t.linkUp = s.linkUp := by
  funext k d
  simp only [State.linkUp, mrouter_of_routes h, routerUp_of_routes h]

theorem legOk_of_routes (k target n : Nat) : t.legOk k target n = s.legOk k target n := by
  induction n generalizing k with
  | zero => rfl
  | succ n ih => simp only [State.legOk, routerUp_of_routes h, linkUp_of_routes h, ih]

theorem wptEntry_of_routes : t.wptEntry = s.wptEntry := by
  have hleg : t.leg = s.leg := by
    funext a b
    exact legOk_of_routes h a b 140
  funext srcs k
  unfold State.wptEntry
  rw [hleg]

theorem wptSources_of_routes (c : Nat) : t.wptSources c = s.wptSources c := by
  simp only [State.wptSources, routerUp_of_routes h]

theorem meshWhole_of_routes : t.meshWhole = s.meshWhole := by
  have hmesh : t.mesh = s.mesh := congrArg Prod.fst h
  simp only [State.meshWhole, online_of_routes h, hmesh]

end

/-- The waypoint table of a canton that the state calls for. -/
def State.wptTable (s : State) (c : Nat) : SMap W16 :=
  if s.meshWhole then []
  else (List.range 4800).foldl (fun m k => SMap.put 0 m k (s.wptEntry (s.wptSources c) k)) []

theorem wptTable_of_routes (h : t.routes = s.routes) (c : Nat) : t.wptTable c = s.wptTable c := by
  simp only [State.wptTable, meshWhole_of_routes h, wptEntry_of_routes h, wptSources_of_routes h]

theorem get_wptTable (c : Nat) {k : Nat} (hk : k < 4800) :
    SMap.get 0 (s.wptTable c) k = if s.meshWhole then 0 else s.wptEntry (s.wptSources c) k := by
  unfold State.wptTable
  split
  · rfl
  · rw [SMap.get_foldl_put 0 (key := fun k => k) (fun _ _ he => he), if_pos (List.mem_range.mpr hk)]

/-- A canton with its new table. -/
def Canton.tabled (x : Canton) (tab : SMap W16) : Canton := { x with wpt := tab, wptGen := x.wptGen + 1 }

theorem wptUpdate_eq (c : Nat) : s.wptUpdate c = s.setCanton c ((s.canton c).tabled (s.wptTable c)) := rfl

theorem routes_wptUpdate (c : Nat) : (s.wptUpdate c).routes = s.routes := by
  have honline : (s.wptUpdate c).online = s.online := by
    funext e
    unfold State.online
    rw [wptUpdate_eq]
    by_cases he : e = c
    · subst he
      rw [State.canton_setCanton_same]
      rfl
    · rw [State.canton_setCanton_ne _ _ _ _ he]
  exact Prod.ext rfl honline

theorem Only.setCanton (c : Nat) (x : Canton) : Only [.cantons] s (s.setCanton c x) := by
  intro p hp
  cases p
  case cantons => simp at hp
  all_goals rfl

theorem only_foldl_wptUpdate (l : List Nat) : Only [.cantons] s (l.foldl State.wptUpdate s) := by
  induction l generalizing s with
  | nil => exact Only.refl _ _
  | cons c l ih => exact (Only.setCanton c ((s.canton c).tabled (s.wptTable c))).trans ih

theorem canton_foldl_wptUpdate {l : List Nat} (hl : l.Nodup) (c : Nat) : (l.foldl State.wptUpdate s).canton c =
    if c ∈ l then (s.canton c).tabled (s.wptTable c) else s.canton c := by
  induction l generalizing s with
  | nil => rfl
  | cons e l ih =>
    obtain ⟨he, hl⟩ := List.nodup_cons.mp hl
    rw [List.foldl_cons, ih hl, wptTable_of_routes (routes_wptUpdate e), wptUpdate_eq]
    by_cases hc : c = e
    · subst hc
      simp [he]
    · simp [hc, State.canton_setCanton_ne]

theorem wptEntry_eq_zero (srcs : List Nat) (k : Nat) :
    s.wptEntry srcs k = 0 ↔ ∀ a ∈ srcs, s.leg a k = true := by
  unfold State.wptEntry
  split
  · next h => simpa using h
  · next h =>
    have hall : ¬ ∀ a ∈ srcs, s.leg a k = true := by simpa using h
    refine iff_of_false ?_ hall
    split
    · next w hw =>
      have hlt : w < 4800 := List.mem_range.mp (List.mem_of_find?_eq_some hw)
      intro he
      have := congrArg BitVec.toNat he
      simp at this
      omega
    · decide

theorem wptEntry_waypoint {srcs : List Nat} {k w : Nat} (hw : w < 4800)
    (h : s.wptEntry srcs k = BitVec.ofNat 16 (2 ^ 15 + w)) : s.leg w k = true ∧ ∀ a ∈ srcs, s.leg a w = true := by
  have hnum : (s.wptEntry srcs k).toNat = 2 ^ 15 + w := by
    rw [h, BitVec.toNat_ofNat]
    omega
  unfold State.wptEntry at hnum
  split at hnum
  · simp at hnum
    omega
  · split at hnum
    · next v hv =>
      have hlt : v < 4800 := List.mem_range.mp (List.mem_of_find?_eq_some hv)
      have hvw : v = w := by
        rw [BitVec.toNat_ofNat] at hnum
        omega
      subst hvw
      simpa using List.find?_some hv
    · simp at hnum
      omega

end Sys2Proof.Machine
end

section
open Sys2Proof Sys2Proof.Machine

/-- Settles O26: one cycle of an output is what the packets that are ready for it call for, and the tables follow the routers
and links that work. -/
theorem meshRouting : Obligations.MeshRouting := by
  unfold Obligations.MeshRouting
  refine ⟨fun s k o hdown => if_pos (by simp [hdown]), fun s k o hup => ?_, fun ok qs last x => rrPick_some,
    fun ok qs last x => rrPick_isSome, fun s k o x => ready_head, fun s => ?_,
    fun s srcs k => ⟨wptEntry_eq_zero srcs k, fun w hw => wptEntry_waypoint hw⟩⟩
  · refine ⟨meshOutputArbitrate_cut hup, fun hway => ?_⟩
    have hdoes := meshOutputArbitrate_open hup hway
    refine ⟨fun x hcap hx => hdoes.congr (arbitrate_pennant hcap hx), fun hno => ⟨fun hpr => ?_, fun hpr hbulk => ?_,
      fun x h fs hpr hbulk hq => ?_⟩⟩
    · exact hdoes.congr (arbitrate_progress (pick_none hno) hpr)
    · exact hdoes.congr (arbitrate_idle (pick_none hno) hpr hbulk)
    · exact hdoes.congr (arbitrate_bulk (pick_none hno) hpr hbulk hq)
  · have hcanton := canton_foldl_wptUpdate (s := s) (List.nodup_range.filter s.online (l := List.range 100))
    have hmem (c : Nat) : c ∈ (List.range 100).filter s.online ↔ c < 100 ∧ s.online c = true := by simp
    refine ⟨_, rfl, fun c hoff => ?_, fun c hc hon => ?_, fun c k hc hk hon => ?_, only_foldl_wptUpdate _⟩
    · rw [hcanton, if_neg (by simp [hoff])]
    · rw [hcanton, if_pos ((hmem c).mpr ⟨hc, hon⟩)]
      rfl
    · rw [hcanton, if_pos ((hmem c).mpr ⟨hc, hon⟩)]
      exact get_wptTable c hk
end

section
/-! SUPPORT. Packets at their ends (R204, R206, R207, R211, R266, R268, R386): what each command does with the packet, or the
request, that it finds. -/
namespace Sys2Proof.Machine

variable {s s1 s2 : State} {k : ClusterIx} {port : Fin 2} {p : Packet} {r : Request}

/-! ### No packet of the type -/

theorem readReq_none (h : s.takePacket k port 1 = (none, s1)) : Does (.readReq k port) s s1 := by
  show execReadReq k port s = _
  simp only [execReadReq, h]

theorem writeReq_none (h : s.takePacket k port 2 = (none, s1)) : Does (.writeReq k port) s s1 := by
  show execWriteReq k port s = _
  simp only [execWriteReq, h]

theorem readRsp_none (h : s.takePacket k 0 3 = (none, s1)) :
    (s1.nearDue k false = none → Does (.readRsp k) s s1) ∧
    (∀ r, s1.nearDue k false = some r → Does (.readRsp k) s (s1.serveNear r)) := by
  refine ⟨fun hnear => ?_, fun r hnear => ?_⟩ <;>
  · show execReadRsp k s = _
    simp only [execReadRsp, h, hnear]

theorem writeAck_none (h : s.takePacket k port 4 = (none, s1)) :
    (port = 1 ∨ s1.nearDue k true = none → Does (.writeAck k port) s s1) ∧
    (∀ r, port = 0 → s1.nearDue k true = some r → Does (.writeAck k port) s (s1.serveNear r)) := by
  refine ⟨fun hnear => ?_, fun r hport hnear => ?_⟩
  · show execWriteAck k port s = _
    simp only [execWriteAck, h]
    rcases hnear with hport | hnear
    · cases s1.nearDue k true <;> simp [hport]
    · simp only [hnear]
  · show execWriteAck k port s = _
    simp only [execWriteAck, h, hnear, if_pos hport]

/-! ### Requests -/

theorem readReq_waits (h : s.takePacket k port 1 = (some p, s1)) (hw : s1.packetWaits p = true) :
    Does (.readReq k port) s s := by
  show execReadReq k port s = _
  simp only [execReadReq, h, hw, if_true]

theorem readReq_served (h : s.takePacket k port 1 = (some p, s1)) (hw : s1.packetWaits p = false) :
    let r := s1.serveRead (s1.servWho k p) p.addr p.rows
    Does (.readReq k port) s (r.2.2.send k (4 + port.val)
      { typ := 3, rows := p.rows, status := r.1, src := portCode k port, dst := p.src, tid := p.tid, slice := p.slice
        addr := p.addr, body := if r.1 = 0 ∨ r.1 = 2 then r.2.1 else [] }).2 := by
  show execReadReq k port s = _
  simp only [execReadReq, h, hw, Bool.false_eq_true, if_false, Bool.or_eq_true, decide_eq_true_eq]

theorem writeReq_waits (h : s.takePacket k port 2 = (some p, s1)) (hw : s1.packetWaits p = true) :
    Does (.writeReq k port) s s := by
  show execWriteReq k port s = _
  simp only [execWriteReq, h, hw, if_true]

theorem writeReq_served (h : s.takePacket k port 2 = (some p, s1)) (hw : s1.packetWaits p = false) :
    let r := s1.serveWrite (s1.servWho k p) p.addr (p.body.take p.rows)
    Does (.writeReq k port) s (r.2.2.2.send k (4 + port.val)
      { typ := 4, rows := r.2.1, status := r.1, src := portCode k port, dst := p.src, tid := p.tid, slice := p.slice
        addr := p.addr }).2 := by
  show execWriteReq k port s = _
  simp only [execWriteReq, h, hw, Bool.false_eq_true, if_false]

/-! ### Responses -/

theorem readRsp_late (h : s.takePacket k 0 3 = (some p, s1)) (hr : s1.takeRequest k false p.tid = (none, s2)) :
    Does (.readRsp k) s s2 := by
  show execReadRsp k s = _
  simp only [execReadRsp, h, hr]

theorem writeAck_late (h : s.takePacket k port 4 = (some p, s1)) (hr : s1.takeRequest k (port = 1) p.tid = (none, s2)) :
    Does (.writeAck k port) s s2 := by
  show execWriteAck k port s = _
  simp only [execWriteAck, h, hr]

/-- Only a BULK's request stops its slice. -/
theorem stops_other (hb : ∀ t tag, r.for_ ≠ .bulk t tag) (st w : Nat) : r.stops st w = false := by
  unfold Request.stops
  split
  · next t tag h => exact absurd h (hb t tag)
  · rfl

section
variable (h : s.takePacket k 0 3 = (some p, s1)) (hr : s1.takeRequest k false p.tid = (some r, s2))
include h hr

/-- A response whose status brings no row. -/
theorem readRsp_failing (h0 : p.status ≠ 0) (h2 : p.status ≠ 2) :
    Does (.readRsp k) s (if r.stops p.status 0 then (s2.endRequest r p.status 0).stopSlice r.slice.toNat none
      else s2.endRequest r p.status 0) := by
  show execReadRsp k s = _
  simp only [execReadRsp, h, hr, decide_eq_false h0, decide_eq_false h2, Bool.or_self, Bool.false_eq_true, if_false]

/-- A response that brings the rows of a BULK. -/
theorem readRsp_rows {t : TileIx} {tag : BitVec 2} (hf : r.for_ = .bulk t tag) (hst : p.status = 0 ∨ p.status = 2) :
    let q := s2.deliverAll r.slice.toNat k t r.local_ r.addr p.body
    let s3 := (q.2.2.tagStatus t tag.toNat (max q.1 p.status)).opDone r.op
    Does (.readRsp k) s (if q.2.1 then s3.stopSlice r.slice.toNat none else s3) := by
  have hrows : (decide (p.status = 0) || decide (p.status = 2)) = true := by simpa using hst
  show execReadRsp k s = _
  simp only [execReadRsp, h, hr, hrows, hf, if_true]

theorem readRsp_noRows {t : TileIx} {tag : BitVec 2} (hf : r.for_ = .bulk t tag) (h0 : p.status ≠ 0)
    (h2 : p.status ≠ 2) :
    let s3 := (s2.tagStatus t tag.toNat p.status).opDone r.op
    Does (.readRsp k) s (if p.status = 3 then s3.stopSlice r.slice.toNat none else s3) := by
  refine (readRsp_failing h hr h0 h2).congr ?_
  simp [State.endRequest, Request.stops, hf, h2]

theorem readRsp_prefetch {pf : Fin 16} (hf : r.for_ = .prefetch pf) :
    Does (.readRsp k) s (s2.prefetchedAll r.slice.toNat (if p.status = 0 ∨ p.status = 2 then k else r.cluster) r.addr pf
      (if p.status = 0 ∨ p.status = 2 then p.body else []) r.rows) := by
  by_cases hst : p.status = 0 ∨ p.status = 2
  · have hrows : (decide (p.status = 0) || decide (p.status = 2)) = true := by simpa using hst
    rw [if_pos hst, if_pos hst]
    show execReadRsp k s = _
    simp only [execReadRsp, h, hr, hrows, hf, if_true]
  · obtain ⟨h0, h2⟩ := not_or.mp hst
    rw [if_neg hst, if_neg hst]
    refine (readRsp_failing h hr h0 h2).congr ?_
    simp [State.endRequest, Request.stops, hf]

theorem readRsp_other (hb : ∀ t tag, r.for_ ≠ .bulk t tag) (hp : ∀ pf, r.for_ ≠ .prefetch pf) :
    Does (.readRsp k) s (s2.endRequest r p.status 0) := by
  by_cases hst : p.status = 0 ∨ p.status = 2
  · have hrows : (decide (p.status = 0) || decide (p.status = 2)) = true := by simpa using hst
    show execReadRsp k s = _
    -- The last arm: hb and hp rule the others out.
    simp only [execReadRsp, h, hr, hrows, if_true]
  · obtain ⟨h0, h2⟩ := not_or.mp hst
    exact (readRsp_failing h hr h0 h2).congr (if_neg (by simp [stops_other hb]))

end

theorem writeAck_taken (h : s.takePacket k port 4 = (some p, s1)) (hr : s1.takeRequest k (port = 1) p.tid = (some r, s2)) :
    Does (.writeAck k port) s (if r.stops p.status p.rows then
        (s2.endRequest r p.status p.rows).stopSlice r.slice.toNat none
      else s2.endRequest r p.status p.rows) := by
  show execWriteAck k port s = _
  simp only [execWriteAck, h, hr]

theorem stops_bulk {t : TileIx} {tag : BitVec 2} (hf : r.for_ = .bulk t tag) (st w : Nat) :
    r.stops st w = true ↔ st = 3 ∨ r.write = true ∧ st = 2 ∧ w < r.rows := by
  simp [Request.stops, hf, and_assoc]

/-! ### Timeouts -/

theorem meshRequestTimeout_held {tid : W16} (h : s.requests.find? (fun r => r.cluster = k && r.tid = tid) = some r)
    (ht : s.timersHeld r.addr = true) : Does (.meshRequestTimeout k tid) s s := by
  show execMeshRequestTimeout k tid s = _
  simp only [execMeshRequestTimeout, h, ht, if_true]

theorem meshRequestTimeout_over {tid : W16} (h : s.requests.find? (fun r => r.cluster = k && r.tid = tid) = some r)
    (ht : s.timersHeld r.addr = false) :
    let c := cantonOfCluster k
    let u := { s with requests := s.requests.filter fun x => !(x.cluster = k && x.tid = tid) }
    Does (.meshRequestTimeout k tid) s ((((u.finc fCanMeshErrTimeout c).fset fCanMeshErrTimeoutSeen 1 c).report
      (cantonSrc c) { meshRec 0x11 k (requestHead r) with block := 8, slice := r.slice.zeroExtend 8 }).endRequest r 3 0) := by
  show execMeshRequestTimeout k tid s = _
  simp only [execMeshRequestTimeout, h, ht, Bool.false_eq_true, if_false]

end Sys2Proof.Machine
end

section
open Sys2Proof Sys2Proof.Machine

/-- Settles O27: what each command does with the packet that it finds, with the request that a response answers, and with one
that times out. -/
theorem meshPackets : Obligations.MeshPackets := by
  unfold Obligations.MeshPackets
  refine ⟨fun s k port => ⟨fun s1 => readReq_none, fun s1 => writeReq_none, fun s1 => readRsp_none, fun s1 => writeAck_none⟩,
    fun s k port p s1 => ⟨fun h => ⟨readReq_waits h, readReq_served h⟩, fun h => ⟨writeReq_waits h, writeReq_served h⟩⟩,
    fun s k port p s1 s2 => ⟨readRsp_late, writeAck_late⟩,
    fun s k p s1 s2 r h hr => ⟨fun t tag => readRsp_rows h hr, fun t tag => readRsp_noRows h hr,
      fun pf => readRsp_prefetch h hr, readRsp_other h hr⟩,
    fun s k port p s1 s2 r h hr => ⟨fun t tag hf => ⟨?_, fun hst => ?_, fun h3 hok => ?_⟩, fun hb => ?_⟩,
    fun s k tid r h => ⟨meshRequestTimeout_held h, meshRequestTimeout_over h⟩⟩
  · simp only [State.endRequest, hf]
  · exact (writeAck_taken h hr).congr (if_pos ((stops_bulk hf _ _).mpr hst))
  · have hno : ¬ r.stops p.status p.rows = true := by
      rw [stops_bulk hf]
      rintro (h3' | ⟨hw, h2, hlt⟩)
      · exact h3 h3'
      · rcases hok with hw' | h2' | hge
        · simp [hw] at hw'
        · exact h2' h2
        · omega
    exact (writeAck_taken h hr).congr (if_neg hno)
  · exact (writeAck_taken h hr).congr (if_neg (by simp [stops_other hb]))
end

section
/-! SUPPORT. Pennants (R208, R209, R216, R217, R243): their flits and messages, how one is sent and how one is taken. -/
namespace Sys2Proof.Machine

variable {s t : State}

/-! ### The form of a pennant -/

theorem fld_eq_div_mod (w lo n : Nat) : fld w lo n = w / 2 ^ lo % 2 ^ n := by
  rw [fld, Nat.shiftRight_eq_div_pow]

/-- A flit gives back the pennant that it carries. -/
theorem pennantOf_flit {p : Pennant} (hcode : p.code < 256) (hsrc : p.src < 65536) (hdst : p.dst < 65536)
    (hwpt : p.wpt < 8192) (hseq : p.seq < 256) (harg : p.arg < 2 ^ 56) : pennantOf p.flit = p := by
  obtain ⟨code, leg, wpv, src, dst, wpt, seq, arg⟩ := p
  simp only at hcode hsrc hdst hwpt hseq harg
  have hleg : b2n leg ≤ 1 := by cases leg <;> decide
  have hwpv : b2n wpv ≤ 1 := by cases wpv <;> decide
  have hdata : (Pennant.data ⟨code, leg, wpv, src, dst, wpt, seq, arg⟩).toNat =
      code + 2 ^ 8 * b2n leg + 2 ^ 9 * b2n wpv + 2 ^ 16 * src + 2 ^ 32 * dst + 2 ^ 48 * wpt + 2 ^ 64 * seq + 2 ^ 72 * arg := by
    rw [Pennant.data, BitVec.toNat_ofNat, Nat.mod_eq_of_lt]
    refine Nat.lt_of_lt_of_le (m := 2 ^ 128) ?_ (Nat.pow_le_pow_right (i := 128) (j := 512) Nat.two_pos (by decide))
    dsimp only
    omega
  have hbit (b : Bool) {n : Nat} (hn : n % 2 = b2n b) : decide (n % 2 = 1) = b := by cases b <;> simp [hn, b2n]
  simp only [pennantOf, Pennant.flit, hdata, fld_eq_div_mod, Nat.testBit_eq_decide_div_mod_eq, Pennant.mk.injEq]
  exact ⟨by omega, hbit leg (by omega), hbit wpv (by omega), by omega, by omega, by omega, by omega, by omega⟩

/-- The bytes of ARG that the handshakes use. -/
theorem byte_of_arg {p : Pennant} {a b c d : Nat} (h : p.arg = a + 2 ^ 8 * b + 2 ^ 16 * c + 2 ^ 24 * d) (ha : a < 256)
    (hb : b < 256) (hc : c < 256) : p.byte 0 = a ∧ p.byte 1 = b ∧ p.byte 2 = c ∧ p.arg / 2 ^ 24 = d := by
  simp only [Pennant.byte, fld_eq_div_mod, h]
  omega

/-- ARG gives back the message of the ensign complex. -/
theorem msg_of_arg {p : Pennant} {m : QMsg} (hslice : m.slice < 16) (hop : m.op ≤ 5) (hcode : p.code = m.code)
    (harg : p.arg = m.arg) : p.msg = m ∧ p.reserved = false := by
  obtain ⟨slice, op, epoch⟩ := m
  simp only [QMsg.code] at hslice hop hcode
  have hepoch := epoch.isLt
  have hcases : (op = 0 ∧ p.code = 3) ∨ (1 ≤ op ∧ p.code = 1) := by
    by_cases h0 : op = 0
    · simp [hcode, h0]
    · simp [hcode, h0, Nat.one_le_iff_ne_zero]
  have hform : p.arg = slice + 2 ^ 8 * (if op = 0 then 1 else op) + 2 ^ 16 * epoch.toNat + 2 ^ 24 * 0 := by
    simp [harg, QMsg.arg]
  have hlt : (if op = 0 then 1 else op) < 256 := by
    split <;> omega
  obtain ⟨hb0, hb1, hb2, -⟩ := byte_of_arg hform (by omega) hlt (by omega)
  rcases hcases with ⟨h0, h3⟩ | ⟨h1, h3⟩
  · simp [Pennant.msg, Pennant.reserved, h3, hb0, hb1, hb2, h0, Nat.mod_eq_of_lt hslice]
  · have hne : op ≠ 0 := by omega
    simp [Pennant.msg, Pennant.reserved, h3, hb0, hb1, hb2, hne, hop, Nat.mod_eq_of_lt hslice]

/-- ARG gives back the answer of a controller. -/
theorem ack_of_arg {p : Pennant} {a : QAck} (hslice : a.slice < 16) (hop1 : 1 ≤ a.op) (hop : a.op ≤ 5) (hstate : a.state < 256)
    (hdis : a.discards < 2 ^ 32) (hcode : p.code = 2) (harg : p.arg = a.arg) : p.ack = a ∧ p.reserved = false := by
  obtain ⟨slice, op, state, discards⟩ := a
  simp only at hslice hop1 hop hstate hdis
  have hform : p.arg = slice + 2 ^ 8 * op + 2 ^ 16 * state + 2 ^ 24 * discards := by
    rw [harg, QAck.arg, Nat.min_eq_left (by dsimp only; omega)]
  obtain ⟨hb0, hb1, hb2, hrest⟩ := byte_of_arg hform (by omega) (by omega) hstate
  have hne : op ≠ 0 := by omega
  have hfld : fld p.arg 24 32 = discards := by rw [fld_eq_div_mod, hrest, Nat.mod_eq_of_lt hdis]
  simp [Pennant.ack, Pennant.reserved, hcode, hb0, hb1, hb2, hfld, hne, hop, Nat.mod_eq_of_lt hslice]

/-! ### Sending -/

/-- The pennant that a node sends next to another: by the entry of its waypoint table. -/
def State.nextPennant (s : State) (src dst code arg : Nat) : Pennant :=
  let e := (s.canton (cantonOfCluster (src % 2 ^ 13))).wptOf (dst % 2 ^ 13)
  { code := code, leg := !(e.testBit 15), wpv := e.testBit 15, src := src, dst := dst
    wpt := if e.testBit 15 then e % 2 ^ 13 else 0, seq := SMap.get 0 s.pennOut (65536 * src + dst), arg := arg }

/-- A pennant to a destination that is not unreachable waits at its node. -/
theorem sendPennant_eq {src dst : Nat} (code arg : Nat)
    (h : ((s.canton (cantonOfCluster (src % 2 ^ 13))).wptOf (dst % 2 ^ 13)).testBit 14 = false) :
    let k := src % 2 ^ 13
    let x := 65536 * src + dst
    let key := if src / 2 ^ 13 = 0 then 6 else 7
    s.sendPennant src dst code arg =
      { s.setMrouter k { s.mrouter k with
          inject := SMap.put [] (s.mrouter k).inject key
            (SMap.get [] (s.mrouter k).inject key ++ [[(s.nextPennant src dst code arg).flit]]) } with
        pennOut := SMap.put 0 s.pennOut x ((SMap.get 0 s.pennOut x + 1) % 256) } := by
  unfold State.sendPennant
  simp only [h, Bool.false_eq_true, if_false]
  rfl

theorem only_sent {k : Nat} (x : MeshRouter) (m : SMap Nat) :
    Only [.mesh, .pennOut] s { s.setMrouter k x with pennOut := m } := by
  intro p hp
  cases p
  case mesh | pennOut => simp at hp
  all_goals rfl

/-- What sending a pennant leaves alone: all but the node's router, the SEQ, and what records change. -/
def State.beyondPennants (s : State) : State := { s.beyondRecs with mesh := [], pennOut := [] }

theorem beyondPennants_of_beyondRecs (h : t.beyondRecs = s.beyondRecs) : t.beyondPennants = s.beyondPennants :=
  congrArg (fun u : State => { u with mesh := [], pennOut := [] }) h

theorem only_beyondPennants (s : State) : Only [.mesh, .pennOut, .err, .regs, .mgmt] s s.beyondPennants := by
  intro p hp
  cases p
  case mesh | pennOut | err | regs | mgmt => simp at hp
  all_goals rfl

/-- What two states that agree beyond pennants have in common. -/
theorem only_of_beyondPennants (h : t.beyondPennants = s.beyondPennants) :
    Only [.mesh, .pennOut, .err, .regs, .mgmt] s t :=
  (only_beyondPennants s).trans (h ▸ (only_beyondPennants t).symm)

theorem beyondPennants_sendPennant (src dst code arg : Nat) :
    (s.sendPennant src dst code arg).beyondPennants = s.beyondPennants := by
  cases h : ((s.canton (cantonOfCluster (src % 2 ^ 13))).wptOf (dst % 2 ^ 13)).testBit 14
  case false =>
    rw [sendPennant_eq code arg h]
    rfl
  case true =>
    unfold State.sendPennant
    simp only [h, if_true]
    exact beyondPennants_of_beyondRecs (beyondRecs_pathRec _ _)

/-! ### Taking -/

/-- The oldest pennant from a source stands behind those of other sources. -/
theorem findIdx_oldest {src : Nat} {ps qs : List (List MFlit)} {f : MFlit} {fs : List MFlit}
    (hps : ∀ g ∈ ps, ∀ h ∈ g, h.vc = 2 → (pennantOf h).src ≠ src) (hvc : f.vc = 2) (hsrc : (pennantOf f).src = src) :
    (ps ++ (f :: fs) :: qs).findIdx? (fun fs => fs.any fun f => f.vc = 2 && (pennantOf f).src = src) = some ps.length := by
  have hnone : ps.findIdx? (fun fs => fs.any fun f => f.vc = 2 && (pennantOf f).src = src) = none := by
    rw [List.findIdx?_eq_none_iff]
    intro g hg
    simpa using hps g hg
  rw [List.findIdx?_append, hnone]
  simp [List.findIdx?_cons, hvc, hsrc]

/-- A pennant taken off its receiver's end, with its SEQ noted. -/
def State.takeOff (s : State) (dst : Nat) (rest : List (List MFlit)) (p : Pennant) : State :=
  let k := dst % 2 ^ 13
  let o := if dst / 2 ^ 13 = 0 then 4 else 5
  (s.setMrouter k { s.mrouter k with arrived := SMap.put [] (s.mrouter k).arrived o rest }).noteSeq p

section
variable {src dst : Nat} {mine : Pennant → Bool} {ps qs : List (List MFlit)} {f : MFlit} {fs : List MFlit}
  (harr : SMap.get [] (s.mrouter (dst % 2 ^ 13)).arrived (if dst / 2 ^ 13 = 0 then 4 else 5) = ps ++ (f :: fs) :: qs)
  (hps : ∀ g ∈ ps, ∀ h ∈ g, h.vc = 2 → (pennantOf h).src ≠ src) (hvc : f.vc = 2) (hsrc : (pennantOf f).src = src)
include harr hps hvc hsrc

theorem takePennant_oldest : s.takePennant src dst mine =
    (let p := pennantOf f
     let rest := s.takeOff dst (ps ++ qs) p
     if p.reserved then (none, rest.protoRec (dst % 2 ^ 13) p.data)
     else if mine p then (some p, rest) else (none, s)) := by
  have hget : (ps ++ (f :: fs) :: qs).getD ps.length [] = f :: fs := by simp
  have herase : (ps ++ (f :: fs) :: qs).eraseIdx ps.length = ps ++ qs := by
    rw [List.eraseIdx_append_of_length_le (Nat.le_refl _), Nat.sub_self, List.eraseIdx_cons_zero]
  unfold State.takePennant
  simp only [harr, findIdx_oldest hps hvc hsrc, hget, herase]
  rfl

end

theorem protoSeen_protoRec (k : Nat) (h : BitVec 512) :
    (s.protoRec k h).fget fCanMeshErrProtoSeen (cantonOfCluster k) = 1 := by
  unfold State.protoRec
  dsimp only
  rw [fget_report (by simp; omega)]
  exact State.fget_fset_same _ _ _ _ (show 4 + 1 ≤ 64 by decide)

section
variable {dst : Nat} (rest : List (List MFlit)) (p : Pennant)

/-- The state with the pennant off its end, before its SEQ is judged. -/
def State.takenOff (s : State) (dst : Nat) (rest : List (List MFlit)) (p : Pennant) : State :=
  let k := dst % 2 ^ 13
  let o := if dst / 2 ^ 13 = 0 then 4 else 5
  { s.setMrouter k { s.mrouter k with arrived := SMap.put [] (s.mrouter k).arrived o rest } with
    pennIn := SMap.put 0 s.pennIn (65536 * p.src + p.dst) ((p.seq + 1) % 256) }

theorem takeOff_eq : s.takeOff dst rest p =
    if SMap.get 0 s.pennIn (65536 * p.src + p.dst) = p.seq then s.takenOff dst rest p
    else (s.takenOff dst rest p).protoRec (p.dst % 2 ^ 13) p.data := rfl

theorem beyondRecs_takeOff : (s.takeOff dst rest p).beyondRecs = (s.takenOff dst rest p).beyondRecs := by
  rw [takeOff_eq]
  split
  · rfl
  · exact beyondRecs_protoRec _ _

theorem arrived_takeOff : SMap.get [] ((s.takeOff dst rest p).mrouter (dst % 2 ^ 13)).arrived
    (if dst / 2 ^ 13 = 0 then 4 else 5) = rest := by
  have hk : (s.takenOff dst rest p).mrouter (dst % 2 ^ 13) = { s.mrouter (dst % 2 ^ 13) with
      arrived := SMap.put [] (s.mrouter (dst % 2 ^ 13)).arrived (if dst / 2 ^ 13 = 0 then 4 else 5) rest } :=
    State.mrouter_setMrouter_same s _ _
  rw [router_of_mesh (mesh_of_beyondRecs (beyondRecs_takeOff rest p)), hk, SMap.get_put_same]

theorem pennIn_takeOff : SMap.get 0 (s.takeOff dst rest p).pennIn (65536 * p.src + p.dst) = (p.seq + 1) % 256 := by
  have hin : (s.takeOff dst rest p).pennIn = (s.takenOff dst rest p).pennIn :=
    only_of_beyondRecs (beyondRecs_takeOff rest p) .pennIn (by decide)
  rw [hin]
  exact SMap.get_put_same _ _ _ _

theorem only_takenOff : Only [.mesh, .pennIn] s (s.takenOff dst rest p) := by
  intro q hq
  cases q
  case mesh | pennIn => simp at hq
  all_goals rfl

end

end Sys2Proof.Machine
end

section
/-! SUPPORT. What a canton controller does at a pennant of a handshake (R243, R244, R253, R255): the tiles, routers and
clusters of its canton, and nothing of any other. -/
namespace Sys2Proof.Machine

variable {s t : State}

/-! ### Units that a list names -/

/-- A change of every unit of a list, where making it twice is making it once. -/
theorem get_foldl_update {α : Type} [DecidableEq α] (d : α) {f : Nat → α → α} (hf : ∀ n x, f n (f n x) = f n x)
    (ts : List Nat) (m : SMap α) (u : Nat) :
    SMap.get d (ts.foldl (fun m t => SMap.put d m t (f t (SMap.get d m t))) m) u =
      if u ∈ ts then f u (SMap.get d m u) else SMap.get d m u := by
  induction ts generalizing m with
  | nil => rfl
  | cons n ts ih =>
    rw [List.foldl_cons, ih]
    by_cases hu : u = n
    · subst hu
      simp [hf]
    · simp [hu, SMap.get_put_ne]

theorem tile_mapTiles {f : Tile → Tile} (hf : ∀ x, f (f x) = f x) (ts : List Nat) (s : State) (u : Nat) :
    (s.mapTiles ts f).tile u = if u ∈ ts then f (s.tile u) else s.tile u :=
  get_foldl_update ({} : Tile) (f := fun _ => f) (fun _ => hf) ts s.tiles u

theorem cluster_mapClusters {f : Cluster → Cluster} (hf : ∀ x, f (f x) = f x) (ks : List Nat) (s : State) (u : Nat) :
    (s.mapClusters ks f).cluster u = if u ∈ ks then f (s.cluster u) else s.cluster u :=
  get_foldl_update ({} : Cluster) (f := fun _ => f) (fun _ => hf) ks s.clusters u

theorem Only.withTiles (m : SMap Tile) : Only [.tiles] s { s with tiles := m } := by
  intro p hp
  cases p
  case tiles => simp at hp
  all_goals rfl

theorem Only.mapClusters (ks : List Nat) (f : Cluster → Cluster) : Only [.clusters] s (s.mapClusters ks f) := by
  intro p hp
  cases p
  case clusters => simp at hp
  all_goals rfl

theorem Only.setSlice (n : Nat) (x : Slice) : Only [.slices] s (s.setSlice n x) := by
  intro p hp
  cases p
  case slices => simp at hp
  all_goals rfl

/-! ### Pennants heard -/

theorem receive_heard {c op : Nat} {m : QMsg} {q : State} (h : s.Hears c op m q) (f : QMsg → State → State) :
    s.receive c op f = f m q := by
  have hear : s.hear c op = (some m, q) := h
  simp only [State.receive, hear]

theorem receive_none {c op : Nat} {q : State} (h : s.hear c op = (none, q)) (f : QMsg → State → State) :
    s.receive c op f = q := by
  simp only [State.receive, h]

section
variable {c : CantonIx} {m : QMsg} {q : State}

theorem quiesceStop_heard (h : s.Hears c 1 m q) : Does (.quiesceStop c) s
    ((if (q.slice m.slice).holds c then (q.mapTiles (q.cantonTiles c) (Tile.setRun false)).setCanton c
        { q.canton c with watch := .stopping, watchSlice := BitVec.ofNat 4 m.slice }
      else q).restReply c) := by
  show execQuiesceStop c s = _
  simp only [execQuiesceStop, receive_heard h]

theorem quiesceStop_none (h : s.hear c 1 = (none, q)) : Does (.quiesceStop c) s (q.restReply c) := by
  show execQuiesceStop c s = _
  simp only [execQuiesceStop, receive_none h]

theorem quiesceDrain_heard (h : s.Hears c 2 m q) : Does (.quiesceDrain c) s
    (q.setCanton c { q.canton c with watch := .draining, watchSlice := BitVec.ofNat 4 m.slice }) := by
  show execQuiesceDrain c s = _
  simp only [execQuiesceDrain, receive_heard h]

theorem quiesceConfirm_heard (h : s.Hears c 3 m q) : Does (.quiesceConfirm c) s
    (q.answer c ⟨m.slice, 3, if (q.canton c).watch = .drained ∧ q.drainedNow c m.slice = true then 0 else 1, 0⟩) := by
  show execQuiesceConfirm c s = _
  have hstate : b2n (!(decide ((q.canton c).watch = .drained) && q.drainedNow c m.slice)) =
      if (q.canton c).watch = .drained ∧ q.drainedNow c m.slice = true then 0 else 1 := by
    by_cases hw : (q.canton c).watch = .drained <;> cases hd : q.drainedNow c m.slice <;> simp [hw, b2n]
  simp only [execQuiesceConfirm, receive_heard h, hstate]

/-- The canton notes the slice whose switch it has heard of. -/
def State.noteSlice (s : State) (c n : Nat) : State := s.setCanton c { s.canton c with watchSlice := BitVec.ofNat 4 n }

theorem quiesceSwitch_heard (h : s.Hears c 4 m q) : Does (.quiesceSwitch c) s
    ((q.noteSlice c m.slice).switchCanton c m.epoch .switching) := by
  show execQuiesceSwitch c s = _
  simp only [execQuiesceSwitch, receive_heard h]
  rfl

end

/-! ### Rest -/

theorem restReply_rest {c : Nat} (hw : (s.canton c).watch = .stopping) (hr : s.atRest c = true) : s.restReply c =
    (s.setCanton c { s.canton c with watch := .stopped }).answer c ⟨(s.canton c).watchSlice.toNat, 1, 0, 0⟩ := by
  unfold State.restReply
  simp only [hw, hr, decide_true, Bool.and_self, if_true]

theorem restReply_wait {c : Nat} (h : (s.canton c).watch ≠ .stopping ∨ s.atRest c = false) : s.restReply c = s := by
  unfold State.restReply
  exact if_neg (by rcases h with h | h <;> simp [h])

/-- A value of a map is listed, or it is the default. -/
theorem SMap.get_mem_or {α : Type} (d : α) (m : SMap α) (k : Nat) :
    (k, SMap.get d m k) ∈ m ∨ SMap.get d m k = d := by
  induction m with
  | nil => exact .inr rfl
  | cons p m ih =>
    obtain ⟨k', v⟩ := p
    by_cases h : k' = k
    · exact .inl (by simp [SMap.get, h])
    · simp only [SMap.get, if_neg h]
      exact ih.imp (fun hm => List.mem_cons_of_mem _ hm) id

theorem bulkOut_atRest {c u : Nat} (h : s.atRest c = true) (hu : u ∈ s.cantonTiles c) (n : Nat) :
    ((s.tile u).btag n).out = 0 := by
  unfold State.atRest at h
  have htile := List.all_eq_true.mp h u hu
  simp only [Bool.and_eq_true, List.all_eq_true, decide_eq_true_eq] at htile
  rcases SMap.get_mem_or ({} : BulkTag) (s.tile u).bulk n with hm | hd
  · exact htile.1 _ hm
  · exact congrArg BulkTag.out hd

/-! ### Tiles in a new epoch -/

theorem Tile.switch_twice (e : BitVec 4) (r : Router) (x : Tile) : (x.switch e r).switch e r = x.switch e r := by
  unfold Tile.switch
  cases r.stage <;> rfl

theorem Tile.count_keeps (src n : Nat) (x : Tile) : (x.count src n).iq = x.iq ∧ (x.count src n).epoch = x.epoch := by
  unfold Tile.count
  split <;> exact ⟨rfl, rfl⟩

/-- Flits of other epochs in the queues of a tile. -/
def Tile.stale (x : Tile) : Nat :=
  ((List.range 5).map fun q => ((x.queue q).filter fun f => f.epoch ≠ x.epoch.cur).length).sum

theorem Tile.stale_eq_zero {x : Tile} : x.stale = 0 ↔ ∀ q < 5, ∀ f ∈ x.queue q, f.epoch = x.epoch.cur := by
  simp [Tile.stale, List.sum_eq_zero_iff]

theorem Tile.purge_clean {x : Tile} (h : x.stale = 0) : x.purge = (x, 0) := if_pos h

/-- The tile without the flits of other epochs. -/
theorem Tile.purge_stale {x : Tile} (h : x.stale ≠ 0) : x.purge.1.epoch = x.epoch ∧
    ∀ q < 5, x.purge.1.queue q = (x.queue q).filter fun f => f.epoch = x.epoch.cur := by
  have hpurge : x.purge = _ := if_neg h
  rw [hpurge]
  obtain ⟨hiq, hepoch⟩ := Tile.count_keeps 0x0D x.stale
    { x with iq := (List.range 5).foldl (fun m q => SMap.put [] m q ((x.queue q).filter fun f => f.epoch = x.epoch.cur)) []
             status := { x.status with epochDrop := true } }
  refine ⟨hepoch, fun q hq => ?_⟩
  refine (congrArg (fun m => SMap.get ([] : List Flit) m q) hiq).trans ?_
  dsimp only
  rw [SMap.get_foldl_put [] (key := fun q => q) (fun _ _ he => he), if_pos (List.mem_range.mpr hq)]

/-- A purge leaves flits of the tile's own epoch only, and that epoch. -/
theorem Tile.purge_epoch (x : Tile) : x.purge.1.epoch = x.epoch ∧
    ∀ q < 5, ∀ f ∈ x.purge.1.queue q, f.epoch = x.epoch.cur := by
  by_cases h : x.stale = 0
  · rw [Tile.purge_clean h]
    exact ⟨rfl, Tile.stale_eq_zero.mp h⟩
  · obtain ⟨hepoch, hqueue⟩ := Tile.purge_stale h
    refine ⟨hepoch, fun q hq f hf => ?_⟩
    rw [hqueue q hq] at hf
    simpa using (List.mem_filter.mp hf).2

theorem Tile.purge_twice (x : Tile) : x.purge.1.purge.1 = x.purge.1 := by
  obtain ⟨hepoch, hqueue⟩ := x.purge_epoch
  rw [Tile.purge_clean (Tile.stale_eq_zero.mpr fun q hq f hf => by rw [hepoch]; exact hqueue q hq f hf)]

theorem Tile.switch_fields (e : BitVec 4) (r : Router) (x : Tile) :
    (x.switch e r).epoch.cur = e ∧ (x.switch e r).ctrl.run = false ∧ (x.switch e r).status.stopped = false ∧
    (x.switch e r).g = x.g ∧ (x.switch e r).v = x.v ∧ (x.switch e r).istore = x.istore ∧
    ∀ q f, f ∈ (x.switch e r).purge.1.queue q → f.epoch = e ∨ 5 ≤ q := by
  refine ⟨rfl, rfl, rfl, rfl, rfl, rfl, fun q f hf => ?_⟩
  by_cases hq : q < 5
  · exact .inl ((x.switch e r).purge_epoch.2 q hq f hf)
  · exact .inr (by omega)

/-! ### The switch of a canton -/

theorem beyondPennants_tellProbe (u : Nat) : (s.tellProbe u true).beyondPennants = s.beyondPennants := by
  unfold State.tellProbe
  dsimp only
  split
  · rfl
  · exact beyondPennants_sendPennant _ _ _ _

/-- The canton's tiles in their new epoch. -/
def State.switchTiles (s : State) (c : Nat) (e : BitVec 4) : State :=
  { s with
    tiles := (s.cantonTiles c).foldl
      (fun m t => SMap.put ({} : Tile) m t ((SMap.get ({} : Tile) m t).switch e (s.router t))) s.tiles }

/-- The ensign complex is told of every probe that a switch clears. -/
def State.tellProbes (s : State) (us : List Nat) : State := us.foldl (fun s t => s.tellProbe t true) s

/-- The tiles of a canton whose probe is raised. -/
def State.probed (s : State) (c : Nat) : List Nat := (s.cantonTiles c).filter fun t => (s.tile t).status.probe

/-- The staged tables of the routers of a list are released. -/
def Router.release (r : Router) : Router := { r with stage := r.stage.map fun g => { g with released := true } }

theorem switchCanton_eq (c : Nat) (e : BitVec 4) (w : Watch) : s.switchCanton c e w =
    (let u := ((s.switchTiles c e).tellProbes (s.probed c)).mapRouters (s.cantonTiles c) fun _ r => r.release
     u.setCanton c { u.canton c with watch := w, purged := 0 }) := rfl

theorem only_tellProbes (us : List Nat) : Only [.mesh, .pennOut, .err, .regs, .mgmt] s (s.tellProbes us) :=
  only_of_beyondPennants (proj_foldl (fun _ _ => beyondPennants_tellProbe _) _ _)

theorem release_twice (r : Router) : r.release.release = r.release := by
  cases h : r.stage <;> simp [Router.release, h]

section
variable (c : Nat) (e : BitVec 4) (w : Watch)

/-- What a switch leaves of the state beside its canton, what it tells the ensign complex, and its tiles and routers. -/
theorem only_switchCanton :
    Only [.cantons, .tiles, .routers, .mesh, .pennOut, .err, .regs, .mgmt] s (s.switchCanton c e w) := by
  rw [switchCanton_eq]
  exact ((((Only.withTiles _).mono (by decide)).trans ((only_tellProbes (s := s.switchTiles c e) _).mono (by decide))).trans
    ((Only.mapRouters _ _).mono (by decide))).trans ((Only.setCanton _ _).mono (by decide))

theorem tile_switchCanton (u : Nat) : (s.switchCanton c e w).tile u =
    if u ∈ s.cantonTiles c then (s.tile u).switch e (s.router u) else s.tile u := by
  have htiles : (s.switchCanton c e w).tiles = (s.switchTiles c e).tiles :=
    only_tellProbes (s := s.switchTiles c e) (s.probed c) .tiles (by decide)
  refine (congrArg (fun m => SMap.get ({} : Tile) m u) htiles).trans ?_
  exact get_foldl_update ({} : Tile) (f := fun t x => x.switch e (s.router t)) (fun t x => Tile.switch_twice e _ x) _ s.tiles u

theorem router_switchCanton (u : Nat) : (s.switchCanton c e w).router u =
    if u ∈ s.cantonTiles c then (s.router u).release else s.router u := by
  have hrouters : ((s.switchTiles c e).tellProbes (s.probed c)).routers = s.routers :=
    only_tellProbes (s := s.switchTiles c e) (s.probed c) .routers (by decide)
  have hrouter : ((s.switchTiles c e).tellProbes (s.probed c)).router u = s.router u :=
    congrArg (fun m => SMap.get ({} : Router) m u) hrouters
  rw [← hrouter]
  exact router_mapRouters (f := fun _ => Router.release) (fun _ => release_twice) (s.cantonTiles c)
    ((s.switchTiles c e).tellProbes (s.probed c)) u

theorem canton_switchCanton_same :
    ((s.switchCanton c e w).canton c).watch = w ∧ ((s.switchCanton c e w).canton c).purged = 0 := by
  rw [switchCanton_eq]
  exact ⟨congrArg Canton.watch (State.canton_setCanton_same _ _ _),
    congrArg Canton.purged (State.canton_setCanton_same _ _ _)⟩

theorem canton_switchCanton_ne {d : Nat} (h : d ≠ c) : (s.switchCanton c e w).canton d = s.canton d := by
  have hcantons : ((s.switchTiles c e).tellProbes (s.probed c)).cantons = s.cantons :=
    only_tellProbes (s := s.switchTiles c e) (s.probed c) .cantons (by decide)
  rw [switchCanton_eq]
  exact (State.canton_setCanton_ne _ _ _ _ h).trans (congrArg (fun m => SMap.get ({} : Canton) m d) hcantons)

/-- Where no probe is raised the switch tells the ensign complex nothing. -/
theorem only_switchCanton_quiet (h : ∀ t ∈ s.cantonTiles c, (s.tile t).status.probe = false) :
    Only [.cantons, .tiles, .routers] s (s.switchCanton c e w) := by
  have hprobed : s.probed c = [] := by simpa [State.probed] using h
  rw [switchCanton_eq, hprobed]
  exact (((Only.withTiles _).mono (by decide)).trans ((Only.mapRouters _ _).mono (by decide))).trans
    ((Only.setCanton _ _).mono (by decide))

end

/-! ### The switch with PURGE -/

theorem foldl_purge (ts : List Nat) (s : State) (n : Nat) : (ts.foldl (fun (a : State × Nat) t =>
      let q := (a.1.tile t).purge
      (a.1.setTile t q.1, a.2 + q.2)) (s, n)).1 = s.mapTiles ts fun x => x.purge.1 := by
  induction ts generalizing s n with
  | nil => rfl
  | cons t ts ih => exact ih _ _

/-- A cluster whose pool has been freed. -/
def Cluster.noSpills (x : Cluster) : Cluster := { x with spillQs := [] }

/-- A canton that has switched purges its tiles. -/
def State.purgeTiles (s : State) (c : Nat) : State := s.mapTiles (s.cantonTiles c) fun x => x.purge.1

/-- The pools of a canton's clusters are freed. -/
def State.freePools (s : State) (c : Nat) : State := s.mapClusters (clustersOf c) Cluster.noSpills

/-- The slice has handed over its purge. -/
def State.purgePhase (s : State) (n : Nat) : State := s.setSlice n { s.slice n with phase := 5 }

/-- What follows the switch of a purging canton, before it counts what it discarded. -/
def State.purgeCanton (s : State) (c n : Nat) : State := ((s.purgeTiles c).freePools c).purgePhase n

/-- What the tiles and the pools of a canton that purges hold to be discarded. -/
def State.purgeCount (s : State) (c : Nat) : Nat :=
  ((s.cantonTiles c).foldl (fun (a : State × Nat) t =>
      let q := (a.1.tile t).purge
      (a.1.setTile t q.1, a.2 + q.2)) (s, 0)).2 +
    ((clustersOf c).map fun k => (((s.cluster k).spillQs.map fun q => q.slots.length).sum)).sum

/-- What a canton does once it has switched with PURGE, as the model says it. -/
def State.purged (s : State) (c n : Nat) : State :=
  let ts := s.cantonTiles c
  let a := ts.foldl (fun (a : State × Nat) t =>
    let q := (a.1.tile t).purge
    (a.1.setTile t q.1, a.2 + q.2)) (s, 0)
  let held := ((clustersOf c).map fun k => (((s.cluster k).spillQs.map fun q => q.slots.length).sum)).sum
  let s := a.1.mapClusters (clustersOf c) fun x => { x with spillQs := [] }
  let x := s.slice n
  (s.setSlice n { x with phase := 5 }).setCanton c { s.canton c with purged := a.2 + held }

theorem execQuiesceSwitchPurge_eq (c : CantonIx) : execQuiesceSwitchPurge c s =
    .next (s.receive c 5 fun m s => ((s.noteSlice c m.slice).switchCanton c m.epoch .purging).purged c m.slice) := rfl

theorem purged_eq (c n : Nat) : s.purged c n =
    (s.purgeCanton c n).setCanton c { (s.purgeCanton c n).canton c with purged := s.purgeCount c } := by
  unfold State.purged State.purgeCanton State.freePools State.purgeTiles State.purgeCount
  generalize clustersOf c = ks
  generalize s.cantonTiles c = ts
  dsimp only
  rw [foldl_purge]
  rfl

theorem quiesceSwitchPurge_heard {c : CantonIx} {m : QMsg} {q : State} (h : s.Hears c 5 m q) :
    let t := (q.noteSlice c m.slice).switchCanton c m.epoch .purging
    let u := t.purgeCanton c m.slice
    Does (.quiesceSwitchPurge c) s (u.setCanton c { u.canton c with purged := t.purgeCount c }) := by
  show execQuiesceSwitchPurge c s = _
  rw [execQuiesceSwitchPurge_eq, receive_heard h, purged_eq]

section
variable (c n : Nat)

theorem tile_setCanton (x : Canton) (u : Nat) : (s.setCanton c x).tile u = s.tile u := rfl

theorem cluster_setCanton (x : Canton) (k : Nat) : (s.setCanton c x).cluster k = s.cluster k := rfl

theorem slice_setCanton (x : Canton) (n : Nat) : (s.setCanton c x).slice n = s.slice n := rfl

theorem tile_purgePhase (u : Nat) : (s.purgePhase n).tile u = s.tile u := rfl

theorem cluster_purgePhase (k : Nat) : (s.purgePhase n).cluster k = s.cluster k := rfl

theorem tile_mapClusters (ks : List Nat) (f : Cluster → Cluster) (u : Nat) : (s.mapClusters ks f).tile u = s.tile u := rfl

theorem canton_mapClusters (ks : List Nat) (f : Cluster → Cluster) (d : Nat) :
    (s.mapClusters ks f).canton d = s.canton d := rfl

theorem canton_mapTiles (ts : List Nat) (f : Tile → Tile) (d : Nat) : (s.mapTiles ts f).canton d = s.canton d := rfl

theorem canton_purgePhase (d : Nat) : (s.purgePhase n).canton d = s.canton d := rfl

theorem phase_purgePhase : ((s.purgePhase n).slice n).phase = 5 :=
  congrArg Slice.phase (State.slice_setSlice_same s n _)

theorem phase_purgeCanton : ((s.purgeCanton c n).slice n).phase = 5 := phase_purgePhase n

theorem canton_purgeCanton (d : Nat) : (s.purgeCanton c n).canton d = s.canton d := by
  rw [State.purgeCanton, canton_purgePhase, State.freePools, canton_mapClusters, State.purgeTiles, canton_mapTiles]

theorem tile_purgeCanton {u : Nat} (hu : u ∈ s.cantonTiles c) : (s.purgeCanton c n).tile u = (s.tile u).purge.1 := by
  rw [State.purgeCanton, tile_purgePhase, State.freePools, tile_mapClusters, State.purgeTiles]
  exact (tile_mapTiles (f := fun x => x.purge.1) Tile.purge_twice (s.cantonTiles c) s u).trans (if_pos hu)

theorem spillQs_purgeCanton {k : Nat} (hk : k ∈ clustersOf c) : ((s.purgeCanton c n).cluster k).spillQs = [] := by
  rw [State.purgeCanton, cluster_purgePhase, State.freePools, cluster_mapClusters (f := Cluster.noSpills) (fun _ => rfl), if_pos hk,
    Cluster.noSpills]

theorem only_purgeCanton : Only [.tiles, .clusters, .slices] s (s.purgeCanton c n) :=
  (((Only.withTiles _).mono (by decide)).trans ((Only.mapClusters (s := s.purgeTiles c) _ _).mono (by decide))).trans
    ((Only.setSlice (s := (s.purgeTiles c).freePools c) _ _).mono (by decide))

theorem cantonTiles_switchCanton (e : BitVec 4) (w : Watch) : (s.switchCanton c e w).cantonTiles c = s.cantonTiles c := by
  have hpresent : (s.switchCanton c e w).present = s.present := only_switchCanton (s := s) c e w .present (by decide)
  have hpos : (s.switchCanton c e w).isPresent = s.isPresent := by
    funext t
    simp only [State.isPresent, hpresent]
  simp only [State.cantonTiles, hpos]

end

end Sys2Proof.Machine
end

section
open Sys2Proof Sys2Proof.Machine

/-- Settles O28: the form of pennants, how one is sent and taken, and what a canton controller does at each. -/
theorem controllerPennants : Obligations.ControllerPennants := by
  unfold Obligations.ControllerPennants
  refine ⟨fun p hcode hsrc hdst hwpt hseq harg => pennantOf_flit hcode hsrc hdst hwpt hseq harg,
    fun p m hslice hop hcode harg => msg_of_arg hslice hop hcode harg,
    fun p a hslice hop1 hop hstate hdis hcode harg => ack_of_arg hslice hop1 hop hstate hdis hcode harg,
    fun s src dst code arg => ?_, fun s src dst mine ps qs f fs => ?_,
    fun s c m q h => ⟨fun hin => ?_, fun hout => ?_⟩, fun s c q h => quiesceStop_none h,
    fun s c => ⟨restReply_rest, restReply_wait, fun hr t ht => bulkOut_atRest hr ht⟩,
    fun s c m q h => ⟨_, quiesceDrain_heard h, ?_⟩, fun s c m q h => quiesceConfirm_heard h,
    fun s c m q h => quiesceSwitch_heard h, fun s c e w => ?_, fun s c m q h => ?_, fun e r t => Tile.switch_fields e r t⟩
  · intro k e x key hreach
    have hsend := sendPennant_eq (s := s) code arg hreach
    refine ⟨?_, ?_, fun y hy => ?_, ?_⟩
    all_goals rw [hsend]
    · refine (congrArg (fun r : MeshRouter => SMap.get [] r.inject key) (State.mrouter_setMrouter_same s k _)).trans ?_
      exact SMap.get_put_same _ _ _ _
    · exact SMap.get_put_same (0 : Nat) s.pennOut x _
    · exact SMap.get_put_ne (0 : Nat) s.pennOut x y _ hy
    · exact only_sent _ _
  · intro k o harr hps hvc hsrc p t
    have htake : t = _ := takePennant_oldest (mine := mine) harr hps hvc hsrc
    refine ⟨fun hres => ?_, fun hres hmine => ?_, fun hres hmine => ?_⟩
    · simp only [htake, p, hres, if_true]
      exact ⟨trivial, protoSeen_protoRec _ _⟩
    · simp only [htake, p, hres, hmine, Bool.false_eq_true, if_false]
    · simp only [htake, p, hres, hmine, Bool.false_eq_true, if_true, if_false]
      refine ⟨trivial, arrived_takeOff _ _, pennIn_takeOff _ _, fun hseq => ?_, fun hseq => ?_⟩
      all_goals rw [takeOff_eq]
      · rw [if_pos hseq]
        exact only_takenOff _ _
      · rw [if_neg hseq]
        exact protoSeen_protoRec _ _
  · exact (quiesceStop_heard h).congr (by rw [if_pos hin])
  · exact (quiesceStop_heard h).congr (by rw [hout]; rfl)
  · exact ⟨congrArg Canton.watch (State.canton_setCanton_same _ _ _),
      congrArg Canton.watchSlice (State.canton_setCanton_same _ _ _),
      fun d hd => State.canton_setCanton_ne _ _ _ _ hd, Only.setCanton _ _⟩
  · have honly := only_switchCanton (s := s) c e w
    obtain ⟨hwatch, hpurged⟩ := canton_switchCanton_same (s := s) c e w
    refine ⟨hwatch, hpurged, honly .mem (by decide), honly .slices (by decide), tile_switchCanton c e w,
      fun t ht => ?_, fun d hd => canton_switchCanton_ne c e w hd, only_switchCanton_quiet c e w⟩
    exact (router_switchCanton c e w t).trans (if_pos ht)
  · let v := q.noteSlice c m.slice
    refine ⟨_, quiesceSwitchPurge_heard h, ?_, ?_, fun t ht => ?_, fun k hk => ?_, fun d hd => ?_, fun hquiet => ?_⟩
    · rw [State.canton_setCanton_same]
      exact (canton_switchCanton_same (s := v) c m.epoch .purging).1
    · rw [slice_setCanton, phase_purgeCanton]
    · have hts : t ∈ (v.switchCanton c m.epoch .purging).cantonTiles c := by
        rw [cantonTiles_switchCanton]
        exact ht
      rw [tile_setCanton, tile_purgeCanton c m.slice hts]
      exact congrArg (fun x => x.purge.1) ((tile_switchCanton (s := v) c m.epoch .purging t).trans (if_pos ht))
    · rw [cluster_setCanton, spillQs_purgeCanton _ _ hk]
    · rw [State.canton_setCanton_ne _ _ _ _ hd, canton_purgeCanton, canton_switchCanton_ne _ _ _ hd]
      exact State.canton_setCanton_ne _ _ _ _ hd
    · exact ((((Only.setCanton _ _).mono (by decide)).trans
        ((only_switchCanton_quiet (s := v) c m.epoch .purging hquiet).mono (by decide))).trans
        ((only_purgeCanton _ _).mono (by decide))).trans ((Only.setCanton _ _).mono (by decide))
end

section
/-! SUPPORT. The end of a bring-up (R365, R385, R411 to R415): the engine's state, bays and their scrub, ports, and what the
engine-wide check leaves alone. -/
namespace Sys2Proof.Machine

variable {s t : State}

/-! ### The engine's state (R365, R385) -/

/-- The registers of a change of the engine's state. -/
def State.engineAt (s : State) (st : Nat) : State :=
  ((s.fset fGlbEngineStatePrev s.engine).fset fGlbEngineStateState st).fset fGlbEngineStateChanged 1

theorem fget_updHost (h : HostIf → HostIf) (f : Fld) (i : Nat) : (s.updHost h).fget f i = s.fget f i := rfl

theorem fget_putBit_reg {f g : Fld} {i j : Nat} (h : g.off + j * 0x10000 ≠ f.off + i * 0x10000) (k : Nat) (v : Bool) :
    (s.putBit f k v i).fget g j = s.fget g j := State.fget_fset_reg _ _ _ _ _ _ h

/-- A change of the engine's state, but to FAULT, changes ENGINE_STATE and tells the host at most. -/
theorem setEngine_cases {st : Nat} (h8 : st ≠ 8) :
    (s.engine = st ∧ s.setEngine st = s) ∨ (∃ f, s.setEngine st = (s.engineAt st).updHost f) := by
  unfold State.setEngine
  by_cases h : s.engine = st
  · exact .inl ⟨h, if_pos h⟩
  · refine .inr ?_
    simp only [h, h8, if_false]
    split
    · exact ⟨_, rfl⟩
    · exact ⟨id, rfl⟩

theorem recheck_cases : s.recheck = s ∨ s.recheck = s.setEngine 5 ∨ ∃ f, s.recheck = s.updHost f := by
  unfold State.recheck
  split
  · exact .inr (.inl rfl)
  · split
    · exact .inr (.inr ⟨_, rfl⟩)
    · exact .inl rfl

theorem engine_setEngine {st : Nat} (h8 : st ≠ 8) (hst : st < 16) : (s.setEngine st).engine = st := by
  rcases setEngine_cases (s := s) h8 with ⟨h, heq⟩ | ⟨f, heq⟩
  · rw [heq, h]
  · rw [heq, State.engine, fget_updHost, State.engineAt, State.fget_fset_other _ _ _ _ (by decide) (by decide), State.fget_fset_self _ _ _ (by decide)]
    exact Nat.mod_eq_of_lt hst

theorem fget_engineAt {f : Fld} {i : Nat} (hf : f.off + i * 0x10000 ≠ 0x10 ∨ 9 ≤ f.lo) (st : Nat) :
    (s.engineAt st).fget f i = s.fget f i := by
  have hone (u : State) (lo n v : Nat) (hn : lo + n ≤ 9) : (u.fset ⟨0x10, lo, n⟩ v).fget f i = u.fget f i := by
    by_cases ho : f.off + i * 0x10000 = 0x10
    · exact State.fget_fset_disjoint _ _ _ _ _ _ (show lo + n ≤ 64 by omega) ho (.inr (show lo + n ≤ f.lo by omega))
    · exact State.fget_fset_reg _ _ _ _ _ _ ho
  simp only [State.engineAt]
  rw [hone _ _ _ _ (by decide), hone _ _ _ _ (by decide), hone _ _ _ _ (by decide)]

/-- A change of the engine's state keeps the other fields. -/
theorem fget_setEngine {st : Nat} (h8 : st ≠ 8) {f : Fld} {i : Nat} (hf : f.off + i * 0x10000 ≠ 0x10 ∨ 9 ≤ f.lo) :
    (s.setEngine st).fget f i = s.fget f i := by
  rcases setEngine_cases (s := s) h8 with ⟨-, heq⟩ | ⟨g, heq⟩
  · rw [heq]
  · rw [heq, fget_updHost, fget_engineAt hf]

theorem only_engineAt (st : Nat) : Only [.regs] s (s.engineAt st) :=
  ((Only.fset _ _ _ _).trans (Only.fset _ _ _ _)).trans (Only.fset _ _ _ _)

theorem only_setEngine {st : Nat} (h8 : st ≠ 8) : Only [.regs, .host] s (s.setEngine st) := by
  rcases setEngine_cases (s := s) h8 with ⟨-, heq⟩ | ⟨g, heq⟩
  · rw [heq]
    exact Only.refl _ _
  · rw [heq]
    exact ((only_engineAt st).mono (by decide)).trans ((Only.updHost _ _).mono (by decide))

theorem fget_recheck {f : Fld} {i : Nat} (hf : f.off + i * 0x10000 ≠ 0x10 ∨ 9 ≤ f.lo) : s.recheck.fget f i = s.fget f i := by
  rcases recheck_cases (s := s) with heq | heq | ⟨g, heq⟩
  · rw [heq]
  · rw [heq, fget_setEngine (by decide) hf]
  · rw [heq, fget_updHost]

theorem only_recheck : Only [.regs, .host] s s.recheck := by
  rcases recheck_cases (s := s) with heq | heq | ⟨g, heq⟩
  · rw [heq]
    exact Only.refl _ _
  · rw [heq]
    exact only_setEngine (by decide)
  · rw [heq]
    exact (Only.updHost _ _).mono (by decide)

/-! ### Bays (R270, R411) -/

theorem Only.setBay (b : Nat) (y : Bay) : Only [.bays] s (s.setBay b y) := by
  intro p hp
  cases p
  case bays => simp at hp
  all_goals rfl

theorem Only.withErr (e : ErrState) : Only [.err] s { s with err := e } := by
  intro p hp
  cases p
  case err => simp at hp
  all_goals rfl

theorem bay_of_bays (h : t.bays = s.bays) (b : Nat) : t.bay b = s.bay b := congrArg (fun m => SMap.get ({} : Bay) m b) h

theorem foldl_ledger (l : List Nat) (f : Nat → LedgerEntry) (s : State) :
    ∃ e, l.foldl (fun s x => s.ledger (f x)) s = { s with err := e } := by
  induction l generalizing s with
  | nil => exact ⟨s.err, rfl⟩
  | cons x l ih => exact ih _

/-- Bad lanes change their bay, the ledger and SPARE_USED. -/
theorem badLane_eq (b ch lanes : Nat) : ∃ y e, s.badLane b ch lanes =
    ({ s.setBay b y with err := e } : State).fset fBayStatSpareUsed (y.spares) (bayCanton b) := by
  unfold State.badLane
  extract_lets y old new s1 s2
  obtain ⟨e, he⟩ := foldl_ledger new (fun l => { kind := 3, src := 3, canton := BitVec.ofNat 8 (bayCanton b), outcome := 6
                                                 word := BitVec.ofNat 32 (5 * 2 ^ 28 + ch * 2 ^ 23 + l * 2 ^ 14) }) s1
  have hs2 : s2 = { s1 with err := e } := he
  have hbay : s2.bay b = { y with badLanes := SMap.put 0 y.badLanes ch (new.foldl (fun n l => n + 2 ^ l) old) } := by
    rw [hs2]
    exact State.bay_setBay_same s b _
  exact ⟨_, e, by rw [hbay, hs2]⟩

/-- What bad lanes of bay b leave alone: the other bays, and STATE and FAILED_CH of the bays. -/
theorem badLane_keeps (b ch lanes : Nat) :
    Only [.bays, .err, .regs] s (s.badLane b ch lanes) ∧ (∀ i, i ≠ b → (s.badLane b ch lanes).bay i = s.bay i) ∧
    ∀ c, (s.badLane b ch lanes).fget fBayStatState c = s.fget fBayStatState c ∧
      (s.badLane b ch lanes).fget fBayStatFailedCh c = s.fget fBayStatFailedCh c := by
  obtain ⟨y, e, heq⟩ := badLane_eq (s := s) b ch lanes
  rw [heq]
  refine ⟨?_, fun i hi => State.bay_setBay_ne s b i y hi, fun c => ?_⟩
  · exact (((Only.setBay b y).mono (by decide)).trans ((Only.withErr e).mono (by decide))).trans
      ((Only.fset _ _ _ _).mono (by decide))
  · have hone (lo n : Nat) (hlo : lo + n ≤ 16) (u : State) (v : Nat) :
        (u.fset fBayStatSpareUsed v (bayCanton b)).fget ⟨0x408408, lo, n⟩ c = u.fget ⟨0x408408, lo, n⟩ c := by
      by_cases hc : c = bayCanton b
      · exact State.fget_fset_disjoint _ _ _ _ _ _ (show 16 + 16 ≤ 64 by decide) (by rw [hc]) (.inl hlo)
      · exact State.fget_fset_reg _ _ _ _ _ _ (by simp; omega)
    exact ⟨hone 4 4 (by decide) _ _, hone 8 8 (by decide) _ _⟩

theorem foldl_badLane_keeps (b : Nat) (ls : List (Fin 32 × BitVec 264)) (s : State) :
    let t := ls.foldl (fun s (q : Fin 32 × BitVec 264) => s.badLane b q.1 q.2.toNat) s
    Only [.bays, .err, .regs] s t ∧ (∀ i, i ≠ b → t.bay i = s.bay i) ∧
    ∀ c, t.fget fBayStatState c = s.fget fBayStatState c ∧ t.fget fBayStatFailedCh c = s.fget fBayStatFailedCh c := by
  induction ls generalizing s with
  | nil => exact ⟨Only.refl _ _, fun _ _ => rfl, fun _ => ⟨rfl, rfl⟩⟩
  | cons q ls ih =>
    obtain ⟨honly, hbay, hfld⟩ := badLane_keeps (s := s) b q.1 q.2.toNat
    obtain ⟨honly', hbay', hfld'⟩ := ih (s.badLane b q.1 q.2.toNat)
    exact ⟨honly.trans honly', fun i hi => (hbay' i hi).trans (hbay i hi),
      fun c => ⟨(hfld' c).1.trans (hfld c).1, (hfld' c).2.trans (hfld c).2⟩⟩

theorem only_failBay (b : Nat) : Only [.regs] s (s.failBay b) :=
  ((Only.fset _ _ _ _).trans (Only.fset _ _ _ _)).trans (Only.fset _ _ _ _)

/-- A failed channel counts, and its bay has failed. -/
theorem failBay_counts (b : Nat) : (s.failBay b).fget fBayStatState (bayCanton b) = 3 ∧
    (s.failBay b).fget fBayStatFailedCh (bayCanton b) = satAdd 8 (s.fget fBayStatFailedCh (bayCanton b)) 1 := by
  have hfits : fBayStatState.fits := show 4 + 4 ≤ 64 by decide
  rw [State.failBay]
  constructor
  · rw [fget_putBit_reg (by simp; omega), State.fget_fset_same _ _ _ _ hfits]
    rfl
  · rw [fget_putBit_reg (by simp; omega),
      State.fget_fset_disjoint _ _ fBayStatFailedCh _ _ _ hfits rfl (.inr (show 4 + 4 ≤ 8 by decide)),
      State.fget_finc _ fBayStatFailedCh _ _ (show 8 + 8 ≤ 64 by decide)]

/-- Channels of a bay have failed. -/
def State.failBays (s : State) (b : Nat) (l : List Nat) : State := l.foldl (fun s _ => s.failBay b) s

theorem failBays_cons (b x : Nat) (l : List Nat) : s.failBays b (x :: l) = (s.failBay b).failBays b l := by
  simp only [State.failBays, List.foldl_cons]

theorem only_failBays (b : Nat) (l : List Nat) : Only [.regs] s (s.failBays b l) := by
  induction l generalizing s with
  | nil => exact Only.refl _ _
  | cons x l ih =>
    rw [failBays_cons]
    exact (only_failBay b).trans ih

theorem failBays_counts (b : Nat) (l : List Nat) (hroom : s.fget fBayStatFailedCh (bayCanton b) + l.length < 256) :
    (s.failBays b l).fget fBayStatState (bayCanton b) = (if l.length = 0 then s.fget fBayStatState (bayCanton b) else 3) ∧
    (s.failBays b l).fget fBayStatFailedCh (bayCanton b) = s.fget fBayStatFailedCh (bayCanton b) + l.length := by
  induction l generalizing s with
  | nil => exact ⟨rfl, rfl⟩
  | cons x l ih =>
    obtain ⟨hstate, hfailed⟩ := failBay_counts (s := s) b
    rw [List.length_cons] at hroom
    have hnext : (s.failBay b).fget fBayStatFailedCh (bayCanton b) = s.fget fBayStatFailedCh (bayCanton b) + 1 := by
      rw [hfailed, satAdd]
      omega
    obtain ⟨hstate', hfailed'⟩ := ih (s := s.failBay b) (by omega)
    rw [failBays_cons, hstate', hfailed', hstate, hnext, ite_self, List.length_cons, if_neg (Nat.succ_ne_zero _)]
    exact ⟨rfl, by omega⟩

/-! ### The scrub of a bay (R411) -/

theorem SMap.get_clear {α : Type} (d : α) (m : SMap α) (lo hi k : Nat) :
    SMap.get d (SMap.clear m lo hi) k = if lo ≤ k ∧ k < hi then d else SMap.get d m k := by
  induction m with
  | nil => exact (ite_self _).symm
  | cons p m ih =>
    obtain ⟨k', v⟩ := p
    unfold SMap.clear at ih ⊢
    rw [List.filter_cons]
    by_cases hk : k' = k
    · subst hk
      split
      · next hkeep =>
        have hout : ¬(lo ≤ k' ∧ k' < hi) := by simp at hkeep; omega
        rw [if_neg hout]
        simp [SMap.get]
      · next hdrop =>
        have hin : lo ≤ k' ∧ k' < hi := by simp at hdrop; omega
        rw [ih, if_pos hin, if_pos hin]
    · have hget (m : SMap α) : SMap.get d ((k', v) :: m) k = SMap.get d m k := if_neg hk
      split
      · rw [hget, hget, ih]
      · rw [hget, ih]

theorem byte_zero (m : Memory) (lo hi a : Nat) : (m.zero lo hi).byte a = if lo ≤ a ∧ a < hi then 0 else m.byte a :=
  SMap.get_clear 0 m.cells lo hi a

/-- The state of a bay whose scrub has ended. -/
def State.scrubEnd (s : State) (b : Nat) : State :=
  ((s.updMem (·.zero (bayBase b) (bayBase (b + 1)))).setBay b (s.bay b).scrubbed).fset fBayStatState 2 (bayCanton b)

theorem bayReady_done {b : BayIx} (hon : s.online (bayCanton b) = true) (hst : s.fget fBayStatState (bayCanton b) = 1) :
    Does (.bayReady b) s ((s.scrubEnd b).fset fPwrBootStatBaysReady (s.scrubEnd b).baysReady).recheck := by
  show execBayReady b s = _
  simp only [execBayReady, hon, hst, decide_true, Bool.and_self, if_true]
  rfl

/-! ### Ports (R412) -/

theorem idxOf_portCanton (p : PortIx) : portCantons.idxOf (portCanton p) = p := by
  revert p
  decide

theorem portWaits_tried {p : PortIx} (h : s.mgmt.portTried.getLsbD p = true) : s.portWaits (portCanton p) = false := by
  rw [State.portWaits, idxOf_portCanton, h]
  simp

/-! ### Training, and the first initialisation of a port (R411, R412) -/

/-- Bad lanes of a bay that begins its training. -/
def State.trainBay (s : State) (b : Nat) (ls : List (Fin 32 × BitVec 264)) : State :=
  ls.foldl (fun s (q : Fin 32 × BitVec 264) => s.badLane b q.1 q.2.toNat) (s.fset fBayStatState 1 (bayCanton b))

/-- The channels of a bay that have more than 8 bad lanes. -/
def Bay.badChannels (y : Bay) : List Nat := (List.range 32).filter fun ch => decide (8 < y.bad ch)

theorem badChannels_length (y : Bay) :
    y.badChannels.length = (List.range 32).countP (fun ch => decide (8 < y.bad ch)) ∧ y.badChannels.length ≤ 32 :=
  ⟨List.countP_eq_length_filter.symm, List.length_filter_le _ _⟩

theorem bayTrain_done {b : BayIx} (ls : List (Fin 32 × BitVec 264))
    (h : s.mgmt.joinOrder.find? s.bayUntrained = some (bayCanton b)) :
    Does (.bayTrain b ls) s ((s.trainBay b ls).failBays b ((s.trainBay b ls).bay b).badChannels) := if_pos h

theorem trainBay_keeps (b : Nat) (ls : List (Fin 32 × BitVec 264)) :
    Only [.bays, .err, .regs] s (s.trainBay b ls) ∧ (∀ i, i ≠ b → (s.trainBay b ls).bay i = s.bay i) ∧
    (s.trainBay b ls).fget fBayStatState (bayCanton b) = 1 ∧
    (s.trainBay b ls).fget fBayStatFailedCh (bayCanton b) = s.fget fBayStatFailedCh (bayCanton b) := by
  have hfits : fBayStatState.fits := show 4 + 4 ≤ 64 by decide
  obtain ⟨honly, hbay, hfld⟩ := foldl_badLane_keeps b ls (s.fset fBayStatState 1 (bayCanton b))
  obtain ⟨hstate, hfailed⟩ := hfld (bayCanton b)
  refine ⟨((Only.fset _ _ _ _).mono (by decide)).trans honly, hbay, ?_, ?_⟩
  · exact hstate.trans (State.fget_fset_same _ _ _ _ hfits)
  · exact hfailed.trans (State.fget_fset_disjoint _ _ fBayStatFailedCh _ _ _ hfits rfl (.inr (show 4 + 4 ≤ 8 by decide)))

/-- The state of a port whose initialisation has been tried. -/
def State.tryPort (s : State) (p : PortIx) : State := s.updMgmt fun m => { m with portTried := setBit m.portTried p true }

/-- The record of a port that does not calibrate. -/
def portFailRec (p : PortIx) : Rec :=
  onCanton (portCanton p) { cls := 0x1B, block := 0xC, index := BitVec.ofNat 8 p, detail0 := BitVec.ofNat 64 (p + 256 * 5) }

theorem portInit_refused {p : PortIx} (h : s.mgmt.joinOrder.find? s.portWaits = some (portCanton p)) :
    Does (.portInit p false) s ((s.tryPort p).report (portSrc p) (portFailRec p)) := by
  show execPortInit p false s = _
  simp only [execPortInit, h, decide_true, if_true, Bool.not_true, Bool.not_false, Bool.false_eq_true, if_false]
  rfl

theorem portInit_accepted {p : PortIx} (h : s.mgmt.joinOrder.find? s.portWaits = some (portCanton p)) :
    let s1 := ((s.tryPort p).bootPort p).updMgmt fun m => { m with portInit := setBit m.portInit p true }
    let s2 := s1.fset fPrtClkEnEn (s1.fget fPrtClkEnEn ||| 2 ^ p.val)
    Does (.portInit p true) s ((s2.fset fPwrBootStatPortsReady s2.portsReady).bootApplied).recheck := by
  show execPortInit p true s = _
  simp only [execPortInit, h, decide_true, if_true, Bool.not_true, Bool.false_eq_true, if_false]
  rfl

theorem portInit_waits {p : PortIx} (ok : Bool) (h : s.mgmt.joinOrder.find? s.portWaits ≠ some (portCanton p)) :
    Does (.portInit p ok) s s := by
  show execPortInit p ok s = _
  simp only [execPortInit, h, decide_false, Bool.not_false, if_true, if_false]

theorem portTried_tryPort (p : PortIx) : (s.tryPort p).mgmt.portTried.getLsbD p = true := by
  show (setBit s.mgmt.portTried p true).getLsbD p = true
  rw [getLsbD_setBit_true _ p.isLt, decide_eq_true rfl, Bool.or_true]

/-- A bay has trained: it has failed where channels have, and nothing else has changed but what training finds. -/
theorem bayTrain_outcome {b : BayIx} (ls : List (Fin 32 × BitVec 264))
    (h : s.mgmt.joinOrder.find? s.bayUntrained = some (bayCanton b)) (hnone : s.fget fBayStatFailedCh (bayCanton b) = 0) :
    Gives (.bayTrain b ls) s fun s' =>
      let n := (List.range 32).countP fun ch => decide (8 < (s'.bay b).bad ch)
      s'.fget fBayStatState (bayCanton b) = (if n = 0 then 1 else 3) ∧ s'.fget fBayStatFailedCh (bayCanton b) = n ∧
      s'.mem = s.mem ∧ s'.tiles = s.tiles ∧ (∀ i, i ≠ b.val → s'.bay i = s.bay i) ∧ (ls = [] → n = 0 → Only [.regs] s s') := by
  obtain ⟨honly, hbay, hstate, hfailed⟩ := trainBay_keeps (s := s) b ls
  let u := s.trainBay b ls
  have hfail := only_failBays (s := u) b (u.bay b).badChannels
  have hbays : (u.failBays b (u.bay b).badChannels).bay = u.bay := funext (bay_of_bays (hfail .bays (by decide)))
  obtain ⟨hlen, hle⟩ := badChannels_length (u.bay b)
  rw [hnone] at hfailed
  obtain ⟨hstate', hfailed'⟩ := failBays_counts (s := u) b (u.bay b).badChannels (by rw [hfailed]; omega)
  refine ⟨_, bayTrain_done ls h, ?_⟩
  beta_reduce
  intro n
  have hn : n = (u.bay b).badChannels.length := by rw [hlen, ← hbays]
  refine ⟨by rw [hstate', hstate, hn], by rw [hfailed', hfailed, hn, Nat.zero_add], ?_, ?_, fun i hi => ?_, fun hls hzero => ?_⟩
  · exact (hfail .mem (by decide)).trans (honly .mem (by decide))
  · exact (hfail .tiles (by decide)).trans (honly .tiles (by decide))
  · rw [hbays]
    exact hbay i hi
  · have hregs : Only [.regs] s u := by
      rw [show u = _ from congrArg (s.trainBay b) hls]
      exact Only.fset _ _ _ _
    exact hregs.trans hfail

/-- A bay is ready once its scrub has ended: every byte of it is zero. -/
theorem bayReady_outcome {b : BayIx} (hon : s.online (bayCanton b) = true) (hst : s.fget fBayStatState (bayCanton b) = 1) :
    Gives (.bayReady b) s fun s' => s'.fget fBayStatState (bayCanton b) = 2 ∧
      (∀ a, bayBase b ≤ a → a < bayBase (b + 1) → s'.mem.byte a = 0) ∧
      (∀ a, a < bayBase b ∨ bayBase (b + 1) ≤ a → s'.mem.byte a = s.mem.byte a) ∧ s'.tiles = s.tiles ∧ s'.ports = s.ports := by
  let u := s.scrubEnd b
  have hre := only_recheck (s := u.fset fPwrBootStatBaysReady u.baysReady)
  have hbyte (a : Nat) : (u.fset fPwrBootStatBaysReady u.baysReady).recheck.mem.byte a = _ :=
    (congrArg (fun m => Memory.byte m a) (hre .mem (by decide))).trans (byte_zero s.mem (bayBase b) (bayBase (b + 1)) a)
  refine ⟨_, bayReady_done hon hst, ?_, fun a h1 h2 => ?_, fun a h => ?_, hre .tiles (by decide), hre .ports (by decide)⟩
  · rw [fget_recheck (.inl (by simp; omega)), State.fget_fset_reg _ _ _ _ _ _ (by simp; omega)]
    exact State.fget_fset_same _ fBayStatState _ _ (show 4 + 4 ≤ 64 by decide)
  · rw [hbyte, if_pos ⟨h1, h2⟩]
  · rw [hbyte, if_neg (by omega)]

/-- A port that does not calibrate is not taken again. -/
theorem portInit_refused_outcome {p : PortIx} (h : s.mgmt.joinOrder.find? s.portWaits = some (portCanton p)) :
    Gives (.portInit p false) s fun s' => s'.mgmt.portInit = s.mgmt.portInit ∧ s'.portWaits (portCanton p) = false ∧
      s'.ports = s.ports ∧ s'.mem = s.mem := by
  have hrecs := beyondRecs_report (s := s.tryPort p) (portSrc p) (portFailRec p)
  have honly := only_of_beyondRecs hrecs
  have hmgmt (g : Mgmt → BitVec 20) (hg : ∀ m, g { m with counters := [], alertOff := false } = g m) :
      g ((s.tryPort p).report (portSrc p) (portFailRec p)).mgmt = g (s.tryPort p).mgmt := by
    rw [← hg, ← hg (s.tryPort p).mgmt]
    exact congrArg (fun u => g u.mgmt) hrecs
  refine ⟨_, portInit_refused h, hmgmt (·.portInit) fun _ => rfl, portWaits_tried ?_, honly .ports (by decide), honly .mem (by decide)⟩
  rw [hmgmt (·.portTried) fun _ => rfl]
  exact portTried_tryPort p

end Sys2Proof.Machine
end

section
/-! SUPPORT. The engine-wide check (R225, R414, R415): what the sweep, the round and the clearing of counts leave alone. -/
namespace Sys2Proof.Machine

variable {s t : State}

/-! ### Registers apart from those that links and rounds change -/

/-- Offsets, within a window, of the registers that a failed link, a fault of a round and a record change. -/
def faultRegs : List Nat := [0x8000, 0x8008, 0x8028, 0x8108, 0x18]

/-- The registers apart from those. -/
def State.regsApart (s : State) (o : Nat) : W64 := if o % 0x10000 ∈ faultRegs then 0 else s.reg o

theorem fget_of_regsApart (h : t.regsApart = s.regsApart) {f : Fld} (hf : f.off % 0x10000 ∉ faultRegs) (i : Nat) :
    t.fget f i = s.fget f i := by
  have hreg := congrFun h (f.off + i * 0x10000)
  simp only [State.regsApart, Nat.add_mul_mod_self_right, if_neg hf] at hreg
  rw [State.fget, State.fget, hreg]

theorem regsApart_fset {f : Fld} (hf : f.off % 0x10000 ∈ faultRegs) (v i : Nat) : (s.fset f v i).regsApart = s.regsApart := by
  funext o
  by_cases ho : o % 0x10000 ∈ faultRegs
  · simp only [State.regsApart, if_pos ho]
  · have hne : o ≠ f.off + i * 0x10000 := by
      rintro rfl
      rw [Nat.add_mul_mod_self_right] at ho
      exact ho hf
    simp only [State.regsApart, if_neg ho]
    exact State.reg_setReg_ne _ _ _ _ hne

theorem regsApart_report (src : Nat) (r : Rec) : (s.report src r).regsApart = s.regsApart := by
  funext o
  by_cases ho : o % 0x10000 ∈ faultRegs
  · simp only [State.regsApart, if_pos ho]
  · simp only [State.regsApart, if_neg ho]
    refine onlyRegs_report src r o fun hm => ho ?_
    rw [List.mem_singleton.mp hm]
    decide

/-! ### What the check keeps -/

/-- What the outcome of the check is about beside the registers. -/
def State.upParts (s : State) : Memory × SMap Tile × SMap Port × (Nat → Bool) × BitVec 20 :=
  (s.mem, s.tiles, s.ports, s.online, s.mgmt.portInit)

/-- That, and the registers apart. -/
def State.checked (s : State) : (Memory × SMap Tile × SMap Port × (Nat → Bool) × BitVec 20) × (Nat → W64) :=
  (s.upParts, s.regsApart)

theorem upParts_of_beyondPennants (h : t.beyondPennants = s.beyondPennants) : t.upParts = s.upParts :=
  (congrArg State.upParts h : t.beyondPennants.upParts = s.beyondPennants.upParts)

theorem upParts_of_beyondRecs (h : t.beyondRecs = s.beyondRecs) : t.upParts = s.upParts :=
  upParts_of_beyondPennants (beyondPennants_of_beyondRecs h)

theorem checked_setMrouter (k : Nat) (m : MeshRouter) : (s.setMrouter k m).checked = s.checked := rfl

theorem checked_fset {f : Fld} (hf : f.off % 0x10000 ∈ faultRegs) (v i : Nat) : (s.fset f v i).checked = s.checked :=
  Prod.ext rfl (regsApart_fset hf v i)

theorem checked_report (src : Nat) (r : Rec) : (s.report src r).checked = s.checked :=
  Prod.ext (upParts_of_beyondRecs (beyondRecs_report src r)) (regsApart_report src r)

theorem checked_event (b m : Nat) (code : Byte) (n : Nat) : (s.event b m code n).checked = s.checked := by
  unfold State.event
  split <;> rfl

theorem checked_pathRec (k : Nat) (h : BitVec 512) : (s.pathRec k h).checked = s.checked :=
  ((checked_report _ _).trans (checked_fset (by decide) _ _)).trans (checked_fset (by decide) _ _)

theorem checked_send (k port : Nat) (p : Packet) : (s.send k port p).2.checked = s.checked := by
  unfold State.send
  split
  · refine (checked_setMrouter _ _).trans ?_
    split
    · exact checked_event _ _ _ _
    · rfl
  · exact checked_pathRec _ _

theorem checked_endPacket (k : Nat) (h : MFlit) : (s.endPacket k h).checked = s.checked := by
  unfold State.endPacket
  dsimp only
  generalize (if h.vc = 2 then none else packetOf [h]) = q
  split
  · split
    · exact (checked_send _ _ _).trans (checked_pathRec _ _)
    · exact checked_pathRec _ _
  · exact checked_pathRec _ _

theorem checked_showLinkFail (k d : Nat) : (s.showLinkFail k d).checked = s.checked := by
  unfold State.showLinkFail
  dsimp only
  split
  · rfl
  · split
    · rfl
    · split <;> exact checked_fset (by decide) _ _

theorem checked_failSide (k d : Nat) : (s.failSide k d).checked = s.checked := by
  have hclose : (s.closeDir k d).checked = s.checked :=
    ((checked_fset (by decide) _ _).trans (checked_showLinkFail _ _)).trans (checked_setMrouter _ _)
  rw [failSide_eq]
  split
  · exact (proj_foldl (fun _ _ => checked_endPacket _ _) _ _).trans hclose
  · exact hclose

theorem checked_failLink (k d : Nat) : (s.failLink k d).checked = s.checked := by
  have hsides (j : Nat) : ((s.failSide k d).failSide j (opp d)).checked = s.checked :=
    (checked_failSide _ _).trans (checked_failSide _ _)
  unfold State.failLink
  split
  · rfl
  · split
    · rfl
    · dsimp only
      split
      · exact (checked_fset (by decide) _ _).trans (hsides _)
      · exact hsides _

theorem checked_wptUpdate (c : Nat) : (s.wptUpdate c).checked = s.checked := by
  have honline : (s.wptUpdate c).online = s.online := congrArg Prod.snd (routes_wptUpdate c)
  refine Prod.ext ?_ rfl
  show (s.mem, s.tiles, s.ports, (s.wptUpdate c).online, s.mgmt.portInit) = s.upParts
  rw [honline]
  rfl

/-- The sweep keeps all but GEN and ABSENT_COUNT. -/
theorem checked_meshSweep (links : List (ClusterIx × Fin 4)) :
    (s.meshSweep links).checked = (s.mapChange fun s => s).checked := by
  have htables (t : State) (up : List Nat) : (up.foldl State.wptUpdate t).checked = t.checked :=
    proj_foldl (fun _ _ => checked_wptUpdate _) _ _
  unfold State.meshSweep
  dsimp only
  split
  · exact htables _ _
  · exact ((htables _ _).trans (proj_foldl (fun _ _ => checked_failLink _ _) _ _)).trans (htables _ _)

theorem checked_engineFault (c cause : Nat) : (s.engineFault c cause).checked = s.checked := by
  have hcause : (if cause = 1 then fCanHalStatOverrun else fCanHalStatMismatch).off % 0x10000 ∈ faultRegs := by
    split <;> decide
  exact (((checked_report _ _).trans (checked_fset hcause _ _)).trans (checked_fset (by decide) _ _)).trans
    (checked_fset (by decide) _ _)

theorem checked_engineRound (fault : Option (CantonIx × Bool)) : (s.engineRound fault).checked = s.checked := by
  unfold State.engineRound
  split
  · exact checked_engineFault _ _
  · rfl

theorem beyondRecs_engineFault (c cause : Nat) : (s.engineFault c cause).beyondRecs = s.beyondRecs := by
  unfold State.engineFault
  simp only [beyondRecs_report, beyondRecs_fset]

theorem eround_engineFault (c cause : Nat) : (s.engineFault c cause).eround = s.eround :=
  only_of_beyondRecs (beyondRecs_engineFault c cause) .eround (by decide)

theorem eround_fault (c : CantonIx) (m : Bool) : (s.engineRound (some (c, m))).eround = { op := some 1, void := true } :=
  eround_engineFault (s := { s with eround := { op := some 1, void := true } }) _ _

theorem eround_none : (s.engineRound none).eround = { op := some 1, agents := (List.range 100).filter s.reached } := rfl

/-! ### The clearing of counts -/

/-- The bits of a register that part e of R414 clears. -/
def countMask (off : Nat) : W64 :=
  BitVec.ofNat 64 (SMap.get 0 clearedCounts (baseOff off)) ||| BitVec.ofNat 64 ((regSpec off).w1c) &&& ~~~(BitVec.ofNat 64 (keptFlags off))

/-- The registers of a list without those bits. -/
def State.clearRegs (s : State) (offs : List Nat) : State :=
  offs.foldl (fun s off => s.setReg off (s.reg off &&& ~~~(countMask off))) s

theorem reg_clearRegs (offs : List Nat) (o : Nat) :
    (s.clearRegs offs).reg o = if o ∈ offs then s.reg o &&& ~~~(countMask o) else s.reg o := by
  induction offs generalizing s with
  | nil => rfl
  | cons x offs ih =>
    have hcons : s.clearRegs (x :: offs) = (s.setReg x (s.reg x &&& ~~~(countMask x))).clearRegs offs := by
      simp only [State.clearRegs, List.foldl_cons]
    rw [hcons, ih]
    by_cases hx : o = x
    · subst hx
      simp [BitVec.and_assoc]
    · simp [hx, State.reg_setReg_ne]

theorem reg_clearCounts (o : Nat) : s.clearCounts.reg o = (s.clearRegs (s.regs.map (·.1))).reg o := rfl

theorem getLsbD_and_not {m : W64} {j : Nat} (h : m.getLsbD j = false) (w : W64) :
    (w &&& ~~~m).getLsbD j = w.getLsbD j := by
  by_cases hj : j < 64
  · rw [BitVec.getLsbD_and, BitVec.getLsbD_not, h]
    simp [hj]
  · rw [BitVec.getLsbD_of_ge _ _ (by omega), BitVec.getLsbD_of_ge _ _ (by omega)]

/-- A field that holds no count and no sticky flag stays. -/
theorem fget_clearCounts {f : Fld} {i : Nat} (hf : ∀ j < f.n, (countMask (f.off + i * 0x10000)).getLsbD (f.lo + j) = false) :
    s.clearCounts.fget f i = s.fget f i := by
  apply Nat.eq_of_testBit_eq
  intro j
  simp only [State.fget, fld, Nat.testBit_mod_two_pow, Nat.testBit_shiftRight, BitVec.testBit_toNat, reg_clearCounts,
    reg_clearRegs]
  by_cases hj : j < f.n
  · split
    · rw [getLsbD_and_not (hf j hj)]
    · rfl
  · simp [hj]

theorem countMask_bayStat {c : Nat} (hc : c < 100) : countMask (0x408408 + c * 0x10000) = 0 := by
  have hbase : baseOff (0x408408 + c * 0x10000) = 0x408408 := by
    unfold baseOff
    rw [if_neg (by simp; omega), if_pos (by simp; omega)]
    omega
  have hspec : regSpec (0x408408 + c * 0x10000) = ⟨0, 0, 0, 0, 0⟩ := by
    unfold regSpec
    rw [hbase]
    rfl
  rw [countMask, hbase, hspec]
  simp only [BitVec.ofNat_eq_ofNat, BitVec.zero_and, BitVec.or_zero]
  rfl


/-! ### The outcome -/

/-- What the outcome of the check depends on. -/
def State.upComplete (s : State) : Bool :=
  decide (s.fget fGlbEngineStateJoined = 100 ∧ s.baysReady = 40 ∧ s.portsReady = 20)

/-- Firmware notes the outcome. -/
def State.noteReady (s : State) : State := s.updMgmt fun m => { m with cameReady := s.upComplete }

/-- The counts and the time that the check shows. -/
def State.showReady (s : State) : State :=
  let s := (s.fset fPwrBootStatBaysReady s.baysReady).fset fPwrBootStatPortsReady s.portsReady
  s.fset fPwrBootTimeReadyMs ((s.engineNs - s.mgmt.startNs) / 1000000)

/-- The state after the check, before the engine's state changes. -/
def State.checkEnd (s : State) : State := s.noteReady.showReady.bootApplied.fset fPwrBootStatLastStep 8

/-- The state that the sweep begins in. -/
def State.sweepStart (s : State) : State := (s.setEngine 4).fset fPwrBootStatLastStep 7

/-- The state after the round. -/
def State.checkRound (s : State) (k : CheckIn) : State := (s.sweepStart.meshSweep k.sweep).engineRound k.fault

theorem engineCheck_done (k : CheckIn) (he : s.engine = 3) (ht : s.trained = true) :
    Does (.engineCheck k) s
      ((s.checkRound k).clearCounts.checkEnd.enter (if (s.checkRound k).clearCounts.upComplete then 5 else 6)) := by
  have hstage : s.stage_ = 3 := by simp [State.stage_, he]
  have henter : s.enter 4 = s.setEngine 4 := if_neg (by rw [he]; decide)
  have hready (u : State) : (u.fget fGlbEngineStateJoined = 100 && u.baysReady = 40 && u.portsReady = 20) = u.upComplete := by
    simp [State.upComplete, Bool.and_assoc]
  show execEngineCheck k s = _
  simp only [execEngineCheck, hstage, ht, henter, hready, ne_eq, not_true_eq_false, decide_false, Bool.not_true, Bool.or_self,
    Bool.false_eq_true, if_false]
  rfl

theorem fget_mapChange {f : Fld} {i : Nat} (hf : f.off + i * 0x10000 ≠ 0x210) :
    (s.mapChange fun s => s).fget f i = s.fget f i :=
  (State.fget_fset_reg _ _ _ _ _ _ hf).trans (State.fget_fset_reg _ _ _ _ _ _ hf)

theorem gen_mapChange : (s.mapChange fun s => s).fget fGlbTpGenGen = (s.fget fGlbTpGenGen + 2) % 2 ^ 32 :=
  (State.fget_fset_other _ _ _ _ (by decide) (by decide)).trans (State.fget_fset_self _ _ _ (by decide))

theorem bayCanton_lt {b : Nat} (hb : b < 40) : bayCanton b < 100 := by
  revert b
  decide

theorem baysReady_congr (honline : t.online = s.online)
    (hstate : ∀ c < 100, t.fget fBayStatState c = s.fget fBayStatState c) : t.baysReady = s.baysReady := by
  unfold State.baysReady
  refine List.countP_congr fun b hb => ?_
  rw [honline, hstate _ (bayCanton_lt (List.mem_range.mp hb))]

theorem upParts_eq_iff : t.upParts = s.upParts ↔
    t.mem = s.mem ∧ t.tiles = s.tiles ∧ t.ports = s.ports ∧ t.online = s.online ∧ t.mgmt.portInit = s.mgmt.portInit := by
  simp [State.upParts]

theorem online_of_cantons (h : t.cantons = s.cantons) : t.online = s.online := by
  funext c
  have hc : t.canton c = s.canton c := congrArg (fun m => SMap.get ({} : Canton) m c) h
  rw [State.online, hc]
  rfl

theorem upParts_setEngine {st : Nat} (h8 : st ≠ 8) : (s.setEngine st).upParts = s.upParts := by
  have h := only_setEngine (s := s) h8
  have hmgmt : (s.setEngine st).mgmt = s.mgmt := h .mgmt (by decide)
  exact upParts_eq_iff.mpr ⟨h .mem (by decide), h .tiles (by decide), h .ports (by decide),
    online_of_cantons (h .cantons (by decide)), by rw [hmgmt]⟩

theorem upParts_fset (f : Fld) (v i : Nat) : (s.fset f v i).upParts = s.upParts := rfl

theorem upParts_setReg (o : Nat) (v : W64) : (s.setReg o v).upParts = s.upParts := rfl

theorem upParts_mapClusters (ks : List Nat) (f : Cluster → Cluster) : (s.mapClusters ks f).upParts = s.upParts := rfl

theorem upParts_mapRouters (ts : List Nat) (f : Nat → Router → Router) : (s.mapRouters ts f).upParts = s.upParts := rfl

theorem upParts_updMgmt {f : Mgmt → Mgmt} (hf : ∀ m, (f m).portInit = m.portInit) : (s.updMgmt f).upParts = s.upParts :=
  upParts_eq_iff.mpr ⟨rfl, rfl, rfl, rfl, hf _⟩

theorem upParts_clearRegs (offs : List Nat) : (s.clearRegs offs).upParts = s.upParts :=
  proj_foldl (fun _ _ => upParts_setReg _ _) offs s

theorem upParts_clearCounts : s.clearCounts.upParts = s.upParts :=
  (((upParts_updMgmt fun _ => rfl).trans (upParts_mapRouters _ _)).trans (upParts_mapClusters _ _)).trans (upParts_clearRegs _)

theorem upParts_showReady : s.showReady.upParts = s.upParts :=
  ((upParts_fset _ _ _).trans (upParts_fset _ _ _)).trans (upParts_fset _ _ _)

theorem upParts_bootApplied : s.bootApplied.upParts = s.upParts := upParts_fset _ _ _

theorem upParts_checkEnd : s.checkEnd.upParts = s.upParts := by
  rw [State.checkEnd, upParts_fset, upParts_bootApplied, upParts_showReady]
  exact upParts_updMgmt fun _ => rfl

theorem mgmt_checkEnd : s.checkEnd.mgmt = { s.mgmt with cameReady := s.upComplete } := by
  simp only [State.checkEnd, State.bootApplied, State.showReady, State.fset_mgmt]
  rfl

theorem eround_checkEnd : s.checkEnd.eround = s.eround := by
  simp only [State.checkEnd, State.bootApplied, State.showReady, State.fset_eround]
  rfl

theorem eround_clearCounts : s.clearCounts.eround = s.eround :=
  (proj_foldl (g := State.eround) (fun _ _ => State.setReg_eround _ _ _) _ s : (s.clearRegs (s.regs.map (·.1))).eround = s.eround)

/-- The check keeps every field of the registers that it does not show its outcome in. -/
theorem fget_checkEnd {f : Fld} {i : Nat} (h0 : f.off + i * 0x10000 ≠ 0x30000) (h8 : f.off + i * 0x10000 ≠ 0x30008) :
    s.checkEnd.fget f i = s.fget f i := by
  have hshow : s.showReady.fget f i = s.fget f i :=
    ((State.fget_fset_reg _ _ _ _ _ _ h8).trans (State.fget_fset_reg _ _ _ _ _ _ h0)).trans
      (State.fget_fset_reg _ _ _ _ _ _ h0)
  rw [State.checkEnd, State.fget_fset_reg _ _ _ _ _ _ h0, State.bootApplied, State.fget_fset_reg _ _ _ _ _ _ h0]
  exact hshow

section
variable (k : CheckIn)

theorem fget_sweepStart {f : Fld} {i : Nat} (h10 : f.off + i * 0x10000 ≠ 0x10 ∨ 9 ≤ f.lo)
    (h30 : f.off + i * 0x10000 ≠ 0x30000) : s.sweepStart.fget f i = s.fget f i :=
  (State.fget_fset_reg _ _ _ _ _ _ h30).trans (fget_setEngine (by decide) h10)

theorem upParts_sweepStart : s.sweepStart.upParts = s.upParts :=
  (upParts_fset _ _ _).trans (upParts_setEngine (by decide))

theorem checked_checkRound : (s.checkRound k).checked = (s.sweepStart.mapChange fun s => s).checked :=
  (checked_engineRound _).trans (checked_meshSweep _)

/-- The round and the sweep change no field of the outcome but GEN. -/
theorem fget_checkRound {f : Fld} {i : Nat} (hf : f.off % 0x10000 ∉ faultRegs) :
    (s.checkRound k).fget f i = (s.sweepStart.mapChange fun s => s).fget f i := by
  exact fget_of_regsApart (congrArg Prod.snd (checked_checkRound k)) hf i

theorem upParts_checkRound : (s.checkRound k).upParts = s.upParts := by
  have hround : (s.checkRound k).upParts = (s.sweepStart.mapChange fun s => s).upParts :=
    congrArg Prod.fst (checked_checkRound k)
  rw [hround, State.mapChange, upParts_fset, upParts_fset, upParts_sweepStart]

end

/-! ### From the start of the check to its outcome -/

section
variable (k : CheckIn)

/-- The state whose counts have been cleared. -/
def State.checkCleared (s : State) (k : CheckIn) : State := (s.checkRound k).clearCounts

theorem fget_checkCleared {f : Fld} {i : Nat} (hf : f.off % 0x10000 ∉ faultRegs)
    (hmask : ∀ j < f.n, (countMask (f.off + i * 0x10000)).getLsbD (f.lo + j) = false) (hgen : f.off + i * 0x10000 ≠ 0x210) :
    (s.checkCleared k).fget f i = s.sweepStart.fget f i :=
  ((fget_clearCounts hmask).trans (fget_checkRound k hf)).trans (fget_mapChange hgen)

theorem engine_checkCleared : (s.checkCleared k).engine = 4 := by
  refine (fget_checkCleared (i := 0) k (by decide) (by decide) (by decide)).trans ?_
  exact (State.fget_fset_reg _ _ _ _ _ _ (by decide)).trans (engine_setEngine (by decide) (by decide))

theorem joined_checkCleared : (s.checkCleared k).fget fGlbEngineStateJoined = s.fget fGlbEngineStateJoined :=
  (fget_checkCleared (i := 0) k (by decide) (by decide) (by decide)).trans (fget_sweepStart (.inr (by decide)) (by decide))

theorem gen_checkCleared : (s.checkCleared k).fget fGlbTpGenGen = (s.fget fGlbTpGenGen + 2) % 2 ^ 32 := by
  refine (fget_clearCounts (i := 0) (by decide)).trans ((fget_checkRound (i := 0) k (by decide)).trans ?_)
  rw [gen_mapChange, fget_sweepStart (i := 0) (.inl (by decide)) (by decide)]

theorem upParts_checkCleared : (s.checkCleared k).upParts = s.upParts :=
  upParts_clearCounts.trans (upParts_checkRound k)

theorem bayState_checkCleared {c : Nat} (hc : c < 100) :
    (s.checkCleared k).fget fBayStatState c = s.fget fBayStatState c := by
  refine (fget_checkCleared k (by decide) (fun j _ => ?_) (by simp; omega)).trans (fget_sweepStart (.inl ?_) ?_)
  · have hmask : countMask (fBayStatState.off + c * 0x10000) = 0 := countMask_bayStat hc
    rw [hmask]
    exact BitVec.getLsbD_zero
  · simp; omega
  · simp; omega

theorem upComplete_checkCleared : (s.checkCleared k).upComplete = s.upComplete := by
  obtain ⟨-, -, -, honline, hports⟩ := upParts_eq_iff.mp (upParts_checkCleared (s := s) k)
  have hbays := baysReady_congr honline fun c hc => bayState_checkCleared (s := s) k hc
  rw [State.upComplete, joined_checkCleared, hbays, State.portsReady, hports]
  rfl

theorem reached_sweep (links : List (ClusterIx × Fin 4)) : (s.sweepStart.meshSweep links).reached = s.reached := by
  have hchecked := checked_meshSweep (s := s.sweepStart) links
  have hparts : (s.sweepStart.meshSweep links).upParts = s.upParts := by
    refine (congrArg Prod.fst hchecked).trans ?_
    show (s.sweepStart.mapChange fun s => s).upParts = s.upParts
    rw [State.mapChange, upParts_fset, upParts_fset, upParts_sweepStart]
  obtain ⟨-, -, -, honline, -⟩ := upParts_eq_iff.mp hparts
  funext c
  have htree : (s.sweepStart.meshSweep links).fget fCanHalEtreeValid c = s.fget fCanHalEtreeValid c := by
    refine (fget_of_regsApart (congrArg Prod.snd hchecked) (by decide) c).trans ?_
    refine (fget_mapChange (by simp; omega)).trans (fget_sweepStart (.inl ?_) ?_) <;> simp <;> omega
  rw [State.reached, honline, State.inEtree, State.fbit, htree]
  rfl

theorem eround_checkCleared : (s.checkCleared k).eround = ((s.sweepStart.meshSweep k.sweep).engineRound k.fault).eround :=
  eround_clearCounts

theorem engine_checkEnd (h : s.engine = 4) : s.checkEnd.engine = 4 :=
  (fget_checkEnd (f := fGlbEngineStateState) (i := 0) (by decide) (by decide)).trans h

/-- The outcome of the check (R415). -/
theorem engineCheck_outcome (he : s.engine = 3) (ht : s.trained = true) : Gives (.engineCheck k) s fun s' =>
    s'.engine = (if s.fget fGlbEngineStateJoined = 100 ∧ s.baysReady = 40 ∧ s.portsReady = 20 then 5 else 6) ∧
    s'.fget fPwrBootStatLastStep = 8 ∧ s'.fget fGlbTpGenGen = (s.fget fGlbTpGenGen + 2) % 2 ^ 32 ∧
    s'.mgmt.cameReady = decide (s.fget fGlbEngineStateJoined = 100 ∧ s.baysReady = 40 ∧ s.portsReady = 20) ∧
    (k.fault = none → s'.eround.void = false ∧ s'.eround.agents = (List.range 100).filter s.reached) ∧
    (∀ c m, k.fault = some (c, m) → s'.eround.void = true) ∧
    s'.mem = s.mem ∧ s'.tiles = s.tiles ∧ s'.ports = s.ports := by
  have hdone := engineCheck_done k he ht
  have hst8 : (if s.upComplete then 5 else 6) ≠ 8 := by split <;> decide
  have hst16 : (if s.upComplete then 5 else 6) < 16 := by split <;> decide
  let u := s.checkCleared k
  have hready : u.upComplete = s.upComplete := upComplete_checkCleared k
  have henter : u.checkEnd.enter (if u.upComplete then 5 else 6) = u.checkEnd.setEngine (if s.upComplete then 5 else 6) := by
    rw [hready]
    exact if_neg (by rw [engine_checkEnd (engine_checkCleared k)]; decide)
  have honly := only_setEngine (s := u.checkEnd) hst8
  obtain ⟨hmem, htiles, hports, -, -⟩ := upParts_eq_iff.mp
    ((upParts_setEngine hst8).trans (upParts_checkEnd.trans (upParts_checkCleared (s := s) k)))
  have heround : (u.checkEnd.setEngine (if s.upComplete then 5 else 6)).eround = _ :=
    ((honly .eround (by decide)).trans eround_checkEnd).trans (eround_checkCleared k)
  have hcomplete : s.upComplete = true ↔ s.fget fGlbEngineStateJoined = 100 ∧ s.baysReady = 40 ∧ s.portsReady = 20 :=
    decide_eq_true_iff
  refine ⟨_, hdone.congr henter, ?_, ?_, ?_, ?_, fun hf => ?_, fun c m hf => ?_, hmem, htiles, hports⟩
  · refine (engine_setEngine hst8 hst16).trans ?_
    simp only [hcomplete]
  · rw [fget_setEngine hst8 (.inl (by decide))]
    exact State.fget_fset_self _ _ _ (by decide)
  · rw [fget_setEngine hst8 (.inl (by decide)), fget_checkEnd (by decide) (by decide), gen_checkCleared]
  · have hmgmt : (u.checkEnd.setEngine (if s.upComplete then 5 else 6)).mgmt = u.checkEnd.mgmt := honly .mgmt (by decide)
    rw [hmgmt, mgmt_checkEnd]
    exact hready
  · rw [heround, hf, eround_none, reached_sweep]
    exact ⟨rfl, rfl⟩
  · rw [heround, hf, eround_fault]

end

end Sys2Proof.Machine
end

section
open Sys2Proof Sys2Proof.Machine

/-- Settles O53: the training of a bay, the end of its scrub, the initialisation of a port, and the engine-wide check. -/
theorem bringUpEnds : Obligations.BringUpEnds := by
  unfold Obligations.BringUpEnds
  refine ⟨fun s b ls h => if_neg h, fun s b ls h hnone => bayTrain_outcome ls h hnone, fun s c => ?_, fun s b h => if_neg ?_,
    fun s b hon hst => bayReady_outcome hon hst, fun s p ok h => portInit_waits ok h,
    fun s p h => ⟨portInit_refused_outcome h, portInit_accepted h⟩, fun s k h => if_pos ?_,
    fun s k he ht => engineCheck_outcome k he ht⟩
  · simp [State.bayUntrained, and_assoc]
  · rcases h with h | h <;> simp [h]
  · rcases h with h | h <;> simp [h]
end

section
/-! SUPPORT. Records at their sources and what the ensign complex does with them (R216, R434, R439 to R441). -/
namespace Sys2Proof.Machine

variable {s t q : State}

/-! ### The pennant that records wait (R434) -/

theorem errNote_taken {f : RecFrom} {p : Pennant}
    (h : s.Hands (recNode f) ensignNode (fun p => p.code = 7) p q) : Does (.errNote f) s (q.fetch (recCode f)) := by
  have htake : s.takePennant (recNode f) ensignNode (fun p => p.code = 7) = (some p, q) := h
  show execErrNote f s = _
  simp only [execErrNote, htake, Option.isSome_some, if_true]

theorem errNote_none {f : RecFrom} (h : s.takePennant (recNode f) ensignNode (fun p => p.code = 7) = (none, q)) :
    Does (.errNote f) s (if (s.source (recCode f)).held.isEmpty then q
      else q.sendPennant (recNode f) ensignNode 7 (noteArg (s.source (recCode f)).held)) := by
  show execErrNote f s = _
  simp only [execErrNote, h, Option.isSome_none, Bool.false_eq_true, if_false]

theorem foldl_max_le {rs : List Rec} {n m : Nat} (hn : n ≤ m) (h : ∀ x ∈ rs, x.disp.toNat ≤ m) :
    rs.foldl (fun n r => max n r.disp.toNat) n ≤ m := by
  induction rs generalizing n with
  | nil => exact hn
  | cons x rs ih =>
    obtain ⟨hx, hrs⟩ := List.forall_mem_cons.mp h
    exact ih (Nat.max_le.mpr ⟨hn, hx⟩) hrs

/-- ARG names the newest SEQ, the number of records and the highest DISP. -/
theorem noteArg_append {rs : List Rec} {r : Rec} (hlen : rs.length < 64) (hdisp : ∀ x ∈ rs, x.disp.toNat ≤ r.disp.toNat) :
    noteArg (rs ++ [r]) = r.seq.toNat + 2 ^ 32 * (rs.length + 1) + 2 ^ 40 * r.disp.toNat := by
  have hmax : max (rs.foldl (fun n r => max n r.disp.toNat) 0) r.disp.toNat = r.disp.toNat :=
    Nat.max_eq_right (foldl_max_le (Nat.zero_le _) hdisp)
  have hmin : min (rs.length + 1) 64 = rs.length + 1 := Nat.min_eq_left hlen
  simp only [noteArg, List.foldl_append, List.foldl_cons, List.foldl_nil, List.length_append, List.length_cons, List.length_nil,
    Nat.zero_add, hmax, hmin]

/-! ### The records that sources hold -/

/-- The records that each source holds. -/
def State.heldAt (s : State) (n : Nat) : List Rec := (s.source n).held

theorem heldAt_of_sources (h : t.err.sources = s.err.sources) : t.heldAt = s.heldAt :=
  funext fun n => congrArg (fun m => (SMap.get ({} : RecSource) m n).held) h

theorem heldAt_setSource_same (n : Nat) (x : RecSource) : (s.setSource n x).heldAt n = x.held :=
  congrArg RecSource.held (SMap.get_put_same ({} : RecSource) s.err.sources n x)

theorem heldAt_setSource_keep {n : Nat} {x : RecSource} (h : x.held = s.heldAt n) : (s.setSource n x).heldAt = s.heldAt := by
  funext i
  by_cases hi : i = n
  · subst hi
    exact (heldAt_setSource_same _ _).trans h
  · exact congrArg RecSource.held (SMap.get_put_ne ({} : RecSource) s.err.sources n i x hi)

theorem heldAt_fset (f : Fld) (v i : Nat) : (s.fset f v i).heldAt = s.heldAt :=
  heldAt_of_sources (by rw [State.fset_err])

theorem heldAt_finc (f : Fld) (i k : Nat) : (s.finc f i k).heldAt = s.heldAt := heldAt_fset _ _ _

theorem heldAt_dropRecs (n : Nat) : (s.dropRecs n).heldAt = s.heldAt := by
  simp only [State.dropRecs, apply_ite State.heldAt, heldAt_fset, heldAt_finc, ite_self]

theorem heldAt_ledger (e : LedgerEntry) : (s.ledger e).heldAt = s.heldAt := rfl

theorem heldAt_ledgerDetect (r : Rec) : (s.ledgerDetect r).heldAt = s.heldAt := by
  simp only [State.ledgerDetect, apply_ite State.heldAt, heldAt_ledger, ite_self]

theorem heldAt_seenRec (d : BitVec 2) : (s.seenRec d).heldAt = s.heldAt := by
  unfold State.seenRec
  split
  case h_4 => rfl
  all_goals exact heldAt_fset _ _ _

theorem heldAt_cantonEvent (c : Nat) (code : Byte) (n : Nat) : (s.cantonEvent c code n).heldAt = s.heldAt := by
  unfold State.cantonEvent State.event
  split <;> rfl

theorem heldAt_detect (r : Rec) : (s.detect r).2.heldAt = s.heldAt := heldAt_of_sources rfl

theorem heldAt_oweRec (v : Rec) : (s.oweRec v).heldAt = s.heldAt := heldAt_setSource_keep rfl

/-- A record that the ensign complex takes is held by no source, and no source loses one for it. -/
theorem heldAt_takeRec (r : Rec) : (s.takeRec r).heldAt = s.heldAt := by
  unfold State.takeRec
  extract_lets r p lost stops err mgmt s1 s2
  have hs : s2.heldAt = s.heldAt := by
    simp only [s2, heldAt_ledgerDetect, heldAt_fset, heldAt_dropRecs]
    exact heldAt_of_sources rfl
  clear_value lost s2
  split
  · exact (heldAt_oweRec _).trans hs
  · exact hs

/-- The ensign complex's own records reach it at once. -/
theorem heldAt_report_ensign (r : Rec) : (s.report 0x300 r).heldAt = s.heldAt := by
  unfold State.report
  extract_lets r d s1 x u now replay direct r' runs s2 s3 err s4 taken
  have hs1 : s1.heldAt = s.heldAt := heldAt_detect _
  have hs3 : s3.heldAt = s1.heldAt := by
    refine Eq.trans ?_ (heldAt_seenRec r'.disp)
    simp only [s3, apply_ite State.heldAt, heldAt_cantonEvent, ite_self]
    rfl
  have hs4 : s4.heldAt = s1.heldAt := by
    refine Eq.trans ?_ hs3
    simp only [s4]
    split
    · exact heldAt_of_sources rfl
    · rfl
  clear_value s4
  split
  · refine (heldAt_setSource_keep ?_).trans hs1
    rfl
  · refine (heldAt_takeRec _).trans ((heldAt_setSource_keep ?_).trans (hs4.trans hs1))
    exact (congrFun hs4 0x300).symm

theorem heldAt_classify (r : Rec) (replay outcome : Byte) : (s.classify r replay outcome).heldAt = s.heldAt := by
  unfold State.classify
  extract_lets s1 s2
  have hs2 : s2.heldAt = s.heldAt := (heldAt_report_ensign _).trans (heldAt_ledger _)
  clear_value s2
  split
  · exact (heldAt_of_sources rfl).trans hs2
  · exact hs2

theorem heldAt_classifyFetched (r : Rec) : (s.classifyFetched r).heldAt = s.heldAt := by
  unfold State.classifyFetched
  split
  · exact heldAt_classify _ _ _
  · rfl

theorem heldAt_fetchRecs (src : Nat) : (s.fetchRecs src).heldAt src = [] := by
  unfold State.fetchRecs
  dsimp only
  split
  · next h => exact h
  · have hfold := proj_foldl (g := fun a : State × W32 × W32 => a.1.heldAt)
      (f := fun acc r => (acc.1.takeRec { r with coalesced := acc.2.1, dropped := acc.2.2 }, 0, 0))
      (fun _ _ => heldAt_takeRec _) (s.source src).held
      (s.setSource src { s.source src with held := [], coalesced := 0, dropped := 0 }, (s.source src).coalesced, (s.source src).dropped)
    exact (congrFun hfold src).trans (heldAt_setSource_same _ _)

/-- The source that is fetched from holds no record then. -/
theorem heldAt_fetch (src : Nat) : (s.fetch src).heldAt src = [] := by
  have hfold : (s.fetch src).heldAt = (s.fetchRecs src).heldAt := proj_foldl (fun _ _ => heldAt_classifyFetched _) _ _
  rw [hfold, heldAt_fetchRecs]

/-! ### Replays and retirement (R439 to R441) -/

section
variable (t : TileIx) (b : Bool)

theorem replay_busy (h : s.online (cantonOf t) = false ∨ s.idle (cantonOf t) = false) : Does (.replay t b) s s := by
  refine if_pos ?_
  rcases h with h | h <;> simp [h]

theorem replay_idle (hon : s.online (cantonOf t) = true) (hidle : s.idle (cantonOf t) = true) :
    Does (.replay t b) s (match (s.fetch (cantonSrc (cantonOf t))).replayOf t with
      | some q => (s.fetch (cantonSrc (cantonOf t))).replayEnd q (if b then 2 else 3)
      | none => s.fetch (cantonSrc (cantonOf t))) := by
  refine if_neg ?_
  simp [hon, hidle]

end

theorem idle_iff (c : Nat) : s.idle c = true ↔ s.sliceOf c = none ∨
    ∃ n, s.sliceOf c = some n ∧ ((s.slice n).phase = 1 ∨ (s.slice n).phase = 6) := by
  unfold State.idle
  cases s.sliceOf c <;> simp

theorem permanent_of_count {r : Rec} (hcls : siteCls r.cls = true) (hcount : 3 ≤ s.unitCount r.unitOf) :
    s.permanent r = true := by
  simp [State.permanent, Rec.classified, hcls, hcount]

end Sys2Proof.Machine
end

section
open Sys2Proof Sys2Proof.Machine

/-- Settles O55: records that wait and are fetched, replays, permanent units and their retirement. -/
theorem recordsAndRetirement : Obligations.RecordsAndRetirement := by
  unfold Obligations.RecordsAndRetirement
  refine ⟨fun s q c p h => errNote_taken (f := .canton c) h, fun s q k p h => errNote_taken (f := .port k) h,
    fun s q f h => ⟨fun hrs => ?_, fun hrs => ?_⟩, fun rs r hlen hdisp => ?_, fun s src => heldAt_fetch src,
    fun s t b => ⟨replay_busy t b, fun hon hidle => ⟨fun hnone => ?_, fun q hq => ?_⟩⟩,
    fun s t => ⟨fun hnone => ?_, fun q hq => ?_⟩, fun s q => ?_, fun s r => permanent_of_count,
    fun s ls h => ?_, fun s ls q h => ?_, fun s c => idle_iff c⟩
  · exact (errNote_none h).congr (by rw [hrs]; rfl)
  · exact (errNote_none h).congr (if_neg (by rwa [List.isEmpty_iff]))
  · exact noteArg_append hlen fun x hx => hdisp x (List.mem_append_left _ hx)
  · exact (replay_idle t b hon hidle).congr (by rw [hnone])
  · exact (replay_idle t b hon hidle).congr (by rw [hq])
  · show execReplayNotPossible t s = _
    rw [execReplayNotPossible, hnone]
  · show execReplayNotPossible t s = _
    rw [execReplayNotPossible, hq]
  · simp [State.replayEnd]
  · have hnone : s.err.retire.find? s.mayRetire = none := List.find?_eq_none.mpr fun q hq => by simp [h q hq]
    show execRetire ls s = _
    rw [execRetire, hnone]
  · have hmay := List.find?_some h
    simp only [State.mayRetire, Bool.and_eq_true] at hmay
    refine ⟨_, ?_, rfl, hmay⟩
    show execRetire ls s = _
    rw [execRetire, h]
end

section
/-! SUPPORT. The drained condition of a canton (R253): what holds of a drained one, and what a canton that watches for it
does. -/
namespace Sys2Proof.Machine

variable {s : State}

theorem Only.mapTiles (ts : List Nat) (f : Tile → Tile) : Only [.tiles] s (s.mapTiles ts f) := Only.withTiles _

theorem Tile.setRun_twice (b : Bool) (x : Tile) : (x.setRun b).setRun b = x.setRun b := rfl

/-- Every buffer of a present tile of a drained canton is empty. -/
theorem tileEmpty_drainedNow {c n t : Nat} (h : s.drainedNow c n = true) (ht : t ∈ s.cantonTiles c) :
    (s.tile t).iq = [] ∧ (s.tile t).inflight = [] := by
  unfold State.drainedNow at h
  simp only [Bool.and_eq_true, List.all_eq_true, List.isEmpty_iff, and_assoc] at h
  obtain ⟨htiles, -⟩ := h
  obtain ⟨hiq, -, hfly, -⟩ := htiles t ht
  exact ⟨hiq, hfly⟩

section
variable {c : CantonIx}

theorem cantonDrained_drained (hw : (s.canton c).watch = .draining)
    (hd : s.drainedNow c (s.canton c).watchSlice.toNat = true) :
    Does (.cantonDrained c) s (((s.mapTiles (s.cantonTiles c) (Tile.setRun false)).setCanton c
      { s.canton c with watch := .drained }).answer c ⟨(s.canton c).watchSlice.toNat, 2, 0, 0⟩) :=
  if_pos (by simp [hw, hd])

theorem cantonDrained_waits (h : (s.canton c).watch ≠ .draining ∨ s.drainedNow c (s.canton c).watchSlice.toNat = false) :
    Does (.cantonDrained c) s s :=
  if_neg (by rcases h with h | h <;> simp [h])

theorem drainArrival_refills (hw : (s.canton c).watch = .drained)
    (hd : s.drainedNow c (s.canton c).watchSlice.toNat = false) :
    Does (.drainArrival c) s (((s.mapTiles (s.cantonTiles c) (Tile.setRun true)).setCanton c
      { s.canton c with watch := .draining }).answer c ⟨(s.canton c).watchSlice.toNat, 2, 1, 0⟩) :=
  if_pos (by simp [hw, hd])

theorem drainArrival_none (h : (s.canton c).watch ≠ .drained ∨ s.drainedNow c (s.canton c).watchSlice.toNat = true) :
    Does (.drainArrival c) s s :=
  if_neg (by rcases h with h | h <;> simp [h])

end

end Sys2Proof.Machine
end

section
open Sys2Proof Sys2Proof.Machine

/-- Settles O29: what a canton that watches for a drained condition does, and what is empty where the condition holds. -/
theorem drainedCondition : Obligations.DrainedCondition := by
  unfold Obligations.DrainedCondition
  refine ⟨fun s c hw hd => cantonDrained_drained hw hd, fun s c hw hd => drainArrival_refills hw hd,
    fun s c t b => ⟨tile_mapTiles (Tile.setRun_twice b) _ s t, Only.mapTiles _ _⟩,
    fun s c => ⟨cantonDrained_waits, drainArrival_none⟩, fun s c n t hd ht hp => ?_⟩
  obtain ⟨hiq, hfly⟩ := tileEmpty_drainedNow hd (List.mem_filter.mpr ⟨ht, hp⟩)
  exact ⟨fun q => congrArg (fun m => SMap.get ([] : List Flit) m q) hiq, hfly⟩
end

section
/-! SUPPORT. Runs, handshakes and their timeouts (R240, R241, R243, R252 to R256): what the ensign complex does with a RUN,
with a canton's answer and at the end of a time. -/
namespace Sys2Proof.Machine

variable {s q : State}

/-! ### Descriptors performed (R354) -/

section
variable {r : Nat} {p : Desc → Bool}

theorem perform_taken {d : Desc} {t : State} (h : s.take r p = some (d, t)) (f : Desc → State → State) :
    s.perform r p f = f d t := by
  simp only [State.perform, h]

theorem perform_none (h : s.take r p = none) (f : Desc → State → State) : s.perform r p f = s := by
  simp only [State.perform, h]

end

/-! ### RUN and RESUME (R240, R241) -/

theorem run_taken {r : RingIx} {d : Desc} {t : State} (h : s.take r (fun d => d.op = 0x02) = some (d, t)) :
    Does (.run r) s (t.runSlice d) :=
  congrArg Host.Outcome.next (perform_taken h _)

/-- The state of a slice that RUN has started, before its cantons are told. -/
def State.runStart (s : State) (d : Desc) : State :=
  let x := s.slice d.slice
  ((s.invalidate d.slice).mapClusters x.clusters Cluster.startPf).setSlice d.slice
    { x with phase := 2, run := some { desc := d } }

theorem runSlice_refused {d : Desc} (h : (s.slice d.slice).loaded = false ∨ (s.slice d.slice).phase ≠ 1) :
    s.runSlice d = s.complete d { status := 0x03 } :=
  if_pos (by simpa using h)

theorem runSlice_started {d : Desc} (hl : (s.slice d.slice).loaded = true) (hp : (s.slice d.slice).phase = 1) :
    s.runSlice d = (s.runStart d).tell d.slice ⟨d.slice, 0, 0⟩ :=
  if_neg (by simp [hl, hp])

theorem only_runStart (d : Desc) : Only [.clusters, .slices] s (s.runStart d) :=
  (((Only.mapClusters _ _).mono (by decide)).trans ((Only.mapClusters _ _).mono (by decide))).trans
    ((Only.setSlice _ _).mono (by decide))

theorem slice_runStart (d : Desc) :
    (s.runStart d).slice d.slice = { s.slice d.slice with phase := 2, run := some { desc := d } } :=
  State.slice_setSlice_same _ _ _

/-- The controller of canton c has left its handshake; one that watched for a drained condition says that it has failed. -/
def State.endWatch (s : State) (c n : Nat) : State :=
  let s1 := s.setCanton c { s.canton c with watch := .none, purged := 0 }
  if (s.canton c).watch = .draining ∨ (s.canton c).watch = .drained then s1.answer c ⟨n, 2, 2, 0⟩ else s1

theorem resume_heard {c : CantonIx} {m : QMsg} (h : s.Hears c 0 m q) : Does (.resume c) s
    (if (q.slice m.slice).holds c = false then q
      else
        let q2 := q.endWatch c m.slice
        if (q2.slice m.slice).phase = 2 then (q2.mapTiles (q2.cantonTiles c) (Tile.setRun true)).started m.slice c
        else q2) := by
  show execResume c s = _
  simp only [execResume, receive_heard h, Bool.not_eq_true', Bool.or_eq_true, decide_eq_true_eq]
  rfl

section
variable {n c : Nat} {r : RunSt}

theorem started_idle (h : (s.slice n).run = none) : s.started n c = s := by
  simp only [State.started, h]

theorem started_last (h : (s.slice n).run = some r) (hend : (s.slice n).endFlag = 0xFF)
    (hall : ∀ e ∈ (s.slice n).cantons, e ∈ (c :: r.resumed).eraseDups) : s.started n c =
      ((s.setSlice n { s.slice n with run := none }).runSucceeded n).complete r.desc { r1 := s.engineNs } := by
  simp only [State.started, h]
  exact if_pos (by simpa [hend] using hall)

theorem started_waits (h : (s.slice n).run = some r)
    (hwait : (s.slice n).endFlag ≠ 0xFF ∨ ∃ e ∈ (s.slice n).cantons, e ∉ (c :: r.resumed).eraseDups) : s.started n c =
      s.setSlice n { s.slice n with run := some { r with resumed := (c :: r.resumed).eraseDups } } := by
  simp only [State.started, h]
  refine if_neg fun hdone => ?_
  simp only [Bool.and_eq_true, decide_eq_true_eq, List.all_eq_true, List.contains_iff_mem] at hdone
  obtain ⟨hend, hall⟩ := hdone
  rcases hwait with hne | ⟨e, he, hout⟩
  · exact hne hend
  · exact hout (hall e he)

end

/-! ### Answers (R243, R253 to R255) -/

section
variable {c : CantonIx}

theorem quiesceAck_heard {a : QAck} (h : s.HearsAck c a q) : Does (.quiesceAck c) s (q.advance c a) := by
  have hear : s.hearAck c = (some a, q) := h
  show execQuiesceAck c s = _
  simp only [execQuiesceAck, hear]

theorem quiesceAck_none (h : s.hearAck c = (none, q)) : Does (.quiesceAck c) s (q.lookAgain c) := by
  show execQuiesceAck c s = _
  simp only [execQuiesceAck, h]

end

/-- A handshake that has gone back to step 3, because canton c is not drained any more. -/
def ReconfSt.back (rc : ReconfSt) (x : Slice) (c : Nat) : ReconfSt :=
  let last : SMap Nat := if rc.step = 4 then x.cantons.map fun c => (c, 1) else rc.replies
  { rc with step := 3, replies := SMap.put 0 last c 2 }

theorem back_reply (rc : ReconfSt) (x : Slice) (c : Nat) : SMap.get 0 (rc.back x c).replies c = 2 := by
  simp only [ReconfSt.back, SMap.get_put_same]

section
variable {c : Nat} {a : QAck} {rc : ReconfSt} (hrc : (s.slice a.slice).reconf = some rc)
  (howe : a.op ≠ 2 ∨ (s.slice a.slice).owesReply c = false)
include hrc howe

/-- An answer that is owed to no abandoned epoch is the handshake's. -/
theorem advance_current : s.advance c a =
    if !rc.purge && (rc.step = 3 || rc.step = 4) && a.state = 1 then
      s.setSlice a.slice { s.slice a.slice with reconf := some (rc.back (s.slice a.slice) c) }
    else if a.op ≠ rc.wants then s
    else
      let rc := { rc with replies := SMap.put 0 rc.replies c (a.state + 1), discards := rc.discards + a.discards }
      (s.setSlice a.slice { s.slice a.slice with reconf := some rc }).proceed a.slice rc := by
  have howed : (decide (a.op = 2) && (s.slice a.slice).owesReply c) = false := by
    rcases howe with h | h <;> simp [h]
  unfold State.advance
  simp only [howed, hrc, Bool.false_eq_true, if_false]
  rfl

/-- An answer to another OP than the one waited for changes nothing. -/
theorem advance_other (hstay : rc.purge = true ∨ (rc.step ≠ 3 ∧ rc.step ≠ 4) ∨ a.state ≠ 1) (hop : a.op ≠ rc.wants) :
    s.advance c a = s := by
  have hback : (!rc.purge && (decide (rc.step = 3) || decide (rc.step = 4)) && decide (a.state = 1)) = false := by
    rcases hstay with h | ⟨h3, h4⟩ | h
    · simp [h]
    · simp [h3, h4]
    · simp [h]
  rw [advance_current hrc howe, hback, if_neg Bool.false_ne_true, if_pos hop]

theorem advance_back (hp : rc.purge = false) (hstep : rc.step = 3 ∨ rc.step = 4) (hstate : a.state = 1) :
    s.advance c a = s.setSlice a.slice { s.slice a.slice with reconf := some (rc.back (s.slice a.slice) c) } := by
  rw [advance_current hrc howe, if_pos (by simpa [hp, hstate] using hstep)]

end

/-! ### Ends that come with time or with a round (R241, R254, R363) -/

section
variable {n : SliceIx}

theorem endFlagDone_idle (h : (s.slice n).run = none) : Does (.endFlagDone n) s s := by
  show execEndFlagDone n s = _
  simp only [execEndFlagDone, h]

theorem runTimeout_idle (h : (s.slice n).run = none) : Does (.runTimeout n) s s := by
  show execRunTimeout n s = _
  simp only [execRunTimeout, h]

section
variable {q : RunSt} (h : (s.slice n).run = some q)
include h

theorem endFlagDone_waits
    (hwait : (s.slice n).endFlag = 0xFF ∨ (s.round n (s.slice n).endFlag.toNat).toTake = []) :
    Does (.endFlagDone n) s s := by
  show execEndFlagDone n s = _
  simp only [execEndFlagDone, h]
  exact if_pos (by rcases hwait with hw | hw <;> simp [hw])

theorem endFlagDone_ends (hflag : (s.slice n).endFlag ≠ 0xFF)
    (htake : (s.round n (s.slice n).endFlag.toNat).toTake ≠ []) :
    let f := (s.slice n).endFlag.toNat
    Does (.endFlagDone n) s ((((s.setRound n f { s.round n f with toTake := [] }).endRun n q.desc
      { r0 := (s.round n f).result.toNat + 2 ^ 16 })).runSucceeded n) := by
  show execEndFlagDone n s = _
  simp only [execEndFlagDone, h]
  exact if_neg (by simpa [htake] using hflag)

theorem runTimeout_unlimited (hlim : q.desc.fld 8 4 = 0) : Does (.runTimeout n) s s := by
  show execRunTimeout n s = _
  simp only [execRunTimeout, h, hlim, if_true]

theorem runTimeout_ends (hlim : q.desc.fld 8 4 ≠ 0) :
    Does (.runTimeout n) s (s.endRun n q.desc { status := 0x0D }) := by
  show execRunTimeout n s = _
  simp only [execRunTimeout, h, hlim, if_false]

end

theorem drainTimeout_idle (h : (s.slice n).reconf = none) : Does (.drainTimeout n) s s := by
  show execDrainTimeout n s = _
  simp only [execDrainTimeout, h]

theorem drainTimeout_noDesc {rc : ReconfSt} (h : (s.slice n).reconf = some rc) (hd : rc.desc = none) :
    Does (.drainTimeout n) s s := by
  show execDrainTimeout n s = _
  simp only [execDrainTimeout, h, hd]

end

/-- A tile without an announced epoch. -/
def Tile.noNext (t : Tile) : Tile := { t with epoch := { t.epoch with next := 0, nextValid := false } }

/-- A router without a staged table. -/
def Router.noStage (r : Router) : Router := { r with stage := none }

/-- A slice that goes on in its old epoch; the cantons us have yet to reply for the abandoned one. -/
def Slice.abandon (x : Slice) (rc : ReconfSt) (us : List Nat) : Slice :=
  { x with next := 0, phase := rc.was, mode := 0, reconf := none, gone := x.gone ++ [(rc.epoch, us)] }

/-- Slice n has abandoned its RECONFIGURE (R254). -/
def State.abandon (s : State) (n : Nat) (rc : ReconfSt) : State :=
  ((s.mapTiles (s.sliceTiles n) Tile.noNext).mapRouters (s.sliceTiles n) fun _ => Router.noStage).setSlice n
    ((s.slice n).abandon rc (s.sliceUp n))

section
variable {n : SliceIx} {rc : ReconfSt} {d : Desc} (h : (s.slice n).reconf = some rc) (hd : rc.desc = some d)
include h hd

theorem drainTimeout_none (hnone : rc.purge = true ∨ 5 ≤ rc.step ∨ d.fld 8 4 = 0) : Does (.drainTimeout n) s s := by
  show execDrainTimeout n s = _
  simp only [execDrainTimeout, h, hd]
  exact if_pos (by simpa [or_assoc] using hnone)

theorem drainTimeout_abandons (hp : rc.purge = false) (hstep : rc.step < 5) (hlim : d.fld 8 4 ≠ 0) :
    Does (.drainTimeout n) s (((s.abandon n rc).tell n ⟨n, 0, 0⟩).complete d { status := 0x06 }) := by
  show execDrainTimeout n s = _
  simp only [execDrainTimeout, h, hd]
  exact if_neg (by simp [hp, hstep, hlim])

end

section
variable (n : Nat) (rc : ReconfSt)

theorem only_abandon : Only [.tiles, .routers, .slices] s (s.abandon n rc) :=
  (((Only.mapTiles _ _).mono (by decide)).trans ((Only.mapRouters _ _).mono (by decide))).trans
    ((Only.setSlice _ _).mono (by decide))

theorem slice_abandon : (s.abandon n rc).slice n = (s.slice n).abandon rc (s.sliceUp n) :=
  State.slice_setSlice_same _ _ _

theorem tile_abandon {t : Nat} (ht : t ∈ s.sliceTiles n) : (s.abandon n rc).tile t = (s.tile t).noNext :=
  (tile_mapTiles (f := Tile.noNext) (fun _ => rfl) (s.sliceTiles n) s t).trans (if_pos ht)

theorem router_abandon {t : Nat} (ht : t ∈ s.sliceTiles n) : (s.abandon n rc).router t = (s.router t).noStage :=
  (router_mapRouters (f := fun _ => Router.noStage) (fun _ _ => rfl) (s.sliceTiles n)
    (s.mapTiles (s.sliceTiles n) Tile.noNext) t).trans (if_pos ht)

end

end Sys2Proof.Machine
end

section
open Sys2Proof Sys2Proof.Machine

/-- Settles O30: what each of the ensign complex's commands about the runs and handshakes of a slice does. -/
theorem sliceRuns : Obligations.SliceRuns := by
  unfold Obligations.SliceRuns
  refine ⟨fun s r d s1 htake => ⟨fun hno => ?_, fun hl hp => ?_⟩, fun s c m q hear => ?_, fun s n c => ?_,
    fun s c a q hear => quiesceAck_heard hear, fun s c q hear => quiesceAck_none hear, fun s c a rc hrc howe => ?_,
    fun s n q hrun => ?_, fun s n hrun => ⟨endFlagDone_idle hrun, runTimeout_idle hrun⟩,
    fun s n hrc => drainTimeout_idle hrc,
    fun s n rc hrc hd => drainTimeout_noDesc hrc hd, fun s n rc d hrc hd => ?_⟩
  · exact (run_taken htake).congr (runSlice_refused hno)
  · have hslice := slice_runStart (s := s1) d
    exact ⟨s1.runStart d, (run_taken htake).congr (runSlice_started hl hp), only_runStart d,
      congrArg Slice.phase hslice, congrArg Slice.run hslice⟩
  · intro q1 q2
    refine ⟨fun hout => ?_, fun hin hstay => ?_, fun hin hrun => ?_⟩
    · exact (resume_heard hear).congr (if_pos hout)
    · exact (resume_heard hear).congr ((if_neg (by simp [hin])).trans (if_neg hstay))
    · exact (resume_heard hear).congr ((if_neg (by simp [hin])).trans (if_pos hrun))
  · intro x
    refine ⟨started_idle, fun r hrun => ?_⟩
    intro done
    exact ⟨started_last hrun, started_waits hrun⟩
  · refine ⟨fun hstay hop => advance_other hrc howe hstay hop, fun hp hstep hstate => ?_⟩
    rw [advance_back hrc howe hp hstep hstate]
    exact ⟨Only.setSlice _ _, _, congrArg Slice.reconf (State.slice_setSlice_same _ _ _), rfl, back_reply _ _ _⟩
  · exact ⟨endFlagDone_waits hrun, endFlagDone_ends hrun, runTimeout_unlimited hrun, runTimeout_ends hrun⟩
  · refine ⟨drainTimeout_none hrc hd, fun hp hstep hlim => ?_⟩
    have hslice := slice_abandon (s := s) n rc
    exact ⟨s.abandon n rc, drainTimeout_abandons hrc hd hp hstep hlim, only_abandon n rc, congrArg Slice.reconf hslice,
      congrArg Slice.mode hslice, (congrArg Slice.cur hslice).trans rfl, congrArg Slice.phase hslice,
      (congrArg Slice.clean hslice).trans rfl, congrArg Slice.gone hslice, fun t ht =>
        ⟨congrArg Router.stage (router_abandon n rc ht), congrArg (fun x => x.epoch.nextValid) (tile_abandon n rc ht)⟩⟩
end

section
/-! SUPPORT. Descriptors that load, unload and reconfigure a slice (R239, R242, R252 to R255, R346, R356, R357), and the
steps of a handshake. -/
namespace Sys2Proof.Machine

variable {s t : State}

/-- A bit of a tag vector after one is set or cleared. -/
theorem getLsbD_setBit {n i : Nat} (x : BitVec n) (hi : i < n) (b : Bool) (k : Nat) :
    (setBit x i b).getLsbD k = if k = i then b else x.getLsbD k := by
  cases b
  case true =>
    rw [getLsbD_setBit_true x hi]
    by_cases hk : k = i <;> simp [hk]
  case false =>
    rw [setBit, if_neg Bool.false_ne_true, BitVec.getLsbD_and, BitVec.getLsbD_not, BitVec.getLsbD_ofNat, Nat.testBit_two_pow]
    by_cases hk : k = i
    · simp [hk, hi]
    · by_cases hn : k < n
      · simp [hk, hn, Ne.symm hk]
      · simp [hk, BitVec.getLsbD_of_ge x k (Nat.le_of_not_lt hn)]

/-! ### LOAD_IMAGE and UNLOAD (R239, R242, R356) -/

theorem imageBytes_flash {d : Desc} (h : 2 ≤ d.byte 16) :
    s.imageBytes d = s.mgmt.bytes (slotBase (d.byte 18)) (min (d.fld 32 8) 0xF0000000) := by
  obtain ⟨k, hk⟩ := Nat.exists_eq_add_of_le' h
  simp only [State.imageBytes, hk]

section
variable {r : RingIx} {late : Bool} {d : Desc}

theorem loadImage_none (ok : Bool) (h : s.take r (fun d => d.op = 0x01 && !(s.loadWaits d late)) = none) :
    Does (.loadImage r ok late) s s := congrArg Host.Outcome.next (perform_none h _)

section
variable (h : s.take r (fun d => d.op = 0x01 && !(s.loadWaits d late)) = some (d, t))
include h

/-- The host holds the image: its bytes, or no answer to the reads. -/
theorem loadImage_host (hsrc : d.byte 16 = 0) :
    Does (.loadImage r true late) s (t.loadOver d (t.hostRead (d.fld 24 8) (d.fld 32 8)) false) ∧
      Does (.loadImage r false late) s (t.hostFail d) := by
  constructor
  · show execLoadImage r true late s = _
    simp only [execLoadImage, perform_taken h, hsrc, State.imageBytes, if_true]
  · show execLoadImage r false late s = _
    simp only [execLoadImage, perform_taken h, hsrc, Bool.false_eq_true, if_false]

/-- Engine memory holds the image: its rows, or what became of the first that failed. -/
theorem loadImage_rows (ok : Bool) (hsrc : d.byte 16 = 1) :
    let q := t.readRows whoHost (d.fld 24 8) ((d.fld 32 8 + 63) / 64)
    Does (.loadImage r ok late) s
      (if q.2.1.status = 0 then q.2.2.loadOver d (q.1.take (d.fld 32 8)) q.2.1.corrected
       else q.2.2.complete d { status := q.2.1.code, isolation := q.2.1.isolation, corrected := q.2.1.corrected }) := by
  show execLoadImage r ok late s = _
  simp only [execLoadImage, perform_taken h, hsrc]

/-- An image slot of the flash holds the image. -/
theorem loadImage_flash (ok : Bool) (hsrc : 2 ≤ d.byte 16) : Does (.loadImage r ok late) s
    (t.loadOver d (t.mgmt.bytes (slotBase (d.byte 18)) (min (d.fld 32 8) 0xF0000000)) false) := by
  obtain ⟨k, hk⟩ := Nat.exists_eq_add_of_le' hsrc
  show execLoadImage r ok late s = _
  simp only [execLoadImage, perform_taken h, ← imageBytes_flash hsrc, hk]

end

theorem loadWaits_master (hsrc : d.byte 16 = 0) (hm : s.host.master = false) : s.loadWaits d late = true := by
  simp [State.loadWaits, hsrc, hm]

theorem loadWaits_handshake (h : (s.slice d.slice).reconf.isSome = true) : s.loadWaits d late = true := by
  simp [State.loadWaits, h]

theorem loadOver_unloaded (img : List Byte) (fixed : Bool) (h : (s.slice d.slice).loaded = false) :
    s.loadOver d img fixed = s.load d img fixed := if_neg (by simp [h])

theorem loadOver_loaded (img : List Byte) (fixed : Bool) (h : (s.slice d.slice).loaded = true) :
    s.loadOver d img fixed = s.stopFor d.slice (.load img fixed) (some d) := if_pos h

theorem unload_taken (h : s.take r (fun d => d.op = 0x04 && (s.slice d.slice).reconf.isNone) = some (d, t)) :
    Does (.unload r) s
      (if (t.slice d.slice).loaded then t.stopFor d.slice .unload (some d) else t.complete d { status := 0x03 }) :=
  congrArg Host.Outcome.next (perform_taken h _)

end

/-! ### A handshake begins (R243, R255) -/

/-- A slice whose handshake has begun. -/
def Slice.inHandshake (x : Slice) (rc : ReconfSt) : Slice :=
  { x with phase := 3, mode := if rc.goal ≠ .switch then 0 else if rc.purge then 2 else 1, reconf := some rc }

theorem handshake_eq (n : Nat) (rc : ReconfSt) : s.handshake n rc =
    (s.setSlice n ((s.slice n).inHandshake rc)).tell n ⟨n, if rc.purge then 1 else 2, 0⟩ := rfl

/-- The handshake that stops slice n for a goal. -/
def State.stopRc (s : State) (n : Nat) (goal : Goal) (d : Option Desc) : ReconfSt :=
  let x := s.slice n
  { desc := d, purge := true, config := 0, epoch := x.cur, step := 2, was := x.phase, goal := goal }

section
variable {n : Nat} {goal : Goal} {d : Option Desc}

theorem stopFor_alone (h : s.sliceUp n = []) : s.stopFor n goal d = s.sliceStopped n (s.stopRc n goal d) :=
  if_pos (List.isEmpty_iff.mpr h)

theorem stopFor_tells (h : s.sliceUp n ≠ []) : s.stopFor n goal d =
    (s.setSlice n ((s.slice n).inHandshake (s.stopRc n goal d))).tell n ⟨n, 1, 0⟩ :=
  if_neg (by simpa using h)

theorem inHandshake_stop (hgoal : goal ≠ .switch) : (s.slice n).inHandshake (s.stopRc n goal d) =
    { s.slice n with phase := 3, mode := 0, reconf := some (s.stopRc n goal d) } := by
  have hrc : (s.stopRc n goal d).goal ≠ .switch := hgoal
  simp only [Slice.inHandshake, ne_eq, hrc, not_false_eq_true, if_true]

theorem sliceStopped_unload {rc : ReconfSt} {e : Desc} (hgoal : rc.goal = .unload) (hd : rc.desc = some e) :
    s.sliceStopped n rc = (s.unload n).complete e {} := by
  simp only [State.sliceStopped, hgoal, hd]

end

/-! ### Its steps (R253, R255) -/

section
variable {n : Nat} {rc : ReconfSt}

theorem proceed_waits (h : ∃ c ∈ s.sliceUp n, SMap.get 0 rc.replies c ≠ 1) : s.proceed n rc = s :=
  if_pos (by simpa using h)

/-- What follows once every canton has confirmed that it is drained. -/
def State.afterDrain (s : State) (n : Nat) (rc : ReconfSt) : State :=
  match rc.goal with
  | .off u thermal => s.planDrained n u thermal
  | _ => s.switchSlice n rc

section
variable (h : ∀ c ∈ s.sliceUp n, SMap.get 0 rc.replies c = 1)
include h

/-- The step that a handshake takes is its MODE's next one. -/
theorem proceed_replied : s.proceed n rc =
    if rc.purge && rc.step = 2 then if rc.goal = .switch then s.switchSlice n rc else s.sliceStopped n rc
    else if !rc.purge && rc.step = 3 then
      (s.setSlice n { s.slice n with reconf := some { rc with step := 4, replies := [] } }).tell n ⟨n, 3, 0⟩
    else if !rc.purge && rc.step = 4 then s.afterDrain n rc
    else s.finishReconf n rc :=
  if_neg (by simpa using h)

theorem proceed_purged (hp : rc.purge = true) (hstep : rc.step = 2) (hgoal : rc.goal = .switch) :
    s.proceed n rc = s.switchSlice n rc := by
  simp [proceed_replied h, hp, hstep, hgoal]

theorem proceed_stopped (hp : rc.purge = true) (hstep : rc.step = 2) (hgoal : rc.goal ≠ .switch) :
    s.proceed n rc = s.sliceStopped n rc := by
  simp [proceed_replied h, hp, hstep, hgoal]

theorem proceed_confirms (hp : rc.purge = false) (hstep : rc.step = 3) : s.proceed n rc =
    (s.setSlice n { s.slice n with reconf := some { rc with step := 4, replies := [] } }).tell n ⟨n, 3, 0⟩ := by
  simp [proceed_replied h, hp, hstep]

theorem proceed_drained (hp : rc.purge = false) (hstep : rc.step = 4) (hgoal : rc.goal = .switch) :
    s.proceed n rc = s.switchSlice n rc := by
  simp [proceed_replied h, hp, hstep, State.afterDrain, hgoal]

theorem proceed_ends (hstep : 5 ≤ rc.step) : s.proceed n rc = s.finishReconf n rc := by
  have h2 : rc.step ≠ 2 := by omega
  have h3 : rc.step ≠ 3 := by omega
  have h4 : rc.step ≠ 4 := by omega
  simp [proceed_replied h, h2, h3, h4]

end

end

/-! ### RECONFIGURE (R252 to R255) -/

section
variable {r : RingIx} {d : Desc}

theorem reconfigureDrain_taken (h : s.take r (fun d => d.op = 0x03 && d.byte 17 = 1) = some (d, t)) :
    Does (.reconfigureDrain r) s (t.reconfigure d) := congrArg Host.Outcome.next (perform_taken h _)

theorem reconfigurePurge_taken (h : s.take r (fun d => d.op = 0x03 && d.byte 17 = 2) = some (d, t)) :
    Does (.reconfigurePurge r) s (t.reconfigure d) := congrArg Host.Outcome.next (perform_taken h _)

end

/-- A tile to which the next epoch is announced. -/
def Tile.announce (e : BitVec 4) (t : Tile) : Tile := { t with epoch := { t.epoch with next := e, nextValid := true } }

/-- The epoch that a RECONFIGURE names. -/
def Desc.epoch (d : Desc) : BitVec 4 := BitVec.ofNat 4 (d.byte 18)

/-- Step 1 of a RECONFIGURE: tables are staged in the routers of its slice, and a DRAIN announces the epoch to its tiles. -/
def State.stageTables (s : State) (d : Desc) (tabs : SMap Router) : State :=
  let u := s.mapRouters (s.sliceTiles d.slice) fun t r => r.stageTable d.epoch (d.byte 17 = 2) (SMap.get {} tabs t)
  if d.byte 17 = 2 then u else u.mapTiles (s.sliceTiles d.slice) (Tile.announce d.epoch)

theorem only_stageTables (d : Desc) (tabs : SMap Router) : Only [.tiles, .routers] s (s.stageTables d tabs) := by
  have hrouters : Only [.tiles, .routers] s _ := (Only.mapRouters (s.sliceTiles d.slice) fun t r =>
    r.stageTable d.epoch (d.byte 17 = 2) (SMap.get {} tabs t)).mono (by decide)
  unfold State.stageTables
  dsimp only
  split
  · exact hrouters
  · exact hrouters.trans ((Only.mapTiles _ _).mono (by decide))

/-- The tables of the configuration that a RECONFIGURE names, rotated for the spares in service. -/
def State.reconfTables (s : State) (d : Desc) (m : Img) : SMap Router × Option Nat :=
  s.rotate (s.tablesOf (m.records (s.slice d.slice).shifts (d.byte 16)) (s.sliceTiles d.slice))

/-- The handshake of a RECONFIGURE that finds its slice in a phase. -/
def Desc.reconf (d : Desc) (was : BitVec 4) : ReconfSt :=
  { desc := some d, purge := d.byte 17 = 2, config := d.byte 16, epoch := d.epoch
    step := if d.byte 17 = 2 then 2 else 3, was := was }

/-- A slice that goes to a new epoch. -/
def Slice.toEpoch (x : Slice) (e : BitVec 4) : Slice := { x.mark e false with next := e }

/-- The state of an accepted RECONFIGURE: tables staged, and the slice on its way to the new epoch. -/
def State.reconfStaged (s : State) (d : Desc) (m : Img) : State :=
  (s.stageTables d (s.reconfTables d m).1).setSlice d.slice
    ((s.slice d.slice).toEpoch d.epoch)

/-- The same once its handshake has begun, before its cantons are told. -/
def State.reconfStart (s : State) (d : Desc) (m : Img) : State :=
  let u := s.reconfStaged d m
  u.setSlice d.slice ((u.slice d.slice).inHandshake (d.reconf (s.slice d.slice).phase))

section
variable {d : Desc}

theorem reconfigure_busy (h : (s.slice d.slice).loaded = false ∨ (s.slice d.slice).reconf.isSome = true) :
    s.reconfigure d = s.complete d { status := 0x03 } :=
  if_pos (by simpa using h)

section
variable (hl : (s.slice d.slice).loaded = true) (hrc : (s.slice d.slice).reconf = none)
include hl hrc

/-- A loaded slice that no handshake holds may be reconfigured. -/
theorem not_busy : ¬(!(s.slice d.slice).loaded || (s.slice d.slice).reconf.isSome) = true := by simp [hl, hrc]

theorem reconfigure_epoch (h : d.epoch = (s.slice d.slice).cur ∨ (s.slice d.slice).clean.getLsbD d.epoch.toNat = false) :
    s.reconfigure d = s.complete d { status := 0x05 } :=
  (if_neg (not_busy hl hrc)).trans (if_pos (by simpa [Desc.epoch] using h))

section
variable {m : Img} (hcur : d.epoch ≠ (s.slice d.slice).cur) (hclean : (s.slice d.slice).clean.getLsbD d.epoch.toNat = true)
  (himg : (s.slice d.slice).img = some m)
include hcur hclean himg

theorem reconfigure_tables : s.reconfigure d =
    if !(m.configs.contains (d.byte 16)) || (s.reconfTables d m).2.isSome ||
        !(tablesOk (s.slice d.slice).holds (s.reconfTables d m).1) then s.complete d { status := 0x02 }
    else (s.reconfStart d m).tell d.slice ⟨d.slice, if d.byte 17 = 2 then 1 else 2, 0⟩ := by
  refine (if_neg (not_busy hl hrc)).trans ((if_neg (by simpa [Desc.epoch] using ⟨hcur, hclean⟩)).trans ?_)
  have hpurge : (if decide (d.byte 17 = 2) = true then 1 else 2) = if d.byte 17 = 2 then 1 else 2 := by
    simp only [decide_eq_true_eq]
  simp only [himg]
  rw [← hpurge]
  rfl

theorem reconfigure_refused (h : m.configs.contains (d.byte 16) = false ∨ (s.reconfTables d m).2.isSome = true ∨
    tablesOk (s.slice d.slice).holds (s.reconfTables d m).1 = false) : s.reconfigure d = s.complete d { status := 0x02 } :=
  (reconfigure_tables hl hrc hcur hclean himg).trans (if_pos (by simpa [or_assoc] using h))

theorem reconfigure_accepted (hconf : m.configs.contains (d.byte 16) = true) (hrot : (s.reconfTables d m).2 = none)
    (hok : tablesOk (s.slice d.slice).holds (s.reconfTables d m).1 = true) :
    s.reconfigure d = (s.reconfStart d m).tell d.slice ⟨d.slice, if d.byte 17 = 2 then 1 else 2, 0⟩ :=
  (reconfigure_tables hl hrc hcur hclean himg).trans (if_neg (by simp only [hconf, hrot, hok]; decide))

end

end

end

section
variable (d : Desc) (m : Img)

theorem only_reconfStart : Only [.tiles, .routers, .slices] s (s.reconfStart d m) :=
  ((only_stageTables _ _).mono (by decide)).trans
    (((Only.setSlice _ _).mono (by decide)).trans ((Only.setSlice _ _).mono (by decide)))

theorem slice_reconfStart : (s.reconfStart d m).slice d.slice =
    ((s.slice d.slice).toEpoch d.epoch).inHandshake (d.reconf (s.slice d.slice).phase) := by
  refine (State.slice_setSlice_same _ _ _).trans ?_
  rw [State.reconfStaged, State.slice_setSlice_same]

theorem mode_reconf (x : Slice) (was : BitVec 4) :
    (x.inHandshake (d.reconf was)).mode = if d.byte 17 = 2 then 2 else 1 := by
  simp [Slice.inHandshake, Desc.reconf]

end

end Sys2Proof.Machine
end

section
open Sys2Proof Sys2Proof.Machine

/-- Settles O31: where an image comes from, how a handshake begins and goes on, and which RECONFIGURE is refused. -/
theorem sliceDescriptors : Obligations.SliceDescriptors := by
  unfold Obligations.SliceDescriptors
  refine ⟨fun s r late d s1 htake => ⟨loadImage_host htake, fun ok hsrc => loadImage_rows htake ok hsrc,
      fun ok hsrc => loadImage_flash htake ok hsrc⟩,
    fun s r ok late hnone => loadImage_none ok hnone, fun s d late => ⟨loadWaits_master, loadWaits_handshake⟩,
    fun s d img fixed => ⟨loadOver_unloaded img fixed, loadOver_loaded img fixed⟩,
    fun s r d s1 htake => ⟨fun hl => ?_, fun hl => ?_⟩, fun s n goal d hgoal => ?_, fun s n rc => ?_,
    fun s r d s1 => ⟨reconfigureDrain_taken, reconfigurePurge_taken⟩, fun s d => ?_⟩
  · exact (unload_taken htake).congr (if_pos hl)
  · exact (unload_taken htake).congr (if_neg (by simp [hl]))
  · intro x rc
    refine ⟨stopFor_alone, fun hup => ?_, fun e he hunload => sliceStopped_unload hunload he⟩
    refine ⟨_, stopFor_tells hup, Only.setSlice _ _, ?_⟩
    rw [State.slice_setSlice_same, inHandshake_stop hgoal]
    rfl
  · exact ⟨proceed_waits, fun hall => ⟨proceed_purged hall, proceed_stopped hall, proceed_confirms hall,
      proceed_drained hall, proceed_ends hall⟩⟩
  · intro x e
    refine ⟨reconfigure_busy, reconfigure_epoch, fun m hl hrc hcur hclean himg => ?_⟩
    intro q
    refine ⟨reconfigure_refused hl hrc hcur hclean himg, fun hconf hrot hok => ?_⟩
    have hslice := slice_reconfStart (s := s) d m
    refine ⟨s.reconfStart d m, reconfigure_accepted hl hrc hcur hclean himg hconf hrot hok, only_reconfStart d m,
      congrArg Slice.phase hslice, (congrArg Slice.mode hslice).trans (mode_reconf d _ _),
      (congrArg Slice.next hslice).trans rfl, ?_⟩
    rw [hslice]
    exact (getLsbD_setBit _ d.epoch.isLt false _).trans (if_pos rfl)
end

section
/-! SUPPORT. The planned power-off of a canton and its return (R386, R393, R396, R400, R469): which cantons are on, and which
positions are present, after each of its operations. -/
namespace Sys2Proof.Machine

variable {s t : State}

/-! ### Operations that change no canton and no position -/

/-- The cantons and TILE_PRESENT. -/
def State.standing (s : State) : SMap Canton × SMap W64 := (s.cantons, s.present)

theorem standing_of_only {ps : List Part} (h : Only ps s t) (hc : .cantons ∉ ps) (hp : .present ∉ ps) :
    t.standing = s.standing := Prod.ext (h .cantons hc) (h .present hp)

theorem canton_of_standing (h : t.standing = s.standing) (c : Nat) : t.canton c = s.canton c :=
  congrArg (fun p : SMap Canton × SMap W64 => SMap.get ({} : Canton) p.1 c) h

theorem isPresent_of_standing (h : t.standing = s.standing) (u : Nat) : t.isPresent u = s.isPresent u :=
  congrArg (fun p : SMap Canton × SMap W64 => (SMap.get (0 : W64) p.2 (u / 64)).getLsbD (u % 64)) h

theorem online_of_standing (h : t.standing = s.standing) : t.online = s.online := online_of_cantons (congrArg Prod.fst h)

theorem standing_of_beyondPennants (h : t.beyondPennants = s.beyondPennants) : t.standing = s.standing :=
  standing_of_only (only_of_beyondPennants h) (by decide) (by decide)

theorem standing_report (src : Nat) (r : Rec) : (s.report src r).standing = s.standing :=
  standing_of_beyondPennants (beyondPennants_of_beyondRecs (beyondRecs_report src r))

theorem standing_setReg (o : Nat) (v : W64) : (s.setReg o v).standing = s.standing := (rfl)

theorem standing_fset (f : Fld) (v i : Nat) : (s.fset f v i).standing = s.standing := (rfl)

theorem standing_updHost (f : HostIf → HostIf) : (s.updHost f).standing = s.standing := (rfl)

theorem standing_setSlice (n : Nat) (x : Slice) : (s.setSlice n x).standing = s.standing := (rfl)

/-- The ensign complex's words to a slice's cantons. -/
theorem beyondPennants_tell (n : Nat) (m : QMsg) : (s.tell n m).beyondPennants = s.beyondPennants :=
  proj_foldl (fun _ _ => beyondPennants_sendPennant _ _ _ _) _ _

theorem standing_tell (n : Nat) (m : QMsg) : (s.tell n m).standing = s.standing :=
  standing_of_beyondPennants (beyondPennants_tell n m)

theorem slice_tell (n : Nat) (m : QMsg) (k : Nat) : (s.tell n m).slice k = s.slice k :=
  congrArg (fun l => SMap.get ({} : Slice) l k) (only_of_beyondPennants (beyondPennants_tell n m) .slices (by decide))

theorem standing_loseReady (src : Nat) : (s.loseReady src).standing = s.standing := by
  simp only [State.loseReady, apply_ite State.standing, standing_fset, ite_self]

theorem standing_refFail (cause : Nat) : (s.refFail cause).standing = s.standing := by
  simp only [State.refFail, State.finc, standing_report, standing_fset]

theorem standing_refLost (cause : Nat) : (s.refLost cause).standing = s.standing := by
  simp only [State.refLost, State.noClock, State.switchEnd, apply_ite State.standing, standing_fset, standing_refFail, ite_self]

theorem standing_tpLost (p : Nat) : (s.tpLost p).standing = s.standing := by
  simp only [State.tpLost, apply_ite State.standing, standing_refLost, standing_loseReady, ite_self]

theorem standing_steer : s.steer.standing = s.standing := by
  refine proj_foldl (fun u c => ?_) _ _
  simp only [apply_ite State.standing, standing_fset, ite_self]

theorem standing_buildEtree : s.buildEtree.standing = s.standing := by
  refine proj_foldl (fun u c => ?_) _ _
  split <;> simp only [standing_fset, standing_setReg]

theorem standing_mapChange (f : State → State) : (s.mapChange f).standing = (f s).standing := by
  simp only [State.mapChange, standing_fset]

theorem standing_degrade : s.degrade.standing = s.standing := by
  unfold State.degrade
  split
  · exact standing_of_only (only_setEngine (by decide)) (by decide) (by decide)
  · split <;> rfl

theorem standing_completeOne (d : Desc) (q : Result) : (s.completeOne d q).standing = s.standing := by
  simp only [State.completeOne, State.ringSignal, State.msi, State.setRing, State.hostWrite, apply_ite State.standing,
    standing_updHost, ite_self]

theorem standing_fences : s.fences.standing = s.standing := by
  refine proj_foldl (fun u d => ?_) _ _
  split
  · exact standing_completeOne _ _
  · rfl

theorem standing_complete (d : Desc) (q : Result) : (s.complete d q).standing = s.standing :=
  standing_fences.trans (standing_completeOne d q)

theorem standing_stopSlice (n : Nat) (tile : Option (Nat × Byte)) : (s.stopSlice n tile).standing = s.standing := by
  unfold State.stopSlice
  extract_lets x c s1 x' rc s2 s3
  have hs3 : s3.standing = s.standing := by
    simp only [s3]
    split
    · exact standing_complete _ _
    · rfl
  clear_value s3
  split
  · rfl
  · split
    · exact (standing_complete _ _).trans hs3
    · exact hs3

/-! ### TILE_PRESENT (R27) -/

theorem isPresent_setPresent (u : Nat) (b : Bool) (v : Nat) :
    (s.setPresent u b).isPresent v = if v = u then b else s.isPresent v := by
  have hlt : u % 64 < 64 := Nat.mod_lt _ (by decide)
  show (SMap.get 0 (SMap.put 0 s.present (u / 64) (setBit (SMap.get 0 s.present (u / 64)) (u % 64) b)) (v / 64)).getLsbD
    (v % 64) = _
  by_cases hw : v / 64 = u / 64
  · have hbit : v % 64 = u % 64 ↔ v = u := ⟨fun h => by omega, fun h => by rw [h]⟩
    rw [hw, SMap.get_put_same, getLsbD_setBit _ hlt]
    simp only [hbit, State.isPresent, hw]
  · have hne : v ≠ u := fun h => hw (by rw [h])
    rw [SMap.get_put_ne _ _ _ _ _ hw, if_neg hne]
    rfl

theorem isPresent_clearPresent (c v : Nat) :
    (s.clearPresent c).isPresent v = (s.isPresent v && decide (v ∉ tilesOf c)) := by
  unfold State.clearPresent
  generalize tilesOf c = ts
  induction ts generalizing s with
  | nil => simp
  | cons u ts ih =>
    rw [List.foldl_cons, ih, isPresent_setPresent]
    by_cases hv : v = u <;> simp [hv]

/-! ### A canton goes off (R393) -/

/-- What outlasts the power of a canton. -/
def Canton.kept (x : Canton) : Canton :=
  { retired := x.retired, temp := x.temp, bayTemp := x.bayTemp, defects := x.defects, noPort := x.noPort, noBay := x.noBay }

/-- Canton c has lost its power: its positions and what its controller held. -/
def State.unpower (s : State) (c : Nat) (x : Canton) : State := s.mapChange fun s => (s.clearPresent c).setCanton c x.kept

theorem isPresent_setCanton (c : Nat) (x : Canton) (v : Nat) : (s.setCanton c x).isPresent v = s.isPresent v := rfl

theorem canton_unpower (c : Nat) (x : Canton) : (s.unpower c x).canton c = x.kept :=
  (canton_of_standing (standing_mapChange _) c).trans (State.canton_setCanton_same _ _ _)

theorem isPresent_unpower (c : Nat) (x : Canton) {v : Nat} (hv : v ∈ tilesOf c) : (s.unpower c x).isPresent v = false := by
  rw [State.unpower, isPresent_of_standing (standing_mapChange _), isPresent_setCanton, isPresent_clearPresent]
  simp [hv]

/-- Canton c leaves the order in which cantons joined. -/
def State.leaveOrder (s : State) (c : Nat) : State := s.updMgmt fun m => { m with joinOrder := m.joinOrder.filter (· ≠ c) }

/-- The bay of canton c loses its contents. -/
def State.bayOff (s : State) (c : Nat) : State :=
  if hasBay c then
    let b := bayOfCanton c
    (s.setBay b (s.bay b).kept).updMem (·.zero (bayBase b) (bayBase (b + 1)))
  else s

/-- The port of canton c is forgotten. -/
def State.forgetPort (s : State) (p : Nat) : State :=
  { s with ports := s.ports.filter fun q => q.1 ≠ p
           mgmt := { s.mgmt with portInit := setBit s.mgmt.portInit p false
                                 portTried := setBit s.mgmt.portTried p false } }

/-- The port of canton c goes off: p0's timing receiver goes on. -/
def State.portOff (s : State) (c : Nat) : State :=
  if hasPort c then
    let p := portCantons.idxOf c
    let s := s.forgetPort p
    let s := if p = 0 then s else s.tpLost p
    let en := s.fget fPrtClkEnEn
    if en.testBit p then s.fset fPrtClkEnEn (en - 2 ^ p) else s
  else s

/-- The clock registers of a canton that is off. -/
def State.clocksOff (s : State) (c : Nat) : State :=
  let s := (s.fset fCanClkStatRatio 0 c).fset fCanClkStatCause 0 c
  if c = 40 then s else (s.fset fCanClkStatLocked 0 c).fset fCanClkStatCoupleOpen 0xF c

/-- Canton c is cut off from its neighbours, and its memories are lost. -/
def State.cutOff (s : State) (c : Nat) : State :=
  let s := s.dropWires c
  ((if c = 40 then s.clampAll c else s.cutAll c).wipe c).fset fCanClkStatDownUs (s.downUs c) c

theorem powerOff_eq (c : Nat) : s.powerOff c =
    let u := (((s.cutOff c).unpower c (s.canton c)).dropRegs c).leaveOrder c
    (((u.bayOff c).portOff c).clocksOff c).steer.countJoined.buildEtree := rfl

theorem standing_dropRegs (c : Nat) : (s.dropRegs c).standing = s.standing := (rfl)

theorem standing_leaveOrder (c : Nat) : (s.leaveOrder c).standing = s.standing := (rfl)

theorem standing_bayOff (c : Nat) : (s.bayOff c).standing = s.standing := by
  unfold State.bayOff
  split <;> rfl

theorem standing_forgetPort (p : Nat) : (s.forgetPort p).standing = s.standing := (rfl)

theorem standing_portOff (c : Nat) : (s.portOff c).standing = s.standing := by
  simp only [State.portOff, apply_ite State.standing, standing_fset, standing_tpLost, standing_forgetPort, ite_self]

theorem standing_clocksOff (c : Nat) : (s.clocksOff c).standing = s.standing := by
  simp only [State.clocksOff, apply_ite State.standing, standing_fset, ite_self]

/-- What stands after a canton's power has gone is what stood when its positions had. -/
theorem standing_powerOff (c : Nat) :
    (s.powerOff c).standing = ((s.cutOff c).unpower c (s.canton c)).standing := by
  simp only [powerOff_eq, standing_buildEtree, State.countJoined, standing_fset, standing_steer, standing_clocksOff,
    standing_portOff, standing_bayOff, standing_leaveOrder, standing_dropRegs]

/-- Canton c is marked as off by plan, or for its temperature. -/
def State.markOff (s : State) (c : Nat) (thermal : Bool) : State :=
  s.setCanton c { s.canton c with offByPlan := true, offHot := thermal }

section
variable (c : Nat) (b : Bool)

theorem planOff_eq : s.planOff c b =
    let u := ((s.powerOff c).markOff c b).degrade
    if b then u.thermEvent.report 0x400 (hoistRec 0x20 2 c 8) else u := rfl

theorem standing_thermEvent : s.thermEvent.standing = s.standing := (rfl)

theorem standing_planOff : (s.planOff c b).standing = ((s.powerOff c).markOff c b).standing := by
  simp only [planOff_eq, apply_ite State.standing, standing_report, standing_thermEvent, standing_degrade, ite_self]

theorem canton_planOff : (s.planOff c b).canton c = { (s.canton c).kept with offByPlan := true, offHot := b } := by
  have hkept : (s.powerOff c).canton c = (s.canton c).kept :=
    (canton_of_standing (standing_powerOff c) c).trans (canton_unpower c _)
  rw [canton_of_standing (standing_planOff c b), State.markOff, State.canton_setCanton_same, hkept]

theorem online_planOff : (s.planOff c b).online c = false := by
  rw [State.online, canton_planOff]
  rfl

theorem isPresent_planOff {v : Nat} (hv : v ∈ tilesOf c) : (s.planOff c b).isPresent v = false := by
  rw [isPresent_of_standing (standing_planOff c b), State.markOff, isPresent_setCanton,
    isPresent_of_standing (standing_powerOff c), isPresent_unpower c _ hv]

/-- The thermal policy's power-off sets THERM_EVENT (R469). -/
theorem thermEvent_planOff : (s.planOff c true).fbit fMgtStatThermEvent = true := by
  have hset (u : State) : u.thermEvent.fget fMgtStatThermEvent = 1 :=
    State.fget_fset_self _ fMgtStatThermEvent 1 (by decide)
  have hget : (s.planOff c true).fget fMgtStatThermEvent = 1 := (fget_report (i := 0) (by decide) _ _).trans (hset _)
  simp only [State.fbit, hget]
  decide

end

/-! ### A planned power-off (R393, R469) -/

/-- A planned power-off has been asked for: the thermal policy's has a time. -/
def State.planAsked (s : State) (c : Nat) (thermal : Bool) : State := if thermal then s.planNote c else s

section
variable {c n : Nat} {b : Bool}

theorem slices_planAsked : (s.planAsked c b).slices = s.slices := by cases b <;> rfl

theorem slice_planAsked (k : Nat) : (s.planAsked c b).slice k = s.slice k :=
  congrArg (fun l => SMap.get ({} : Slice) l k) slices_planAsked

theorem sliceOf_planAsked (e : Nat) : (s.planAsked c b).sliceOf e = s.sliceOf e := by
  simp only [State.sliceOf, slice_planAsked]

theorem online_planAsked : (s.planAsked c b).online c = s.online c := by
  cases b
  case false => rfl
  case true =>
    have hc : (s.planAsked c true).canton c = _ := State.canton_setCanton_same s c _
    rw [State.online, hc]
    rfl

/-- The handshake of a planned power-off: the slice drains as for a RECONFIGURE. -/
def planRc (x : Slice) (c : Nat) (thermal : Bool) : ReconfSt :=
  { desc := none, purge := false, config := 0, epoch := x.cur, step := 3, was := 2, goal := .off c thermal }

theorem plannedOff_free (h : s.sliceOf c = none) : s.plannedOff c b = (s.planAsked c b).planOff c b := by
  have hs : (s.planAsked c b).sliceOf c = none := (sliceOf_planAsked c).trans h
  unfold State.planAsked at hs
  simp only [State.plannedOff, hs, State.planAsked]

section
variable (h : s.sliceOf c = some n)
include h

/-- What becomes of a planned power-off is the phase of the slice that owns the canton. -/
theorem plannedOff_owned : s.plannedOff c b =
    let u := s.planAsked c b
    if (s.slice n).phase = 1 || (s.slice n).phase = 6 then (u.vacate c).2.planOff c b
    else if (s.slice n).phase = 2 then u.handshake n (planRc (s.slice n) c b) else u := by
  have hs : (s.planAsked c b).sliceOf c = some n := (sliceOf_planAsked c).trans h
  rw [← slice_planAsked (c := c) (b := b) n]
  unfold State.planAsked at hs ⊢
  simp only [State.plannedOff, hs]
  rfl

theorem plannedOff_idle (hp : (s.slice n).phase = 1 ∨ (s.slice n).phase = 6) :
    s.plannedOff c b = ((s.planAsked c b).vacate c).2.planOff c b :=
  (plannedOff_owned h).trans (if_pos (by simpa using hp))

theorem plannedOff_running (hp : (s.slice n).phase = 2) :
    s.plannedOff c b = (s.planAsked c b).handshake n (planRc (s.slice n) c b) :=
  (plannedOff_owned h).trans ((if_neg (by rw [hp]; decide)).trans (if_pos hp))

theorem plannedOff_waits (h1 : (s.slice n).phase ≠ 1) (h2 : (s.slice n).phase ≠ 2) (h6 : (s.slice n).phase ≠ 6) :
    s.plannedOff c b = s.planAsked c b :=
  (plannedOff_owned h).trans ((if_neg (by simpa using ⟨h1, h6⟩)).trans (if_neg h2))

end

theorem plannedOff_off (h : ∀ n, s.sliceOf c = some n → (s.slice n).phase = 1 ∨ (s.slice n).phase = 6) :
    ∃ u : State, s.plannedOff c b = u.planOff c b := by
  cases hs : s.sliceOf c with
  | none => exact ⟨_, plannedOff_free hs⟩
  | some n => exact ⟨_, plannedOff_idle hs (h n hs)⟩

end

section
variable {c : CantonIx} {b : Bool}

theorem plannedPowerOff_none (h : c.val = 40 ∨ s.online c = false) : Does (.plannedPowerOff c b) s s :=
  congrArg Host.Outcome.next (if_neg (by rcases h with h | h <;> simp [h]))

theorem plannedPowerOff_on (h40 : c.val ≠ 40) (hon : s.online c = true) :
    Does (.plannedPowerOff c b) s (s.plannedOff c b) :=
  congrArg Host.Outcome.next (if_pos (by simp [h40, hon]))

end

/-- The work of a canton of a drained slice is re-placed. -/
def State.replaced (s : State) (n c : Nat) : Byte × State :=
  (s.setSlice n { s.slice n with phase := 1, mode := 0, reconf := none }).vacate c

/-- A slice whose canton has gone off runs on or stops: the cantons stand as they did. -/
theorem standing_planDrained (n c : Nat) (b : Bool) :
    (s.planDrained n c b).standing = ((s.replaced n c).2.planOff c b).standing := by
  unfold State.planDrained
  extract_lets x q s1 y s2 z
  have hq : q = s.replaced n c := rfl
  split
  · rw [standing_stopSlice, standing_setSlice, ← hq]
  · rw [standing_tell, standing_setSlice, ← hq]
    simp only [s2]
    split <;> rfl

/-! ### REJOIN (R386, R396, R469) -/

/-- A canton whose mesh had failed locks again and joins. -/
def State.relock (s : State) (c : Nat) (w : WaveIn) : State :=
  if w.fail ≠ 0 then (s.failStep c w.fail.toNat).rejoinEnd c
  else if c = 40 then ((s.laneTest c w.lanes).join c).rejoinEnd c
  else match s.lockDir c w.lock with
    | some d => (((s.fset fCanBruStatLockDir d c).laneTest c w.lanes).join c).rejoinEnd c
    | none => (s.failStep c 4).rejoinEnd c

section
variable {c : Nat} {w : WaveIn}

theorem relock_fails (h : w.fail ≠ 0) : s.relock c w = (s.failStep c w.fail.toNat).rejoinEnd c := if_pos h

theorem relock_centre (h : w.fail = 0) (hc : c = 40) :
    s.relock c w = ((s.laneTest c w.lanes).join c).rejoinEnd c := (if_neg (not_not_intro h)).trans (if_pos hc)

section
variable (h : w.fail = 0) (hc : c ≠ 40)
include h hc

theorem relock_none (hl : s.lockDir c w.lock = none) : s.relock c w = (s.failStep c 4).rejoinEnd c := by
  refine (if_neg (not_not_intro h)).trans ((if_neg hc).trans ?_)
  rw [hl]

theorem relock_locked {d : Nat} (hl : s.lockDir c w.lock = some d) :
    s.relock c w = (((s.fset fCanBruStatLockDir d c).laneTest c w.lanes).join c).rejoinEnd c := by
  refine (if_neg (not_not_intro h)).trans ((if_neg hc).trans ?_)
  rw [hl]

end

end

section
variable {c : CantonIx} {w : WaveIn}

theorem rejoin_idle (h : s.host.decodes = false ∨ s.online c = true) : Does (.rejoin c w) s s :=
  if_pos (by rcases h with h | h <;> simp [h])

section
variable (hd : s.host.decodes = true) (hoff : s.online c = false)
include hd hoff

theorem rejoin_refused
    (h : (s.canton c).retired = true ∨ s.ledgerRetired c = true ∨ s.fbit fCanBruStatFailed c = true) :
    Does (.rejoin c w) s (s.fset fCanClkStatRejoinFail 1 c) :=
  (if_neg (by simp [hd, hoff])).trans (if_pos (by simpa [or_assoc] using h))

section
variable (hret : (s.canton c).retired = false) (hled : s.ledgerRetired c = false)
  (hfail : s.fbit fCanBruStatFailed c = false)
include hret hled hfail

theorem rejoin_isolated (h : ((s.canton c).powered && (s.canton c).isolated) = true) :
    Does (.rejoin c w) s ((s.disown c).relock c w) := by
  refine (if_neg (by simp [hd, hoff])).trans ((if_neg (by simp [hret, hled, hfail])).trans ((if_pos h).trans ?_))
  rfl

theorem rejoin_off (h : ((s.canton c).powered && (s.canton c).isolated) = false) : Does (.rejoin c w) s
    (if (s.canton c).offByPlan && !((s.canton c).offHot && decide (80 * 16 ≤ (s.canton c).temp.toInt)) then
      ((s.disown c).bring c w).rejoinEnd c
    else s.fset fCanClkStatRejoinFail 1 c) := by
  refine (if_neg (by simp [hd, hoff])).trans ((if_neg (by simp [hret, hled, hfail])).trans
    ((if_neg (by simp only [h]; decide)).trans ?_))
  exact (apply_ite Host.Outcome.next _ _ _).symm

/-- A canton that was powered off in service comes up again, where the thermal policy lets it. -/
theorem rejoin_cool (h : ((s.canton c).powered && (s.canton c).isolated) = false) (hplan : (s.canton c).offByPlan = true)
    (hcool : (s.canton c).offHot = false ∨ (s.canton c).temp.toInt < 80 * 16) :
    Does (.rejoin c w) s (((s.disown c).bring c w).rejoinEnd c) := by
  refine (rejoin_off hd hoff hret hled hfail h).congr (if_pos ?_)
  rcases hcool with hnot | hcold
  · simp [hplan, hnot]
  · rw [hplan, decide_eq_false (Int.not_le.mpr hcold), Bool.and_false]
    rfl

theorem rejoin_stays (h : ((s.canton c).powered && (s.canton c).isolated) = false)
    (hno : (s.canton c).offByPlan = false ∨ (s.canton c).offHot = true ∧ 80 * 16 ≤ (s.canton c).temp.toInt) :
    Does (.rejoin c w) s (s.fset fCanClkStatRejoinFail 1 c) := by
  refine (rejoin_off hd hoff hret hled hfail h).congr (if_neg ?_)
  rcases hno with hnot | ⟨hhot, htemp⟩
  · simp [hnot]
  · rw [hhot, decide_eq_true htemp]
    simp

end

end

end

end Sys2Proof.Machine
end

section
open Sys2Proof Sys2Proof.Machine

/-- Settles O50: a planned power-off by the phase of the slice that owns the canton, and each end of a REJOIN. -/
theorem cantonPower : Obligations.CantonPower := by
  unfold Obligations.CantonPower
  refine ⟨fun s c b h => plannedPowerOff_none h,
    fun s c b h40 hon => ⟨fun hidle => ?_, fun n hn => ⟨fun hp => ?_, fun h1 h2 h6 => ?_⟩⟩,
    fun s n c b h40 => ?_, fun s c w h => rejoin_idle h, fun s c w hd hoff h => ?_,
    fun s c w hd hoff hret hled hfail => ⟨fun hiso => ?_, fun hpow => ⟨fun hplan hcool => ?_, fun hno => ?_⟩⟩⟩
  · obtain ⟨u, hu⟩ := plannedOff_off (c := c) (b := b) hidle
    have hc := canton_planOff (s := u) c b
    refine ⟨_, (plannedPowerOff_on h40 hon).congr hu, online_planOff c b, congrArg Canton.offByPlan hc,
      congrArg Canton.offHot hc, fun t ht => isPresent_planOff c b ht, fun hb => ?_⟩
    subst hb
    exact thermEvent_planOff c
  · let u := s.planAsked c b
    have hslice : (u.handshake n (planRc (s.slice n) c b)).slice n = (u.slice n).inHandshake (planRc (s.slice n) c b) :=
      (slice_tell _ _ _).trans (State.slice_setSlice_same _ _ _)
    refine ⟨_, (plannedPowerOff_on h40 hon).congr (plannedOff_running hn hp), ?_, congrArg Slice.phase hslice,
      planRc (s.slice n) c b, congrArg Slice.reconf hslice, rfl, rfl, rfl⟩
    rw [handshake_eq, online_of_standing (standing_tell _ _), online_of_standing (standing_setSlice _ _), online_planAsked, hon]
  · exact (plannedPowerOff_on h40 hon).congr (plannedOff_waits hn h1 h2 h6)
  · have hstand := standing_planDrained (s := s) n c b
    rw [online_of_standing hstand, canton_of_standing hstand, canton_planOff]
    exact ⟨online_planOff c b, rfl⟩
  · refine ⟨_, rejoin_refused hd hoff h, ?_, ?_, Only.fset _ _ _ _⟩
    · have hget : (s.fset fCanClkStatRejoinFail 1 c).fget fCanClkStatRejoinFail c = 1 :=
        State.fget_fset_same s fCanClkStatRejoinFail 1 c (show 18 + 1 ≤ 64 by decide)
      simp only [State.fbit, hget]
      decide
    · rw [online_of_standing (standing_fset _ _ _), hoff]
  · have hdo := rejoin_isolated (w := w) hd hoff hret hled hfail hiso
    exact ⟨fun hf => hdo.congr (relock_fails hf), fun hf hc => hdo.congr (relock_centre hf hc),
      fun hf hc hl => hdo.congr (relock_none hf hc hl), fun d hf hc hl => hdo.congr (relock_locked hf hc hl)⟩
  · exact rejoin_cool hd hoff hret hled hfail hpow hplan hcool
  · exact rejoin_stays hd hoff hret hled hfail hpow hno
end
